-- ==== Sys2Proof/Word.lean ====
section
/-! DEFINITION. Octets, multi-octet numbers (most significant octet first, R7), and the sparse maps of the model:
lists of (key, value) pairs with strictly rising keys. -/

namespace Sys2Proof

/-- One octet. -/
abbrev Byte := BitVec 8

/-- A string of octets, in transmission order (R7: most significant octet of a field first). -/
abbrev Octets := List Byte

/-- The octet holding `n` modulo 256. -/
def byte (n : Nat) : Byte := BitVec.ofNat 8 n

/-- Octets as numbers 0 to 255. -/
def octetsOf (l : List Nat) : Octets := l.map byte

/-- `n` zero octets. -/
def zeros (n : Nat) : Octets := List.replicate n (byte 0)

/-- `w` octets holding `v`, most significant first (R7). -/
def beOctets : Nat → Nat → Octets
  | 0, _ => []
  | w + 1, v => beOctets w (v / 256) ++ [byte v]

/-- The number that octets spell, most significant first (R7). -/
def beNat (l : Octets) : Nat := l.foldl (fun a b => a * 256 + b.toNat) 0

/-- Two's-complement reading of a `bits`-wide number (Table 14-1, I16 and I32). -/
def toSigned (bits n : Nat) : Int :=
  if n < 2 ^ (bits - 1) then n else (n : Int) - 2 ^ bits

/-- Two's-complement `bits`-wide code of an integer (Table 14-1). -/
def ofSigned (bits : Nat) (i : Int) : Nat := (i % (2 ^ bits : Int)).toNat

/-- Octets `off` to `off + len - 1` of a record. -/
def sliceOf (l : Octets) (off len : Nat) : Octets := (l.drop off).take len

/-- The number held in octets `off` to `off + len - 1`. -/
def fieldOf (l : Octets) (off len : Nat) : Nat := beNat (sliceOf l off len)

/-- Bit `i` of a number. -/
def bitOf (n i : Nat) : Bool := n.testBit i

/-- Bits [hi:lo] of a number. -/
def bitsOf (n hi lo : Nat) : Nat := n / 2 ^ lo % 2 ^ (hi + 1 - lo)

/-- A number with bit `i` set. -/
def withBit (n i : Nat) : Nat := if n.testBit i then n else n + 2 ^ i

/-- A number with bit `i` clear. -/
def withoutBit (n i : Nat) : Nat := if n.testBit i then n - 2 ^ i else n

/-- 0 or 1. -/
def bitNat (b : Bool) : Nat := if b then 1 else 0

/-- Add, holding at the largest value of `bits` bits. -/
def satAdd (bits a b : Nat) : Nat := min (a + b) (2 ^ bits - 1)

/-- A sparse map: pairs in strictly rising order of their keys. -/
abbrev FMap (α : Type) := List (Nat × α)

/-- The value at a key, if the map lists it. -/
def FMap.find {α : Type} : FMap α → Nat → Option α
  | [], _ => none
  | (k, v) :: m, i => if i = k then some v else FMap.find m i

/-- The value at a key, or `d` where the map lists none. -/
def FMap.getD {α : Type} (m : FMap α) (i : Nat) (d : α) : α := (FMap.find m i).getD d

/-- Whether the map lists a key. -/
def FMap.has {α : Type} (m : FMap α) (i : Nat) : Bool := (FMap.find m i).isSome

/-- List `v` at key `i`, in place of what stood there. -/
def FMap.put {α : Type} : FMap α → Nat → α → FMap α
  | [], i, v => [(i, v)]
  | (k, w) :: m, i, v =>
    if i < k then (i, v) :: (k, w) :: m
    else if i = k then (i, v) :: m
    else (k, w) :: FMap.put m i v

/-- Take key `i` out of the map. -/
def FMap.del {α : Type} : FMap α → Nat → FMap α
  | [], _ => []
  | (k, w) :: m, i => if i = k then m else (k, w) :: FMap.del m i

/-- List `v` at key `i` unless it equals the default `d`, which is held by listing nothing. -/
def FMap.putD {α : Type} [DecidableEq α] (m : FMap α) (i : Nat) (v d : α) : FMap α :=
  if v = d then FMap.del m i else FMap.put m i v

/-- Change the value at a key that is listed. -/
def FMap.update {α : Type} (m : FMap α) (i : Nat) (f : α → α) : FMap α :=
  match FMap.find m i with
  | some v => FMap.put m i (f v)
  | none => m

/-- Change every listed value, keys unchanged. -/
def FMap.mapVals {α β : Type} (m : FMap α) (f : Nat → α → β) : FMap β := m.map (fun p => (p.1, f p.1 p.2))

/-- Keep the entries whose key and value satisfy `p`. -/
def FMap.keep {α : Type} (m : FMap α) (p : Nat → α → Bool) : FMap α := m.filter (fun q => p q.1 q.2)

/-- The lowest key at or above `lo`, below `hi`, that the map does not list. -/
def FMap.lowestFree {α : Type} (m : FMap α) (lo : Nat) : Nat → Option Nat
  | 0 => none
  | n + 1 => if FMap.has m lo then FMap.lowestFree m (lo + 1) n else some lo

/-- The keys rise strictly. -/
def FMap.rising {α : Type} : FMap α → Bool
  | [] => true
  | [_] => true
  | (k, _) :: (k', v') :: m => decide (k < k') && FMap.rising ((k', v') :: m)

/-- An addressed RAM or MRAM area: (address, octet) cells in rising order of address, no cell equal to what an
unlisted address reads as (log entry 5). -/
abbrev Memory := List Host.Cell

/-- What an address that nothing has written reads as: zero, the model's choice (log entry 5, DESIGN CHOICE). -/
def Memory.blank : Byte := byte 0

/-- One octet of memory. -/
def Memory.read (m : Memory) (a : Nat) : Byte := FMap.getD m a Memory.blank

/-- Write one octet, keeping the canonical form. -/
def Memory.write (m : Memory) (a : Nat) (v : Byte) : Memory := FMap.putD m a v Memory.blank

/-- Write octets at rising addresses from `a`. -/
def Memory.writeAll (m : Memory) (a : Nat) : Octets → Memory
  | [] => m
  | v :: l => Memory.writeAll (Memory.write m a v) (a + 1) l

/-- Read `n` octets from `a`. -/
def Memory.readAll (m : Memory) (a n : Nat) : Octets := (List.range n).map (fun i => Memory.read m (a + i))

/-- Set `n` octets from `a` to blank. -/
def Memory.clear (m : Memory) (a n : Nat) : Memory := m.filter (fun c => c.1 < a || a + n ≤ c.1)

/-- The canonical form: addresses rise strictly and no cell holds the blank octet. -/
def Memory.wf (m : Memory) : Bool := FMap.rising m && m.all (fun c => decide (c.2 ≠ Memory.blank))

/-- Element `i` of a list, or a default. -/
def listGet {α : Type} (l : List α) (i : Nat) (d : α) : α := l.getD i d

/-- Replace element `i` of a list, leaving its length. -/
def listSet {α : Type} (l : List α) (i : Nat) (v : α) : List α := l.set i v

/-- Sum of a list of numbers. -/
def sumOf (l : List Nat) : Nat := l.foldl (· + ·) 0

end Sys2Proof
end

