-- ==== Sys2Proof/Syntax.lean ====
section
/-! DEFINITION. The commands of the block: one constructor per row of the command table, with the row's operands, and
the types of those operands. -/

namespace Sys2Proof

/-- A transport endpoint (R393): the transport code of Table 14-8, the UDP source address (or the CAN host node in
octet 0), and the UDP source port. -/
structure Endpoint where
  transport : Nat
  address : Octets
  port : Nat
  deriving DecidableEq, Repr

/-- Who writes an object: a session by its SID (R389, R393), an endpoint's SID 0, or an application thread through
the OD mailbox, which has Operator rights (R363). -/
inductive Caller where
  | session (sid : Nat)
  | endpoint (e : Endpoint)
  | mailbox (tid : Nat)
  deriving DecidableEq, Repr

/-- The three bands. -/
inductive Band where
  | l | m | h
  deriving DecidableEq, Repr

/-- What a correlator unit declares (R37): band-sector subindex, chain B, lowest bin, mode code, power in 0.25 dBm. -/
structure Detection where
  bandSector : Nat
  chainB : Bool
  firstBin : Nat
  mode : Nat
  power : Int
  deriving DecidableEq, Repr

/-- Where an uncorrectable memory error lies (R15). -/
inductive MemoryPlace where
  | packetPool (packet : Nat)
  | fifoWord (fifo : Nat)
  | l1Line
  | elsewhere
  deriving DecidableEq, Repr

/-- What the lane's PHR check finds (R71): the code word checks, and the fields measured up to the PHR (Table 2-8). -/
structure PhrResult where
  codeGood : Bool
  psduLen : Nat
  mode : Nat
  mapId : Nat
  corrSnr : Int
  freqOffset : Int
  clipped : Bool
  deriving DecidableEq, Repr

/-- One bin's idle measurement over a slot (R60): bin, microseconds that meet the conditions, linear power of each chain. -/
structure BinMeasure where
  bin : Nat
  micros : Nat
  powerA : Nat
  powerB : Nat
  deriving DecidableEq, Repr

/-- An octet string under CCM* or GCM: the data authenticated in the clear, the enciphered body, and the tag. -/
structure Sealed where
  clear : Octets
  body : Octets
  tag : Octets
  deriving DecidableEq, Repr

/-- MAC frame types of Table 6-1. -/
inductive MacType where
  | data | command | ack | beacon | other
  deriving DecidableEq, Repr

/-- A received air frame as the MAC header gives it (Table 6-1), with its PHY CRC already good. -/
structure AirFrame where
  bandSector : Nat
  /-- Lane the frame came through, whose descriptor it carries. -/
  lane : Nat
  version : Nat
  macType : MacType
  secured : Bool
  level : Nat
  counterPlain : Bool
  keyMode : Nat
  keyIndex : Nat
  keySource : Octets
  /-- Destination: 8 octets extended, 2 octets short. -/
  dest : Octets
  source : Octets
  hasSeq : Bool
  seq : Nat
  counter : Nat
  ackRequested : Bool
  /-- Start and end instants (ns) of the frame at the aerial. -/
  startNs : Nat
  endNs : Nat
  mode : Nat
  firstBin : Nat
  rssi : Int
  sealedBody : Sealed
  deriving DecidableEq, Repr

/-- An enhanced acknowledgement received after a chip frame (R146, Table 6-4). -/
structure AckFrame where
  startNs : Nat
  firstBin : Nat
  seq : Nat
  counter : Nat
  nack : Bool
  enhanced : Bool
  sealedBody : Sealed
  /-- A Map Ack IE carried in it: content after the OUI. -/
  mapAck : Octets
  deriving DecidableEq, Repr

/-- A verified Join Request (R165, Table 6-8). -/
structure JoinRequest where
  eui : Octets
  homeEui : Octets
  counter : Nat
  bandSector : Nat
  asn : Nat
  hopSeq : Nat
  content : Octets
  deriving DecidableEq, Repr

/-- Where a packet enters the forwarding pipeline (R201): the air by band-sector, ETH0 or ETH1, a sett port by queue
port 11 to 14, or LSF and application threads (port 15). -/
inductive Ingress where
  | air (bandSector : Nat)
  | eth (port : Nat)
  | sett (port : Nat)
  | ctl
  deriving DecidableEq, Repr

/-- A packet as the forwarding pipeline sees it (R201 to R212): what its headers say and its octets. -/
structure Packet where
  ingress : Ingress
  /-- IPv6 source and destination, 16 octets each, empty where the frame carries no IPv6 header. -/
  src : Octets
  dst : Octets
  /-- MAC source EUI-64 of an air frame, or the source handle a sett frame carries. -/
  macEui : Octets
  sourceHandle : Nat
  hopLimit : Nat
  dscp : Nat
  /-- Class from the receive descriptor, the sett frame, or the kind of frame LSF originates. -/
  cls : Nat
  /-- Dispatch and context of an air frame are those of R206. -/
  dispatchOk : Bool
  /-- RFC 4944 fragment: datagram tag, datagram size, offset in octets; none for a whole datagram. -/
  fragment : Option (Nat × Nat × Nat)
  ackRequested : Bool
  /-- PENDING: released by SEC in cut-through, tag not yet verified. -/
  cutThrough : Bool
  /-- The poison mark of the packet's last word. -/
  poison : Bool
  /-- Destination is a link-layer broadcast or campaign frame for a band-sector's air class queue. -/
  airClass : Option Nat
  mode : Nat
  data : Octets
  deriving DecidableEq, Repr

/-- A request to a cipher engine (R234, R235): op of Table 9-1, key size in bits, tag length, key handle, requesting
island (Table 15-6), the path of R243 (0 sett, 1 OFDM-BL air, 2 MACsec, none for others), and the inputs. -/
structure CipherRequest where
  op : Nat
  keyBits : Nat
  tagLen : Nat
  handle : Nat
  island : Nat
  path : Option Nat
  /-- Tier of Table 9-4. -/
  tier : Nat
  nonce : Octets
  header : Octets
  payload : Octets
  tag : Octets
  /-- Op 5 deciphers rather than enciphers. -/
  decrypt : Bool
  /-- A word of the input arrived poisoned, or the engine's own memory failed (R244). -/
  poisonIn : Bool
  engineFault : Bool
  /-- Frame counter of an air frame; node handle or port for event 0x6010. -/
  counter : Nat
  unit : Nat
  /-- RX_FC comparison of an air frame done by the frame-counter check: 0 above, 1 equal, 2 below. -/
  fcOrder : Nat
  deriving DecidableEq, Repr

/-- One sample of the tamper sources (R275). -/
structure TamperSample where
  tamp0 : Bool
  tamp1 : Bool
  shieldBad : Bool
  glitch : Bool
  oscillatorBad : Bool
  /-- AON sensor in degrees C. -/
  temperature : Int
  deriving DecidableEq, Repr

/-- A sett frame (R284, Table 11-2). -/
structure SettFrame where
  typ : Nat
  enc : Bool
  cls : Nat
  ttl : Nat
  bcast : Bool
  destChip : Nat
  srcChip : Nat
  origChip : Nat
  srcHandle : Nat
  senderFc : Nat
  payload : Octets
  tag : Octets
  deriving DecidableEq, Repr

/-- A CENSUS payload (R289, Table 11-4). -/
structure Census where
  deviceEui : Octets
  meshEui : Octets
  chipIndex : Nat
  pairIndex : Nat
  role : Nat
  timeState : Nat
  master : Nat
  closed : Bool
  censusNo : Nat
  deriving DecidableEq, Repr

/-- A pair declaration on TWIN (R299). -/
structure Declaration where
  deviceEui : Octets
  pairEui : Octets
  pairIndex : Nat
  meshEui : Octets
  /-- Digest and STATE_COMPAT of the running system image (R336). -/
  imageDigest : Octets
  stateCompat : Nat
  deriving DecidableEq, Repr

/-- A LINK frame's delay exchange, times in 1/16 ns (R293): a request carries t1 and arrives at t2; a response carries
t1, t2 and t3 and arrives at t4. -/
inductive LinkMessage where
  | request (t1 t2 : Nat)
  | response (t1 t2 t3 t4 : Nat)
  deriving DecidableEq, Repr

/-- The body of a journal record (Table 11-6). The octets of AIR_RX and WIRED_RX come with what their headers say. -/
inductive JournalBody where
  | airRx (octets : Octets) (f : AirFrame)
  | wiredRx (octets : Octets) (p : Packet)
  | sopWrite (transport role index sub : Nat) (value : Octets)
  | timeEvent (entry typ : Nat) (miss : Bool) (newState : Nat) (offset correction : Int)
  | trng (consumer : Nat) (words : List Nat)
  | cellOutcome (items : List (Nat × Nat × Nat × Nat))
  | fcBlock (handle limit : Nat)
  | reading (source value : Nat)
  | threadOut (write : Bool) (operation : Octets)
  | slotEnd (records : Nat)
  | digest (pass : Nat) (leading : Octets)
  | swap (asn : Nat)
  | keyAccept (slot counter : Nat)
  deriving DecidableEq, Repr

/-- A journal record (R306, Table 11-8). -/
structure JournalRecord where
  flags : Nat
  jseq : Nat
  asn : Nat
  time : Nat
  body : JournalBody
  deriving DecidableEq, Repr

/-- A JACK payload (Table 11-8). -/
structure Jack where
  received : Nat
  applied : Nat
  completedAsn : Nat
  claim : Bool
  ready : Bool
  swapReady : Bool
  keySlot : Nat
  keyCounter : Nat
  loopback : Nat
  deriving DecidableEq, Repr

/-- What MS measured of one bin over a survey period (R402): samples left, those above floor plus SURVEY_THRESH, and the
highest sample in 0.25 dBm. -/
structure SurveyBin where
  bandSector : Nat
  bin : Nat
  samples : Nat
  above : Nat
  peak : Int
  deriving DecidableEq, Repr

/-- The chip's own measurement of one tone of a ranging cell (R407): tone frequency in Hz, node phase less the chip's
own burst in 2 pi / 65,536, SNR in 0.25 dB. -/
structure ToneMeasure where
  freq : Nat
  phase : Nat
  snr : Nat
  deriving DecidableEq, Repr

/-- The commands of the block. -/
inductive Instr where
  /-- R431: VIN rises through the rising threshold; with RST_N high this is the start instant, otherwise the chip is held in reset with only AON running. -/
  | vinRise
  /-- R432: VIN stays below the falling threshold for 2 us; the bypass closes, the transmit gate closes, load is shed and the state becomes DORMANT or OFF. -/
  | powerFailDetection
  /-- R22: VBAT reaches 2.5 V with VIN absent and AON runs from VBAT in DORMANT. -/
  | vbatRise
  /-- R22: VBAT falls below 2.5 V with VIN absent; AON loses power and the chip enters OFF. -/
  | vbatFall
  /-- R437: A low pulse on RST_N that is taken resets every island except AON and closes the bypass. -/
  | rstNLow (widthNs : Nat)
  /-- R318: RST_N rises with VIN above the rising threshold; this is the start instant. -/
  | rstNRise
  /-- R318: A start begins: the start cause is latched in AON, the bypass is held on and the rails ramp. -/
  | startInstant
  /-- R278: OWL samples the hedgehog, the zeroize flag and ZEROIZE_PENDING once the rails are up, and takes the first recovery sample. -/
  | bootHedgehogSample (sample : TamperSample)
  /-- R320: The image verifier finishes checking the running bank; OWL takes the second recovery sample and either releases CC0 into LOAD, tries the other bank or enters RECOVERY. -/
  | bankVerifyDone
  /-- R22: Engines are loaded and the configuration is resolved; LOAD ends in MAINTENANCE, ACTIVE or claim contention. -/
  | loadEnd (badRegions : List Nat)
  /-- R297: Once the SET taps have locked in LOAD, LSF opens the ring bypass in one step. -/
  | bypassRelease
  /-- R312: A fatal-to-role fault releases any claim and causes an internal reset of all islands except AON into BOOT. -/
  | fatalToRoleFault
  /-- R22: STATE_CMD 1 releases the claim, silences the radios and enters MAINTENANCE. -/
  | enterMaintenance (who : Caller)
  /-- R22: STATE_CMD 2 re-runs the claim logic when the resume condition holds, and is refused with STATE otherwise. -/
  | resume (who : Caller)
  /-- R25: STATE_CMD 3, written twice within 10 s, runs the retirement zeroize and moves the lifecycle to RETIRED. -/
  | retire (who : Caller)
  /-- R30: A junction reading applies the thermal action rows: forced Economy, PAs off or reset held. -/
  | thermalReading (tenths : Int)
  /-- R30: After 60 s at or below 120 °C following a forced change, the selected profiles are restored. -/
  | thermalRestoreTimer
  /-- R29: A profile change takes effect at the qualifying reference-band slot boundary; lanes outside the new pool are withdrawn. -/
  | profileChangeEffective
  /-- R17: A writer delivers a 16-byte unit into a crossing FIFO; the unit is packed into read words, or the writer stalls when the FIFO is full. -/
  | fifoWriteUnit (fifo lane : Nat) (unit : Octets) (last poison : Bool)
  /-- R18: The read side delivers a word after checking SBPAR and DPAR, poisoning it or discarding words up to the next FIRST. -/
  | fifoReadWord (fifo : Nat) (flipped : List Nat)
  /-- R20: A flush request discards queued packets at the next packet boundary. -/
  | fifoFlushRequest (fifo : Nat)
  /-- R20: No packet boundary is reached within 64 us; a LAST and POISON word closes the packet and the flush completes. -/
  | fifoFlushTimeout (fifo : Nat)
  /-- R15: A memory error is counted if corrected; if uncorrectable it poisons the packet, refetches the L1 line or is fatal-to-role. -/
  | memoryError (memory : Nat) (uncorrectable : Bool) (place : MemoryPlace)
  /-- R37: A correlator unit declares a detection, which is classed, merged, assigned a lane, captured, blocked or refused. -/
  | correlatorDetection (d : Detection)
  /-- R51: The history replay reaches the detection point; each chain's fast AGC freezes and the diversity window opens. -/
  | laneDetectionPoint (lane : Nat) (rssi : Int)
  /-- R52: The diversity window closes and the lane selects its chain. -/
  | diversityWindowClose (lane : Nat) (snrA snrB : Int)
  /-- R63: The SFD is found and the receive timestamp is taken. -/
  | sfdFound (lane : Nat) (arrivalNs sixteenths : Nat)
  /-- R40: No SFD arrives within the preamble length plus 8 symbols; the lane is released and counted as a false preamble. -/
  | sfdTimeout (lane : Nat)
  /-- R71: The lane checks the PHR, writing the receive descriptor into the FIFO or releasing the lane within 2 symbols. -/
  | phrCheck (lane : Nat) (phr : PhrResult)
  /-- R40: The last symbol arrives; the PHY CRC closes the packet, poisoned if bad, with the SNR trailer appended. -/
  | payloadEnd (lane : Nat) (crcGood : Bool) (psdu snrTrailer : Octets) (clippedLater : Bool)
  /-- R48: Every LANE_TEST_PERIOD the next lane in rotation is pulled from the pool for a loopback test. -/
  | laneTestTurn
  /-- R48: A loopback test ends; a lane that fails twice is withdrawn with DEGRADED bit 3 set. -/
  | laneTestResult (lane failMask bitErrors : Nat)
  /-- R48: A withdrawn lane is retested hourly and returns to the pool after three consecutive passes. -/
  | laneHourlyRetest (lane failMask : Nat)
  /-- R49: Near the end of a slot the sequencer computes a new analog gain for each chain and announces it 20 us before the boundary. -/
  | gainAnnounce (bandSector : Nat) (peakA peakB : Int) (clippedA clippedB : Nat)
  /-- R135: A slot of a band begins; the gain step is committed or deferred, look-ahead entries are requested and retired, and the noise floor is measured. -/
  | slotBoundary (band : Band) (idle : List (Nat × BinMeasure))
  /-- R61: At the end of each pass of NF_SLOTFRAME, MS publishes the noise floor of every bin. -/
  | noiseFloorPublish
  /-- R62: A write of NF_CURSOR latches a 16-bin window of the latest publication. -/
  | nfCursorWrite (who : Caller) (value : Nat)
  /-- R65: The command clears all RX_COUNTERS. -/
  | rxCountersClear (who : Caller)
  /-- R74: A write of TX_MASK_SET or TX_MASK_COEF is checked against TX_MASK_POINTS, accepted or refused, and lifts any suspension. -/
  | txMaskWrite (who : Caller) (band : Band) (coefWrite : Bool) (value : Octets)
  /-- R75: Once an hour MS checks a captured transmission against the mask, reverting to the default set or suspending the transmitter. -/
  | maskCapture (bandSector : Nat) (worstExcess : Int)
  /-- R83: The author recomputes a link's candidate map and issues, withdraws or keeps it. -/
  | blRecompute (handle : Nat) (band : Band)
  /-- R87: A Map IE is validated, stored as pending and answered with a Map Ack. -/
  | mapIeRx (handle : Nat) (band : Band) (content : Octets) (secured ackRequested : Bool)
  /-- R86: A Map Ack marks the next map acknowledged, or deletes it on refusal or fallback. -/
  | mapAckRx (handle : Nat) (band : Band) (content : Octets) (secured : Bool)
  /-- R86: At ACTIVATE_ASN the author resends, deletes or makes current the offered map. -/
  | mapActivateSlot (handle : Nat) (band : Band)
  /-- R85: A peer's Capability IE is recorded in its node context. -/
  | capabilityIeRx (handle : Nat) (content : Octets)
  /-- R90: The command clears all MODEM_COUNTERS. -/
  | modemCountersClear (who : Caller)
  /-- R91: At −160 us the sequencer sends the retune command and the synthesiser starts settling. -/
  | txRetune (bandSector : Nat)
  /-- R91: At −100 us the sequencer checks and reserves duty, issues the transmit command and raises COEX REQ and PRI. -/
  | txCommand (bandSector : Nat)
  /-- R92: At −50 us a synthesiser not yet locked causes the cell to be skipped and a calibration scheduled. -/
  | lockDeadline (bandSector : Nat) (locked : Bool) (microsShort : Nat)
  /-- R98: At −38 us the XPA group raises EN and sets BYP and GSEL. -/
  | xpaEnRise (bandSector : Nat)
  /-- R113: At −20 us GNT and the LBT channel power are sampled, and a failure skips the cell. -/
  | gntLbtSample (bandSector : Nat) (granted : Bool) (channelPower : Int)
  /-- R98: At −18 us the XPA group raises TXON. -/
  | xpaTxonRise (bandSector : Nat)
  /-- R56: At −10 us the PA ramps up, the band-sector's chains are blanked and the other sectors are desense-marked. -/
  | paRampUp (bandSector : Nat)
  /-- R96: At 40 us the measured forward power corrects the drive, and XPA DET is checked. -/
  | powerLoopCorrection (bandSector : Nat) (forwardPower : Int) (detMillivolts : Nat)
  /-- R91: At frame end the PA ramps down, marks end, the duty reservation is settled and the tuner steps on the measured VSWR. -/
  | frameEndRampDown (bandSector : Nat) (vswr : Nat)
  /-- R91: EN falls 20 us after TXON unless the next TXON is due within 100 us. -/
  | xpaEnFall (bandSector : Nat)
  /-- R101: Reflected power above 8:1 during a frame ramps the PA down at once and derates the port. -/
  | reflectedPowerTrip (bandSector : Nat) (vswr : Nat)
  /-- R93: A synthesiser losing lock while transmitting ramps the PA down and schedules a calibration. -/
  | synthLossOfLock (bandSector : Nat)
  /-- R105: GNT withdrawn during a frame is counted, and the frame completes or is aborted per COEX_CFG bit 4. -/
  | gntWithdrawn (coex : Nat)
  /-- R94: A due calibration starts at the first instant meeting its conditions. -/
  | calibrationStart (bandSector : Nat) (calibration : Nat)
  /-- R94: An atomic calibration completes after its stated duration. -/
  | calibrationDone (bandSector : Nat)
  /-- R95: A calibration waiting CAL_MAX_WAIT skips the chain's next transmit cell to make room. -/
  | calMaxWaitExpiry (bandSector : Nat) (calibration : Nat)
  /-- R101: The command moves a DISABLED port to DERATED. -/
  | tunerRestore (who : Caller) (port : Nat)
  /-- R108: A write of the region profile is checked against its base profile and the conditions, and stored or refused. -/
  | regionProfileWrite (who : Caller) (record : Octets)
  /-- R110: Writing 0x5A locks the region profile and moves the lifecycle to FIELD. -/
  | regionCommission (who : Caller) (value : Nat)
  /-- R111: A signed re-commissioning message is verified and replaces and relocks the profile. -/
  | regionRecommission (who : Caller) (message : Octets)
  /-- R115: Each second the duty accounts roll to a new 1 s bucket. -/
  | dutyBucketTick
  /-- R114: Each second the per-channel 20 s dwell window rolls. -/
  | dwellBucketTick
  /-- R118: Once a minute the per-minute duty sums are written to the persistent journal area. -/
  | dutyMinutePersist
  /-- R119: The command clears all TX_COUNTERS. -/
  | txCountersClear (who : Caller)
  /-- R125: A timing event from a source entry is judged good or not and advances the entry's qualification. -/
  | timeSourceEvent (entry : Nat) (implied : Int) (secured : Bool) (bandSector : Nat)
  /-- R125: A period passes without a good event; three misses make a qualified entry lost. -/
  | timeSourceMiss (entry : Nat)
  /-- R126: At the reference slot boundary the active source or time state changes, stepping only at acquisition. -/
  | timeStateChange
  /-- R130: 10 s after LOAD with no qualified entry, a TIME_ROOT chip adopts its persisted count and enters ROOT. -/
  | timeRootTimer
  /-- R126: Every 600 s without acquisition, event 0x3006 is recorded. -/
  | unacquiredReportTimer
  /-- R128: In HOLDOVER the receive guard reaches its cap and is held there. -/
  | guardCapReached (band : Band)
  /-- R130: Once a minute, when acquired, domain time and the time state are persisted. -/
  | timePersist
  /-- R131: PPS_OUT rises at each whole second of domain time when enabled and permitted. -/
  | ppsOutPulse
  /-- R131: The chip sends PTP Sync on a port where it serves PTP. -/
  | ptpSyncTx (port : Nat)
  /-- R139: Look-ahead entries of a slot are resolved, or skipped if late at the start of slot m−1. -/
  | lookaheadResolved (bandSector asn : Nat)
  /-- R137: At TsTxOffset − 2,000 us the sequencer fetches queue heads, ranks candidates and chooses the transmit cell. -/
  | queueLatch (bandSector : Nat)
  /-- R139: A frame not secured by frame start − 100 us skips its cell and stays queued. -/
  | secureDeadline (bandSector : Nat) (secured : Bool)
  /-- R134: SCHED_CELL_CMD 1 checks and writes one cell, with ownership fields set by the chip. -/
  | schedCellWrite (who : Caller)
  /-- R132: SCHED_CELL_CMD 2 loads the cell at SCHED_CELL_INDEX into SCHED_CELL_DATA. -/
  | schedCellRead (who : Caller)
  /-- R134: SCHED_CELL_CMD 3 clears VALID of the indexed cell. -/
  | schedCellClear (who : Caller)
  /-- R134: A 64-cell block is checked as one write and applied or refused. -/
  | schedCellBlockWrite (who : Caller) (block : Octets)
  /-- R134: A slotframe or hopping-sequence write is checked against the whole band schedule. -/
  | scheduleTableWrite (who : Caller) (index sub : Nat) (value : Octets)
  /-- R141: SECTOR_SERVICE takes a band-sector out of service or back in. -/
  | sectorServiceWrite (who : Caller) (bandSector value : Nat)
  /-- R144: The command clears all SCHED_COUNTERS. -/
  | schedCountersClear (who : Caller)
  /-- R146: A detection in the acknowledgement window that matches channel, start and sequence number is verified and completes the frame. -/
  | ackRx (bandSector : Nat) (ack : AckFrame)
  /-- R147: The acknowledgement window closes without a valid acknowledgement; the transmission is unacknowledged. -/
  | ackWindowClose (bandSector : Nat)
  /-- R157: A received air frame is format-checked, address-filtered, keyed, verified and counter-checked. -/
  | airRxJob (f : AirFrame)
  /-- R148: At E + 700 us the sequencer decides whether to acknowledge the frame. -/
  | ackDecisionDeadline (bandSector : Nat)
  /-- R165: A Join Request allocates a context and index and answers with a Join Response. -/
  | joinRequestRx (r : JoinRequest)
  /-- R165: A matching Join Confirm moves the node to JOINED. -/
  | joinConfirmRx (eui : Octets) (counter : Nat) (content capability : Octets)
  /-- R165: JOIN_CONFIRM_WINDOW elapses in JOINING and the context is freed. -/
  | joinConfirmTimeout (handle : Nat)
  /-- R165: The host approves or refuses a join held under JOIN_POLICY 1. -/
  | joinApprove (who : Caller) (handle : Nat) (approve : Nat)
  /-- R165: A valid Departure IE from the node is acknowledged and the departure actions run. -/
  | departureIeRx (handle counter cause : Nat)
  /-- R165: No authenticated frame for NODE_TIMEOUT makes the node depart with cause 2. -/
  | nodeTimeoutExpiry (handle : Nat)
  /-- R165: The command queues a Departure IE and moves the node to DEPARTING. -/
  | nodeDepart (who : Caller) (handle : Nat)
  /-- R175: The command looks up an EUI-64 and sets NODE_CURSOR. -/
  | nodeLookup (who : Caller) (eui : Octets)
  /-- R171: At each 10 s of domain time plus 2 ms times the chip index, an Announcement is sent. -/
  | peerAnnouncementTx
  /-- R172: A peer Announcement or Node Moved is verified and accepted or ignored. -/
  | peerMessageRx (message : Octets)
  /-- R173: An expected Announcement misses, and three misses make the peer lost. -/
  | peerAnnouncementMiss (chip : Nat)
  /-- R175: The command clears all LINK_COUNTERS. -/
  | linkCountersClear (who : Caller)
  /-- R182: On a packet's LAST word the queue manager admits, links or refuses it in check order. -/
  | queueAdmission (packet : Nat) (poison : Bool)
  /-- R182: A cut-through packet for a wired port is admitted on its first word and linked at once. -/
  | cutThroughAdmission (packet : Nat)
  /-- R189: A wired port sends the first eligible head frame of its class queues. -/
  | wiredEgressSelect (port : Nat)
  /-- R190: The next word of a started cut-through frame is missing, or it is poisoned; the frame is ended bad. -/
  | cutThroughUnderrun (port : Nat) (poison : Bool)
  /-- R191: The command empties the queue named by QUEUE_CURSOR. -/
  | queueFlush (who : Caller) (queue : Nat)
  /-- R195: A shaper configuration write is checked and applied at the shaper's next consultation. -/
  | shaperCfgWrite (who : Caller) (config : Octets)
  /-- R199: A GATE_AIR or GATE_ETH write is checked and held until the next cycle start. -/
  | gateWrite (who : Caller) (eth : Bool) (sub : Nat) (gate : Octets)
  /-- R199: At the first cycle start after an accepted write, the new gate list takes effect. -/
  | gateCycleStart (port : Nat)
  /-- R200: The command clears all QUEUE_COUNTERS. -/
  | queueCountersClear (who : Caller)
  /-- R201: A packet passes the forwarding pipeline from classification to enqueue. -/
  | forwardPacket (p : Packet)
  /-- R207: REASM_TIMEOUT passes after a first fragment and the datagram is dropped. -/
  | reassemblyTimeout (source tag size : Nat)
  /-- R215: A queued learning request is inserted by cuckoo search and move, or refused with FULL. -/
  | learnInsert
  /-- R210: A verified DAO sets NEXT_HOP of its targets. -/
  | daoRx (target parent sender : Nat) (noPath : Bool)
  /-- R209: LSF answers a DIS message. -/
  | disRx (source : Octets)
  /-- R209: The Trickle timer sends a DIO in class 0. -/
  | dioTrickleTimer
  /-- R221: The sweeper visits a bucket at its time in the pass and applies the sweep action. -/
  | sweepVisit (bucket : Nat)
  /-- R222: An even update-port cycle applies the pending hits of one bucket. -/
  | updatePortHitCycle (bucket : Nat)
  /-- R222: An odd update-port cycle applies one copy, clear, command write, stash refill or sweep step. -/
  | updatePortStructuralCycle
  /-- R227: CC0 compares a sampled lookup with its own result and repairs on mismatch. -/
  | shadowCheck (trie : Bool) (key : Octets) (result : Option Nat)
  /-- R229: TABLE_CMD 1 inserts a host-table entry. -/
  | tableInsert (who : Caller)
  /-- R229: TABLE_CMD 2 replaces an entry's fields. -/
  | tableUpdate (who : Caller)
  /-- R229: TABLE_CMD 3 removes an entry. -/
  | tableDelete (who : Caller)
  /-- R223: TABLE_CMD 4 returns an atomic snapshot by key. -/
  | tableReadKey (who : Caller)
  /-- R232: TABLE_CMD 5 reads by location, reporting moves. -/
  | tableReadLoc (who : Caller)
  /-- R219: TABLE_CMD 6 makes a LEARNED entry CONFIRMED. -/
  | tableConfirm (who : Caller)
  /-- R225: TABLE_CMD 8 adds a prefix to the trie. -/
  | routeAdd (who : Caller)
  /-- R225: TABLE_CMD 9 deletes a prefix. -/
  | routeDel (who : Caller)
  /-- R229: TABLE_CMD 10 returns a prefix's next-hop index. -/
  | routeRead (who : Caller)
  /-- R229: TABLE_CMD 11 performs a longest-prefix lookup. -/
  | routeLookup (who : Caller)
  /-- R226: TABLE_CMD 12 writes a next-hop entry. -/
  | nhWrite (who : Caller)
  /-- R229: TABLE_CMD 13 reads a next-hop entry. -/
  | nhRead (who : Caller)
  /-- R233: The command clears all FWD_COUNTERS. -/
  | fwdCountersClear (who : Caller)
  /-- R240: A cipher job starts, bound to its key register, and its cores take blocks by tier. -/
  | cipherJobStart (engine : Nat) (job : CipherRequest)
  /-- R241: A job ends with its result block and a hold or cut-through release. -/
  | cipherJobComplete (engine number : Nat)
  /-- R248: Every CE_SELFTEST_PERIOD one engine begins its known-answer and cross-check tests. -/
  | ceSelftestTurn
  /-- R248: A self-test ends; a failing engine is retested, withdrawn or cross-checked. -/
  | ceSelftestDone (engine : Nat) (romPass trngAgree : Bool) (op keySize : Nat)
  /-- R248: The command starts a self-test of the named engine. -/
  | ceSelftestNow (who : Caller) (engine : Nat)
  /-- R248: A withdrawn engine is retested hourly and restored after three passes. -/
  | ceHourlyRetest (engine : Nat) (pass : Bool)
  /-- R249: The lone serving engine runs a slice of its own ROM vectors. -/
  | loneEngineSlice (engine : Nat) (pass : Bool)
  /-- R252: A MACsec frame is sent, reserving and persisting a new PN block when needed. -/
  | macsecFrameTx (port : Nat) (frame : Octets)
  /-- R251: A received MACsec frame is checked against its SA, replay window and ICV. -/
  | macsecFrameRx (port an pn : Nat) (ec : Bool) (frame : Sealed)
  /-- R254: The command clears all CE_COUNTERS. -/
  | ceCountersClear (who : Caller)
  /-- R266: A key update message is checked in order and its shadow half written. -/
  | keyUpdate (who : Caller) (message : Octets)
  /-- R267: The commit word is written at once, or at the reference boundary holding both twin acceptances. -/
  | keyUpdateCommit (slot : Nat)
  /-- R270: 60 s without the partner's acceptance discards the shadow with status 11. -/
  | keyUpdatePartnerTimeout (slot : Nat)
  /-- R264: The command invalidates every derived-key cache entry. -/
  | keyCacheFlush (who : Caller)
  /-- R263: KM resolves a key reference to a cache handle, allocating and deriving it on a miss. -/
  | keyResolve (reference : Octets)
  /-- R259: A SEED_MODE write moves the KEK seed between MRAM and AON. -/
  | seedModeWrite (who : Caller) (value : Nat)
  /-- R275: Every 30.5 us the hedgehog samples its tamper sources and raises an alarm. -/
  | hedgehogSample (sample : TamperSample)
  /-- R275: 0xA5 written to ZEROIZE_CMD twice within 10 s raises the command tamper source. -/
  | zeroizeCmd (who : Caller) (value : Nat)
  /-- R276: The partition overwrite is read back as zero, PROV_GEN advances and event 0x6301 is recorded. -/
  | zeroizeOverwriteDone
  /-- R282: Both lanes hold block lock and ALIGN, and the port comes up. -/
  | settPortUp (port : Nat)
  /-- R282: Invalid sync headers or loss of signal take the port down and abort its frame. -/
  | settPortDown (port : Nat)
  /-- R287: A sett frame is verified and taken, passed on or dropped. -/
  | settFrameRx (port : Nat) (f : SettFrame)
  /-- R283: An ABORT block discards the frame in progress. -/
  | settAbortRx (port : Nat)
  /-- R289: Every 10 ms a CENSUS frame is sent on EAST, WEST and SPUR. -/
  | censusTx
  /-- R290: A verified census updates den membership, ring state and the ring master. -/
  | censusRx (port hops : Nat) (c : Census)
  /-- R290: A member's census misses, and three misses make it lost with its TYPE 1 entries removed. -/
  | censusMiss (chip : Nat)
  /-- R293: Once per second each port sends a LINK delay request. -/
  | linkDelayRequest (port : Nat)
  /-- R293: A LINK request is answered, or a response computes the link delay; on TWIN the pair declaration is compared. -/
  | linkFrameRx (port : Nat) (m : LinkMessage) (declaration : Option Declaration)
  /-- R294: At each 100 ms of domain time a MARK block is sent. -/
  | markTx
  /-- R294: A received MARK is a SETT time-source event or steers a follower. -/
  | markRx (port hops master markNo arrival : Nat)
  /-- R302: The backoff delay expires without a partner claim; the chip claims and becomes ACTIVE. -/
  | claimBackoffExpire
  /-- R302: TWIN_CLAIM_IN asserts; a contending chip becomes FOLLOWER, and a claimed chip releases and contends. -/
  | partnerClaimSeen
  /-- R302: The partner's claim drops; a ready follower claims at the next boundary, and otherwise contends. -/
  | partnerClaimWithdrawn
  /-- R303: After the disagreement has been absent for 10 s, the non-preferred chip may contend again. -/
  | interlockFaultClear
  /-- R306: A JOURNAL frame is sent when full, 20 us after its first record, or at least once per millisecond. -/
  | journalFrameSend
  /-- R306: The follower receives a JOURNAL frame, applies its records in JSEQ order and returns a JACK. -/
  | journalFrameRx (claim : Bool) (records : List JournalRecord)
  /-- R306: A JACK releases acknowledged records, triggers resends on gaps and unblocks waiting receipts. -/
  | jackRx (jack : Jack)
  /-- R306: A millisecond without a verified partner frame is a miss, and three make the partner absent. -/
  | partnerMiss
  /-- R308: At the end of each TWIN_DIGEST_SF pass the digest is computed and compared. -/
  | digestPassEnd
  /-- R310: The command requests a role swap. -/
  | twinSwapNow (who : Caller) (value : Nat)
  /-- R310: TWIN_SWAP_PERIOD after the last role change, a role swap is requested. -/
  | twinSwapPeriodExpiry
  /-- R310: At quiet slot m the active chip releases its claim and becomes FOLLOWER. -/
  | swapSlotStart
  /-- R310: No quiet slot within 600 s, or no ready follower, postpones the swap by 1 h. -/
  | swapSearchTimeout
  /-- R311: A follower's snapshot request fixes s0, and the deterministic state is sent. -/
  | snapshotRequest
  /-- R311: The follower stores a snapshot chunk and becomes ready once complete. -/
  | snapshotFrameRx (chunkNo region offset : Nat) (data : Octets) (last : Bool)
  /-- R311: The command forces a follower snapshot. -/
  | twinResync (who : Caller) (value : Nat)
  /-- R313: The command requests a sequencer restart at the next boundary. -/
  | seqRestart (who : Caller) (bandSector : Nat)
  /-- R313: A sequencer's watchdog expires; the first restarts it and the second within 60 s is fatal. -/
  | sequencerWatchdogExpiry (bandSector : Nat)
  /-- R313: At the boundary the sequencer is halted, reloaded and restored from its checkpoint. -/
  | sequencerRestartBoundary (bandSector : Nat)
  /-- R313: Two slots later the restarted sequencer resumes and DEGRADED bit 7 clears. -/
  | sequencerResume (bandSector : Nat)
  /-- R314: MEM scrubs DRAM, correcting single-bit errors and handling uncorrectable ones. -/
  | dramScrubPass (corrected : Nat) (errors : List (Nat × Nat × Option Nat))
  /-- R312: Hourly each transmit chain is looped back and checked. -/
  | rfLoopbackTest (bandSector : Nat) (pass : Bool)
  /-- R317: The command clears all SETT_COUNTERS. -/
  | settCountersClear (who : Caller)
  /-- R332: A write of UPDATE_DATA stores octets at UPDATE_OFFSET and advances it. -/
  | updateDataWrite (who : Caller) (data : Octets)
  /-- R332: UPDATE_CMD 1 checks the buffer and starts building the inactive bank. -/
  | updateApply (who : Caller)
  /-- R351: UPDATE_CMD 2 aborts the update. -/
  | updateAbort (who : Caller)
  /-- R351: UPDATE_CMD 3 clears the chip update buffer. -/
  | updateClearBuffer (who : Caller)
  /-- R333: UE0 builds, checks and writes a 64 KiB block and records its done word. -/
  | ue0BlockBuilt
  /-- R333: The whole target is hashed and verified; the bank becomes READY or REJECTED. -/
  | updateFinalVerify
  /-- R334: Buffer contents matching the journal resume an interrupted build. -/
  | updateResume
  /-- R335: BANK_CMD 1 sets the READY bank to run on trial and resets. -/
  | bankSwitch (who : Caller)
  /-- R335: BANK_CMD 2 confirms the trial bank. -/
  | bankConfirm (who : Caller)
  /-- R335: BANK_CMD 3 switches to the other CONFIRMED bank and resets. -/
  | bankRollback (who : Caller)
  /-- R351: BANK_CMD 4 restarts the chip. -/
  | bankRestart (who : Caller)
  /-- R335: BANK_TRIAL_TIME without a fatal fault confirms the trial bank. -/
  | bankTrialTimeExpiry
  /-- R375: COMMIT snapshots the P objects and starts writing copies A, B and C. -/
  | commit (who : Caller) (value : Nat)
  /-- R325: Copy C is read back and the COMMIT response is sent. -/
  | commitComplete
  /-- R327: The command writes a chosen copy or the defaults into all three copies and brings them into force. -/
  | configSelect (who : Caller) (value : Nat)
  /-- R338: HELLO returns identity and boot record bytes. -/
  | recoveryHello (seq : Nat)
  /-- R338: BAUD changes the UART rate 1 ms after the response. -/
  | recoveryBaud (seq rate : Nat)
  /-- R338: SELECT picks the bank to write, refusing a protected bank. -/
  | recoverySelect (seq bank : Nat)
  /-- R339: WRITE stores octets into the selected bank and sets it to WRITING. -/
  | recoveryWrite (seq offset : Nat) (data : Octets)
  /-- R338: VERIFY checks the selected bank's image. -/
  | recoveryVerify (seq : Nat)
  /-- R338: BOOT sets the verified bank to run on trial and resets. -/
  | recoveryBoot (seq : Nat)
  /-- R337: 600 s without a valid frame in a requested session restarts into the CONFIRMED bank. -/
  | recoveryIdleTimeout
  /-- R341: A write of STAGE_DATA stores image octets at STAGE_OFFSET. -/
  | stageDataWrite (who : Caller) (slot : Nat) (data : Octets)
  /-- R341: STAGE_CMD 1 checks the image digest and manifest CMAC and starts RaptorQ encoding. -/
  | stageVerifyEncode (who : Caller) (slot : Nat)
  /-- R351: STAGE_CMD 2 clears the staging slot. -/
  | stageClear (who : Caller) (slot : Nat)
  /-- R341: UE1 finishes the intermediate symbols and the slot becomes ready. -/
  | stageEncodeDone (slot : Nat)
  /-- R347: Writing CAMPAIGN_CFG creates a DEFINED campaign record. -/
  | campaignCfgWrite (who : Caller) (campaign : Nat) (cfg : Octets)
  /-- R347: CAMPAIGN_CMD 1 assigns an ID, sets targets and starts the campaign. -/
  | campaignStart (who : Caller) (campaign : Nat)
  /-- R347: CAMPAIGN_CMD 2 pauses generation. -/
  | campaignPause (who : Caller) (campaign : Nat)
  /-- R347: CAMPAIGN_CMD 3 resumes generation. -/
  | campaignResume (who : Caller) (campaign : Nat)
  /-- R347: CAMPAIGN_CMD 4 sends Cancels and flushes the queued frames. -/
  | campaignCancel (who : Caller) (campaign : Nat)
  /-- R347: CAMPAIGN_CMD 5 sends Activate to each COMPLETE node. -/
  | campaignActivate (who : Caller) (campaign : Nat)
  /-- R347: CAMPAIGN_CMD 6 clears a closed or cancelled record. -/
  | campaignClear (who : Caller) (campaign : Nat)
  /-- R343: When a campaign frame is latched, UE0 generates the next symbol or descriptor frame. -/
  | campaignFrameGenerate (bandSector campaign : Nat)
  /-- R346: A node's Report updates its campaign bits. -/
  | campaignReportRx (handle : Nat) (content : Octets)
  /-- R348: At each campaign slotframe pass, Offers are sent and changed bitmap pages and a header are persisted. -/
  | campaignPassEnd (slotframe : Nat)
  /-- R347: END_ASN is reached and generation stops in EXPIRED. -/
  | campaignEndAsnReached (campaign : Nat)
  /-- R347: Under policy 1, ACTIVATE_ASN starts activation. -/
  | campaignActivateAsnReached (campaign : Nat)
  /-- R347: 24 h after ACTIVATE_ASN the campaign closes. -/
  | campaignActivatingTimeout (campaign : Nat)
  /-- R354: A write of CREATE creates a thread at the lowest free TID. -/
  | threadCreate (core addr : Nat)
  /-- R354: A write of EXIT frees the running thread. -/
  | threadExit (core : Nat)
  /-- R357: A write of YIELD moves the thread to the tail of its list, or returns at once. -/
  | threadYield (core : Nat)
  /-- R354: A read of BLOCK returns pending wake bits or blocks the thread. -/
  | threadBlock (core mask : Nat)
  /-- R360: A write of FLAGS_SET ORs flags into a thread and raises source 4. -/
  | flagsSet (core value : Nat)
  /-- R360: A read of FLAGS_TAKE returns and clears the thread's flags. -/
  | flagsTake (core : Nat)
  /-- R360: A write of TIMER arms or cancels the thread's timer. -/
  | timerSet (core time : Nat)
  /-- R360: Domain time reaches TIMER and raises source 3. -/
  | threadTimerExpiry (tid : Nat)
  /-- R357: A write of PRIO changes the thread's priority from the next cycle. -/
  | threadPrioWrite (core prio : Nat)
  /-- R359: A read of DTIME returns domain time and is journaled. -/
  | dtimeRead (core : Nat)
  /-- R359: A read of RANDOM returns TRNG output and is journaled. -/
  | randomRead (core : Nat)
  /-- R362: A write of APQ_TAKE copies and unlinks the head of an application queue. -/
  | apqTake (core queue addr : Nat)
  /-- R362: A write of ENQ_SUBMIT enters a packet into the forwarding pipeline. -/
  | enqSubmit (core addr : Nat)
  /-- R363: A SEC mailbox request starts a cipher job at tier 5. -/
  | mailboxSecSubmit (core addr : Nat)
  /-- R363: An OD mailbox request reads or writes one object with Operator rights. -/
  | mailboxOdSubmit (core addr : Nat)
  /-- R363: An EVT mailbox request records an application event. -/
  | mailboxEvtSubmit (core addr : Nat)
  /-- R363: A mailbox request completes, writing STATUS and raising source 2. -/
  | mailboxComplete (number : Nat)
  /-- R360: A wake source sets PENDING and readies a thread waiting on it, with preemption. -/
  | wakeSourceRaise (tid source : Nat)
  /-- R357: A thread runs SLICE × 100 us with an equal-priority rival and is rotated. -/
  | sliceExpire (core : Nat)
  /-- R364: An application thread's exception puts it into FAULTED. -/
  | threadException (core mcause pc : Nat)
  /-- R354: THREAD_CMD 1 suspends an application thread. -/
  | threadSuspend (who : Caller) (tid : Nat)
  /-- R354: THREAD_CMD 2 resumes a suspended thread. -/
  | threadResume (who : Caller) (tid : Nat)
  /-- R354: THREAD_CMD 3 frees a thread, aborting its mailbox requests. -/
  | threadKill (who : Caller) (tid : Nat)
  /-- R357: THREAD_CMD 4 sets a thread's priority. -/
  | threadPriorityCmd (who : Caller) (tid prio : Nat)
  /-- R357: THREAD_CMD 5 sets a thread's affinity. -/
  | threadAffinityCmd (who : Caller) (tid mask : Nat)
  /-- R365: The command kills every application thread, reloads the image and recreates TID 64. -/
  | appRestart (who : Caller) (value : Nat)
  /-- R366: A write of SCHED_OBS selects the observation mode and clears the old outputs. -/
  | schedObsWrite (who : Caller) (value : Nat)
  /-- R368: A write of TRACE_CURSOR latches 8 trace records. -/
  | traceCursorWrite (who : Caller) (value : Nat)
  /-- R369: At each STAT_WINDOW end every core publishes its statistics. -/
  | statWindowEnd
  /-- R380: A received SOP frame is checked for format, session, tag and sequence before its operation. -/
  | sopFrameCheck
  /-- R384: READ returns up to 16 values taken at one instant. -/
  | sopRead (who : Caller) (seq : Nat) (items : List (Nat × Nat))
  /-- R384: WRITE checks every item and applies all or none. -/
  | sopWrite (who : Caller) (seq : Nat) (items : List (Nat × Nat × Octets))
  /-- R386: SEG_READ_START latches an object value for a segmented read. -/
  | sopSegReadStart (who : Caller) (seq index sub : Nat)
  /-- R386: SEG_READ returns octets of the latched value. -/
  | sopSegRead (who : Caller) (seq offset max : Nat)
  /-- R386: SEG_WRITE_START opens a segmented write, latching its operand. -/
  | sopSegWriteStart (who : Caller) (seq index sub total : Nat)
  /-- R386: SEG_WRITE appends a segment; the final one applies the value as one WRITE. -/
  | sopSegWrite (who : Caller) (seq offset : Nat) (data : Octets)
  /-- R386: A transfer with no segment for 30 s is abandoned. -/
  | segTransferIdleTimeout (who : Caller)
  /-- R385: EXECUTE applies write items ending in a command and waits for its completion. -/
  | sopExecute (who : Caller) (seq : Nat) (writes : List (Nat × Nat × Octets)) (reads : List (Nat × Nat))
  /-- R385: The command's completion is observed and the read items are taken. -/
  | executeCompletion (who : Caller)
  /-- R385: A command not complete within 1 s answers TIMEOUT. -/
  | executeTimeout (who : Caller)
  /-- R387: SUBSCRIBE creates a subscription. -/
  | sopSubscribe (who : Caller) (seq index sub mode interval : Nat)
  /-- R387: UNSUBSCRIBE ends one or all subscriptions of the session. -/
  | sopUnsubscribe (who : Caller) (seq subId : Nat)
  /-- R387: At each INTERVAL a subscription samples and sends or coalesces a NOTIFY. -/
  | notifyInterval (who : Caller) (subId : Nat)
  /-- R391: OPEN on SID 0 allocates a half-open session and returns a CHIP_NONCE. -/
  | sopOpen (e : Endpoint) (seq role method : Nat) (hostNonce : Octets)
  /-- R391: AUTH verifies the host's tag or signature and opens or frees the session. -/
  | sopAuth (sid seq : Nat) (signature tag : Octets)
  /-- R393: CLOSE ends the session. -/
  | sopClose (sid seq : Nat)
  /-- R391: A half-open session without AUTH for 10 s is freed. -/
  | halfOpenTimeout (sid : Nat)
  /-- R393: A session idle for SESSION_IDLE is closed. -/
  | sessionIdleTimeout (sid : Nat)
  /-- R393: The 60 s OPEN lockout of a transport ends. -/
  | authLockoutExpire (transport : Nat)
  /-- R393: The command closes the named session. -/
  | sessionClose (who : Caller) (sid : Nat)
  /-- R396: A CAN FD frame adds a fragment to the SOP frame in assembly, or discards it. -/
  | canFrameRx (bus id : Nat) (data : Octets)
  /-- R396: 10 ms without the next fragment discards the assembly. -/
  | canAssemblyTimeout (bus host : Nat)
  /-- R443: A transmitter held dominant for 4 ms is released. -/
  | canDominantTimeout (bus : Nat)
  /-- R397: A SOP datagram is accepted or discarded by ingress, size and SID rules. -/
  | udpSopDatagramRx (ingress : Nat) (source : Octets) (port : Nat) (dest : Octets) (destPort : Nat) (fragmented : Bool) (payload : Octets)
  /-- R398: A write of H2C_LEN submits the frame in H2C_BUF. -/
  | mb0H2cLenWrite (length : Nat) (buffer : Octets)
  /-- R398: A write of C2H_ACK frees C2H_BUF for the next response. -/
  | mb0C2hAckWrite
  /-- R398: A write of NTF_TAIL frees notification ring slots. -/
  | mb0NtfTailWrite (tail : Nat)
  /-- R399: SPI command 0x10 submits a frame or sets OVERRUN. -/
  | spiWriteFrame (frame : Octets)
  /-- R399: SPI command 0x11 returns and frees the oldest response or NOTIFY. -/
  | spiReadFrame
  /-- R399: SPI command 0x12 returns the status and clears OVERRUN. -/
  | spiStatus
  /-- R337: SPI command 0x72 writes a recovery frame in RECOVERY. -/
  | spiRecoveryWrite (frame : Octets)
  /-- R337: SPI command 0x73 reads the pending recovery response. -/
  | spiRecoveryRead
  /-- R337: SPI command 0x7E with 0x52, 0x45 requests RECOVERY before the second sample. -/
  | spiRecoveryRequest (data : Octets)
  /-- R401: The command clears all SOP_COUNTERS. -/
  | sopCountersClear (who : Caller)
  /-- R373: A write of an object with no row of its own is checked for access, role, state and range and applied. -/
  | objectWrite (who : Caller) (index sub : Nat) (value : Octets)
  /-- R403: At each SURVEY_PERIOD end MS publishes occupancy and peak of every bin. -/
  | surveyPeriodEnd (bins : List SurveyBin)
  /-- R403: A write of SURVEY_CURSOR latches a survey window. -/
  | surveyCursorWrite (who : Caller) (value : Nat)
  /-- R404: At each whole hour the latest noise floor is copied into the 24-entry history. -/
  | nfHistoryHourly
  /-- R404: A write of NF_HISTORY_CURSOR latches a history window. -/
  | nfHistoryCursorWrite (who : Caller) (value : Nat)
  /-- R408: The command starts a ranging exchange with a node, or is refused. -/
  | rangeRequest (who : Caller) (handle k : Nat)
  /-- R406: A ranging cell sends a Poll, measures the node's tones and sends the chip's burst. -/
  | rangingCell (bandSector cell : Nat) (skipped : Bool) (tones : List ToneMeasure)
  /-- R407: A Report's tone phases are combined with the chip's measurements. -/
  | rangeReportRx (handle : Nat) (content : Octets)
  /-- R411: Every 10 ms the supplies are measured and excursions recorded. -/
  | supplySample (vin vbat vioOut core power : Nat)
  /-- R411: Every 100 ms the six temperatures are measured. -/
  | temperatureSample (temps : List Int)
  /-- R412: At AIN_RATE an analog input is sampled and its thresholds checked. -/
  | ainSample (channel : Nat) (codes : List Nat)
  /-- R418: A write of EVT_CURSOR latches eight records into EVT_WINDOW. -/
  | evtCursorWrite (who : Caller) (value : Nat)
  /-- R419: A write of EVT_MARK stores the session's mark and clears MARK_LOST. -/
  | evtMarkWrite (who : Caller) (value : Nat)
  /-- R419: The command moves the cursor to the mark and latches the window. -/
  | evtRewind (who : Caller) (value : Nat)
  /-- R420: The command discards every record and moves EVT_OLDEST. -/
  | evtClear (who : Caller) (value : Nat)
  /-- R415: A write of EVT_CODE_CURSOR selects the code described by EVT_CODE_INFO. -/
  | evtCodeCursorWrite (who : Caller) (value : Nat)
  /-- R421: A write of PTRACE_CFG enables or disables the program trace of an engine. -/
  | ptraceCfgWrite (who : Caller) (value : Octets)
  /-- R421: A write of PTRACE_CURSOR latches 8 program trace records. -/
  | ptraceCursorWrite (who : Caller) (value : Nat)
  /-- R422: A debug transport read of a DMI address returns data, WAIT, ERROR or LOCKED. -/
  | debugRead (frame : Nat)
  /-- R422: A debug transport write of a DMI address acts on the selected module. -/
  | debugWrite (frame : Nat)
  /-- R422: A debug transport select chooses the module. -/
  | debugSelect (frame : Nat)
  /-- R422: A debug transport idle frame is answered without effect. -/
  | debugIdle (frame : Nat)
  /-- R422: Seventy or more cycles with DBG_DIO high reset the transport and deselect every module. -/
  | debugTransportReset
  /-- R423: A read of CHALLENGE address 0x01 draws a new challenge. -/
  | debugChallengeRead (frame : Nat)
  /-- R424: The write of RESPONSE 0x0C verifies the unlock and opens the level or counts a failure. -/
  | debugResponseSubmit (frame : Nat)
  /-- R424: A write of LOCK locks debug at once. -/
  | debugAuthLock (frame : Nat)
  /-- R424: The unlock minutes run out and debug locks. -/
  | debugUnlockExpiry
  /-- R424: The DEBUG_LOCK command locks debug. -/
  | debugLock (who : Caller) (value : Nat)
  /-- R126: The slew of an accumulated offset ends after HOLDOVER or ROOT returns to LOCKED, and the receive guard g returns to TIME_GUARD_BASE. -/
  | timeSlewComplete
  /-- R125: A PTP Delay_Req arrives on a port where the chip serves PTP, and the chip timestamps it and answers with a Delay_Resp. -/
  | ptpDelayRequestRx (port : Nat) (requester : Octets) (sequence : Nat)
  /-- R217: An IPv6 Neighbor Discovery message delivered to port 15 leads LSF to write or update a TYPE 2 wired-neighbour host-table entry. -/
  | neighborDiscoveryRx (address mac : Octets) (port : Nat)
  /-- R434: The VIO_OUT load rises above 200 to 300 mA, and the output limits its current and sets PIN_STATUS bit 6, clearing the bit when the load falls back. -/
  | vioOutCurrentLimit (milliamps : Nat)
  deriving DecidableEq, Repr

end Sys2Proof
end

