-- ==== Sys2Proof/Config.lean ====
section
/-! DEFINITION. What the spec fixes per chip or leaves open: opaque constants with no body. Fused values, random
numbers, measurements and every result the spec does not state (log entries 6 to 10). -/

namespace Sys2Proof

/-- A value the spec leaves open, fresh for each number (log entry 6). -/
opaque Config.free : Nat → Nat

/-- Output of the true random number generator: draw number, octets wanted (log entry 6). -/
opaque Config.trng : Nat → Nat → Octets

/-- RaptorQ repair symbol of RFC 6330: source block, symbol size, ESI (log entry 7). -/
opaque Config.raptor : Octets → Nat → Nat → Octets

/-- DEVICE_EUI in the fuses (R272). -/
opaque Config.deviceEui : Octets

/-- Device-unique key of the fuses (R259, R324). -/
opaque Config.deviceKey : Octets

/-- KEK from the device-unique key and the seed; the computation is KM's (R259, log entry 7). -/
opaque Config.kekOf : Octets → Octets → Octets

/-- Integrity key of the slot halves, derived by KM from the KEK; the fixed input is not stated (Table 10-4). -/
opaque Config.integrityOf : Octets → Octets

/-- Fused MAC address of ETH0 (1) and ETH1 (2) (R401). -/
opaque Config.fusedMac : Nat → Octets

/-- SILICON_STEP in the fuses (R401). -/
opaque Config.siliconStep : Nat

/-- ROM_VERSION (R401). -/
opaque Config.romVersion : Nat

/-- WENRAM_OUI set at FACTORY (R84). -/
opaque Config.oui : Octets

/-- Wenram image public keys 0 to 3 in ROM (R319). -/
opaque Config.wenramKey : Nat → Octets

/-- Wenram session public key in ROM (R389). -/
opaque Config.wenramSessionKey : Octets

/-- Wenram re-commissioning public key (R111). -/
opaque Config.wenramRegionKey : Octets

/-- VERSION, SEC_VERSION, STATE_COMPAT, KEY_ID and digest of the image the chip left the factory with (R320). -/
opaque Config.factoryVersion : Nat
opaque Config.factorySecVersion : Nat
opaque Config.factoryCompat : Nat
opaque Config.factoryKeyId : Nat
opaque Config.factoryDigest : Octets

/-- Octets of the image the chip left the factory with, by offset, and its IMAGE_LEN (R320). -/
opaque Config.factoryOctet : Nat → Byte
opaque Config.factoryLength : Nat

/-- TUNER_RX_DEFAULT set at the factory, by port subindex (Table 4-11). -/
opaque Config.tunerDefault : Nat → Nat

/-- Severity of an event code in the running system image (R415). -/
opaque Config.eventSeverity : Nat → Nat

/-- Island of an event code and instance for its first argument (Table 15-5). -/
opaque Config.eventIsland : Nat → Nat
opaque Config.eventInstance : Nat → Nat → Nat

/-- Code of a campaign state in CAMPAIGN_STATUS; the spec numbers none of them (R351, log entry 10). -/
opaque Config.campaignCode : Nat → Nat

/-- TX_MASK_POINTS of a base profile and band; the record of R108 holds none (Table 3-11). -/
opaque Config.maskPoints : Nat → Nat → Octets

/-- Result of a computation the spec names without stating it for these operands, by a name and the operands. -/
opaque Config.value : Nat → List Int → Int

end Sys2Proof
end

