-- ==== Sys2Proof/Machine/Aes.lean ====
section
/-! DEFINITION. The AES block of FIPS 197 for keys of 16 and 32 octets, which R234 names by its standard (log entry 7). -/

namespace Sys2Proof.Machine

/-- The substitution table of FIPS 197, 16 entries to the row, the first entry most significant. -/
def aesSub : List Nat :=
  [0x637c777bf26b6fc53001672bfed7ab76, 0xca82c97dfa5947f0add4a2af9ca472c0, 0xb7fd9326363ff7cc34a5e5f171d83115,
   0x04c723c31896059a071280e2eb27b275, 0x09832c1a1b6e5aa0523bd6b329e32f84, 0x53d100ed20fcb15b6acbbe394a4c58cf,
   0xd0efaafb434d338545f9027f503c9fa8, 0x51a3408f929d38f5bcb6da2110fff3d2, 0xcd0c13ec5f974417c4a77e3d645d1973,
   0x60814fdc222a908846eeb814de5e0bdb, 0xe0323a0a4906245cc2d3ac629195e479, 0xe7c8376d8dd54ea96c56f4ea657aae08,
   0xba78252e1ca6b4c6e8dd741f4bbd8b8a, 0x703eb5664803f60e613557b986c11d9e, 0xe1f8981169d98e949b1e87e9ce5528df,
   0x8ca1890dbfe6426841992d0fb054bb16]

/-- The inverse substitution table. -/
def aesSubInverse : List Nat :=
  [0x52096ad53036a538bf40a39e81f3d7fb, 0x7ce339829b2fff87348e4344c4dee9cb, 0x547b9432a6c2233dee4c950b42fac34e,
   0x082ea16628d924b2765ba2496d8bd125, 0x72f8f66486689816d4a45ccc5d65b692, 0x6c704850fdedb9da5e154657a78d9d84,
   0x90d8ab008cbcd30af7e45805b8b34506, 0xd02c1e8fca3f0f02c1afbd0301138a6b, 0x3a9111414f67dcea97f2cfcef0b4e673,
   0x96ac7422e7ad3585e2f937e81c75df6e, 0x47f11a711d29c5896fb7620eaa18be1b, 0xfc563e4bc6d279209adbc0fe78cd5af4,
   0x1fdda8338807c731b11210592780ec5f, 0x60517fa919b54a0d2de57a9f93c99cef, 0xa0e03b4dae2af5b0c8ebbb3c83539961,
   0x172b047eba77d626e169146355210c7d]

/-- An entry of a substitution table. -/
def aesEntry (table : List Nat) (x : Nat) : Nat := listGet table (x / 16) 0 / 256 ^ (15 - x % 16) % 256

/-- Multiplication by x in the field of FIPS 197. -/
def aesTwice (a : Nat) : Nat := if a < 128 then 2 * a else (2 * a) ^^^ 0x11B

/-- Exclusive or of two lists of octets. -/
def aesAdd (a b : List Nat) : List Nat := List.zipWith (fun x y => x ^^^ y) a b

/-- Rows shifted: entry i of a state comes from `step` columns further for each row. -/
def aesShift (step : Nat) (l : List Nat) : List Nat :=
  (List.range 16).map (fun i => listGet l ((i + step * (i % 4)) % 16) 0)

/-- Columns mixed: the factors of FIPS 197 are 2, 3, 1, 1, so that each octet takes the sum of its column and twice its sum
with the next. -/
def aesMix : List Nat → List Nat
  | a :: b :: c :: d :: l =>
    let t := a ^^^ b ^^^ c ^^^ d
    (a ^^^ t ^^^ aesTwice (a ^^^ b)) :: (b ^^^ t ^^^ aesTwice (b ^^^ c)) :: (c ^^^ t ^^^ aesTwice (c ^^^ d)) ::
      (d ^^^ t ^^^ aesTwice (d ^^^ a)) :: aesMix l
  | _ => []

/-- The four times that the inverse factors 14, 11, 13, 9 differ from 2, 3, 1, 1 by. -/
def aesUnmix : List Nat → List Nat
  | a :: b :: c :: d :: l =>
    let u := aesTwice (aesTwice (a ^^^ c))
    let v := aesTwice (aesTwice (b ^^^ d))
    (a ^^^ u) :: (b ^^^ v) :: (c ^^^ u) :: (d ^^^ v) :: aesUnmix l
  | _ => []

/-- One more word of the expanded key; the words stand newest first. -/
def aesNextWord (nk : Nat) (words : List (List Nat)) : List (List Nat) :=
  let i := words.length
  let last := words.headD []
  let rcon := (List.range (i / nk - 1)).foldl (fun a _ => aesTwice a) 1
  let t :=
    if i % nk = 0 then aesAdd ((last.drop 1 ++ last.take 1).map (aesEntry aesSub)) [rcon, 0, 0, 0]
    else if 6 < nk && i % nk = 4 then last.map (aesEntry aesSub)
    else last
  aesAdd (listGet words (nk - 1) []) t :: words

/-- The expanded key as octets. -/
def aesExpand (key : Octets) : List Nat :=
  let nk := key.length / 4
  let first := (List.range nk).map (fun i => (sliceOf key (4 * i) 4).map (·.toNat))
  ((List.range (4 * (nk + 7) - nk)).foldl (fun w _ => aesNextWord nk w) first.reverse).reverse.flatten

/-- Round key `r` of an expanded key. -/
def aesRoundKey (keys : List Nat) (r : Nat) : List Nat := (keys.drop (16 * r)).take 16

/-- The forward rounds after the first key addition: `n` rounds left, round `r` next. -/
def aesRounds (keys : List Nat) : Nat → Nat → List Nat → List Nat
  | 0, _, l => l
  | n + 1, r, l =>
    let t := aesShift 4 (l.map (aesEntry aesSub))
    aesRounds keys n (r + 1) (aesAdd (if n = 0 then t else aesMix t) (aesRoundKey keys r))

/-- The inverse rounds, from round `n` down. -/
def aesRoundsInverse (keys : List Nat) : Nat → List Nat → List Nat
  | 0, l => l
  | n + 1, l =>
    let t := aesAdd ((aesShift 12 l).map (aesEntry aesSubInverse)) (aesRoundKey keys n)
    aesRoundsInverse keys n (if n = 0 then t else aesMix (aesUnmix t))

/-- A state as 16 octets. -/
def aesOctets (l : List Nat) : Octets := (List.range 16).map (fun i => byte (listGet l i 0))

/-- AES forward cipher: key of 16 or 32 octets, block. -/
@[irreducible] def aesCipher (key block : Octets) : Octets :=
  let keys := aesExpand key
  aesOctets (aesRounds keys (key.length / 4 + 6) 1 (aesAdd (block.map (·.toNat)) (aesRoundKey keys 0)))

/-- AES inverse cipher. -/
@[irreducible] def aesInverse (key block : Octets) : Octets :=
  let keys := aesExpand key
  let n := key.length / 4 + 6
  aesOctets (aesRoundsInverse keys n (aesAdd (block.map (·.toNat)) (aesRoundKey keys n)))

end Sys2Proof.Machine
end

