-- ==== Sys2Proof/Machine/Curve.lean ====
section
/-! DEFINITION. ECDSA verification on the curve P-256 of FIPS 186-5, which R319 names by its standard (log entry 7). -/

namespace Sys2Proof.Machine

/-- The field prime, the order of the base point, the constant b and the base point of P-256. -/
def p256Prime : Nat := 2 ^ 256 - 2 ^ 224 + 2 ^ 192 + 2 ^ 96 - 1
def p256Order : Nat := 0xFFFFFFFF00000000FFFFFFFFFFFFFFFFBCE6FAADA7179E84F3B9CAC2FC632551
def p256B : Nat := 0x5AC635D8AA3A93E7B3EBBD55769886BC651D06B0CC53B0F63BCE3C3E27D2604B
def p256X : Nat := 0x6B17D1F2E12C4247F8BCE6E563A440F277037D812DEB33A0F4A13945D898C296
def p256Y : Nat := 0x4FE342E2FE1A7F9B8EE7EB4A7C0F9E162BCE33576B315ECECBB6406837BF51F5

/-- The bits of a number of 256 bits, most significant first. -/
def bits256 (n : Nat) : List Bool := (List.range 256).map (fun i => n.testBit (255 - i))

/-- A power modulo a number. -/
def powMod (m b e : Nat) : Nat := (bits256 e).foldl (fun a c => if c then a * a % m * b % m else a * a % m) 1

/-- A difference in the field. -/
def p256Sub (a b : Nat) : Nat := (a + p256Prime - b) % p256Prime

/-- A point in Jacobian coordinates: (X / Z^2, Y / Z^3), at infinity where Z is 0. -/
structure CurvePoint where
  x : Nat
  y : Nat
  z : Nat
  deriving DecidableEq, Repr

/-- Twice a point. -/
def CurvePoint.twice (q : CurvePoint) : CurvePoint :=
  let p := p256Prime
  let yy := q.y * q.y % p
  let s := 4 * q.x * yy % p
  let zz := q.z * q.z % p
  let m := 3 * p256Sub q.x zz * (q.x + zz) % p
  let x := p256Sub (m * m % p) (2 * s % p)
  { x := x, y := p256Sub (m * p256Sub s x % p) (8 * yy * yy % p), z := 2 * q.y * q.z % p }

/-- The sum of two points. -/
def CurvePoint.add (a b : CurvePoint) : CurvePoint :=
  let p := p256Prime
  if a.z = 0 then b
  else if b.z = 0 then a
  else
    let az := a.z * a.z % p
    let bz := b.z * b.z % p
    let u := a.x * bz % p
    let h := p256Sub (b.x * az % p) u
    let s := a.y * bz * b.z % p
    let r := p256Sub (b.y * az * a.z % p) s
    if h = 0 then if r = 0 then a.twice else { x := 1, y := 1, z := 0 }
    else
      let hh := h * h % p
      let v := u * hh % p
      let x := p256Sub (r * r % p) ((h * hh + 2 * v) % p)
      { x := x, y := p256Sub (r * p256Sub v x % p) (s * h * hh % p), z := a.z * b.z * h % p }

/-- A multiple of a point. -/
def CurvePoint.times (q : CurvePoint) (n : Nat) : CurvePoint :=
  (bits256 n).foldl (fun a c => if c then a.twice.add q else a.twice) { x := 1, y := 1, z := 0 }

/-- A public key is a point of the curve (FIPS 186-5). -/
def onCurve (x y : Nat) : Bool :=
  x < p256Prime && y < p256Prime &&
    y * y % p256Prime = p256Sub ((x * x * x + p256B) % p256Prime) (3 * x % p256Prime)

/-- ECDSA P-256 verification: public key X and Y, digest of 32 octets, signature r and s. -/
@[irreducible] def ecdsaVerifies (key digest signature : Octets) : Bool :=
  let n := p256Order
  let x := fieldOf key 0 32
  let y := fieldOf key 32 32
  let r := fieldOf signature 0 32
  let s := fieldOf signature 32 32
  if key.length = 64 ∧ signature.length = 64 ∧ onCurve x y = true ∧ 0 < r ∧ r < n ∧ 0 < s ∧ s < n then
    let w := powMod n s (n - 2)
    let base : CurvePoint := { x := p256X, y := p256Y, z := 1 }
    let q := (base.times (fieldOf digest 0 32 * w % n)).add (CurvePoint.times { x := x, y := y, z := 1 } (r * w % n))
    q.z != 0 && q.x * powMod p256Prime (q.z * q.z % p256Prime) (p256Prime - 2) % p256Prime % n = r
  else false

end Sys2Proof.Machine
end

