-- ==== Sys2Proof/Machine/Sha.lean ====
section
/-! DEFINITION. SHA-256 of FIPS 180-4, which R319 names by its standard (log entry 7). -/

namespace Sys2Proof.Machine

/-- The round constants of FIPS 180-4. -/
def shaConstants : List Nat :=
  [0x428a2f98, 0x71374491, 0xb5c0fbcf, 0xe9b5dba5, 0x3956c25b, 0x59f111f1, 0x923f82a4, 0xab1c5ed5,
   0xd807aa98, 0x12835b01, 0x243185be, 0x550c7dc3, 0x72be5d74, 0x80deb1fe, 0x9bdc06a7, 0xc19bf174,
   0xe49b69c1, 0xefbe4786, 0xfc19dc6, 0x240ca1cc, 0x2de92c6f, 0x4a7484aa, 0x5cb0a9dc, 0x76f988da,
   0x983e5152, 0xa831c66d, 0xb00327c8, 0xbf597fc7, 0xc6e00bf3, 0xd5a79147, 0x6ca6351, 0x14292967,
   0x27b70a85, 0x2e1b2138, 0x4d2c6dfc, 0x53380d13, 0x650a7354, 0x766a0abb, 0x81c2c92e, 0x92722c85,
   0xa2bfe8a1, 0xa81a664b, 0xc24b8b70, 0xc76c51a3, 0xd192e819, 0xd6990624, 0xf40e3585, 0x106aa070,
   0x19a4c116, 0x1e376c08, 0x2748774c, 0x34b0bcb5, 0x391c0cb3, 0x4ed8aa4a, 0x5b9cca4f, 0x682e6ff3,
   0x748f82ee, 0x78a5636f, 0x84c87814, 0x8cc70208, 0x90befffa, 0xa4506ceb, 0xbef9a3f7, 0xc67178f2]

/-- The initial hash value. -/
def shaInitial : List Nat :=
  [0x6a09e667, 0xbb67ae85, 0x3c6ef372, 0xa54ff53a, 0x510e527f, 0x9b05688c, 0x1f83d9ab, 0x5be0cd19]

/-- A 32-bit word rotated right. -/
def shaRotate (n x : Nat) : Nat := x / 2 ^ n + x % 2 ^ n * 2 ^ (32 - n)

/-- The padded message: 0x80, zeros, and the length in bits in 8 octets. -/
def shaPad (l : Octets) : Octets := l ++ byte 0x80 :: zeros ((119 - l.length % 64) % 64) ++ beOctets 8 (8 * l.length)

/-- One more word of the message schedule; the words stand newest first. -/
def shaNextWord (w : List Nat) : List Nat :=
  let a := listGet w 1 0
  let b := listGet w 14 0
  let s1 := shaRotate 17 a ^^^ shaRotate 19 a ^^^ a / 2 ^ 10
  let s0 := shaRotate 7 b ^^^ shaRotate 18 b ^^^ b / 2 ^ 3
  (s1 + listGet w 6 0 + s0 + listGet w 15 0) % 2 ^ 32 :: w

/-- The 64 words of the schedule of a block of 64 octets. -/
def shaSchedule (block : Octets) : List Nat :=
  ((List.range 48).foldl (fun w _ => shaNextWord w) ((List.range 16).map (fun i => fieldOf block (4 * i) 4)).reverse).reverse

/-- One round on the eight working variables: constant and word of the round. -/
def shaRound (v : List Nat) (kw : Nat × Nat) : List Nat :=
  match v with
  | [a, b, c, d, e, f, g, h] =>
    let t1 := h + (shaRotate 6 e ^^^ shaRotate 11 e ^^^ shaRotate 25 e) + ((e &&& f) ^^^ ((2 ^ 32 - 1 - e) &&& g)) + kw.1 + kw.2
    let t2 := (shaRotate 2 a ^^^ shaRotate 13 a ^^^ shaRotate 22 a) + ((a &&& b) ^^^ (a &&& c) ^^^ (b &&& c))
    [(t1 + t2) % 2 ^ 32, a, b, c, (d + t1) % 2 ^ 32, e, f, g]
  | _ => v

/-- One block into the hash value. -/
def shaBlock (h : List Nat) (block : Octets) : List Nat :=
  List.zipWith (fun x y => (x + y) % 2 ^ 32) h ((shaConstants.zip (shaSchedule block)).foldl shaRound h)

/-- SHA-256 of a string. -/
@[irreducible] def sha256 (l : Octets) : Octets :=
  let m := shaPad l
  (((List.range (m.length / 64)).foldl (fun h i => shaBlock h (sliceOf m (64 * i) 64)) shaInitial).map (beOctets 4)).flatten

end Sys2Proof.Machine
end

