-- ==== Sys2Proof/Machine/Crypto.lean ====
section
/-! DEFINITION. The compositions of cited standards that the rules name, over the AES block: CMAC, CTR, CCM*,
GCM, key wrap, the SP 800-108 derivation; CRC-32C, CRC-32 and CRC-8 in full. -/

namespace Sys2Proof.Machine

/-- Octet-wise exclusive or. -/
def xorOctets (a b : Octets) : Octets := List.zipWith (fun x y => x ^^^ y) a b

/-- Pad with zeros to `n` octets. -/
def padTo (n : Nat) (l : Octets) : Octets := l ++ zeros (n - l.length)

/-- Cut into blocks of 16 octets, the last perhaps short. -/
def blocksOf : Nat → Octets → List Octets
  | 0, _ => []
  | fuel + 1, l => if l.isEmpty then [] else l.take 16 :: blocksOf fuel (l.drop 16)

/-- 16-octet blocks of a string. -/
def blocks (l : Octets) : List Octets := blocksOf (l.length / 16 + 1) l

/-- Double a block in GF(2^128), SP 800-38B. -/
def cmacDouble (l : Octets) : Octets :=
  let v := beNat l
  let d := v * 2 % 2 ^ 128
  beOctets 16 (if v.testBit 127 then d ^^^ 0x87 else d)

/-- AES-CMAC, SP 800-38B. -/
def cmac (key data : Octets) : Octets :=
  let k1 := cmacDouble (aesCipher key (zeros 16))
  let k2 := cmacDouble k1
  let bs := if data.isEmpty then [[]] else blocks data
  let last := bs.getLastD []
  let fin := if last.length = 16 then xorOctets last k1 else xorOctets (padTo 16 (last ++ [byte 0x80])) k2
  let c := bs.dropLast.foldl (fun c b => aesCipher key (xorOctets c b)) (zeros 16)
  aesCipher key (xorOctets c fin)

/-- CTR mode from a counter block, its last `w` octets counting, SP 800-38A. -/
def ctrMode (key ctr data : Octets) (w : Nat) : Octets :=
  let head := ctr.take (16 - w)
  let start := beNat (ctr.drop (16 - w))
  ((blocks data).zipIdx.map
    (fun p => xorOctets p.1 (aesCipher key (head ++ beOctets w ((start + p.2) % 2 ^ (8 * w)))))).flatten

/-- CBC-MAC over whole blocks. -/
def cbcMac (key data : Octets) : Octets :=
  (blocks data).foldl (fun c b => aesCipher key (xorOctets c (padTo 16 b))) (zeros 16)

/-- The CCM* tag over header and payload with a 13-octet nonce, `m` octets, IEEE 802.15.4 and SP 800-38C. -/
def ccmTag (key nonce header payload : Octets) (m : Nat) : Octets :=
  let flags := (if header.isEmpty then 0 else 64) + (if m = 0 then 0 else (m - 2) / 2) * 8 + 1
  let b0 := [byte flags] ++ nonce ++ beOctets 2 payload.length
  let a := if header.isEmpty then [] else beOctets 2 header.length ++ header
  let a' := padTo ((a.length + 15) / 16 * 16) a
  let p' := padTo ((payload.length + 15) / 16 * 16) payload
  let t := cbcMac key (b0 ++ a' ++ p')
  (xorOctets t (aesCipher key ([byte 1] ++ nonce ++ zeros 2))).take m

/-- CCM* enciphering or deciphering of a payload: counter blocks from 1. -/
def ccmCipher (key nonce payload : Octets) : Octets := ctrMode key ([byte 1] ++ nonce ++ beOctets 2 1) payload 2

/-- Multiplication in the GCM field, SP 800-38D: bits of `x` from the most significant. -/
def gcmMulGo (x : Nat) : Nat → Nat → Nat → Nat
  | 0, z, _ => z
  | n + 1, z, v =>
    let z' := if x.testBit n then z ^^^ v else z
    let v' := if v.testBit 0 then (v / 2) ^^^ (0xE1 * 2 ^ 120) else v / 2
    gcmMulGo x n z' v'

/-- Product in the GCM field. -/
def gcmMul (x y : Nat) : Nat := gcmMulGo x 128 0 y

/-- GHASH over whole blocks. -/
def ghash (h : Nat) (data : Octets) : Nat :=
  (blocks data).foldl (fun y b => gcmMul (y ^^^ beNat (padTo 16 b)) h) 0

/-- The first counter block of GCM. -/
def gcmJ0 (key iv : Octets) : Octets :=
  if iv.length = 12 then iv ++ beOctets 4 1
  else
    let h := beNat (aesCipher key (zeros 16))
    beOctets 16 (ghash h (padTo ((iv.length + 15) / 16 * 16) iv ++ beOctets 16 (iv.length * 8)))

/-- GCM text, enciphered or deciphered. -/
def gcmCipher (key iv text : Octets) : Octets :=
  let j := gcmJ0 key iv
  ctrMode key (j.take 12 ++ beOctets 4 ((beNat (j.drop 12) + 1) % 2 ^ 32)) text 4

/-- GCM tag over additional data and ciphertext. -/
def gcmTag (key iv aad ct : Octets) : Octets :=
  let h := beNat (aesCipher key (zeros 16))
  let pad := fun (l : Octets) => padTo ((l.length + 15) / 16 * 16) l
  let s := ghash h (pad aad ++ pad ct ++ beOctets 8 (aad.length * 8) ++ beOctets 8 (ct.length * 8))
  xorOctets (beOctets 16 s) (aesCipher key (gcmJ0 key iv))

/-- Key derivation in counter mode with CMAC, SP 800-108, `bits` bits, given the fixed input; the counter has four octets (R261). -/
def kdf (key fixed : Octets) (bits : Nat) : Octets :=
  (((List.range ((bits + 127) / 128)).map (fun i => cmac key (beOctets 4 (i + 1) ++ fixed))).flatten).take (bits / 8)

/-- One inverse step of RFC 3394: register A, blocks R, step number t. -/
def unwrapStep (kek : Octets) (n : Nat) (ar : Nat × List Octets) (t : Nat) : Nat × List Octets :=
  let i := (t - 1) % n
  let b := aesInverse kek (beOctets 8 (ar.1 ^^^ t) ++ listGet ar.2 i [])
  (beNat (b.take 8), listSet ar.2 i (b.drop 8))

/-- RFC 3394 key unwrap: the key, or none where the integrity value fails. -/
def keyUnwrap (kek wrapped : Octets) : Option Octets :=
  let n := wrapped.length / 8 - 1
  let rs := (List.range n).map (fun i => sliceOf wrapped (8 * (i + 1)) 8)
  let ar := ((List.range (6 * n)).map (fun j => 6 * n - j)).foldl (unwrapStep kek n) (beNat (wrapped.take 8), rs)
  if ar.1 = 0xA6A6A6A6A6A6A6A6 then some ar.2.flatten else none

/-- One forward step of RFC 3394. -/
def wrapStep (kek : Octets) (n : Nat) (ar : Nat × List Octets) (t : Nat) : Nat × List Octets :=
  let i := (t - 1) % n
  let b := aesCipher kek (beOctets 8 ar.1 ++ listGet ar.2 i [])
  (beNat (b.take 8) ^^^ t, listSet ar.2 i (b.drop 8))

/-- RFC 3394 key wrap. -/
def keyWrap (kek key : Octets) : Octets :=
  let n := key.length / 8
  let rs := (List.range n).map (fun i => sliceOf key (8 * i) 8)
  let ar := ((List.range (6 * n)).map (fun j => j + 1)).foldl (wrapStep kek n) (0xA6A6A6A6A6A6A6A6, rs)
  beOctets 8 ar.1 ++ ar.2.flatten

/-- One octet of a reflected 32-bit CRC. -/
def crcOctet (poly : Nat) (c : Nat) (b : Byte) : Nat :=
  (List.range 8).foldl (fun c _ => if c.testBit 0 then (c / 2) ^^^ poly else c / 2) (c ^^^ b.toNat)

/-- CRC-32C as R213 gives it. -/
def crc32c (l : Octets) : Nat := (l.foldl (crcOctet 0x82F63B78) 0xFFFFFFFF) ^^^ 0xFFFFFFFF

/-- CRC-32 of the Ethernet FCS (R213). -/
def crc32 (l : Octets) : Nat := (l.foldl (crcOctet 0xEDB88320) 0xFFFFFFFF) ^^^ 0xFFFFFFFF

/-- CRC-8 of R422 over octets: polynomial 0x07, initial value 0, most significant bit first. -/
def crc8 (l : Octets) : Nat :=
  l.foldl (fun c b => (List.range 8).foldl
    (fun c _ => if c.testBit 7 then (c * 2 % 256) ^^^ 7 else c * 2 % 256) (c ^^^ b.toNat)) 0

end Sys2Proof.Machine
end

