-- ==== Sys2Proof/Machine/EventTable.lean ====
section
/-! DEFINITION. The key and count arguments of every event code, classified by R415 from the event tables of all
chapters (log entry 12). -/

namespace Sys2Proof.Machine

/-- Codes, key-argument masks and count arguments (0xFF none), part 0 (R415). -/
def eventKinds0 : List (Nat × Nat × Nat) := [
  (0x0010, 7, 255), (0x0011, 3, 255), (0x0020, 3, 255), (0x0021, 1, 255),
  (0x0022, 3, 255), (0x0030, 7, 255), (0x0031, 1, 255), (0x0040, 2, 255),
  (0x0050, 3, 255), (0x0051, 1, 255), (0x0060, 4, 255), (0x0061, 0, 0),
  (0x0070, 1, 255), (0x0071, 2, 255), (0x0072, 3, 255), (0x0073, 7, 255),
  (0x0074, 1, 255), (0x1100, 3, 255), (0x1101, 3, 255), (0x1102, 1, 255),
  (0x1110, 7, 255), (0x1111, 1, 255), (0x1120, 1, 255), (0x1130, 1, 255),
  (0x1140, 5, 255), (0x1200, 1, 255), (0x1201, 3, 255), (0x1210, 5, 255),
  (0x1220, 1, 255), (0x1230, 1, 255), (0x1231, 5, 255), (0x1232, 5, 255),
  (0x1233, 1, 255), (0x1240, 7, 255), (0x1241, 7, 255), (0x1300, 3, 255)]

/-- Codes, key-argument masks and count arguments (0xFF none), part 1 (R415). -/
def eventKinds1 : List (Nat × Nat × Nat) := [
  (0x1311, 1, 255), (0x1312, 3, 255), (0x2000, 1, 255), (0x2001, 5, 255),
  (0x2002, 7, 255), (0x2003, 3, 255), (0x2010, 3, 255), (0x2011, 3, 255),
  (0x2020, 5, 1), (0x3000, 3, 255), (0x3001, 3, 255), (0x3002, 2, 255),
  (0x3003, 1, 255), (0x3004, 3, 255), (0x3005, 3, 255), (0x3006, 0, 255),
  (0x3010, 1, 255), (0x3020, 7, 255), (0x3021, 1, 255), (0x3022, 1, 255),
  (0x3030, 3, 255), (0x3100, 7, 255), (0x3102, 1, 255), (0x3103, 3, 255),
  (0x3104, 3, 2), (0x3105, 1, 255), (0x3106, 7, 255), (0x3110, 3, 255),
  (0x3111, 1, 255), (0x4000, 1, 255), (0x4001, 3, 255), (0x4010, 3, 2),
  (0x4020, 3, 255), (0x4030, 1, 255), (0x4031, 1, 255), (0x5000, 0, 255)]

/-- Codes, key-argument masks and count arguments (0xFF none), part 2 (R415). -/
def eventKinds2 : List (Nat × Nat × Nat) := [
  (0x5001, 0, 255), (0x5010, 1, 1), (0x5020, 0, 0), (0x5030, 1, 255),
  (0x5040, 1, 1), (0x5050, 1, 255), (0x6000, 3, 255), (0x6001, 1, 255),
  (0x6002, 3, 255), (0x6010, 3, 255), (0x6011, 7, 255), (0x6020, 3, 255),
  (0x6021, 3, 255), (0x6100, 5, 1), (0x6101, 1, 255), (0x6200, 5, 255),
  (0x6201, 3, 255), (0x6202, 5, 255), (0x6203, 1, 255), (0x6204, 5, 255),
  (0x6300, 3, 255), (0x6301, 4, 255), (0x7000, 3, 255), (0x7001, 2, 255),
  (0x7002, 0, 255), (0x7003, 0, 255), (0x7004, 1, 255), (0x7005, 3, 255),
  (0x7006, 0, 255), (0x7007, 0, 255), (0x7008, 1, 255), (0x7009, 0, 255),
  (0x7010, 3, 255), (0x7011, 1, 255), (0x7012, 3, 255), (0x7013, 1, 255)]

/-- Codes, key-argument masks and count arguments (0xFF none), part 3 (R415). -/
def eventKinds3 : List (Nat × Nat × Nat) := [
  (0x7014, 7, 255), (0x7015, 3, 255), (0x7016, 1, 255), (0x7020, 7, 255),
  (0x8000, 3, 255), (0x8001, 3, 255), (0x8002, 3, 255), (0x8003, 1, 255),
  (0x8004, 3, 255), (0x8005, 3, 255), (0x8011, 5, 255), (0x8012, 1, 255),
  (0x8020, 1, 255), (0x8021, 1, 255), (0x8022, 1, 255), (0x8030, 3, 255),
  (0x8040, 3, 255), (0x8050, 7, 255), (0x8051, 5, 1), (0x8052, 5, 255),
  (0x9000, 1, 255), (0x9010, 3, 255), (0x9020, 3, 255), (0x9030, 1, 255),
  (0xA000, 7, 255), (0xA001, 7, 255), (0xA002, 3, 255), (0xA003, 1, 255),
  (0xA004, 3, 2), (0xA010, 0, 255), (0xA011, 3, 2)]

/-- Every event code of the event tables (R415). -/
def eventKinds : List (Nat × Nat × Nat) := eventKinds0 ++ eventKinds1 ++ eventKinds2 ++ eventKinds3

/-- Key-argument mask and count argument of a code; application codes 0x0F00 to 0x0FFF have neither (R415). -/
def eventKind (code : Nat) : Option (Nat × Nat) :=
  if 0x0F00 ≤ code ∧ code ≤ 0x0FFF then some (0, 0xFF)
  else (eventKinds.find? (fun r => r.1 = code)).map (fun r => r.2)

end Sys2Proof.Machine
end

