-- ==== Sys2Proof/Machine/ObjectTable.lean ====
section
/-! DEFINITION. The object dictionary's rows as the spec's object tables list them (R371 to R374, R377): index,
subindices, type, access, persistence, the role a write needs, and the default; the index map's twin column (Table 14-3). -/

namespace Sys2Proof.Machine

/-- Object types of Table 14-1; `record base unit max` is a MAP of `base` octets and up to `max` entries of `unit`. -/
inductive ObjType where
  | bool
  | unsigned (octets : Nat)
  | signed (octets : Nat)
  | octets (n : Nat)
  | text (n : Nat)
  | record (base unit max : Nat)
  deriving DecidableEq, Repr

/-- Access codes of Table 14-2. -/
inductive Access where
  | ro | rw | wo | rwm | cmd
  deriving DecidableEq, Repr

/-- Persistence codes of R374. -/
inductive Persist where
  | v | p | l
  deriving DecidableEq, Repr

/-- One row of the object tables. -/
structure ObjRow where
  index : Nat
  lo : Nat
  hi : Nat
  typ : ObjType
  access : Access
  persist : Persist
  /-- Least role code a write needs (Table 14-7). -/
  role : Nat
  /-- Defaults: one for all subindices, or one for each. -/
  default : List (List Nat)
  deriving DecidableEq, Repr

/-- Object rows of indices 0x1000 to 0x1012. -/
def objRows0 : List ObjRow := [
  -- DEVICE_EUI
  ⟨0x1000, 0, 0, .octets 8, .ro, .l, 1, []⟩,
  -- PROV_GEN
  ⟨0x1001, 0, 0, .unsigned 1, .ro, .l, 1, [[0]]⟩,
  -- PRODUCT_ID
  ⟨0x1002, 0, 0, .unsigned 2, .ro, .l, 1, [[150, 64]]⟩,
  -- ORDER_CODE
  ⟨0x1003, 0, 0, .text 16, .ro, .l, 1, []⟩,
  -- VENDOR_NAME
  ⟨0x1004, 0, 0, .text 32, .ro, .l, 1, []⟩,
  -- SILICON_STEP
  ⟨0x1005, 0, 0, .unsigned 1, .ro, .l, 1, []⟩,
  -- ROM_VERSION
  ⟨0x1006, 0, 0, .unsigned 2, .ro, .l, 1, []⟩,
  -- LSF_VERSION
  ⟨0x1007, 0, 0, .unsigned 4, .ro, .v, 1, []⟩,
  -- USER_TAG
  ⟨0x1008, 0, 0, .text 64, .rw, .p, 1, [[]]⟩,
  -- DEVICE_STATE
  ⟨0x1010, 0, 0, .unsigned 1, .ro, .v, 1, []⟩,
  -- DEGRADED_CAUSES
  ⟨0x1011, 0, 0, .unsigned 4, .ro, .v, 1, [[0, 0, 0, 0]]⟩,
  -- LIFECYCLE
  ⟨0x1012, 0, 0, .unsigned 1, .ro, .l, 1, []⟩]

/-- Object rows of indices 0x1013 to 0x1112. -/
def objRows1 : List ObjRow := [
  -- MAINT_REQUEST
  ⟨0x1013, 0, 0, .bool, .rw, .p, 1, [[0]]⟩,
  -- STATE_CMD
  ⟨0x1014, 0, 0, .unsigned 1, .cmd, .v, 1, []⟩,
  -- STATE_TIME
  ⟨0x1015, 0, 0, .unsigned 8, .ro, .v, 1, []⟩,
  -- UPTIME
  ⟨0x1016, 0, 0, .unsigned 4, .ro, .v, 1, []⟩,
  -- SOP_TRANSPORTS
  ⟨0x1100, 0, 0, .unsigned 1, .rwm, .p, 2, [[31]]⟩,
  -- CAN_CFG
  ⟨0x1101, 1, 2, .record 3 0 0, .rwm, .p, 2, [[16, 0, 5], [17, 0, 5]]⟩,
  -- UDP_CFG
  ⟨0x1102, 0, 0, .record 3 0 0, .rwm, .p, 2, [[240, 201, 3]]⟩,
  -- ETH_ADDR
  ⟨0x1103, 1, 2, .record 40 0 0, .rwm, .p, 2, []⟩,
  -- SPI_MODE
  ⟨0x1104, 0, 0, .unsigned 1, .rwm, .p, 2, [[0]]⟩,
  -- SESSION_IDLE
  ⟨0x1110, 0, 0, .unsigned 4, .rw, .p, 1, [[0, 0, 1, 44]]⟩,
  -- OPERATOR_KEY_SLOT
  ⟨0x1111, 0, 0, .unsigned 1, .rwm, .p, 2, [[12]]⟩,
  -- INSTALLER_KEY_SLOT
  ⟨0x1112, 0, 0, .unsigned 1, .rwm, .p, 2, [[13]]⟩]

/-- Object rows of indices 0x1113 to 0x2105. -/
def objRows2 : List ObjRow := [
  -- INSTALLER_PUBKEY
  ⟨0x1113, 0, 0, .octets 64, .rwm, .p, 2, [List.replicate 64 0]⟩,
  -- SESSION_LIST
  ⟨0x1114, 0, 0, .record 0 1 65535, .ro, .v, 1, []⟩,
  -- SESSION_CLOSE
  ⟨0x1115, 0, 0, .unsigned 1, .cmd, .v, 2, []⟩,
  -- AUTH_FAILURES
  ⟨0x1116, 0, 0, .octets 7, .ro, .v, 1, []⟩,
  -- SOP_COUNTERS
  ⟨0x1120, 1, 7, .record 0 1 65535, .ro, .v, 1, []⟩,
  -- SOP_COUNTERS_CLEAR
  ⟨0x1121, 0, 0, .unsigned 1, .cmd, .v, 1, []⟩,
  -- RX_ENABLE
  ⟨0x2100, 1, 9, .bool, .rw, .p, 1, [[1]]⟩,
  -- LISTEN_AUTO
  ⟨0x2101, 1, 9, .bool, .rw, .p, 1, [[1]]⟩,
  -- LISTEN_SET
  ⟨0x2102, 1, 9, .record 0 4 320, .rw, .p, 1, [[]]⟩,
  -- CORR_UNITS_USED
  ⟨0x2103, 1, 9, .unsigned 2, .ro, .v, 1, []⟩,
  -- CORR_EXTENDED
  ⟨0x2104, 1, 9, .bool, .ro, .v, 1, []⟩,
  -- BIN_GRID
  ⟨0x2105, 0, 0, .record 0 1 65535, .ro, .l, 1, []⟩]

/-- Object rows of indices 0x2110 to 0x2140. -/
def objRows3 : List ObjRow := [
  -- LANE_POOL
  ⟨0x2110, 0, 0, .unsigned 1, .ro, .v, 1, []⟩,
  -- LANE_FLOOR
  ⟨0x2111, 1, 3, .unsigned 1, .ro, .v, 1, []⟩,
  -- LANES_BUSY
  ⟨0x2112, 1, 3, .unsigned 1, .ro, .v, 1, []⟩,
  -- LANES_WITHDRAWN
  ⟨0x2113, 0, 0, .octets 16, .ro, .v, 1, []⟩,
  -- LANE_TEST_PERIOD
  ⟨0x2114, 0, 0, .unsigned 2, .rw, .p, 1, [[0, 10]]⟩,
  -- MERGE_ENABLE
  ⟨0x2115, 0, 0, .bool, .rw, .p, 1, [[1]]⟩,
  -- GAIN_HEADROOM
  ⟨0x2120, 0, 0, .unsigned 1, .rw, .p, 1, [[18]]⟩,
  -- GAIN_STATE
  ⟨0x2121, 1, 25, .unsigned 1, .ro, .v, 1, []⟩,
  -- GAIN_DEFER_LIMIT
  ⟨0x2122, 0, 0, .unsigned 2, .rw, .p, 1, [[0, 100]]⟩,
  -- CAPTURE_POLICY
  ⟨0x2130, 0, 0, .unsigned 1, .rw, .p, 1, [[1]]⟩,
  -- CAPTURE_THRESHOLD
  ⟨0x2131, 0, 0, .unsigned 1, .rw, .p, 1, [[10]]⟩,
  -- DIVERSITY_MODE
  ⟨0x2140, 0, 0, .unsigned 1, .rw, .p, 1, [[0]]⟩]

/-- Object rows of indices 0x2150 to 0x2203. -/
def objRows4 : List ObjRow := [
  -- SECTOR_ISOLATION
  ⟨0x2150, 1, 2, .record 16 0 0, .rwm, .p, 2, [List.replicate 16 0]⟩,
  -- DESENSE_MARK
  ⟨0x2151, 0, 0, .unsigned 2, .ro, .v, 1, [[0, 0]]⟩,
  -- NF_SLOTFRAME
  ⟨0x2160, 0, 0, .unsigned 1, .rw, .p, 1, [[0]]⟩,
  -- NF_CURSOR
  ⟨0x2161, 0, 0, .unsigned 4, .rw, .v, 0, [[0, 0, 0, 0]]⟩,
  -- NF_WINDOW
  ⟨0x2162, 0, 0, .octets 64, .ro, .v, 1, []⟩,
  -- NF_WINDOW_ASN
  ⟨0x2163, 0, 0, .unsigned 5, .ro, .v, 1, []⟩,
  -- RX_COUNTERS
  ⟨0x2170, 1, 9, .record 0 1 65535, .ro, .v, 1, []⟩,
  -- RX_COUNTERS_CLEAR
  ⟨0x2171, 0, 0, .unsigned 1, .cmd, .v, 1, []⟩,
  -- PORT_GAIN
  ⟨0x2200, 1, 25, .signed 2, .rwm, .p, 2, [[0, 0]]⟩,
  -- PORT_LOSS
  ⟨0x2201, 1, 25, .unsigned 2, .rwm, .p, 2, [[0, 0]]⟩,
  -- TX_PORT
  ⟨0x2202, 1, 9, .unsigned 1, .rw, .p, 1, [[0]]⟩,
  -- TX_CEILING
  ⟨0x2203, 1, 25, .record 0 1 65535, .ro, .v, 1, []⟩]

/-- Object rows of indices 0x2210 to 0x2233. -/
def objRows5 : List ObjRow := [
  -- TUNER_CODE
  ⟨0x2210, 1, 25, .unsigned 2, .ro, .v, 1, []⟩,
  -- PORT_VSWR
  ⟨0x2211, 1, 25, .unsigned 2, .ro, .v, 1, []⟩,
  -- TUNER_STATUS
  ⟨0x2212, 1, 25, .unsigned 1, .ro, .v, 1, [[0]]⟩,
  -- TUNER_RESTORE
  ⟨0x2213, 1, 25, .unsigned 1, .cmd, .v, 1, []⟩,
  -- TUNER_RX_DEFAULT
  ⟨0x2214, 1, 25, .unsigned 2, .rw, .p, 1, []⟩,
  -- CAL_PERIOD
  ⟨0x2220, 0, 0, .unsigned 2, .rw, .p, 1, [[1, 44]]⟩,
  -- CAL_TEMP_STEP
  ⟨0x2221, 0, 0, .unsigned 1, .rw, .p, 1, [[4]]⟩,
  -- CAL_MAX_WAIT
  ⟨0x2222, 0, 0, .unsigned 2, .rw, .p, 1, [[0, 10]]⟩,
  -- XPA_ENABLE
  ⟨0x2230, 1, 4, .bool, .rwm, .p, 2, [[0]]⟩,
  -- XPA_TABLE
  ⟨0x2231, 1, 4, .record 0 8 8, .rwm, .p, 2, [[]]⟩,
  -- XPA_DET_TOL
  ⟨0x2232, 1, 4, .unsigned 1, .rw, .p, 1, [[8]]⟩,
  -- XPA_DET
  ⟨0x2233, 1, 4, .unsigned 2, .ro, .v, 1, []⟩]

/-- Object rows of indices 0x2240 to 0x3011. -/
def objRows6 : List ObjRow := [
  -- COEX_MAP
  ⟨0x2240, 1, 4, .unsigned 2, .rwm, .p, 2, [[0, 0]]⟩,
  -- COEX_CFG
  ⟨0x2241, 1, 4, .unsigned 1, .rwm, .p, 2, [[8]]⟩,
  -- REGION_PROFILE
  ⟨0x2300, 0, 0, .record 556 0 0, .rwm, .l, 2, []⟩,
  -- REGION_COMMISSION
  ⟨0x2301, 0, 0, .unsigned 1, .cmd, .v, 1, []⟩,
  -- REGION_RECOMMISSION
  ⟨0x2302, 0, 0, .octets 632, .cmd, .v, 1, []⟩,
  -- REGION_COUNTER
  ⟨0x2303, 0, 0, .unsigned 4, .ro, .l, 1, [[0, 0, 0, 0]]⟩,
  -- REGION_LOCKED
  ⟨0x2304, 0, 0, .bool, .ro, .l, 1, [[0]]⟩,
  -- TX_COUNTERS
  ⟨0x2310, 1, 9, .record 0 1 65535, .ro, .v, 1, []⟩,
  -- TX_COUNTERS_CLEAR
  ⟨0x2311, 0, 0, .unsigned 1, .cmd, .v, 1, []⟩,
  -- WENRAM_OUI
  ⟨0x3001, 0, 0, .octets 3, .ro, .l, 1, []⟩,
  -- MODE_LIST
  ⟨0x3010, 1, 9, .octets 16, .rw, .p, 1, [[18, 17, 64, 0, 0, 0, 0, 0, 0, 0, 0, 0, 0, 0, 0, 0], [18, 17, 64, 0, 0, 0, 0, 0, 0, 0, 0, 0, 0, 0, 0, 0], [18, 17, 64, 0, 0, 0, 0, 0, 0, 0, 0, 0, 0, 0, 0, 0], [18, 17, 64, 0, 0, 0, 0, 0, 0, 0, 0, 0, 0, 0, 0, 0], [32, 64, 0, 0, 0, 0, 0, 0, 0, 0, 0, 0, 0, 0, 0, 0], [32, 64, 0, 0, 0, 0, 0, 0, 0, 0, 0, 0, 0, 0, 0, 0], [32, 64, 0, 0, 0, 0, 0, 0, 0, 0, 0, 0, 0, 0, 0, 0], [32, 64, 0, 0, 0, 0, 0, 0, 0, 0, 0, 0, 0, 0, 0, 0], [1, 0, 0, 0, 0, 0, 0, 0, 0, 0, 0, 0, 0, 0, 0, 0]]⟩,
  -- FSK_FEC_SCHEME
  ⟨0x3011, 1, 2, .unsigned 1, .rw, .p, 1, [[1]]⟩]

/-- Object rows of indices 0x3012 to 0x3034. -/
def objRows7 : List ObjRow := [
  -- FSK_FEC_INTERLEAVE
  ⟨0x3012, 1, 2, .bool, .rw, .p, 1, [[1]]⟩,
  -- TX_PREAMBLE
  ⟨0x3013, 1, 2, .unsigned 1, .rw, .p, 1, [[8]]⟩,
  -- TX_MASK_SET
  ⟨0x3020, 1, 3, .unsigned 1, .rw, .p, 1, []⟩,
  -- TX_MASK_COEF
  ⟨0x3021, 1, 3, .record 128 0 0, .rwm, .p, 2, [List.replicate 128 0]⟩,
  -- TX_MASK_POINTS
  ⟨0x3022, 1, 3, .record 0 1 65535, .ro, .l, 1, []⟩,
  -- TX_MASK_STATUS
  ⟨0x3023, 1, 9, .unsigned 1, .ro, .v, 1, [[0]]⟩,
  -- OFDM_WINDOW
  ⟨0x3024, 0, 0, .unsigned 1, .rw, .p, 1, [[6]]⟩,
  -- BL_ENABLE
  ⟨0x3030, 0, 0, .bool, .rw, .p, 1, [[1]]⟩,
  -- BL_MARGIN
  ⟨0x3031, 0, 0, .unsigned 1, .rw, .p, 1, [[12]]⟩,
  -- BL_HYST
  ⟨0x3032, 0, 0, .unsigned 1, .rw, .p, 1, [[6]]⟩,
  -- BL_THRESH
  ⟨0x3033, 0, 0, .record 16 0 0, .rw, .p, 1, [[0, 12, 0, 24, 0, 48, 0, 72, 0, 22, 0, 34, 0, 60, 0, 84]]⟩,
  -- BL_MCS_THRESH
  ⟨0x3034, 0, 0, .record 8 0 0, .rw, .p, 1, [[255, 252, 0, 6, 0, 18, 0, 30]]⟩]

/-- Object rows of indices 0x3035 to 0x4000. -/
def objRows8 : List ObjRow := [
  -- BL_WINDOW
  ⟨0x3035, 0, 0, .unsigned 1, .rw, .p, 1, [[16]]⟩,
  -- BL_MIN_FRAMES
  ⟨0x3036, 0, 0, .unsigned 1, .rw, .p, 1, [[4]]⟩,
  -- BL_MAX_BITS
  ⟨0x3037, 0, 0, .unsigned 1, .rw, .p, 1, [[6]]⟩,
  -- BL_RATES
  ⟨0x3038, 0, 0, .unsigned 1, .rw, .p, 1, [[3]]⟩,
  -- BL_ACTIVATE_SLOTS
  ⟨0x3039, 0, 0, .unsigned 2, .rw, .p, 1, [[0, 0]]⟩,
  -- BL_LINKS_USED
  ⟨0x303A, 0, 0, .unsigned 2, .ro, .v, 1, [[0, 0]]⟩,
  -- BL_LINK_CURSOR
  ⟨0x303B, 0, 0, .unsigned 4, .rw, .v, 0, [[0, 0, 0, 0]]⟩,
  -- BL_LINK_VIEW
  ⟨0x303C, 0, 0, .octets 96, .ro, .v, 1, []⟩,
  -- BL_RECOMPUTE
  ⟨0x303D, 0, 0, .unsigned 1, .ro, .v, 1, [[1]]⟩,
  -- MODEM_COUNTERS
  ⟨0x3040, 1, 9, .record 0 1 65535, .ro, .v, 1, []⟩,
  -- MODEM_COUNTERS_CLEAR
  ⟨0x3041, 0, 0, .unsigned 1, .cmd, .v, 1, []⟩,
  -- DOMAIN_TIME
  ⟨0x4000, 0, 0, .unsigned 8, .ro, .v, 1, []⟩]

/-- Object rows of indices 0x4001 to 0x4018. -/
def objRows9 : List ObjRow := [
  -- ASN_EPOCH
  ⟨0x4001, 0, 0, .unsigned 8, .rwm, .p, 2, [[0, 0, 0, 0, 0, 0, 0, 0]]⟩,
  -- ASN_NOW
  ⟨0x4002, 1, 3, .unsigned 5, .ro, .v, 1, []⟩,
  -- SLOT_TEMPLATE
  ⟨0x4003, 1, 3, .record 36 0 0, .rwm, .p, 2, [[0, 0, 39, 16, 0, 0, 8, 72, 0, 0, 3, 252, 0, 0, 8, 152, 0, 0, 3, 232, 0, 0, 3, 32, 0, 0, 1, 144, 0, 0, 16, 160, 0, 0, 9, 96]]⟩,
  -- TIME_SOURCES
  ⟨0x4010, 0, 0, .record 0 12 4, .rw, .p, 1, [[]]⟩,
  -- TIME_SOURCE_ACTIVE
  ⟨0x4011, 0, 0, .unsigned 1, .ro, .v, 1, [[255]]⟩,
  -- TIME_STATUS
  ⟨0x4012, 0, 0, .record 0 1 65535, .ro, .v, 1, []⟩,
  -- TIME_ROOT
  ⟨0x4013, 0, 0, .bool, .rwm, .p, 2, [[0]]⟩,
  -- TIME_GUARD_BASE
  ⟨0x4014, 0, 0, .unsigned 2, .rw, .p, 1, [[1, 44]]⟩,
  -- TIME_SLEW_MAX
  ⟨0x4015, 0, 0, .unsigned 2, .rw, .p, 1, [[0, 100]]⟩,
  -- TIME_DRIFT_FLOOR
  ⟨0x4016, 0, 0, .unsigned 2, .rw, .p, 1, [[0, 50]]⟩,
  -- PTP_CFG
  ⟨0x4017, 0, 0, .record 4 0 0, .rw, .p, 1, [[0, 1, 0, 253]]⟩,
  -- TIME_OUTLIER
  ⟨0x4018, 0, 0, .unsigned 2, .rw, .p, 1, [[0, 50]]⟩]

/-- Object rows of indices 0x4019 to 0x4115. -/
def objRows10 : List ObjRow := [
  -- PPS_CFG
  ⟨0x4019, 0, 0, .record 9 0 0, .rw, .p, 1, [[1, 0, 100, 0, 0, 0, 0, 7, 208]]⟩,
  -- HOP_SEQ_L
  ⟨0x4020, 1, 16, .record 2 2 256, .rw, .p, 1, [[0, 0]]⟩,
  -- HOP_SEQ_M
  ⟨0x4021, 1, 16, .record 2 2 256, .rw, .p, 1, [[0, 0]]⟩,
  -- HOP_SEQ_H
  ⟨0x4022, 1, 16, .record 2 2 256, .rw, .p, 1, []⟩,
  -- SLOTFRAME
  ⟨0x4100, 1, 16, .record 3 0 0, .rw, .p, 1, [[0, 0, 0]]⟩,
  -- MINIMAL_AUTO
  ⟨0x4102, 0, 0, .bool, .rw, .p, 1, [[1]]⟩,
  -- SCHED_CELL_INDEX
  ⟨0x4110, 0, 0, .unsigned 4, .rw, .v, 1, [[0, 0, 0, 0]]⟩,
  -- SCHED_CELL_DATA
  ⟨0x4111, 0, 0, .octets 16, .rw, .v, 1, [List.replicate 16 0]⟩,
  -- SCHED_CELL_CMD
  ⟨0x4112, 0, 0, .unsigned 1, .cmd, .v, 1, []⟩,
  -- SCHED_CELL_STATUS
  ⟨0x4113, 0, 0, .unsigned 1, .ro, .v, 1, [[0]]⟩,
  -- SCHED_EFFECTIVE_ASN
  ⟨0x4114, 0, 0, .unsigned 5, .ro, .v, 1, []⟩,
  -- SCHED_CELLS_USED
  ⟨0x4115, 0, 0, .unsigned 4, .ro, .v, 1, [[0, 0, 0, 0]]⟩]

/-- Object rows of indices 0x4116 to 0x4203. -/
def objRows11 : List ObjRow := [
  -- SCHED_CELL_BLOCK
  ⟨0x4116, 0, 0, .octets 1024, .rw, .v, 1, []⟩,
  -- EB_PERIOD
  ⟨0x4120, 0, 0, .unsigned 2, .rw, .p, 1, [[0, 16]]⟩,
  -- SECTOR_SERVICE
  ⟨0x4140, 1, 9, .unsigned 1, .rw, .v, 1, [[0]]⟩,
  -- SERVICE_STATE
  ⟨0x4141, 1, 9, .unsigned 1, .ro, .v, 1, [[0]]⟩,
  -- MIGRATE_MAP
  ⟨0x4142, 1, 9, .octets 4, .rw, .p, 1, [[0, 0, 0, 0]]⟩,
  -- MIGRATE_PREFER_TWIN
  ⟨0x4143, 0, 0, .bool, .rw, .p, 1, [[0]]⟩,
  -- SCHED_COUNTERS
  ⟨0x4150, 1, 9, .record 0 1 65535, .ro, .v, 1, []⟩,
  -- SCHED_COUNTERS_CLEAR
  ⟨0x4151, 0, 0, .unsigned 1, .cmd, .v, 1, []⟩,
  -- MESH_EUI
  ⟨0x4200, 0, 0, .octets 8, .ro, .v, 1, []⟩,
  -- PAN_ID
  ⟨0x4201, 0, 0, .unsigned 2, .rwm, .p, 2, [[0, 0]]⟩,
  -- LINK_SEC_LEVEL
  ⟨0x4202, 0, 0, .unsigned 1, .rw, .p, 1, [[5]]⟩,
  -- MESH_SHORT
  ⟨0x4203, 0, 0, .unsigned 2, .ro, .v, 1, []⟩]

/-- Object rows of indices 0x4204 to 0x4221. -/
def objRows12 : List ObjRow := [
  -- LINK_MAX_RETRIES
  ⟨0x4204, 1, 8, .unsigned 1, .rw, .p, 1, [[3], [3], [7], [4], [3], [3], [3], [1]]⟩,
  -- CSMA_BE
  ⟨0x4205, 0, 0, .record 2 0 0, .rw, .p, 1, [[1, 5]]⟩,
  -- NET_FC
  ⟨0x4206, 0, 0, .unsigned 4, .ro, .v, 1, []⟩,
  -- JOIN_ENABLE
  ⟨0x4210, 0, 0, .bool, .rw, .p, 1, [[1]]⟩,
  -- JOIN_POLICY
  ⟨0x4211, 0, 0, .unsigned 1, .rw, .p, 1, [[0]]⟩,
  -- JOIN_CONFIRM_WINDOW
  ⟨0x4212, 0, 0, .unsigned 2, .rw, .p, 1, [[0, 30]]⟩,
  -- JOIN_APPROVE
  ⟨0x4213, 0, 0, .record 5 0 0, .cmd, .v, 1, []⟩,
  -- NODE_TIMEOUT
  ⟨0x4214, 0, 0, .unsigned 4, .rw, .p, 1, [[0, 0, 28, 32]]⟩,
  -- NODE_DEPART
  ⟨0x4215, 0, 0, .unsigned 4, .cmd, .v, 1, []⟩,
  -- NODES_JOINED
  ⟨0x4216, 0, 0, .unsigned 4, .ro, .v, 1, [[0, 0, 0, 0]]⟩,
  -- NODE_CURSOR
  ⟨0x4220, 0, 0, .unsigned 4, .rw, .v, 0, [[0, 0, 0, 0]]⟩,
  -- NODE_VIEW
  ⟨0x4221, 0, 0, .octets 64, .ro, .v, 1, []⟩]

/-- Object rows of indices 0x4222 to 0x4802. -/
def objRows13 : List ObjRow := [
  -- NODE_LOOKUP
  ⟨0x4222, 0, 0, .octets 8, .cmd, .v, 0, []⟩,
  -- PEER_PORTS
  ⟨0x4230, 0, 0, .unsigned 1, .rwm, .p, 2, [[7]]⟩,
  -- PEER_UDP_PORT
  ⟨0x4231, 0, 0, .unsigned 2, .rwm, .p, 2, [[240, 200]]⟩,
  -- PEER_GROUP
  ⟨0x4232, 0, 0, .octets 16, .rwm, .p, 2, [[255, 18, 0, 0, 0, 0, 0, 0, 0, 0, 0, 0, 0, 0, 76, 57]]⟩,
  -- PEER_COUNT
  ⟨0x4233, 0, 0, .unsigned 2, .ro, .v, 1, [[0, 0]]⟩,
  -- PEER_CURSOR
  ⟨0x4234, 0, 0, .unsigned 2, .rw, .v, 0, [[0, 0]]⟩,
  -- PEER_VIEW
  ⟨0x4235, 0, 0, .octets 68, .ro, .v, 1, []⟩,
  -- LINK_COUNTERS
  ⟨0x4240, 1, 9, .record 0 1 65535, .ro, .v, 1, []⟩,
  -- LINK_COUNTERS_CLEAR
  ⟨0x4241, 0, 0, .unsigned 1, .cmd, .v, 1, []⟩,
  -- DUTY_RESERVE
  ⟨0x4800, 0, 0, .record 6 0 0, .rw, .p, 1, [[0, 50, 0, 20, 0, 100]]⟩,
  -- DUTY_USED
  ⟨0x4801, 1, 24, .unsigned 4, .ro, .v, 1, [[0, 0, 0, 0]]⟩,
  -- DUTY_LIMIT
  ⟨0x4802, 1, 24, .unsigned 4, .ro, .l, 1, []⟩]

/-- Object rows of indices 0x4803 to 0x5032. -/
def objRows14 : List ObjRow := [
  -- DWELL_MAX
  ⟨0x4803, 0, 0, .unsigned 2, .ro, .v, 1, [[0, 0]]⟩,
  -- CLASS_OF_DSCP
  ⟨0x5000, 0, 0, .octets 64, .rw, .p, 1, [[4, 4, 4, 4, 4, 4, 4, 4, 7, 4, 5, 4, 5, 4, 5, 4, 6, 4, 4, 4, 4, 4, 4, 4, 4, 4, 4, 4, 4, 4, 4, 4, 4, 4, 3, 4, 3, 4, 3, 4, 1, 4, 4, 4, 4, 4, 2, 4, 0, 4, 4, 4, 4, 4, 4, 4, 0, 4, 4, 4, 4, 4, 4, 4]]⟩,
  -- DSCP_OF_CLASS
  ⟨0x5001, 0, 0, .octets 8, .rw, .p, 1, [[48, 40, 46, 34, 26, 10, 16, 8]]⟩,
  -- DSCP_REWRITE
  ⟨0x5002, 0, 0, .bool, .rw, .p, 1, [[0]]⟩,
  -- QUEUE_LIFETIME
  ⟨0x5010, 1, 8, .unsigned 4, .rw, .p, 1, [[0, 0, 39, 16], [0, 0, 117, 48], [0, 0, 19, 136], [0, 0, 234, 96], [0, 9, 39, 192], [0, 0, 0, 0], [0, 0, 234, 96], [0, 54, 238, 128]]⟩,
  -- NODE_QUEUE_DEPTH
  ⟨0x5011, 0, 0, .unsigned 1, .rw, .p, 1, [[16]]⟩,
  -- POOL_RESERVE
  ⟨0x5020, 1, 8, .unsigned 4, .rw, .p, 1, [[0, 0, 64, 0], [0, 0, 64, 0], [0, 0, 128, 0], [0, 0, 0, 0], [0, 0, 0, 0], [0, 0, 0, 0], [0, 0, 0, 0], [0, 0, 0, 0]]⟩,
  -- POOL_SHARE_MAX
  ⟨0x5021, 1, 8, .unsigned 1, .rw, .p, 1, [[100], [100], [100], [90], [90], [50], [50], [25]]⟩,
  -- POOL_STATUS
  ⟨0x5022, 0, 0, .record 0 1 65535, .ro, .v, 1, []⟩,
  -- BURST_LIMIT
  ⟨0x5030, 1, 7, .record 32 0 0, .rw, .p, 1, [[0, 1, 0, 0, 0, 1, 0, 0, 0, 1, 0, 0, 0, 1, 0, 0, 0, 1, 0, 0, 0, 1, 0, 0, 0, 1, 0, 0, 0, 1, 0, 0]]⟩,
  -- CUT_THROUGH
  ⟨0x5031, 1, 6, .bool, .rw, .p, 1, [[1]]⟩,
  -- BURST_FREE
  ⟨0x5032, 0, 0, .unsigned 2, .ro, .v, 1, [[32, 0]]⟩]

/-- Object rows of indices 0x5100 to 0x5140. -/
def objRows15 : List ObjRow := [
  -- SHAPER_CURSOR
  ⟨0x5100, 0, 0, .unsigned 2, .rw, .v, 0, [[0, 0]]⟩,
  -- SHAPER_CFG
  ⟨0x5101, 0, 0, .record 20 0 0, .rw, .p, 1, [List.replicate 20 0]⟩,
  -- SHAPER_STATE
  ⟨0x5102, 0, 0, .record 0 1 65535, .ro, .v, 1, []⟩,
  -- SHAPER_ASSIGN
  ⟨0x5110, 0, 0, .record 256 0 0, .rw, .p, 1, [List.replicate 256 255]⟩,
  -- SHAPER_OVH
  ⟨0x5111, 0, 0, .record 0 6 64, .rw, .p, 1, []⟩,
  -- PORT_OVH
  ⟨0x5112, 0, 0, .record 14 0 0, .rw, .p, 1, [[0, 20, 0, 20, 0, 0, 0, 0, 0, 0, 0, 0, 0, 0]]⟩,
  -- GATE_AIR
  ⟨0x5120, 1, 9, .record 4 4 8, .rw, .p, 1, [[0, 0, 0, 0]]⟩,
  -- GATE_ETH
  ⟨0x5121, 1, 2, .record 16 8 16, .rw, .p, 1, [List.replicate 16 0]⟩,
  -- QUEUE_CURSOR
  ⟨0x5130, 0, 0, .unsigned 4, .rw, .v, 0, [[0, 0, 0, 0]]⟩,
  -- QUEUE_VIEW
  ⟨0x5131, 0, 0, .octets 16, .ro, .v, 1, []⟩,
  -- QUEUE_FLUSH
  ⟨0x5132, 0, 0, .unsigned 4, .cmd, .v, 1, []⟩,
  -- QUEUE_COUNTERS
  ⟨0x5140, 1, 16, .record 0 1 65535, .ro, .v, 1, []⟩]

/-- Object rows of indices 0x5141 to 0x6022. -/
def objRows16 : List ObjRow := [
  -- QUEUE_COUNTERS_CLEAR
  ⟨0x5141, 0, 0, .unsigned 1, .cmd, .v, 1, []⟩,
  -- MESH_PREFIX
  ⟨0x6000, 0, 0, .octets 8, .rwm, .p, 2, [[0, 0, 0, 0, 0, 0, 0, 0]]⟩,
  -- MESH_MTU
  ⟨0x6001, 0, 0, .unsigned 2, .rw, .p, 1, [[5, 0]]⟩,
  -- REASM_TIMEOUT
  ⟨0x6002, 0, 0, .unsigned 1, .rw, .p, 1, [[10]]⟩,
  -- REASM_USED
  ⟨0x6003, 0, 0, .unsigned 2, .ro, .v, 1, [[0, 0]]⟩,
  -- RPL_MODE
  ⟨0x6010, 0, 0, .unsigned 1, .rwm, .p, 2, [[1]]⟩,
  -- RPL_INSTANCE
  ⟨0x6011, 0, 0, .unsigned 1, .rwm, .p, 2, [[0]]⟩,
  -- RPL_TRICKLE
  ⟨0x6012, 0, 0, .record 3 0 0, .rw, .p, 1, [[12, 8, 10]]⟩,
  -- RPL_MAX_DEPTH
  ⟨0x6013, 0, 0, .unsigned 1, .rw, .p, 1, [[8]]⟩,
  -- TABLE_CMD
  ⟨0x6020, 0, 0, .unsigned 1, .cmd, .v, 0, []⟩,
  -- TABLE_KEY
  ⟨0x6021, 0, 0, .octets 16, .rw, .v, 0, [List.replicate 16 0]⟩,
  -- TABLE_DATA
  ⟨0x6022, 0, 0, .octets 32, .rw, .v, 0, [List.replicate 32 0]⟩]

/-- Object rows of indices 0x6023 to 0x6050. -/
def objRows17 : List ObjRow := [
  -- TABLE_LOC
  ⟨0x6023, 0, 0, .unsigned 4, .rw, .v, 0, [[0, 0, 0, 0]]⟩,
  -- TABLE_STATUS
  ⟨0x6024, 0, 0, .unsigned 1, .ro, .v, 1, [[0]]⟩,
  -- TABLE_ENTRIES
  ⟨0x6025, 0, 0, .unsigned 4, .ro, .v, 1, [[0, 0, 0, 0]]⟩,
  -- STASH_USED
  ⟨0x6026, 0, 0, .unsigned 1, .ro, .v, 1, [[0]]⟩,
  -- LEARN_ENABLE
  ⟨0x6030, 0, 0, .bool, .rw, .p, 1, [[1]]⟩,
  -- LEARN_RATE
  ⟨0x6031, 1, 10, .unsigned 2, .rw, .p, 1, [[0, 64]]⟩,
  -- SWEEP_PERIOD
  ⟨0x6032, 0, 0, .unsigned 4, .rw, .p, 1, [[0, 0, 2, 88]]⟩,
  -- SWEEP_STATUS
  ⟨0x6033, 0, 0, .record 0 1 65535, .ro, .v, 1, []⟩,
  -- ROUTES_USED
  ⟨0x6040, 0, 0, .unsigned 4, .ro, .v, 1, [[0, 0, 0, 0]]⟩,
  -- TRIE_NODES_FREE
  ⟨0x6041, 0, 0, .record 0 1 65535, .ro, .v, 1, []⟩,
  -- DEFAULT_NH
  ⟨0x6042, 0, 0, .unsigned 2, .rw, .p, 1, [[255, 255]]⟩,
  -- SHADOW_INTERVAL
  ⟨0x6050, 0, 0, .unsigned 2, .rw, .p, 1, [[16, 0]]⟩]

/-- Object rows of indices 0x6060 to 0x7050. -/
def objRows18 : List ObjRow := [
  -- FWD_COUNTERS
  ⟨0x6060, 0, 0, .record 0 1 65535, .ro, .v, 1, []⟩,
  -- FWD_COUNTERS_CLEAR
  ⟨0x6061, 0, 0, .unsigned 1, .cmd, .v, 1, []⟩,
  -- CE_STATE
  ⟨0x7000, 1, 2, .unsigned 1, .ro, .v, 1, [[0]]⟩,
  -- CE_SELFTEST_PERIOD
  ⟨0x7001, 0, 0, .unsigned 2, .rw, .p, 1, [[0, 60]]⟩,
  -- CE_SELFTEST_NOW
  ⟨0x7002, 0, 0, .unsigned 1, .cmd, .v, 1, []⟩,
  -- CT_PATHS
  ⟨0x7010, 0, 0, .unsigned 1, .rw, .p, 1, [[7]]⟩,
  -- CT_MIN_LEN
  ⟨0x7011, 0, 0, .unsigned 2, .rw, .p, 1, [[1, 1]]⟩,
  -- CE_LOAD
  ⟨0x7020, 1, 2, .record 0 1 65535, .ro, .v, 1, []⟩,
  -- MACSEC_CFG
  ⟨0x7040, 1, 2, .record 13 0 0, .rwm, .p, 2, [List.replicate 13 0]⟩,
  -- MACSEC_SA
  ⟨0x7041, 1, 2, .record 16 0 0, .rw, .p, 1, [List.replicate 16 0]⟩,
  -- MACSEC_PN_WARN
  ⟨0x7042, 0, 0, .unsigned 4, .rw, .p, 1, [[240, 0, 0, 0]]⟩,
  -- CE_COUNTERS
  ⟨0x7050, 1, 2, .record 0 1 65535, .ro, .v, 1, []⟩]

/-- Object rows of indices 0x7051 to 0x7123. -/
def objRows19 : List ObjRow := [
  -- CE_COUNTERS_CLEAR
  ⟨0x7051, 0, 0, .unsigned 1, .cmd, .v, 1, []⟩,
  -- KEY_UPDATE
  ⟨0x7100, 0, 0, .octets 71, .cmd, .v, 1, []⟩,
  -- KEY_UPDATE_STATUS
  ⟨0x7101, 0, 0, .unsigned 1, .ro, .v, 1, [[0]]⟩,
  -- KEY_SLOT_INFO
  ⟨0x7102, 1, 64, .octets 16, .ro, .v, 1, []⟩,
  -- SEED_MODE
  ⟨0x7103, 0, 0, .unsigned 1, .rwm, .p, 2, [[0]]⟩,
  -- SINGLE_KEY_PREFIX
  ⟨0x7104, 0, 0, .record 0 9 16, .rwm, .p, 2, [[]]⟩,
  -- KEY_CACHE_STATUS
  ⟨0x7110, 0, 0, .record 0 1 65535, .ro, .v, 1, []⟩,
  -- KEY_CACHE_FLUSH
  ⟨0x7111, 0, 0, .unsigned 1, .cmd, .v, 1, []⟩,
  -- TAMPER_ENABLE
  ⟨0x7120, 0, 0, .unsigned 2, .rwm, .p, 2, [[0, 252]]⟩,
  -- TAMPER_CFG
  ⟨0x7121, 0, 0, .record 3 0 0, .rwm, .p, 2, [[0, 0, 4]]⟩,
  -- TAMPER_STATUS
  ⟨0x7122, 0, 0, .record 0 1 65535, .ro, .v, 1, []⟩,
  -- TAMPER_LOG
  ⟨0x7123, 0, 0, .octets 64, .ro, .v, 1, []⟩]

/-- Object rows of indices 0x7124 to 0x8021. -/
def objRows20 : List ObjRow := [
  -- ZEROIZE_CMD
  ⟨0x7124, 0, 0, .unsigned 1, .cmd, .v, 1, []⟩,
  -- KM_COUNTERS
  ⟨0x7130, 0, 0, .record 0 1 65535, .ro, .v, 1, []⟩,
  -- BOOT_STATUS
  ⟨0x8000, 0, 0, .record 0 1 65535, .ro, .v, 1, []⟩,
  -- BANK_INFO
  ⟨0x8001, 1, 2, .record 0 1 65535, .ro, .v, 1, []⟩,
  -- BANK_CMD
  ⟨0x8002, 0, 0, .unsigned 1, .cmd, .v, 1, []⟩,
  -- BANK_TRIAL_TIME
  ⟨0x8003, 0, 0, .unsigned 4, .rw, .p, 1, [[0, 0, 2, 88]]⟩,
  -- UPDATE_OFFSET
  ⟨0x8010, 0, 0, .unsigned 4, .rw, .v, 1, [[0, 0, 0, 0]]⟩,
  -- UPDATE_DATA
  ⟨0x8011, 0, 0, .octets 4096, .wo, .v, 1, []⟩,
  -- UPDATE_CMD
  ⟨0x8012, 0, 0, .unsigned 1, .cmd, .v, 1, []⟩,
  -- UPDATE_STATUS
  ⟨0x8013, 0, 0, .record 0 1 65535, .ro, .v, 1, []⟩,
  -- CONFIG_STATUS
  ⟨0x8020, 0, 0, .record 0 1 65535, .ro, .v, 1, []⟩,
  -- CONFIG_SELECT
  ⟨0x8021, 0, 0, .unsigned 1, .cmd, .v, 2, []⟩]

/-- Object rows of indices 0x8022 to 0x9000. -/
def objRows21 : List ObjRow := [
  -- OWNER_APP_KEY
  ⟨0x8022, 0, 0, .octets 64, .rwm, .p, 2, [List.replicate 64 0]⟩,
  -- STAGE_MANIFEST
  ⟨0x8030, 1, 8, .record 56 0 0, .rw, .v, 1, [List.replicate 56 0]⟩,
  -- STAGE_OFFSET
  ⟨0x8031, 1, 8, .unsigned 4, .rw, .v, 1, [[0, 0, 0, 0]]⟩,
  -- STAGE_DATA
  ⟨0x8032, 1, 8, .octets 4096, .wo, .v, 1, []⟩,
  -- STAGE_CMD
  ⟨0x8033, 1, 8, .unsigned 1, .cmd, .v, 1, []⟩,
  -- STAGE_STATUS
  ⟨0x8034, 1, 8, .unsigned 1, .ro, .v, 1, [[0]]⟩,
  -- CAMPAIGN_CFG
  ⟨0x8040, 1, 8, .record 96 0 0, .rw, .v, 1, [List.replicate 96 0]⟩,
  -- CAMPAIGN_CMD
  ⟨0x8041, 1, 8, .unsigned 1, .cmd, .v, 1, []⟩,
  -- CAMPAIGN_STATUS
  ⟨0x8042, 1, 8, .record 0 1 65535, .ro, .v, 1, []⟩,
  -- CAMPAIGN_NODE
  ⟨0x8043, 0, 0, .unsigned 4, .rw, .v, 1, [[0, 0, 0, 0]]⟩,
  -- CAMPAIGN_NODE_VIEW
  ⟨0x8044, 0, 0, .octets 4, .ro, .v, 1, []⟩,
  -- CHIP_INDEX
  ⟨0x9000, 0, 0, .unsigned 2, .rwm, .p, 2, [[255, 255]]⟩]

/-- Object rows of indices 0x9001 to 0x9011. -/
def objRows22 : List ObjRow := [
  -- PAIR_CFG
  ⟨0x9001, 0, 0, .record 10 0 0, .rwm, .p, 2, [[0, 0, 0, 0, 0, 0, 0, 0, 255, 255]]⟩,
  -- TWIN_PARTNER
  ⟨0x9002, 0, 0, .octets 8, .rw, .p, 2, [[0, 0, 0, 0, 0, 0, 0, 0]]⟩,
  -- DEN_CFG
  ⟨0x9003, 0, 0, .record 5 0 0, .rwm, .p, 2, [[255, 255, 255, 255, 255]]⟩,
  -- ROLE_PREF
  ⟨0x9004, 0, 0, .bool, .ro, .v, 1, []⟩,
  -- TWIN_STATUS
  ⟨0x9005, 0, 0, .record 0 1 65535, .ro, .v, 1, []⟩,
  -- TWIN_SWAP_PERIOD
  ⟨0x9006, 0, 0, .unsigned 4, .rw, .p, 1, [[0, 1, 81, 128]]⟩,
  -- TWIN_SWAP_NOW
  ⟨0x9007, 0, 0, .unsigned 1, .cmd, .v, 1, []⟩,
  -- TWIN_DIGEST_SF
  ⟨0x9008, 0, 0, .unsigned 1, .rw, .p, 1, [[0]]⟩,
  -- TWIN_RESYNC
  ⟨0x9009, 0, 0, .unsigned 1, .cmd, .v, 1, []⟩,
  -- TWIN_PAIR_MAC
  ⟨0x900A, 1, 2, .octets 6, .rwm, .p, 2, [[0, 0, 0, 0, 0, 0]]⟩,
  -- SETT_PORT_CFG
  ⟨0x9010, 1, 4, .unsigned 1, .rwm, .p, 2, [[1]]⟩,
  -- SETT_PORT_STATUS
  ⟨0x9011, 1, 4, .record 0 1 65535, .ro, .v, 1, []⟩]

/-- Object rows of indices 0x9012 to 0xA005. -/
def objRows23 : List ObjRow := [
  -- RING_STATUS
  ⟨0x9012, 0, 0, .record 0 1 65535, .ro, .v, 1, []⟩,
  -- SEQ_RESTART
  ⟨0x9013, 0, 0, .unsigned 1, .cmd, .v, 1, []⟩,
  -- DRAM_SCRUB_PERIOD
  ⟨0x9014, 0, 0, .unsigned 4, .rw, .p, 1, [[0, 1, 81, 128]]⟩,
  -- ECC_RATE_LIMIT
  ⟨0x9015, 0, 0, .unsigned 2, .rw, .p, 1, [[0, 100]]⟩,
  -- SETT_COUNTERS
  ⟨0x9020, 1, 4, .record 0 1 65535, .ro, .v, 1, []⟩,
  -- SETT_COUNTERS_CLEAR
  ⟨0x9021, 0, 0, .unsigned 1, .cmd, .v, 1, []⟩,
  -- EVT_STATUS
  ⟨0xA000, 0, 0, .record 0 1 65535, .ro, .v, 1, []⟩,
  -- EVT_CURSOR
  ⟨0xA001, 0, 0, .unsigned 4, .rw, .v, 0, [[0, 0, 0, 0]]⟩,
  -- EVT_WINDOW
  ⟨0xA002, 0, 0, .octets 264, .ro, .v, 1, []⟩,
  -- EVT_MARK
  ⟨0xA003, 0, 0, .unsigned 4, .rw, .v, 0, [[0, 0, 0, 0]]⟩,
  -- EVT_REWIND
  ⟨0xA004, 0, 0, .unsigned 1, .cmd, .v, 0, []⟩,
  -- EVT_MARK_STATUS
  ⟨0xA005, 0, 0, .record 0 1 65535, .ro, .v, 1, []⟩]

/-- Object rows of indices 0xA006 to 0xA202. -/
def objRows24 : List ObjRow := [
  -- EVT_CLEAR
  ⟨0xA006, 0, 0, .unsigned 1, .cmd, .v, 1, []⟩,
  -- EVT_COALESCE
  ⟨0xA007, 0, 0, .unsigned 2, .rw, .p, 1, [[3, 232]]⟩,
  -- EVT_MIN_SEVERITY
  ⟨0xA008, 0, 0, .unsigned 1, .rw, .p, 1, [[7]]⟩,
  -- EVT_CODE_CURSOR
  ⟨0xA009, 0, 0, .unsigned 2, .rw, .v, 0, [[0, 0]]⟩,
  -- EVT_CODE_INFO
  ⟨0xA00A, 0, 0, .record 0 1 65535, .ro, .v, 1, []⟩,
  -- PTRACE_CFG
  ⟨0xA100, 0, 0, .record 10 0 0, .rw, .v, 1, [List.replicate 10 0]⟩,
  -- PTRACE_CURSOR
  ⟨0xA101, 0, 0, .unsigned 4, .rw, .v, 0, [[0, 0, 0, 0]]⟩,
  -- PTRACE_WINDOW
  ⟨0xA102, 0, 0, .octets 128, .ro, .v, 1, []⟩,
  -- PTRACE_STATUS
  ⟨0xA103, 0, 0, .record 0 1 65535, .ro, .v, 1, []⟩,
  -- SURVEY_CFG
  ⟨0xA200, 0, 0, .record 3 0 0, .rw, .p, 1, [[0, 60, 24]]⟩,
  -- SURVEY_CURSOR
  ⟨0xA201, 0, 0, .unsigned 4, .rw, .v, 0, [[0, 0, 0, 0]]⟩,
  -- SURVEY_WINDOW
  ⟨0xA202, 0, 0, .octets 64, .ro, .v, 1, []⟩]

/-- Object rows of indices 0xA203 to 0xA411. -/
def objRows25 : List ObjRow := [
  -- SURVEY_WINDOW_TIME
  ⟨0xA203, 0, 0, .unsigned 8, .ro, .v, 1, []⟩,
  -- NF_HISTORY_CURSOR
  ⟨0xA210, 0, 0, .unsigned 4, .rw, .v, 0, [[0, 0, 0, 0]]⟩,
  -- NF_HISTORY_WINDOW
  ⟨0xA211, 0, 0, .octets 64, .ro, .v, 1, []⟩,
  -- RANGE_CFG
  ⟨0xA300, 0, 0, .record 3 0 0, .rw, .p, 1, [[16, 3, 40]]⟩,
  -- RANGE_REQUEST
  ⟨0xA301, 0, 0, .record 5 0 0, .cmd, .v, 1, []⟩,
  -- RANGES_ACTIVE
  ⟨0xA302, 0, 0, .unsigned 1, .ro, .v, 1, [[0]]⟩,
  -- RANGE_CURSOR
  ⟨0xA303, 0, 0, .unsigned 4, .rw, .v, 0, [[0, 0, 0, 0]]⟩,
  -- RANGE_RESULT
  ⟨0xA304, 0, 0, .octets 32, .ro, .v, 1, []⟩,
  -- SENSE_SUPPLY
  ⟨0xA400, 0, 0, .record 0 1 65535, .ro, .v, 1, []⟩,
  -- SENSE_TEMP
  ⟨0xA401, 0, 0, .record 0 1 65535, .ro, .v, 1, []⟩,
  -- AIN_CFG
  ⟨0xA410, 1, 8, .record 10 0 0, .rw, .p, 1, [[1, 0, 10, 4, 255, 255, 255, 255, 255, 255]]⟩,
  -- AIN_VALUE
  ⟨0xA411, 1, 8, .record 0 1 65535, .ro, .v, 1, []⟩]

/-- Object rows of indices 0xA500 to 0xB021. -/
def objRows26 : List ObjRow := [
  -- DEBUG_STATUS
  ⟨0xA500, 0, 0, .record 0 1 65535, .ro, .v, 1, []⟩,
  -- DEBUG_LOCK
  ⟨0xA501, 0, 0, .unsigned 1, .cmd, .v, 1, []⟩,
  -- DEBUG_PERMIT
  ⟨0xA502, 0, 0, .unsigned 1, .rwm, .p, 2, [[3]]⟩,
  -- THREAD_CURSOR
  ⟨0xB000, 0, 0, .unsigned 1, .rw, .v, 0, [[0]]⟩,
  -- THREAD_VIEW
  ⟨0xB001, 0, 0, .octets 16, .ro, .v, 1, []⟩,
  -- THREAD_CMD
  ⟨0xB002, 0, 0, .record 3 0 0, .cmd, .v, 1, []⟩,
  -- THREADS_USED
  ⟨0xB003, 0, 0, .record 0 1 65535, .ro, .v, 1, []⟩,
  -- APP_BIND
  ⟨0xB010, 0, 0, .record 256 0 0, .rw, .p, 1, [List.replicate 256 0]⟩,
  -- APP_STATUS
  ⟨0xB011, 0, 0, .record 0 1 65535, .ro, .v, 1, []⟩,
  -- APP_RESTART
  ⟨0xB012, 0, 0, .unsigned 1, .cmd, .v, 1, []⟩,
  -- SCHED_OBS
  ⟨0xB020, 0, 0, .unsigned 1, .rw, .v, 1, [[0]]⟩,
  -- TRACE_FILTER
  ⟨0xB021, 0, 0, .record 34 0 0, .rw, .v, 1, [[7, 255, 255, 255, 255, 255, 255, 255, 255, 255, 255, 255, 255, 255, 255, 255, 255, 255, 255, 255, 255, 255, 255, 255, 255, 255, 255, 255, 255, 255, 255, 255, 255, 255]]⟩]

/-- Object rows of indices 0xB022 to 0xC110. -/
def objRows27 : List ObjRow := [
  -- TRACE_CURSOR
  ⟨0xB022, 0, 0, .unsigned 4, .rw, .v, 0, [[0, 0, 0, 0]]⟩,
  -- TRACE_WINDOW
  ⟨0xB023, 0, 0, .octets 128, .ro, .v, 1, []⟩,
  -- TRACE_STATUS
  ⟨0xB024, 0, 0, .record 0 1 65535, .ro, .v, 1, []⟩,
  -- STAT_WINDOW
  ⟨0xB030, 0, 0, .unsigned 2, .rw, .p, 1, [[0, 100]]⟩,
  -- CORE_STATS
  ⟨0xB031, 1, 3, .octets 32, .ro, .v, 1, []⟩,
  -- CLOCK_LOCK
  ⟨0xC000, 0, 0, .unsigned 4, .ro, .v, 1, []⟩,
  -- PROFILE_CHIP
  ⟨0xC100, 0, 0, .unsigned 1, .rw, .p, 1, [[0]]⟩,
  -- PROFILE_SECTOR
  ⟨0xC101, 1, 4, .unsigned 1, .rw, .p, 1, [[255]]⟩,
  -- PROFILE_EFFECTIVE
  ⟨0xC102, 1, 4, .unsigned 1, .ro, .v, 1, []⟩,
  -- ECONOMY_H_MODE
  ⟨0xC103, 0, 0, .unsigned 1, .rw, .p, 1, [[1]]⟩,
  -- THERMAL_JUNCTION
  ⟨0xC104, 0, 0, .signed 2, .ro, .v, 1, []⟩,
  -- THERMAL_CLASS
  ⟨0xC110, 0, 0, .unsigned 1, .rwm, .p, 2, [[1]]⟩]

/-- Object rows of indices 0xC111 to 0xC201. -/
def objRows28 : List ObjRow := [
  -- SUPPLY_CLASS
  ⟨0xC111, 0, 0, .unsigned 1, .rwm, .p, 2, [[0]]⟩,
  -- VIO_OUT_ENABLE
  ⟨0xC200, 0, 0, .bool, .rw, .p, 1, [[1]]⟩,
  -- PIN_STATUS
  ⟨0xC201, 0, 0, .unsigned 2, .ro, .v, 1, []⟩]

/-- Every object row, by rising index. -/
def objRows : List ObjRow :=
  objRows0 ++ objRows1 ++ objRows2 ++ objRows3 ++ objRows4 ++ objRows5 ++ objRows6 ++ objRows7 ++ objRows8 ++ objRows9 ++ objRows10 ++ objRows11 ++ objRows12 ++ objRows13 ++ objRows14 ++ objRows15 ++ objRows16 ++ objRows17 ++ objRows18 ++ objRows19 ++ objRows20 ++ objRows21 ++ objRows22 ++ objRows23 ++ objRows24 ++ objRows25 ++ objRows26 ++ objRows27 ++ objRows28

end Sys2Proof.Machine
end

