-- ==== Sys2Proof/Machine/StateForward.lean ====
section
/-! DEFINITION. The state of the forwarding tables, learning, the update port, reassembly and RPL (chapter 08). -/

namespace Sys2Proof.Machine

/-- One host-table entry (Table 8-3). -/
structure HostEntry where
  key : Octets
  confirmed : Bool := false
  noAge : Bool := false
  hit : Bool := false
  age : Bool := false
  pass : Bool := false
  kind : Nat := 0
  port : Nat := 0
  learnBs : Nat := 0
  handle : Nat := 0xFFFFFFFF
  destMac : Octets := []
  learnTime : Nat := 0
  deriving DecidableEq, Repr

/-- One structural step waiting in the update port (R222); `register` marks a command of the command register, which the
step ends with its status. -/
inductive TableStep where
  /-- Copy the entry at the first location to the second (R215). -/
  | copy (source dest : Nat)
  /-- Clear the source of a copy (R215). -/
  | clear (loc : Nat)
  /-- Write an entry at a location (R215). -/
  | write (loc : Nat) (entry : HostEntry)
  /-- Search a place for an entry, which yields the steps of its insertion (R215). -/
  | insert (entry : HostEntry) (register : Bool)
  /-- Replace the fields of a key other than HIT, AGE and PASS (R229). -/
  | replace (key : Octets) (entry : HostEntry) (register : Bool)
  /-- Remove the entry of a key (R229). -/
  | remove (key : Octets) (register : Bool)
  /-- Confirm the entry of a key (R219). -/
  | confirm (key : Octets) (register : Bool)
  /-- Refill a freed bucket from the stash (R216). -/
  | refill (bucket : Nat)
  /-- A sweep visit of a bucket (R221). -/
  | sweep (bucket : Nat)
  /-- The register's command ends with this status and location (R231). -/
  | finish (status loc : Nat)
  deriving DecidableEq, Repr

/-- One next-hop entry (Table 8-7). -/
structure NextHop where
  valid : Bool := false
  port : Nat := 0
  destMac : Octets := []
  chipIndex : Nat := 0
  deriving DecidableEq, Repr

/-- A reassembly context (R207). -/
structure Reassembly where
  /-- Instant (ns) of the first fragment. -/
  startedAt : Nat
  cls : Nat
  /-- Fragments held: offset and octets, poison mark. -/
  parts : List (Nat × Octets × Bool)
  conflict : Bool := false
  deriving DecidableEq, Repr

/-- A learning request (R217, R218). -/
structure LearnRequest where
  key : Octets
  kind : Nat
  port : Nat
  learnBs : Nat
  handle : Nat
  deriving DecidableEq, Repr

/-- The forwarding tables (R201 to R233). -/
structure Forwarding where
  /-- Host-table entries by location 4 x bucket + slot [R212, 08_forwarding_tables.md; 262,144 x 32 octets]. -/
  host : FMap HostEntry := []
  /-- The 64-entry stash [R214, 08_forwarding_tables.md; 64 x 32 octets]. -/
  stash : FMap HostEntry := []
  /-- Locations whose HIT is pending, at most 256 [R220, 08_forwarding_tables.md; 256 records]. -/
  pendingHits : List Nat := []
  /-- Structural steps waiting in the update port, first first [R222, 08_forwarding_tables.md; records]. -/
  steps : List TableStep := []
  /-- Move in transit: source and destination locations [R223, 08_forwarding_tables.md; record]. -/
  transit : Option (Nat × Nat) := none
  /-- Learning requests waiting, at most 64 [R218, 08_forwarding_tables.md; 64 records]. -/
  learnQ : List LearnRequest := []
  /-- Token buckets of the learning sources: millionths of a token, and last refill in us [R218, 08_forwarding_tables.md; 10 records]. -/
  tokens : FMap (Nat × Nat) := []
  /-- Next bucket of the sweep [R221, 08_forwarding_tables.md; 16 bits]. -/
  sweepNext : Nat := 0
  /-- Entries removed in the running and in the last complete pass [R221, 08_forwarding_tables.md; 2 x 32 bits]. -/
  sweepRemoved : Nat := 0
  sweepLast : Nat := 0
  /-- The prefixes of the trie by 128 x (upper 64 address bits) + length [R224, 08_forwarding_tables.md; 65,536 records]. -/
  routes : FMap Nat := []
  /-- Next-hop table [R226, 08_forwarding_tables.md; 4,096 x 16 octets]. -/
  nextHops : FMap NextHop := []
  /-- Reassembly contexts by ((handle x 65,536) + tag) x 65,536 + size, at most 4,096 [R207, 08_forwarding_tables.md; records]. -/
  reasm : FMap Reassembly := []
  /-- Datagram tag counter [R208, 08_forwarding_tables.md; 16 bits]. -/
  datagramTag : Nat := 0
  /-- Second and count of ICMPv6 answers in it [R202, 08_forwarding_tables.md; record]. -/
  icmpSecond : Nat := 0
  icmpCount : Nat := 0
  /-- Lookups since the last shadow sample [R227, 08_forwarding_tables.md; 16 bits]. -/
  lookups : Nat := 0
  /-- Instant (ns) of the last shadow mismatch [R227, 08_forwarding_tables.md; count]. -/
  mismatchAt : Option Nat := none
  /-- Trickle interval of the DIO timer: doublings done and instant (ns) of the next DIO [R209, 08_forwarding_tables.md; record]. -/
  trickleStep : Nat := 0
  trickleDue : Nat := 0
  /-- Consistent DIOs heard in the interval [R209, 08_forwarding_tables.md; 8 bits]. -/
  trickleHeard : Nat := 0
  deriving DecidableEq, Repr

end Sys2Proof.Machine
end

