-- ==== Sys2Proof/Machine/StateFront.lean ====
section
/-! DEFINITION. The state of the transmit front end, the tuners, coexistence and the duty accounts (chapter 04). -/

namespace Sys2Proof.Machine

/-- What a transmission is: a frame in a transmit cell, an acknowledgement, or a ranging burst. -/
inductive TxKind where
  | frame | ack | burst
  deriving DecidableEq, Repr

/-- How far a transmission has gone along Table 4-1. -/
inductive TxPhase where
  | planned | retuned | commanded | ready | sampled | txon | onAir | ended
  deriving DecidableEq, Repr

/-- A transmission a sequencer has chosen (R91): set at the queue latch or at the acknowledgement decision. -/
structure TxPlan where
  kind : TxKind
  phase : TxPhase := .planned
  /-- Planned frame start (ns) [R91, 04_front_end_regulatory.md; count]. -/
  startAt : Nat
  /-- Cell the frame is sent in, if any [R137, 05_time_and_schedule.md; 20 bits]. -/
  cell : Option Nat := none
  /-- Queue the frame was latched from, if any [R137, 05_time_and_schedule.md; 32 bits]. -/
  queue : Option Nat := none
  /-- Packet number of the latched frame, if any [R137, 05_time_and_schedule.md; count]. -/
  packet : Option Nat := none
  /-- Handle of the peer, if any [R1, 00_scope.md; 32 bits]. -/
  peer : Option Nat := none
  cls : Nat := 7
  mode : Nat := 0
  firstBin : Nat := 0
  /-- Class of the acknowledged frame counts for an acknowledgement. -/
  ackRequested : Bool := false
  seqNo : Nat := 0
  octets : Octets := []
  /-- Planned on-time with ramps in us [R115, 04_front_end_regulatory.md; 32 bits]. -/
  onTime : Nat := 0
  /-- Target power in 0.25 dBm [R97, 04_front_end_regulatory.md; 16 bits signed]. -/
  target : Int := 0
  /-- Port subindex the frame leaves from [R102, 04_front_end_regulatory.md; 8 bits]. -/
  port : Nat := 0
  /-- Duty reserved in us, and the account it stands in [R116, 04_front_end_regulatory.md; 32 bits]. -/
  reserved : Nat := 0
  account : Nat := 0
  /-- The frame has been secured [R139, 05_time_and_schedule.md; 1 bit]. -/
  secured : Bool := false
  /-- Retry count of the frame [R154, 06_link_exchange.md; 8 bits]. -/
  retries : Nat := 0
  /-- Ramp-up instant (ns) [R115, 04_front_end_regulatory.md; count]. -/
  rampAt : Nat := 0
  /-- The frame was cut short and is lost [R101, 04_front_end_regulatory.md; 1 bit]. -/
  cut : Bool := false
  deriving DecidableEq, Repr

/-- One transmit chain (R92 to R98). -/
structure TxChain where
  /-- The transmission in hand [R91, 04_front_end_regulatory.md; record]. -/
  plan : Option TxPlan := none
  /-- Synthesiser locked [R92, 04_front_end_regulatory.md; 1 bit]. -/
  locked : Bool := false
  /-- Synthesiser settling since its retune command [R92, 04_front_end_regulatory.md; 1 bit]. -/
  settling : Bool := false
  /-- Calibrations due, by number 1 to 3, with the instant (ns) they fell due [R94, 04_front_end_regulatory.md; 3 records]. -/
  calDue : FMap Nat := []
  /-- Calibration running and the instant (ns) it ends [R94, 04_front_end_regulatory.md; record]. -/
  calRun : Option (Nat × Nat) := none
  /-- Instant (ns) and temperature (0.1 degree C) of the last run of each calibration [R94, 04_front_end_regulatory.md; 3 records]. -/
  calLast : FMap (Nat × Int) := []
  /-- The next transmit cell is to be skipped to make room for this calibration [R95, 04_front_end_regulatory.md; 2 bits]. -/
  skipNext : Option Nat := none
  /-- XPA EN, TXON, BYP and GSEL levels [R98, 04_front_end_regulatory.md; 4 bits]. -/
  xpaEn : Bool := false
  xpaTxon : Bool := false
  xpaByp : Bool := false
  xpaGsel : Bool := false
  /-- Instant (ns) at which TXON last fell [R91, 04_front_end_regulatory.md; count]. -/
  txonFell : Option Nat := none
  /-- Instant (ns) of the last event 0x1220 [R100, 04_front_end_regulatory.md; count]. -/
  detEventAt : Option Nat := none
  /-- XPA_DET 0x2233, last mean DET in mV [R100, 04_front_end_regulatory.md; 16 bits]. -/
  det : Nat := 0
  deriving DecidableEq, Repr

/-- Tuner states of Table 4-4. -/
inductive TunerState where
  | normal | warn | derated | disabled
  deriving DecidableEq, Repr

/-- One aerial port (R101). -/
structure Port where
  /-- TUNER_STATUS 0x2212 [R101, 04_front_end_regulatory.md; 2 bits]. -/
  state : TunerState := .normal
  /-- TUNER_CODE 0x2210 once the port has transmitted [R101, 04_front_end_regulatory.md; 12 bits]. -/
  code : Option Nat := none
  /-- PORT_VSWR 0x2211 [R101, 04_front_end_regulatory.md; 16 bits]. -/
  vswr : Nat := 0
  /-- Consecutive transmissions above 4:1 [R101, 04_front_end_regulatory.md; count]. -/
  above4 : Nat := 0
  /-- Consecutive transmissions at or below 3:1 [R101, 04_front_end_regulatory.md; count]. -/
  below3 : Nat := 0
  /-- Instant (ns) of the last event 0x1230 [R101, 04_front_end_regulatory.md; count]. -/
  warnAt : Option Nat := none
  /-- Stored power correction in 0.25 dB by 65,536 x family + bin group [R96, 04_front_end_regulatory.md; record]. -/
  corrections : FMap Int := []
  /-- Sub-bands for which event 0x1312 has been recorded [R97, 04_front_end_regulatory.md; 8 bits]. -/
  lowReported : List Nat := []
  deriving DecidableEq, Repr

/-- One duty account (R115). -/
structure DutyAccount where
  /-- On-time in us by second, the last 3,600 seconds [R115, 04_front_end_regulatory.md; 3,600 x 32 bits]. -/
  buckets : FMap Nat := []
  /-- On-time reserved and not yet settled, us [R116, 04_front_end_regulatory.md; 32 bits]. -/
  reserved : Nat := 0
  deriving DecidableEq, Repr

/-- The front end (R91 to R119). -/
structure FrontEnd where
  /-- The nine transmit chains by band-sector subindex [R91, 04_front_end_regulatory.md; 9 records]. -/
  chains : FMap TxChain := []
  /-- The 18 ports by chain subindex [R101, 04_front_end_regulatory.md; 18 records]. -/
  ports : FMap Port := []
  /-- Band-sectors that request a grant: REQ of a channel is the OR of those mapped to it [R103, R104, 04_front_end_regulatory.md; 4 bits]. -/
  req : List Nat := []
  /-- Band-sectors that assert priority: PRI of a channel is the OR of those mapped to it [R103, R104, 04_front_end_regulatory.md; 4 bits]. -/
  pri : List Nat := []
  /-- Duty accounts by subindex 0x01 to 0x18 [R115, 04_front_end_regulatory.md; 24 records]. -/
  duty : FMap DutyAccount := []
  /-- Current second of the duty buckets, of domain time [R115, 04_front_end_regulatory.md; count]. -/
  dutySecond : Nat := 0
  /-- On-time in us per channel and second, keyed 65,536 x band code + bin [R114, 04_front_end_regulatory.md; records]. -/
  dwell : FMap (FMap Nat) := []
  /-- Persisted per-minute sums of each account: by account, by minute [R118, 04_front_end_regulatory.md; records]. -/
  minutes : FMap (FMap Nat) := []
  /-- Minute of the last write to the persistent journal area [R118, 04_front_end_regulatory.md; count]. -/
  minuteLast : Option Nat := none
  /-- The accounts have been rebuilt from the persisted sums since the start [R118, 04_front_end_regulatory.md; 1 bit]. -/
  dutyRestored : Bool := false
  deriving DecidableEq, Repr

end Sys2Proof.Machine
end

