-- ==== Sys2Proof/Machine/StateImage.lean ====
section
/-! DEFINITION. The state of the start sequence, the boot records, the image banks, the configuration copies, updates,
recovery, node image staging and campaigns (chapter 12). -/

namespace Sys2Proof.Machine

/-- Bank states of Table 12-4. -/
inductive BankState where
  | empty | writing | ready | trial | confirmed | rejected
  deriving DecidableEq, Repr

/-- The code of a bank state (Table 12-4). -/
def BankState.code : BankState → Nat
  | .empty => 0 | .writing => 1 | .ready => 2 | .trial => 3 | .confirmed => 4 | .rejected => 5

/-- One image bank of 12 MiB of MRAM. -/
structure Bank where
  /-- Bank state, STATE_A or STATE_B of the boot record in force [R323, 12_boot_images_updates.md; 4 bits]. -/
  state : BankState := .confirmed
  /-- The system part is still the image the chip left the factory with [R320, 12_boot_images_updates.md; 10 MiB]. -/
  factory : Bool := true
  /-- Octets of the bank by offset; below 0xA0_0000 only where the system part is not the factory's [R13, R328, 12_boot_images_updates.md; 12 MiB]. -/
  mem : Memory := []
  /-- DIGEST_A or DIGEST_B of the boot record [R323, 12_boot_images_updates.md; 16 octets]. -/
  digest : Octets := []
  deriving DecidableEq, Repr

/-- One configuration copy (Table 12-5). -/
structure CfgCopy where
  generation : Nat
  regionCounter : Nat
  /-- Region profile record of the locked section. -/
  profile : Octets
  /-- REGION_LOCKED of the locked section. -/
  locked : Bool
  /-- Object records by 256 x index + subindex. -/
  records : FMap Octets
  lockCmac : Octets
  cmac : Octets
  deriving DecidableEq, Repr

/-- The writing of the three copies in progress (R325, R327): the records, their GENERATION, whether CONFIG_SELECT chose
them, and the instant it began. -/
structure CommitJob where
  records : FMap Octets
  generation : Nat
  select : Bool
  startedAt : Nat
  deriving DecidableEq, Repr

/-- The delta-apply journal (Table 12-10). -/
structure DeltaJournal where
  deltaId : Octets
  sourceId : Octets
  targetId : Octets
  bank : Nat
  typ : Nat
  blocks : Nat
  /-- Blocks whose done word is valid. -/
  done : List Nat
  deriving DecidableEq, Repr

/-- A recovery session (R337 to R339). -/
structure Recovery where
  /-- Why RECOVERY was entered: 1 neither bank verifies, 2 REC_RX, 3 SPI request [R337, 12_boot_images_updates.md; 2 bits]. -/
  cause : Nat
  /-- Bank selected [R338, 12_boot_images_updates.md; 1 bit]. -/
  bank : Option Nat := none
  /-- VERIFY has passed since the last WRITE or SELECT [R338, 12_boot_images_updates.md; 1 bit]. -/
  verified : Bool := false
  /-- SEQ of the previous frame and its response [R339, 12_boot_images_updates.md; record]. -/
  last : Option (Nat × Octets) := none
  /-- Response not yet read over SPI [R337, 12_boot_images_updates.md; up to 4,114 octets]. -/
  response : Octets := []
  /-- UART rate [R337, 12_boot_images_updates.md; 32 bits]. -/
  baud : Nat := 115200
  /-- New rate and the instant (ns) it applies [R338, 12_boot_images_updates.md; record]. -/
  baudNext : Option (Nat × Nat) := none
  /-- Instant (ns) of the last valid frame, or of the entry [R337, 12_boot_images_updates.md; count]. -/
  frameAt : Nat := 0
  /-- Octets written in the session [R339, 12_boot_images_updates.md; 32 bits]. -/
  written : Nat := 0
  deriving DecidableEq, Repr

/-- Start, images, configuration copies and updates (R318 to R339). -/
structure Image where
  /-- Banks A (0) and B (1) [R13, 12_boot_images_updates.md; 2 x 12 MiB]. -/
  bankA : Bank := {}
  bankB : Bank := {}
  /-- SEQ of the boot record in force [R323, 12_boot_images_updates.md; 32 bits]. -/
  bootSeq : Nat := 0
  /-- Boot records 0 and 1 as last written, keyed by SEQ mod 2; a record without an entry was never written [R322, R323, 12_boot_images_updates.md; 2 x 64 octets]. -/
  bootRecords : FMap Octets := [(0, zeros 5 ++ [byte 0x44] ++ zeros 54 ++ beOctets 4 0x7C31E144)]
  /-- RUN_BANK [R323, 12_boot_images_updates.md; 1 bit]. -/
  runBank : Nat := 0
  /-- TRIAL [R323, 12_boot_images_updates.md; 1 bit]. -/
  trial : Bool := false
  /-- TRIAL_COUNT [R323, 12_boot_images_updates.md; 4 bits]. -/
  trialCount : Nat := 0
  /-- MIN_SEC_VERSION [R323, 12_boot_images_updates.md; 16 bits]. -/
  minSec : Nat := 0
  /-- Revocation fuses of Wenram keys 0 to 3 [R319, 12_boot_images_updates.md; 4 bits]. -/
  revoked : BitVec 4 := 0#4
  /-- ns spent in ACTIVE, FOLLOWER or MAINTENANCE on trial: entry instant [R335, 12_boot_images_updates.md; count]. -/
  trialSince : Option Nat := none
  /-- Digest of the system image of the run, kept in AON [R321, 12_boot_images_updates.md; 32 octets]. -/
  runDigest : Octets := []
  /-- DRAM went into self-refresh at the reset and nothing since forbids retention [R321, 12_boot_images_updates.md; 1 bit]. -/
  retain : Bool := false
  /-- DRAM retained, BOOT_STATUS [R321, 12_boot_images_updates.md; 1 bit]. -/
  retained : Bool := false
  /-- Node contexts retained, BOOT_STATUS [R321, 12_boot_images_updates.md; 1 bit]. -/
  nodesRetained : Bool := false
  /-- us from the start instant to the end of LOAD, BOOT_STATUS [R351, 12_boot_images_updates.md; 32 bits]. -/
  loadUs : Nat := 0
  /-- OWL has taken its first sample of this start [R318, 12_boot_images_updates.md; 1 bit]. -/
  sampled : Bool := false
  /-- Bank whose image runs: RUN_BANK, or the other where RUN_BANK failed at BOOT [R318, 12_boot_images_updates.md; 1 bit]. -/
  running : Nat := 0
  /-- Events 0x8001, 0x8002 and 0x8030 that wait for the end of the next LOAD [R339, R451, 12_boot_images_updates.md; records]. -/
  bootEvents : List (Nat × Nat × Nat × Nat) := []
  /-- Bank failed at this BOOT with its reason, by bank [R318, 12_boot_images_updates.md; 2 records]. -/
  bootFailed : FMap Nat := []
  /-- A rollback has taken place at this BOOT [R335, 12_boot_images_updates.md; 1 bit]. -/
  rolledBack : Bool := false
  /-- Recovery request seen at the first sample [R337, 12_boot_images_updates.md; 1 bit]. -/
  recSample : Bool := false
  /-- The SPI target has received the recovery request since the start instant [R337, 12_boot_images_updates.md; 1 bit]. -/
  spiRequest : Bool := false
  /-- Recovery session in progress [R337, 12_boot_images_updates.md; record]. -/
  recovery : Option Recovery := none
  /-- Configuration copies A, B, C in MRAM, keyed 1 to 3 [R324, 12_boot_images_updates.md; 3 x 1 MiB]. -/
  copies : FMap CfgCopy := []
  /-- Configuration outcome of Table 12-6 [R326, 12_boot_images_updates.md; 8 bits]. -/
  outcome : Nat := 4
  /-- Locked section outcome of Table 12-6 [R326, 12_boot_images_updates.md; 8 bits]. -/
  lockedOutcome : Nat := 4
  /-- COMMIT or CONFIG_SELECT in progress [R325, R327, 12_boot_images_updates.md; record]. -/
  commit : Option CommitJob := none
  /-- Application image state: 0 started, 1 absent, 2 signature, 3 tag [R330, 12_boot_images_updates.md; 2 bits]. -/
  app : Nat := 1
  /-- UPDATE_STATUS state [R351, 12_boot_images_updates.md; 8 bits]. -/
  updState : Nat := 0
  /-- UPDATE_STATUS code, Table 12-11 [R351, 12_boot_images_updates.md; 8 bits]. -/
  updCode : Nat := 0
  /-- Chip update buffer [R332, 12_boot_images_updates.md; 16 MiB]. -/
  buffer : Memory := []
  /-- Delta-apply journal [R333, 12_boot_images_updates.md; 16 KiB]. -/
  journal : Option DeltaJournal := none
  deriving DecidableEq, Repr

/-- One node image staging slot of 30 MiB (R341). -/
structure Stage where
  /-- Image octets by offset [R341, 12_boot_images_updates.md; 30 MiB]. -/
  mem : Memory := []
  /-- STAGE_STATUS [R351, 12_boot_images_updates.md; 8 bits]. -/
  status : Nat := 0
  /-- F and SHA-256 of the image checked at the last STAGE_CMD 1 [R341, 12_boot_images_updates.md; 36 octets]. -/
  length : Nat := 0
  digest : Octets := []
  deriving DecidableEq, Repr

/-- Campaign states of Table 12-18. -/
inductive CampaignState where
  | free | defined | running | paused | delivered | expired | activating | waitImage | cancelled | closed
  deriving DecidableEq, Repr

/-- The place of a campaign state in Table 12-18; CAMPAIGN_STATUS and event 0x8050 give Config.campaignCode of it, for the
spec numbers none (log entry 10). -/
def CampaignState.place : CampaignState → Nat
  | .free => 0 | .defined => 1 | .running => 2 | .paused => 3 | .delivered => 4 | .expired => 5 | .activating => 6
  | .closed => 7 | .waitImage => 8 | .cancelled => 9

/-- One campaign (R346 to R349). -/
structure Campaign where
  state : CampaignState := .free
  /-- State before WAIT_IMAGE. -/
  before : CampaignState := .running
  id : Nat := 0
  /-- Next symbol number n. -/
  n : Nat := 0
  cfg : Octets := []
  /-- Symbol size T in use. -/
  t : Nat := 0
  digest : Octets := []
  length : Nat := 0
  target : List Nat := []
  accepted : List Nat := []
  complete : List Nat := []
  activated : List Nat := []
  dropped : Nat := 0
  persistedAsn : Nat := 0
  /-- Offers sent to each TARGET node without ACCEPTED. -/
  offers : FMap Nat := []
  /-- Activates sent to each COMPLETE node. -/
  activates : FMap Nat := []
  /-- Frames generated by band-sector. -/
  frames : FMap Nat := []
  /-- Pass of the campaign slotframe last ended, by its number. -/
  pass : Nat := 0
  deriving DecidableEq, Repr

/-- Node fleet campaigns (R340 to R350). -/
structure Fleet where
  /-- Staging slots 1 to 8 [R341, 12_boot_images_updates.md; 8 x 30 MiB]. -/
  stages : FMap Stage := []
  /-- Campaigns 1 to 8 [R347, 12_boot_images_updates.md; 8 records]. -/
  campaigns : FMap Campaign := []
  /-- Persisted campaign records in the journal area, by campaign: SEQ of the newer header, and the record [R348, 12_boot_images_updates.md; 8 x 80 KiB]. -/
  store : FMap (Nat × Campaign) := []
  /-- CAMPAIGN_ID of the next start [R347, 12_boot_images_updates.md; 8 bits]. -/
  nextId : Nat := 0
  deriving DecidableEq, Repr

end Sys2Proof.Machine
end

