-- ==== Sys2Proof/Machine/StateKeys.lean ====
section
/-! DEFINITION. The state of the cipher engines, the key partition, the derived-key cache and the hedgehog (chapters 09
and 10). -/

namespace Sys2Proof.Machine

/-- One working key register (R236). -/
structure KeyRegister where
  handle : Nat
  /-- Use attribute, Table 10-4. -/
  attr : Nat
  value : Octets
  /-- Stamp of the last use. -/
  used : Nat
  valid : Bool
  deriving DecidableEq, Repr

/-- A running cipher job: its request and the register contents it is bound to (R238). -/
structure CipherJob where
  engine : Nat
  request : CipherRequest
  /-- The status found before any block was processed, OK (0) if none. -/
  status : Nat
  key : Octets
  startedAt : Nat
  /-- Words already released in cut-through (R243). -/
  released : Bool
  deriving DecidableEq, Repr

/-- One cipher engine (R234, R248). -/
structure Engine where
  /-- CE_STATE: 0 serving, 1 testing, 2 withdrawn [R254, 09_cipher_engine.md; 8 bits]. -/
  mode : Nat := 0
  /-- Consecutive failures of its ROM vectors [R248, 09_cipher_engine.md; count]. -/
  fails : Nat := 0
  /-- Consecutive hourly passes while withdrawn [R248, 09_cipher_engine.md; count]. -/
  passes : Nat := 0
  /-- Earliest instant (ns) of the next hourly retest [R248, 09_cipher_engine.md; count]. -/
  retestAt : Nat := 0
  /-- Working key registers 0 to 15 [R236, 09_cipher_engine.md; 16 x 288 bits]. -/
  registers : FMap KeyRegister := []
  deriving DecidableEq, Repr

/-- Transmit or receive state of a MACsec security association (R251, R252). -/
structure MacsecPn where
  /-- Next PN to send, or lowest PN accepted [R251, 09_cipher_engine.md; 32 bits]. -/
  next : Nat
  /-- Persisted end of the reserved block [R252, 09_cipher_engine.md; 32 bits]. -/
  blockEnd : Nat
  /-- COUNTER of the key slot written with the block end [R252, 09_cipher_engine.md; 32 bits]. -/
  slotCounter : Nat
  /-- Event 0x6020 recorded for this SA [R251, 09_cipher_engine.md; 1 bit]. -/
  warned : Bool
  deriving DecidableEq, Repr

/-- The cipher engines (R234 to R254). -/
structure Cipher where
  /-- CE0 and CE1 [R234, 09_cipher_engine.md; 2 records]. -/
  engines : FMap Engine := []
  /-- Running jobs by number [R238, 09_cipher_engine.md; records]. -/
  jobs : FMap CipherJob := []
  /-- Number of the next job [R240, 09_cipher_engine.md; count]. -/
  nextJob : Nat := 0
  /-- Stamp of register and cache uses, for least recently used [R236, 09_cipher_engine.md; count]. -/
  stamp : Nat := 0
  /-- Engine whose self-test comes next [R248, 09_cipher_engine.md; 1 bit]. -/
  testNext : Nat := 0
  /-- Earliest instant (ns) of the next self-test [R248, 09_cipher_engine.md; count]. -/
  testDue : Nat := 0
  /-- Instant (ns) of the last cross-check disagreement [R248, 09_cipher_engine.md; count]. -/
  disagreedAt : Option Nat := none
  /-- Association state by 32 x port + 4 x direction + AN, direction 1 transmit [R251, 09_cipher_engine.md; records]. -/
  macsec : FMap MacsecPn := []
  deriving DecidableEq, Repr

/-- One entry of the derived-key cache (R263). -/
structure CacheEntry where
  /-- Key reference [R263, 10_keys_tamper.md; 20 octets]. -/
  reference : Octets
  /-- Value once computed [R263, 10_keys_tamper.md; 128 or 256 bits]. -/
  value : Option Octets
  /-- Stamp of the last use [R263, 10_keys_tamper.md; count]. -/
  used : Nat
  /-- One of the chip's own pinned entries [R263, 10_keys_tamper.md; 1 bit]. -/
  own : Bool
  deriving DecidableEq, Repr

/-- A key update whose shadow half is written and whose commit is to come (R267, R270). -/
structure KeyPending where
  counter : Nat
  use : Nat
  size : Nat
  erase : Bool
  shadow : Nat
  acceptedAt : Nat
  /-- The session that wrote it was a Vendor session (R274). -/
  vendor : Bool
  /-- It waits for its twin partner (status 9). -/
  waiting : Bool
  /-- The partner's acceptance has arrived. -/
  partner : Bool
  deriving DecidableEq, Repr

/-- One TAMPER_LOG record (Table 10-12). -/
structure TamperRecord where
  sources : Nat
  state : Nat
  action : Nat
  aonTime : Nat
  deriving DecidableEq, Repr

/-- Key storage, derivation and the hedgehog (R255 to R280). -/
structure Keys where
  /-- The secure key partition [R257, 10_keys_tamper.md; 1 MiB]. -/
  partition : Memory := []
  /-- KEK register in AON [R259, 10_keys_tamper.md; 256 bits]. -/
  kek : Option Octets := none
  /-- Battery-backed AON register of the KEK seed [R259, 10_keys_tamper.md; 256 bits]. -/
  aonSeed : Octets := []
  /-- PROV_GEN, positions blown of the provisioning fuse counter [R272, 10_keys_tamper.md; 6 bits]. -/
  provGen : Nat := 0
  /-- Slot 0 value derived at BOOT [R273, 10_keys_tamper.md; 256 bits]. -/
  prov : Option Octets := none
  /-- Slots found failed at BOOT [R258, 10_keys_tamper.md; 64 bits]. -/
  failed : List Nat := []
  /-- Journal copies of COUNTER in the persistent journal area, by slot [R268, 10_keys_tamper.md; 64 x 32 bits]. -/
  copies : FMap Nat := []
  /-- Domain time (s) of each slot's commit [R280, 10_keys_tamper.md; 64 x 32 bits]. -/
  committedAt : FMap Nat := []
  /-- Updates waiting for KM, at most 4: message and caller [R266, 10_keys_tamper.md; 4 records]. -/
  waiting : List (Octets × Caller) := []
  /-- Updates between step 1 and step 2 of R267, by slot [R266, 10_keys_tamper.md; records]. -/
  pending : FMap KeyPending := []
  /-- COUNTER of the partner's latest acceptance, by slot [R270, 10_keys_tamper.md; 64 x 32 bits]. -/
  partnerAccepts : FMap Nat := []
  /-- KEY_UPDATE_STATUS 0x7101 [R266, 10_keys_tamper.md; 8 bits]. -/
  status : Nat := 0
  /-- Derived-key cache by entry [R263, 10_keys_tamper.md; 16,384 x 32 octets]. -/
  cache : FMap CacheEntry := []
  /-- Evictions of KEY_CACHE_STATUS [R280, 10_keys_tamper.md; 32 bits]. -/
  evictions : Nat := 0
  /-- Zeroize flag in AON [R276, 10_keys_tamper.md; 1 bit]. -/
  zeroizeFlag : Bool := false
  /-- Instant (ns) at which the running overwrite began, and its cause as in event 0x6301 [R276, 10_keys_tamper.md; record]. -/
  overwrite : Option (Nat × Nat) := none
  /-- Consecutive alarm samples by source bit [R275, 10_keys_tamper.md; 6 counts]. -/
  samples : FMap Nat := []
  /-- Sources at alarm now, TAMPER_STATUS [R280, 10_keys_tamper.md; 16 bits]. -/
  atAlarm : Nat := 0
  /-- SOURCES of the latest alarm [R280, 10_keys_tamper.md; 16 bits]. -/
  lastSources : Nat := 0
  /-- Alarms since FACTORY [R280, 10_keys_tamper.md; 32 bits]. -/
  alarms : Nat := 0
  /-- TAMPER_LOG, newest first, at most 8 [R279, 10_keys_tamper.md; 64 octets]. -/
  log : List TamperRecord := []
  /-- TAMP0 and TAMP1 levels, PIN_STATUS bits 7 and 8 [R401, 14_object_dictionary.md; 2 bits]. -/
  tamp0 : Bool := false
  tamp1 : Bool := false
  /-- Instant (ns) of a first write of 0xA5 to ZEROIZE_CMD [R275, 10_keys_tamper.md; count]. -/
  zeroizeArmed : Option Nat := none
  deriving DecidableEq, Repr

end Sys2Proof.Machine
end

