-- ==== Sys2Proof/Machine/StateLink.lean ====
section
/-! DEFINITION. The state of the link exchange: node contexts, counters, peers (chapter 06). -/

namespace Sys2Proof.Machine

/-- Node context states of Table 6-7. -/
inductive NodeState where
  | free | joining | joined | departing
  deriving DecidableEq, Repr

/-- The code of a node context state (Table 6-13). -/
def NodeState.code : NodeState → Nat
  | .free => 0 | .joining => 1 | .joined => 2 | .departing => 3

/-- One node context (Table 6-13), with what the chip still owes the node. -/
structure Node where
  eui : Octets := []
  state : NodeState := .free
  relay : Bool := false
  mains : Bool := false
  fec : Bool := false
  blCap : Bool := false
  cap : Nat := 0
  mode : Nat := 0
  txPower : Nat := 0
  homeEui : Octets := []
  rxFc : Nat := 0
  txFc : Nat := 0
  txFcLimit : Nat := 0
  dsnTx : Nat := 0
  dsnRx : Nat := 0
  backoff : Nat := 0
  be : Nat := 1
  heardBs : Nat := 0
  lastHeard : Nat := 0
  /-- Instant (ns) of the last authenticated frame, which NODE_TIMEOUT counts from [R165, 06_link_exchange.md; count]. -/
  heardAt : Nat := 0
  retries : Nat := 0
  etx : Nat := 0
  rssi : Int := 0
  prevChip : Nat := 0xFFFF
  nextHop : Nat := 0
  joinTime : Nat := 0
  challenge : Octets := []
  /-- Instant (ns) the node entered JOINING [R165, 06_link_exchange.md; count]. -/
  joiningAt : Nat := 0
  /-- The join waits for JOIN_APPROVE [R165, 06_link_exchange.md; 1 bit]. -/
  held : Bool := false
  /-- Band-sector and hopping sequence of the advertising cell of the join [R165, 06_link_exchange.md; 8 bits]. -/
  joinBs : Nat := 0
  joinSeq : Nat := 0
  /-- The Capability IE is still to be sent to the node [R85, 03_modulation_bit_loading.md; 1 bit]. -/
  capDue : Bool := true
  /-- Hopping Sequence and Cell Update contents waiting for the next acknowledged frame [R169, 06_link_exchange.md; octets each]. -/
  updates : List Octets := []
  /-- Hopping sequences, 16 x band code + sequence, the node has been given [R169, 06_link_exchange.md; record]. -/
  sequences : List Nat := []
  /-- Node counter exhausted: nothing is sent to it [R164, 06_link_exchange.md; 1 bit]. -/
  exhausted : Bool := false
  /-- The node announced RANGING in its Ranging Capability IE: byte 1 [R405, 15_measurement_events_debug.md; 8 bits]. -/
  rangeCap : Nat := 0
  deriving DecidableEq, Repr

/-- What the chip knows of a peer chip of the domain (R172). -/
structure Peer where
  eui : Octets
  /-- Last accepted Announcement, PEER_VIEW [R175, 06_link_exchange.md; 68 octets]. -/
  announcement : Octets
  /-- SENT of the last accepted message [R172, 06_link_exchange.md; 64 bits]. -/
  sent : Nat
  /-- Known from an accepted Announcement and not lost [R172, 06_link_exchange.md; 1 bit]. -/
  known : Bool
  /-- Template or epoch mismatch [R172, 06_link_exchange.md; 1 bit]. -/
  mismatched : Bool
  /-- Instant (ns) of the last accepted Announcement [R173, 06_link_exchange.md; count]. -/
  heardAt : Nat
  /-- Consecutive misses [R173, 06_link_exchange.md; 2 bits]. -/
  misses : Nat
  /-- Announcements accepted [R173, 06_link_exchange.md; count]. -/
  accepted : Nat
  /-- Last accepted counter of its net key [R158, 06_link_exchange.md; 32 bits]. -/
  netFc : Nat
  deriving DecidableEq, Repr

/-- A received frame whose acknowledgement is still to be decided (R148, R149). -/
structure AckDue where
  handle : Nat
  bandSector : Nat
  startNs : Nat
  endNs : Nat
  cls : Nat
  cell : Option Nat
  seq : Nat
  mode : Nat
  firstBin : Nat
  nack : Bool
  /-- Map Ack to carry: byte 1 of Table 3-7. -/
  mapAck : Option Nat
  deriving DecidableEq, Repr

/-- The link layer (R145 to R175). -/
structure Link where
  /-- The 131,072 node contexts of DRAM by local index, those not FREE [R174, 06_link_exchange.md; 131,072 x 64 octets]. -/
  nodes : FMap Node := []
  /-- Instant (ns) at which each resting index was freed [R3, 00_scope.md; record]. -/
  resting : FMap Nat := []
  /-- NET_FC 0x4206, next net counter [R160, 06_link_exchange.md; 32 bits]. -/
  netFc : Nat := 0
  /-- Limit of the reserved block of NET_FC, also in the persistent journal area [R162, 06_link_exchange.md; 32 bits]. -/
  netFcLimit : Nat := 0
  /-- Sequence number of the next beacon or broadcast frame [R145, 06_link_exchange.md; 8 bits]. -/
  netDsn : Nat := 0
  /-- Peer chips of the domain by chip index [R172, 06_link_exchange.md; records]. -/
  peers : FMap Peer := []
  /-- Frames waiting for the acknowledgement decision [R148, 06_link_exchange.md; records]. -/
  acksDue : List AckDue := []
  /-- Frame counters of verified frames whose admission to a queue is still to come, by local index [R159, 06_link_exchange.md; records]. -/
  fcPending : FMap Nat := []
  /-- Multiple of 10 s at which the last Announcement was sent, plus 1 [R171, 06_link_exchange.md; count]. -/
  announced : Nat := 0
  /-- Node Moved messages still to be repeated: destination chip, message body, repeats left [R171, 06_link_exchange.md; records]. -/
  moved : List (Nat × Octets × Nat) := []
  deriving DecidableEq, Repr

end Sys2Proof.Machine
end

