-- ==== Sys2Proof/Machine/StateMeas.lean ====
section
/-! DEFINITION. The state of measurement, the event recorder, the program trace and debug (chapter 15). -/

namespace Sys2Proof.Machine

/-- One event record, Table 15-5. -/
structure EvtRecord where
  seq : Nat
  /-- FIRST_TIME as written in the record. -/
  firstTime : Nat
  /-- The instant (ns) of the first occurrence, which the coalescing window counts from. -/
  firstAt : Nat
  code : Nat
  severity : Nat
  island : Nat
  unit : Nat
  arg0 : Nat
  arg1 : Nat
  arg2 : Nat
  repeats : Nat
  lastOffset : Nat
  deriving DecidableEq, Repr

/-- The event recorder (R414 to R420). -/
structure Recorder where
  /-- Next sequence number, never reset [R414, 15_measurement_events_debug.md; 32 bits]. -/
  nextSeq : Nat := 0
  /-- EVT_OLDEST [R417, 15_measurement_events_debug.md; 32 bits]. -/
  oldest : Nat := 0
  /-- On-chip ring of 8,192 records by sequence number [R417, 15_measurement_events_debug.md; 8,192 x 32 octets]. -/
  ring : FMap EvtRecord := []
  /-- DRAM archive of 1,048,576 records by sequence number [R417, 15_measurement_events_debug.md; 1,048,576 x 32 octets]. -/
  archive : FMap EvtRecord := []
  /-- Persisted end of the reserved block of sequence numbers [R417, 15_measurement_events_debug.md; 32 bits]. -/
  blockEnd : Nat := 0
  /-- Records refused for overload, EVT_STATUS [R417, 15_measurement_events_debug.md; 32 bits]. -/
  refused : Nat := 0
  /-- AON second of the overload window [R417, 15_measurement_events_debug.md; count]. -/
  winSecond : Nat := 0
  /-- New records in the overload window [R417, 15_measurement_events_debug.md; count]. -/
  winCount : Nat := 0
  deriving DecidableEq, Repr

/-- One tone of a ranging cell after R407: frequency (Hz), round-trip phase (2 pi / 65,536), both sides' SNR passed. -/
structure RangeTone where
  freq : Nat
  phase : Nat
  ok : Bool
  deriving DecidableEq, Repr

/-- A running ranging exchange (R406 to R409). -/
structure RangeRun where
  rangeId : Nat
  k : Nat
  cls : Nat
  cellsPassed : Nat
  reports : Nat
  /-- Chip-side measurement of each cell, by CELL_NO: tone frequency, phase and SNR. -/
  chipTones : FMap (List (Nat × Nat × Nat))
  /-- Tones of the cells whose Report has arrived, by CELL_NO. -/
  tones : FMap (List RangeTone)
  lastAsn : Nat
  bandSector : Nat
  deriving DecidableEq, Repr

/-- A ranging result, RANGE_RESULT (0xA304). -/
structure RangeResult where
  rangeId : Nat
  status : Nat
  quality : Nat
  reports : Nat
  distance : Nat
  sigma : Nat
  resid : Nat
  lastAsn : Nat
  bandSector : Nat
  completed : Nat
  deriving DecidableEq, Repr

/-- One analog input's latest value and threshold arming (R412). -/
structure AinState where
  mv : Nat := 0
  raw : Nat := 0
  time : Nat := 0
  lowArmed : Bool := true
  highArmed : Bool := true
  /-- Instant (ns) of the last sample [R412, 15_measurement_events_debug.md; count]. -/
  sampledAt : Option Nat := none
  deriving DecidableEq, Repr

/-- Survey, noise-floor history, ranging, supply, temperature and analog inputs (R402 to R413). -/
structure Measure where
  /-- Occupancy (0.01 %) and peak (0.25 dBm code) of each bin, keyed 65,536 x subindex + bin [R403, 15_measurement_events_debug.md; 2 x 16 bits per bin]. -/
  survey : FMap (Nat × Nat) := []
  /-- Domain time of the end of the published survey period [R403, 15_measurement_events_debug.md; 64 bits]. -/
  surveyTime : Nat := 0
  /-- Instant (ns) the running survey period began [R402, 15_measurement_events_debug.md; count]. -/
  surveyAt : Nat := 0
  /-- Whole hour of domain time of the newest copy [R404, 15_measurement_events_debug.md; count]. -/
  nfHour : Option Nat := none
  /-- Twenty-four hourly noise-floor copies, newest first [R404, 15_measurement_events_debug.md; 24 x 32 bits per bin]. -/
  nfHistory : List (FMap (Nat × Nat)) := []
  /-- Running ranging exchanges by node handle, at most 64 [R408, 15_measurement_events_debug.md; records]. -/
  ranges : FMap RangeRun := []
  /-- Latest ranging result by node handle [R409, 15_measurement_events_debug.md; 32 octets each]. -/
  results : FMap RangeResult := []
  /-- RANGE_ID of the next exchange [R405, 15_measurement_events_debug.md; 8 bits]. -/
  nextRangeId : Nat := 0
  /-- SENSE_SUPPLY: VIN mV, VBAT mV, VIO_OUT mA, core mV, input power mW [R411, 15_measurement_events_debug.md; 16, 16, 16, 16, 32 bits]. -/
  supply : List Nat := [0, 0, 0, 0, 0]
  /-- VIN and VBAT are in an excursion already recorded [R411, 15_measurement_events_debug.md; 2 bits]. -/
  excursion : List Bool := [false, false]
  /-- SENSE_TEMP: six temperatures in 0.1 degree C [R411, 15_measurement_events_debug.md; 6 x 16 bits signed]. -/
  temps : List Int := [0, 0, 0, 0, 0, 0]
  /-- AIN0 to AIN7, keyed 1 to 8 [R412, 15_measurement_events_debug.md; 12 octets each]. -/
  ain : FMap AinState := []
  deriving DecidableEq, Repr

/-- One program trace record, Table 15-8. -/
structure PtraceRecord where
  time : Nat
  kind : Nat
  engine : Nat
  tid : Nat
  source : Nat
  target : Nat
  deriving DecidableEq, Repr

/-- The program trace (R421). -/
structure Ptrace where
  /-- Ring of 65,536 records by sequence number [R421, 15_measurement_events_debug.md; 65,536 x 16 octets]. -/
  ring : FMap PtraceRecord := []
  /-- Next sequence number [R421, 15_measurement_events_debug.md; 32 bits]. -/
  nextSeq : Nat := 0
  /-- Oldest surviving sequence number [R421, 15_measurement_events_debug.md; 32 bits]. -/
  oldest : Nat := 0
  /-- Tracing has stopped on a full ring (STOP_FULL) or by a lock [R421, 15_measurement_events_debug.md; 1 bit]. -/
  stopped : Bool := false
  deriving DecidableEq, Repr

/-- The debug transport, the authentication module and the debug modules (R422 to R426). -/
structure Debug where
  /-- Level in force, 0 locked [R424, 15_measurement_events_debug.md; 2 bits]. -/
  level : Nat := 0
  /-- The instant (ns) at which the unlock runs out [R424, 15_measurement_events_debug.md; count]. -/
  expires : Option Nat := none
  /-- Consecutive failures [R424, 15_measurement_events_debug.md; 4 bits]. -/
  failures : Nat := 0
  /-- Submissions are refused until this instant (ns) [R424, 15_measurement_events_debug.md; count]. -/
  refusedUntil : Nat := 0
  /-- CHALLENGE octets [R423, 15_measurement_events_debug.md; 16 octets]. -/
  challenge : Octets := []
  /-- The challenge is valid until this instant (ns) [R423, 15_measurement_events_debug.md; count]. -/
  challengeUntil : Option Nat := none
  /-- REQUEST level [R424, 15_measurement_events_debug.md; 2 bits]. -/
  reqLevel : Nat := 0
  /-- REQUEST MINUTES [R424, 15_measurement_events_debug.md; 16 bits]. -/
  reqMinutes : Nat := 0
  /-- RESPONSE words 0x09 to 0x0B as written [R424, 15_measurement_events_debug.md; 4 x 32 bits]. -/
  response : List Nat := [0, 0, 0, 0]
  /-- Unlock refused by DEBUG_PERMIT, AUTH_STATUS [3] [R423, 15_measurement_events_debug.md; 1 bit]. -/
  permitRefused : Bool := false
  /-- Module selected on the transport [R422, 15_measurement_events_debug.md; 4 bits]. -/
  selected : Option Nat := none
  /-- Halted harts: 0 to 3 CC0 to CC3, 4 to 12 SQ0 to SQ8 [R426, 15_measurement_events_debug.md; 13 bits]. -/
  halted : BitVec 13 := 0#13
  /-- Halt requests waiting for the engine's halt point [R426, 15_measurement_events_debug.md; 13 bits]. -/
  haltPending : BitVec 13 := 0#13
  /-- DMI registers of modules 0 and 1, keyed 128 x module + address [R422, 15_measurement_events_debug.md; 32 bits each]. -/
  dmi : FMap Nat := []
  deriving DecidableEq, Repr

end Sys2Proof.Machine
end

