-- ==== Sys2Proof/Machine/StateModem.lean ====
section
/-! DEFINITION. The state of the modem: spectral masks and the OFDM-BL maps of every link (chapter 03). -/

namespace Sys2Proof.Machine

/-- One OFDM-BL map (Table 3-6). -/
structure BlMap where
  /-- MAP_ID [R84, 03_modulation_bit_loading.md; 4 bits]. -/
  mapId : Nat
  /-- RATE: 0 rate 1/2, 1 rate 3/4 [R84, 03_modulation_bit_loading.md; 2 bits]. -/
  rate : Nat
  /-- FALLBACK_MCS [R84, 03_modulation_bit_loading.md; 2 bits]. -/
  fallback : Nat
  /-- ACTIVATE_ASN [R84, 03_modulation_bit_loading.md; 40 bits]. -/
  activate : Nat
  /-- Loading of the 96 data sub-carriers, 0, 1, 2, 4 or 6 [R84, 03_modulation_bit_loading.md; 96 x 3 bits]. -/
  load : List Nat
  deriving DecidableEq, Repr

/-- Author states of Table 3-9. -/
inductive AuthorState where
  | none | estimate | offered | current
  deriving DecidableEq, Repr

/-- The OFDM-BL record of one link and band, both directions (R80, R86, R87). -/
structure BlLink where
  /-- Author state [R86, 03_modulation_bit_loading.md; 2 bits]. -/
  author : AuthorState := .none
  /-- Mean and variance of each sub-carrier's SNR, in 0.25 dB and its square, exact [R80, 03_modulation_bit_loading.md; 96 pairs]. -/
  est : List (Rat × Rat) := []
  /-- Trailers entered since the estimate was created or reset [R80, 03_modulation_bit_loading.md; count]. -/
  trailers : Nat := 0
  /-- Current map of the receive direction [R86, 03_modulation_bit_loading.md; 45 octets]. -/
  cur : Option BlMap := none
  /-- Next map of the receive direction [R86, 03_modulation_bit_loading.md; 45 octets]. -/
  next : Option BlMap := none
  /-- Next map acknowledged [R86, 03_modulation_bit_loading.md; 1 bit]. -/
  acked : Bool := false
  /-- Sends of the next map [R86, 03_modulation_bit_loading.md; 2 bits]. -/
  sends : Nat := 0
  /-- A Map IE waits to be sent in the next frame to the peer [R86, 03_modulation_bit_loading.md; 1 bit]. -/
  sendMap : Bool := false
  /-- Current map of the transmit direction [R87, 03_modulation_bit_loading.md; 45 octets]. -/
  userCur : Option BlMap := none
  /-- Pending map of the transmit direction [R87, 03_modulation_bit_loading.md; 45 octets]. -/
  userPending : Option BlMap := none
  /-- Consecutive OFDM-BL frames unacknowledged [R87, 03_modulation_bit_loading.md; 2 bits]. -/
  unacked : Nat := 0
  /-- FALLBACK_MCS of the last map received, if any [R87, 03_modulation_bit_loading.md; 2 bits]. -/
  userFallback : Option Nat := none
  /-- Map Ack waiting for the next frame to the author: its byte 1 [R87, 03_modulation_bit_loading.md; 8 bits]. -/
  sendAck : Option Nat := none
  deriving DecidableEq, Repr

/-- The modem (R66 to R90). -/
structure Modem where
  /-- OFDM-BL records by 4 x handle + band code, at most 2,048 [R89, 03_modulation_bit_loading.md; records]. -/
  links : FMap BlLink := []
  /-- Consecutive failed captures of the default mask set by band-sector [R75, 03_modulation_bit_loading.md; count each]. -/
  defaultFails : FMap Nat := []
  /-- Band-sectors whose transmitter is suspended on the mask [R75, 03_modulation_bit_loading.md; 9 bits]. -/
  suspended : List Nat := []
  /-- Scrambler field of the next OFDM PHR [R70, 03_modulation_bit_loading.md; 2 bits]. -/
  scrambler : Nat := 0
  /-- The event of R89 has been recorded for these links [R89, 03_modulation_bit_loading.md; record]. -/
  fullReported : List Nat := []
  deriving DecidableEq, Repr

end Sys2Proof.Machine
end

