-- ==== Sys2Proof/Machine/StatePower.lean ====
section
/-! DEFINITION. The state of supply, start, device states, lifecycle, profiles and junction protection (chapters 01 and
16), and of the crossing FIFOs. -/

namespace Sys2Proof.Machine

/-- The device states of Table 1-11; codes of R451. -/
inductive DevState where
  | off | dormant | boot | load | maintenance | active | follower | recovery | zeroized
  deriving DecidableEq, Repr

/-- The code of a device state in event 0x0010 and in DEVICE_STATE (R451, Table 1-16). -/
def DevState.code : DevState → Nat
  | .off => 0 | .dormant => 1 | .boot => 2 | .load => 3 | .maintenance => 4
  | .active => 5 | .follower => 6 | .recovery => 7 | .zeroized => 8

/-- The lifecycle stages of Table 1-13. -/
inductive Lifecycle where
  | factory | provisioned | field | retired
  deriving DecidableEq, Repr

/-- The code of a lifecycle stage in LIFECYCLE (0x1012). -/
def Lifecycle.code : Lifecycle → Nat
  | .factory => 0 | .provisioned => 1 | .field => 2 | .retired => 3

/-- Supply, start, device state, profiles and junction (R22 to R30, R431 to R437). -/
structure Power where
  /-- Device state [R22, 01_architecture.md; 9 values]. -/
  dev : DevState := .off
  /-- Lifecycle stage in one-way AON fuses [R25, 01_architecture.md; 4 values]. -/
  lifecycle : Lifecycle := .factory
  /-- DEGRADED_CAUSES 0x1011, Table 1-12 [R24, 01_architecture.md; 32 bits]. -/
  degraded : BitVec 32 := 0#32
  /-- VIN is above its thresholds [R431, 16_electrical_package.md; 1 bit]. -/
  vin : Bool := false
  /-- VBAT is at 2.5 V or more [R22, 01_architecture.md; 1 bit]. -/
  vbat : Bool := false
  /-- RST_N is low [R437, 16_electrical_package.md; 1 bit]. -/
  rstLow : Bool := false
  /-- The instant (ns) from which the AON count runs without a break [R22, R276, 01_architecture.md; count]. -/
  aonSince : Nat := 0
  /-- The contents AON keeps are valid, not lost in OFF [R22, 01_architecture.md; 1 bit]. -/
  aonValid : Bool := false
  /-- The start instant (ns) of the last start [R318, 12_boot_images_updates.md; count]. -/
  startAt : Nat := 0
  /-- Start cause latched in AON, Table 12-19 [R318, 12_boot_images_updates.md; 8 bits]. -/
  startCause : Nat := 0
  /-- Device state latched in AON at the reset or power-up [R451, 01_architecture.md; 9 values]. -/
  latchedState : DevState := .off
  /-- The instant (ns) of the end of the last start, for UPTIME [R401, 14_object_dictionary.md; count]. -/
  endOfStart : Nat := 0
  /-- STATE_TIME 0x1015: domain time of the last DEVICE_STATE change [R401, 14_object_dictionary.md; 64 bits]. -/
  stateTime : Nat := 0
  /-- The ring bypass switches are on [R23, 01_architecture.md; 1 bit]. -/
  bypassOn : Bool := true
  /-- The transmit gate is open: PAs may be driven [R22, R432, 16_electrical_package.md; 1 bit]. -/
  txGate : Bool := false
  /-- The DEM, TBL, NET, SET, UPD and RF rails are up [R432, 16_electrical_package.md; 1 bit]. -/
  rails : Bool := false
  /-- VIO_OUT is on [R434, 16_electrical_package.md; 1 bit]. -/
  vioOut : Bool := false
  /-- VIO_OUT current limit active, PIN_STATUS bit 6 [R434, 16_electrical_package.md; 1 bit]. -/
  vioLimit : Bool := false
  /-- Level of the ROLE_PREF strap pin [R437, 16_electrical_package.md; 1 bit]. -/
  rolePrefPin : Bool := false
  /-- ROLE_PREF as sampled at the last start [R437, 16_electrical_package.md; 1 bit]. -/
  rolePref : Bool := false
  /-- REC_RX level, PIN_STATUS bit 4 [R401, 14_object_dictionary.md; 1 bit]. -/
  recRx : Bool := true
  /-- PPS_IN level, PIN_STATUS bit 5 [R401, 14_object_dictionary.md; 1 bit]. -/
  ppsIn : Bool := false
  /-- CLOCK_LOCK 0xC000, PLL lock bits [R10, 01_architecture.md; 32 bits]. -/
  clockLock : BitVec 32 := 0#32
  /-- THERMAL_JUNCTION 0xC104 in 0.1 degree C [R31, 01_architecture.md; 16 bits signed]. -/
  junction : Int := 0
  /-- Economy is forced by row 1 of Table 1-15 [R30, 01_architecture.md; 1 bit]. -/
  thermForced : Bool := false
  /-- The instant (ns) from which the junction has stayed at or below 120 degree C [R30, 01_architecture.md; count]. -/
  coolSince : Option Nat := none
  /-- All PAs are held off under row 3 of Table 1-15 [R30, 01_architecture.md; 1 bit]. -/
  pasHeld : Bool := false
  /-- Bands that wait for their next slot boundary after row 5 of Table 1-15 [R30, 01_architecture.md; 3 bits]. -/
  pasWait : List Nat := []
  /-- Internal reset held under row 4 of Table 1-15 [R30, 01_architecture.md; 1 bit]. -/
  thermReset : Bool := false
  /-- Profile in force for the chip [R26, R29, 01_architecture.md; 8 bits]. -/
  chipProfile : Nat := 0
  /-- PROFILE_EFFECTIVE 0xC102 of sectors 0 to 3 [R27, 01_architecture.md; 4 x 8 bits]. -/
  effective : List Nat := [0, 0, 0, 0]
  /-- ASN of the reference slot boundary at which a profile change takes effect [R29, 01_architecture.md; 40 bits]. -/
  profileDue : Option Nat := none
  /-- The instant (ns) of a first retire command awaiting its confirmation [R25, 01_architecture.md; count]. -/
  retireArmed : Option Nat := none
  /-- Corrected errors counted per memory of Table 1-4 and DRAM [R15, 01_architecture.md; count each]. -/
  corrected : FMap Nat := []
  /-- TWIN_CLAIM_OUT is asserted, PIN_STATUS bit 1 [R301, 11_twin_sett_den.md; 1 bit]. -/
  claimOut : Bool := false
  /-- TWIN_CLAIM_IN is seen after its filter, PIN_STATUS bit 2 [R301, 11_twin_sett_den.md; 1 bit]. -/
  claimIn : Bool := false
  deriving DecidableEq, Repr

/-- One crossing FIFO (R16): its stored read words and what its two sides are doing. -/
structure Fifo where
  /-- Stored read words of 68 octets, oldest first, at most 64 [R16, 01_architecture.md; 64 x 544 bits]. -/
  words : List Octets := []
  /-- Octets packed so far into the word under construction [R17, 01_architecture.md; up to 48 octets]. -/
  packing : Octets := []
  /-- The word under construction is the first of its packet [R17, 01_architecture.md; 1 bit]. -/
  atStart : Bool := true
  /-- The writer is stalled on a full FIFO [R21, 01_architecture.md; 1 bit]. -/
  stalled : Bool := false
  /-- The packet under construction is poisoned [R19, 01_architecture.md; 1 bit]. -/
  poisoned : Bool := false
  /-- The write side discards units up to the packet's LAST (flush) [R20, 01_architecture.md; 1 bit]. -/
  dropToLast : Bool := false
  /-- The read side discards words up to the next FIRST (SBPAR error) [R18, 01_architecture.md; 1 bit]. -/
  skipping : Bool := false
  /-- The read side has begun a packet and not delivered its LAST [R20, 01_architecture.md; 1 bit]. -/
  midPacket : Bool := false
  /-- The instant (ns) of a flush request not yet complete [R20, 01_architecture.md; count]. -/
  flushAt : Option Nat := none
  /-- Words discarded and counted [R18, 01_architecture.md; count]. -/
  discarded : Nat := 0
  deriving DecidableEq, Repr

end Sys2Proof.Machine
end

