-- ==== Sys2Proof/Machine/StateQueue.lean ====
section
/-! DEFINITION. The state of queues, buffers, shapers and gates (chapter 07). -/

namespace Sys2Proof.Machine

/-- A packet that crosses into the queue manager or stands in a queue: its frame header (Table 7-3) and octets. -/
structure QPacket where
  /-- KIND: true for a class queue [R180, 07_queues_shaping.md; 2 bits]. -/
  classQueue : Bool
  /-- TARGET: local node index, or port [R180, 07_queues_shaping.md; 17 bits]. -/
  target : Nat
  /-- CLASS [R180, 07_queues_shaping.md; 3 bits]. -/
  cls : Nat
  /-- ACK_REQ [R180, 07_queues_shaping.md; 1 bit]. -/
  ackReq : Bool
  /-- PENDING: cut-through, tag not verified [R180, 07_queues_shaping.md; 1 bit]. -/
  cutThrough : Bool
  /-- MODE fixed at ingress, 0 if resolved at the latch [R180, 07_queues_shaping.md; 8 bits]. -/
  mode : Nat
  /-- LENGTH [R180, 07_queues_shaping.md; 16 bits]. -/
  length : Nat
  /-- SOURCE handle, all ones for a wired or local source [R180, 07_queues_shaping.md; 32 bits]. -/
  source : Nat
  /-- ENQ_TIME [R180, 07_queues_shaping.md; 64 bits]. -/
  enqTime : Nat
  /-- Instant (ns) of linking, for the flush rule [R191, 07_queues_shaping.md; count]. -/
  linkedAt : Nat
  /-- EXPIRY [R180, 07_queues_shaping.md; 32 bits]. -/
  expiry : Nat
  /-- Buffer index in the packet pool, bit 31 for a large buffer; none in the burst buffers [R180, 07_queues_shaping.md; 32 bits]. -/
  buffer : Option Nat
  /-- POISON seen [R182, 07_queues_shaping.md; 1 bit]. -/
  poison : Bool
  /-- All words have arrived (LAST) [R182, 07_queues_shaping.md; 1 bit]. -/
  complete : Bool
  /-- Ingress: queue port 0 to 15 the packet came from [R190, 07_queues_shaping.md; 4 bits]. -/
  ingress : Nat
  /-- MAC address the frame leaves with on ETH0 or ETH1, its destination chip index in 2 octets on a sett port, or the node, home and counter of a Join Response without a context [R165, R202, 08_forwarding_tables.md; 48 bits]. -/
  destMac : Octets
  /-- Frame octets [R180, 07_queues_shaping.md; octets]. -/
  data : Octets
  /-- Latched into a look-ahead entry [R181, 07_queues_shaping.md; 1 bit]. -/
  latched : Bool := false
  /-- Flushed while latched: dropped if unacknowledged [R191, 07_queues_shaping.md; 1 bit]. -/
  flushed : Bool := false
  /-- On the wire, started at this port [R190, 07_queues_shaping.md; 1 bit]. -/
  started : Bool := false
  deriving DecidableEq, Repr

/-- One of the 512 shapers (R193). -/
structure Shaper where
  /-- Committed bucket in millionths of a byte [R193, 07_queues_shaping.md; 64 bits signed]. -/
  tc : Int := 0
  /-- Peak bucket in millionths of a byte [R193, 07_queues_shaping.md; 64 bits signed]. -/
  tp : Int := 0
  /-- t_last in us of domain time [R193, 07_queues_shaping.md; 64 bits]. -/
  last : Nat := 0
  /-- Configuration of Table 7-9 in effect [R195, 07_queues_shaping.md; 20 octets]. -/
  config : Octets := []
  /-- Accepted configuration and its write instant in us, waiting for the next consultation [R195, 07_queues_shaping.md; record]. -/
  pending : Option (Octets × Nat) := none
  /-- Green, yellow and red consultations [R200, 07_queues_shaping.md; 3 x 32 bits]. -/
  green : Nat := 0
  yellow : Nat := 0
  red : Nat := 0
  deriving DecidableEq, Repr

/-- Queues, shapers and gates (R176 to R200). -/
structure Queues where
  /-- Packets in the queue manager's buffers or on their way into it, by packet number [R179, 07_queues_shaping.md; records]. -/
  packets : FMap QPacket := []
  /-- Number of the next packet [R179, 07_queues_shaping.md; count]. -/
  nextPacket : Nat := 0
  /-- Node queues by local index: packet numbers in class order [R181, 07_queues_shaping.md; 131,072 descriptors]. -/
  nodeQ : FMap (List Nat) := []
  /-- SHAPER field of node queues other than 0xFFFF [R181, 07_queues_shaping.md; 131,072 x 16 bits]. -/
  nodeShaper : FMap Nat := []
  /-- Air and wired class queues by 8 x port + class: packet numbers [R179, 07_queues_shaping.md; 16 x 8 queues]. -/
  classQ : FMap (List Nat) := []
  /-- Active lists by 8 x band-sector + class: node indices in order [R186, 07_queues_shaping.md; 72 lists]. -/
  active : FMap (List Nat) := []
  /-- Packet a wired port is sending, by port [R189, 07_queues_shaping.md; 6 records]. -/
  sending : FMap Nat := []
  /-- The 512 shapers, those not at their defaults [R193, 07_queues_shaping.md; 512 records]. -/
  shapers : FMap Shaper := []
  /-- Charge of the frame latched by a band-sector: shaper, counted length, green [R187, 07_queues_shaping.md; 9 records]. -/
  charges : FMap (Nat × Nat × Bool) := []
  /-- Gate lists in effect: 1 to 9 GATE_AIR, 17 and 18 GATE_ETH [R199, 07_queues_shaping.md; 11 records]. -/
  gates : FMap Octets := []
  /-- Gate lists accepted and waiting for a cycle start, same keys [R199, 07_queues_shaping.md; 11 records]. -/
  gatesPending : FMap Octets := []
  deriving DecidableEq, Repr

end Sys2Proof.Machine
end

