-- ==== Sys2Proof/Machine/StateRx.lean ====
section
/-! DEFINITION. The state of the receiver: lanes, gain, marks and noise floor (chapter 02). -/

namespace Sys2Proof.Machine

/-- The lane states of Table 2-5. -/
inductive LaneState where
  | idle | acquire | shr | phr | payload | test | withdrawn
  deriving DecidableEq, Repr

/-- One of the 128 demodulator lanes (R40, R48). -/
structure Lane where
  /-- State of Table 2-5 [R40, 02_concurrent_receive.md; 7 values]. -/
  state : LaneState := .idle
  /-- Band-sector subindex held [R33, 02_concurrent_receive.md; 8 bits]. -/
  bandSector : Nat := 0
  /-- Lowest bin of the channel held [R34, 02_concurrent_receive.md; 9 bits]. -/
  firstBin : Nat := 0
  /-- PHY mode code [R64, 02_concurrent_receive.md; 8 bits]. -/
  mode : Nat := 0
  /-- Chain B declared the detection, then chain B selected [R52, 02_concurrent_receive.md; 1 bit]. -/
  chainB : Bool := false
  /-- The chain has been selected: the lane holds one chain only [R50, 02_concurrent_receive.md; 1 bit]. -/
  selected : Bool := false
  /-- Class of the detection [R43, 02_concurrent_receive.md; 3 bits]. -/
  cls : Nat := 7
  /-- Detection instant (ns) [R37, 02_concurrent_receive.md; count]. -/
  detectedAt : Nat := 0
  /-- P_corr of the detection in 0.25 dBm [R37, 02_concurrent_receive.md; 16 bits signed]. -/
  power : Int := 0
  /-- RSSI at the AGC freeze in 0.25 dBm [R51, 02_concurrent_receive.md; 16 bits signed]. -/
  rssi : Int := 0
  /-- Selected chain's correlation SNR in 0.25 dB [R52, 02_concurrent_receive.md; 16 bits signed]. -/
  corrSnr : Int := 0
  /-- Receive timestamp in 1/16 ns of domain time [R63, 02_concurrent_receive.md; 68 bits]. -/
  stamp : Nat := 0
  /-- CAPTURED, MERGED, DESENSE, CLIPPED, EXTENDED of the descriptor [R64, 02_concurrent_receive.md; 5 bits]. -/
  captured : Bool := false
  merged : Bool := false
  desense : Bool := false
  clipped : Bool := false
  extended : Bool := false
  /-- Matched receive cell, if any [R43, 02_concurrent_receive.md; 20 bits]. -/
  cell : Option Nat := none
  /-- ASN of the band's slot at detection [R64, 02_concurrent_receive.md; 40 bits]. -/
  asn : Nat := 0
  /-- The receive descriptor written at the PHR check, then the packet it begins: PSDU and SNR trailer [R64, R79, 02_concurrent_receive.md; up to 2,175 octets]. -/
  descriptor : Octets := []
  /-- Consecutive loopback failures [R48, 02_concurrent_receive.md; count]. -/
  fails : Nat := 0
  /-- Consecutive hourly passes while withdrawn [R48, 02_concurrent_receive.md; count]. -/
  passes : Nat := 0
  /-- Earliest instant (ns) of the next hourly retest [R48, 02_concurrent_receive.md; count]. -/
  retestAt : Nat := 0
  deriving DecidableEq, Repr

/-- The receiver (R35 to R65). -/
structure Receiver where
  /-- The 128 lanes that are not idle with default contents, by number [R40, 02_concurrent_receive.md; 128 records]. -/
  lanes : FMap Lane := []
  /-- Lane whose test turn comes next [R48, 02_concurrent_receive.md; 7 bits]. -/
  testNext : Nat := 0
  /-- A test turn waits for its lane to be IDLE [R48, 02_concurrent_receive.md; 7 bits]. -/
  testWaiting : Option Nat := none
  /-- Earliest instant (ns) of the next test turn [R48, 02_concurrent_receive.md; count]. -/
  testDue : Nat := 0
  /-- GAIN_STATE 0x2121 by chain subindex, 0 to 10 [R49, 02_concurrent_receive.md; 18 x 4 bits]. -/
  gain : FMap Nat := []
  /-- Announced gain state by chain subindex [R50, 02_concurrent_receive.md; 18 x 4 bits]. -/
  announced : FMap Nat := []
  /-- Consecutive deferrals by chain subindex [R50, 02_concurrent_receive.md; count each]. -/
  deferrals : FMap Nat := []
  /-- Band-sectors whose chains are blanked by own transmission [R56, 02_concurrent_receive.md; 9 bits]. -/
  blanked : List Nat := []
  /-- DESENSE_MARK 0x2151 [R56, 02_concurrent_receive.md; 16 bits]. -/
  desense : BitVec 16 := 0#16
  /-- Sum of valid slot values and their count per bin in the running pass, keyed 65,536 x subindex + bin [R60, 02_concurrent_receive.md; record per bin]. -/
  noiseSum : FMap (Nat × Nat) := []
  /-- Published floor (I16 code, 0.25 dBm) and valid-slot count per bin [R61, 02_concurrent_receive.md; 32 bits per bin]. -/
  noise : FMap (Nat × Nat) := []
  /-- ASN of the latest publication [R62, 02_concurrent_receive.md; 40 bits]. -/
  noiseAsn : Nat := 0
  /-- Passes published since the start [R61, 02_concurrent_receive.md; count]. -/
  noisePasses : Nat := 0
  deriving DecidableEq, Repr

end Sys2Proof.Machine
end

