-- ==== Sys2Proof/Machine/StateSett.lean ====
section
/-! DEFINITION. The state of the sett ports, the den ring, the twin pair, the journal and sequencer restarts
(chapter 11). -/

namespace Sys2Proof.Machine

/-- The states of a sett port (Table 11-13). -/
inductive SettPortState where
  | down | training | up
  deriving DecidableEq, Repr

/-- The code of a port state in SETT_PORT_STATUS. -/
def SettPortState.code : SettPortState → Nat
  | .down => 0 | .training => 1 | .up => 2

/-- One sett port (R281, R282, R293). -/
structure SettPort where
  /-- Port state [R282, 11_twin_sett_den.md; 2 bits]. -/
  state : SettPortState := .down
  /-- The last 8 values of d, in 1/16 ns, newest first [R293, 11_twin_sett_den.md; 8 x 32 bits]. -/
  delays : List Int := []
  /-- Port-down count [R317, 11_twin_sett_den.md; 32 bits]. -/
  downs : Nat := 0
  /-- Transit frames waiting to leave on this port, first first [R287, 11_twin_sett_den.md; 16 KiB]. -/
  transit : List SettFrame := []
  /-- Departure (1/16 ns) of the LINK request in flight [R293, 11_twin_sett_den.md; 68 bits]. -/
  request : Option Nat := none
  /-- Latest MARK: HOPS, MASTER, MARK_NO and the instant (ns) it was taken [R294, 11_twin_sett_den.md; record]. -/
  mark : Option (Nat × Nat × Nat × Nat) := none
  /-- Neighbour DEVICE_EUI last reported as differing from DEN_CFG [R316, 11_twin_sett_den.md; 64 bits]. -/
  differs : Octets := []
  deriving DecidableEq, Repr

/-- A known member of the den (R290). -/
structure Member where
  census : Census
  /-- Hop count by ring port 1 EAST, 2 WEST, 4 SPUR where it is heard [R289, 11_twin_sett_den.md; record]. -/
  hops : FMap Nat
  /-- Instant (ns) of the last census by port [R291, 11_twin_sett_den.md; record]. -/
  heard : FMap Nat
  /-- Instant (ns) of the last census on any port [R290, 11_twin_sett_den.md; count]. -/
  heardAt : Nat
  /-- Consecutive misses [R290, 11_twin_sett_den.md; 2 bits]. -/
  misses : Nat
  /-- Census frames received, for event 0x7013 [R290, 11_twin_sett_den.md; count]. -/
  frames : Nat
  deriving DecidableEq, Repr

/-- Sett links and the den (R281 to R298, R316). -/
structure Sett where
  /-- EAST 1, WEST 2, TWIN 3, SPUR 4 [R281, 11_twin_sett_den.md; 4 records]. -/
  ports : FMap SettPort := []
  /-- Next SENDER_FC [R286, 11_twin_sett_den.md; 64 bits]. -/
  senderFc : Nat := 0
  /-- Persisted end of the reserved block of SENDER_FC [R286, 11_twin_sett_den.md; 64 bits]. -/
  senderFcEnd : Nat := 0
  /-- Known members by chip index, at most 7 [R290, 11_twin_sett_den.md; 7 records]. -/
  members : FMap Member := []
  /-- CENSUS_NO of the next census [R289, 11_twin_sett_den.md; 32 bits]. -/
  censusNo : Nat := 0
  /-- Instant (ns) of the last census sent [R289, 11_twin_sett_den.md; count]. -/
  censusAt : Option Nat := none
  /-- The ring is closed [R291, 11_twin_sett_den.md; 1 bit]. -/
  closed : Bool := false
  /-- Instant (ns) at which the chip's own census last returned on the opposite ring port [R291, 11_twin_sett_den.md; count]. -/
  returnedAt : Option Nat := none
  /-- Ring master [R292, 11_twin_sett_den.md; 12 bits]. -/
  master : Option Nat := none
  /-- MARK_NO last sent [R294, 11_twin_sett_den.md; 32 bits]. -/
  markSent : Option Nat := none
  /-- HOPS of the mark last taken by the SETT entry [R294, 11_twin_sett_den.md; 8 bits]. -/
  markHops : Nat := 0xFF
  /-- The mark the SETT entry took last: MARK_NO, HOPS, port [R294, 11_twin_sett_den.md; record]. -/
  markTaken : Option (Nat × Nat × Nat) := none
  deriving DecidableEq, Repr

/-- Claim logic states of Table 11-5. -/
inductive ClaimState where
  | released | contend | claimed
  deriving DecidableEq, Repr

/-- A restart of a sequencer under way (R313). -/
structure SeqRestart where
  cause : Nat
  /-- The sequencer has been halted and reloaded [R313, 11_twin_sett_den.md; 1 bit]. -/
  halted : Bool := false
  /-- ASN of the boundary at which it resumes [R313, 11_twin_sett_den.md; 40 bits]. -/
  resumeAsn : Nat := 0
  deriving DecidableEq, Repr

/-- The twin pair (R299 to R315). -/
structure Twin where
  /-- Claim logic state [R302, 11_twin_sett_den.md; 2 bits]. -/
  claim : ClaimState := .released
  /-- End (ns) of the backoff delay [R302, 11_twin_sett_den.md; count]. -/
  backoffDue : Option Nat := none
  /-- ASN of the reference slot boundary at which the claim is asserted [R302, 11_twin_sett_den.md; 40 bits]. -/
  claimAsn : Option Nat := none
  /-- Instant (ns) of the last change of role [R310, 11_twin_sett_den.md; count]. -/
  roleAt : Nat := 0
  /-- Pair declaration of the partner [R299, 11_twin_sett_den.md; record]. -/
  partner : Option Declaration := none
  /-- Declarations disagree [R299, 11_twin_sett_den.md; 1 bit]. -/
  mismatch : Bool := false
  /-- Consecutive frames whose CLAIM disagrees with TWIN_CLAIM_IN [R303, 11_twin_sett_den.md; 2 bits]. -/
  disagree : Nat := 0
  /-- Interlock fault in force [R303, 11_twin_sett_den.md; 1 bit]. -/
  interlock : Bool := false
  /-- Instant (ns) from which the disagreement has been absent [R303, 11_twin_sett_den.md; count]. -/
  agreeSince : Nat := 0
  /-- Partner absent [R306, 11_twin_sett_den.md; 1 bit]. -/
  absent : Bool := true
  /-- Consecutive misses of the partner [R306, 11_twin_sett_den.md; 2 bits]. -/
  misses : Nat := 0
  /-- Instant (ns) of the last verified frame of the partner [R306, 11_twin_sett_den.md; count]. -/
  heardAt : Nat := 0
  /-- JSEQ of the next record [R306, 11_twin_sett_den.md; 32 bits]. -/
  nextJseq : Nat := 1
  /-- Records kept in the DRAM journal region, oldest first [R306, 11_twin_sett_den.md; 256 MiB]. -/
  kept : List JournalRecord := []
  /-- JSEQ of the next record to go into a JOURNAL frame [R306, 11_twin_sett_den.md; 32 bits]. -/
  sendFrom : Nat := 1
  /-- Instant (ns) of the first record of the frame being filled [R306, 11_twin_sett_den.md; count]. -/
  fillAt : Option Nat := none
  /-- Instant (ns) of the last JOURNAL or JACK frame sent [R306, 11_twin_sett_den.md; count]. -/
  sentAt : Nat := 0
  /-- Records in the reference slot so far [R305, 11_twin_sett_den.md; 32 bits]. -/
  slotRecords : Nat := 0
  /-- Cell outcomes of the running slot [R305, 11_twin_sett_den.md; list]. -/
  outcomes : List (Nat × Nat × Nat × Nat) := []
  /-- RECEIVED_JSEQ: reported by the follower, or own as follower [R307, 11_twin_sett_den.md; 32 bits]. -/
  received : Nat := 0
  /-- APPLIED_JSEQ: reported by the follower, or own as follower [R307, 11_twin_sett_den.md; 32 bits]. -/
  applied : Nat := 0
  /-- Highest JSEQ seen by the follower [R306, 11_twin_sett_den.md; 32 bits]. -/
  seen : Nat := 0
  /-- Words of applied TRNG records not yet consumed by the follower: consumer, words [R305, 11_twin_sett_den.md; list]. -/
  trngWords : List (Nat × List Nat) := []
  /-- COMPLETED_ASN [R307, 11_twin_sett_den.md; 40 bits]. -/
  completedAsn : Nat := 0
  /-- READY of the follower: own, or as its JACK says [R307, 11_twin_sett_den.md; 1 bit]. -/
  ready : Bool := false
  /-- The follower is marked as lagging [R306, 11_twin_sett_den.md; 1 bit]. -/
  lagging : Bool := false
  /-- Records are kept again from s0 on, while the follower is still marked as lagging [R306, R311, 11_twin_sett_den.md; 1 bit]. -/
  fromS0 : Bool := false
  /-- The follower has stopped applying records until a snapshot resynchronises it [R306, 11_twin_sett_den.md; 1 bit]. -/
  stopped : Bool := true
  /-- JSEQ of the last record before the last SLOT_END applied [R309, 11_twin_sett_den.md; 32 bits]. -/
  slotEndJseq : Nat := 0
  /-- Packets the follower has forwarded since the last SLOT_END it applied [R309, 11_twin_sett_den.md; list]. -/
  afterSlotEnd : List Packet := []
  /-- D of the last pass [R308, 11_twin_sett_den.md; 256 bits]. -/
  digest : Octets := []
  /-- Records of the running digest pass, in JSEQ order [R308, 11_twin_sett_den.md; list]. -/
  passRecords : List JournalRecord := []
  /-- Number of the running digest pass [R308, 11_twin_sett_den.md; 32 bits]. -/
  pass : Nat := 0
  /-- A pass the follower has completed and not yet compared: its number, and its D_k agrees with the DIGEST record
  [R308, 11_twin_sett_den.md; record]. -/
  digestDue : Option (Nat × Bool) := none
  /-- The last digest comparison agreed [R308, 11_twin_sett_den.md; 1 bit]. -/
  agreed : Bool := true
  /-- Instant (ns) from which a swap is searched for, 1 h ahead when it was postponed [R310, 11_twin_sett_den.md; count]. -/
  swapSince : Option Nat := none
  /-- Quiet slot m of the announced swap [R310, 11_twin_sett_den.md; 40 bits]. -/
  swapAsn : Option Nat := none
  /-- SWAP_READY: own, or as the follower's JACK says [R310, 11_twin_sett_den.md; 1 bit]. -/
  swapReady : Bool := false
  /-- The follower has requested a snapshot [R311, 11_twin_sett_den.md; 1 bit]. -/
  snapWanted : Bool := false
  /-- s0, instant (ns) it was fixed and next CHUNK_NO of the snapshot in progress [R311, 11_twin_sett_den.md; record]. -/
  snapshot : Option (Nat × Nat × Nat) := none
  /-- The follower has a complete snapshot and awaits the first record after it, whose ASN is s0
  [R308, R311, 11_twin_sett_den.md; 1 bit]. -/
  awaitFirst : Bool := false
  /-- Chunks stored by the follower, by CHUNK_NO: region, offset, data [R311, 11_twin_sett_den.md; 256 MiB]. -/
  chunks : FMap (Nat × Nat × Octets) := []
  /-- KEY_SLOT and KEY_COUNTER of the JACK [R306, 11_twin_sett_den.md; 40 bits]. -/
  keySlot : Nat := 0
  keyCounter : Nat := 0
  /-- Own RF loopback results, bit per transmit chain [R306, R312, 11_twin_sett_den.md; 9 bits]. -/
  loopback : BitVec 9 := 0x1FF#9
  /-- LOOPBACK of the partner [R306, 11_twin_sett_den.md; 9 bits]. -/
  partnerLoopback : Nat := 0
  /-- Consecutive RF loopback failures by band-sector [R312, 11_twin_sett_den.md; count each]. -/
  loopFails : FMap Nat := []
  /-- Instant (ns) of each chain's last loopback [R312, 11_twin_sett_den.md; 9 records]. -/
  loopAt : FMap Nat := []
  /-- Answers to host writes held for their receipt: JSEQ, endpoint and frame [R307, 11_twin_sett_den.md; records]. -/
  heldAnswers : List (Nat × Endpoint × Octets) := []
  /-- Counters to be set under R163 at first use after a takeover; 0xFFFF_FFFF is NET_FC [R309, 11_twin_sett_den.md; list]. -/
  raiseDue : List Nat := []
  /-- Sequencer restarts by band-sector [R313, 11_twin_sett_den.md; 9 records]. -/
  restarts : FMap SeqRestart := []
  /-- Instant (ns) of the last watchdog expiry by band-sector [R313, 11_twin_sett_den.md; 9 records]. -/
  watchdogAt : FMap Nat := []
  /-- Instants (ns) of the corrected errors of the last second, by memory [R312, 11_twin_sett_den.md; lists]. -/
  eccTimes : FMap (List Nat) := []
  /-- Instant (ns) of the last scrub pass [R314, 11_twin_sett_den.md; count]. -/
  scrubAt : Nat := 0
  deriving DecidableEq, Repr

end Sys2Proof.Machine
end

