-- ==== Sys2Proof/Machine/StateSop.lean ====
section
/-! DEFINITION. The state of the object dictionary, the sessions and the SOP transports (chapter 14). -/

namespace Sys2Proof.Machine

/-- A segmented transfer (R386). -/
structure Transfer where
  write : Bool
  index : Nat
  sub : Nat
  total : Nat
  /-- Octets received, or the latched value. -/
  data : Octets
  /-- SCHED_CELL_INDEX, UPDATE_OFFSET or STAGE_OFFSET as it stood at the start. -/
  operand : Nat
  /-- Instant (ns) of the last segment. -/
  segAt : Nat
  deriving DecidableEq, Repr

/-- A subscription (R387). -/
structure Subscription where
  index : Nat
  sub : Nat
  mode : Nat
  interval : Nat
  /-- Instant (ns) of the next sample. -/
  due : Nat
  /-- Value last sent. -/
  sent : Option Octets
  /-- Newest pending value and the domain time it was sampled at. -/
  waiting : Option (Octets × Nat)
  lost : Bool
  deriving DecidableEq, Repr

/-- An EXECUTE that waits for its command (R385). -/
structure ExecuteWait where
  seq : Nat
  index : Nat
  sub : Nat
  reads : List (Nat × Nat)
  /-- Position of the first read item: WCOUNT. -/
  base : Nat
  startedAt : Nat
  deriving DecidableEq, Repr

/-- What every session, and every endpoint's SID 0, holds of its own (R376, R386). -/
structure Views where
  /-- Cursor objects by 256 x index + subindex, those written [R376, 14_object_dictionary.md; octets]. -/
  cursors : FMap Octets := []
  /-- Latched views and windows by 256 x index + subindex [R376, 14_object_dictionary.md; octets]. -/
  windows : FMap Octets := []
  /-- EVT_MARK written [R419, 15_measurement_events_debug.md; 32 bits]. -/
  mark : Nat := 0
  /-- Segmented transfer [R386, 14_object_dictionary.md; record]. -/
  transfer : Option Transfer := none
  /-- EXECUTE in its completion wait [R385, 14_object_dictionary.md; record]. -/
  execute : Option ExecuteWait := none
  /-- A COMMIT in progress, with its SEQ [R375, 14_object_dictionary.md; record]. -/
  commit : Option Nat := none
  /-- Subscriptions by SUB_ID, at most 16 [R387, 14_object_dictionary.md; 16 records]. -/
  subs : FMap Subscription := []
  /-- SUB_ID of the next subscription [R387, 14_object_dictionary.md; 8 bits]. -/
  nextSub : Nat := 0
  /-- Notification count [R379, 14_object_dictionary.md; 32 bits]. -/
  notifies : Nat := 0
  /-- Skipped counts of the last trace and program-trace latches [R368, 13_engines_task_scheduler.md; 2 x 32 bits]. -/
  traceSkipped : Nat := 0
  ptraceSkipped : Nat := 0
  /-- Status of the last write or command the caller made through a row of the command table [R388, 14_object_dictionary.md; 8 bits]. -/
  status : Nat := 0
  deriving DecidableEq, Repr

/-- One session, SID 1 to 8 (R389 to R393). -/
structure Session where
  endpoint : Endpoint
  role : Nat
  method : Nat
  /-- Half-open until AUTH [R391, 14_object_dictionary.md; 1 bit]. -/
  half : Bool
  /-- Instant (ns) of OPEN, then of the last accepted request. -/
  activeAt : Nat
  hostNonce : Octets
  chipNonce : Octets
  /-- Session key of METHOD 0 [R391, 14_object_dictionary.md; 128 bits]. -/
  key : Octets
  /-- Key slot of the role key, for its commit. -/
  slot : Nat
  /-- SEQ of the last accepted request. -/
  lastSeq : Option Nat
  /-- Stored last response; none while the request runs. -/
  response : Option Octets
  views : Views
  deriving DecidableEq, Repr

/-- A CAN assembly (R396). -/
structure CanAssembly where
  fragment : Nat
  octets : Octets
  lastAt : Nat
  priority : Nat
  deriving DecidableEq, Repr

/-- Sessions and transports (R379 to R399). -/
structure Sop where
  /-- Sessions by SID 1 to 8 [R393, 14_object_dictionary.md; 8 records]. -/
  sessions : FMap Session := []
  /-- SID 0 of each endpoint that has used it [R376, R393, 14_object_dictionary.md; records]. -/
  endpoints : List (Endpoint × Views) := []
  /-- Frames received and not yet taken by the OD service, oldest first [R382, 14_object_dictionary.md; list]. -/
  inbox : List (Endpoint × Octets) := []
  /-- Consecutive AUTH failures by transport code [R393, 14_object_dictionary.md; 7 x 8 bits]. -/
  failures : FMap Nat := []
  /-- Lockouts by transport code: instant (ns) they end [R393, 14_object_dictionary.md; 7 records]. -/
  lockout : FMap Nat := []
  /-- CAN assemblies by 128 x bus + host node [R396, 14_object_dictionary.md; records]. -/
  can : FMap CanAssembly := []
  /-- PRIORITY of the last request of each CAN host, by 128 x bus + host node [R396, 14_object_dictionary.md; 3 bits each]. -/
  canPrio : FMap Nat := []
  /-- CAN buses whose transmitter is held off after a dominant timeout [R443, 16_electrical_package.md; 2 bits]. -/
  canHeld : List Nat := []
  /-- Address and port that each UDP endpoint addressed last [R397, 14_object_dictionary.md; records]. -/
  udpLocal : List (Endpoint × Octets × Nat) := []
  /-- MB0 responses waiting, the first in C2H_BUF, at most 8 queued behind it [R398, 14_object_dictionary.md; 9 x 8,192 octets]. -/
  mbOut : List Octets := []
  /-- NTF_HEAD, NTF_TAIL and the notification ring [R398, 14_object_dictionary.md; 64 x 256 octets]. -/
  ntfHead : Nat := 0
  ntfTail : Nat := 0
  ntfRing : FMap Octets := []
  /-- IRQ_MASK [R398, 14_object_dictionary.md; 3 bits]. -/
  irqMask : Nat := 0
  /-- SPI responses and notifications waiting, oldest first [R399, 14_object_dictionary.md; list]. -/
  spiOut : List Octets := []
  /-- SPI OVERRUN [R399, 14_object_dictionary.md; 1 bit]. -/
  overrun : Bool := false
  /-- CAN_CFG as taken at the last start, by bus [R401, 14_object_dictionary.md; 2 x 3 octets]. -/
  canCfg : FMap Octets := []
  deriving DecidableEq, Repr

end Sys2Proof.Machine
end

