-- ==== Sys2Proof/Machine/StateThreads.lean ====
section
/-! DEFINITION. The state of the hardware task scheduler, its threads, application queues, mailboxes and observation
(chapter 13). -/

namespace Sys2Proof.Machine

/-- Thread states of Table 13-1. -/
inductive ThreadState where
  | free | ready | running | blocked | suspended | faulted
  deriving DecidableEq, Repr

/-- The STATE code of Table 13-1. -/
def ThreadState.code : ThreadState → Nat
  | .free => 0 | .ready => 1 | .running => 2 | .blocked => 3 | .suspended => 4 | .faulted => 5

/-- One thread: its control word (Table 13-1), its entry, and its thread registers (Table 13-6). -/
structure Thread where
  state : ThreadState := .ready
  prio : Nat := 16
  /-- AFF_CC1, AFF_CC2, AFF_CC3 as cores 1 to 3. -/
  aff : List Nat := [1, 2, 3]
  core : Nat := 0
  lsf : Bool := false
  wasBlocked : Bool := false
  slice : Nat := 0
  waitMask : Nat := 0
  pending : Nat := 0
  entry : Nat := 0
  stack : Nat := 0
  argument : Nat := 0
  /-- Value the last read of a thread register returned: BLOCK, FLAGS_TAKE, DTIME, RANDOM [R354, 13_engines_task_scheduler.md; 64 bits]. -/
  result : Nat := 0
  flags : Nat := 0
  timer : Nat := 0
  createResult : Nat := 0xFF
  apqResult : FMap Nat := []
  enqResult : Nat := 0
  /-- An ENQ_SUBMIT was refused with status 2, with its class: wake source 1 is owed [R360, 13_engines_task_scheduler.md; record]. -/
  enqWait : Option Nat := none
  dispatches : Nat := 0
  /-- Run time in ns. -/
  runNs : Nat := 0
  /-- Instant (ns) of the last dispatch. -/
  runSince : Nat := 0
  /-- Instant (ns) the thread last became READY. -/
  readySince : Nat := 0
  /-- What the thread holds as a caller of the OD mailbox [R363, R376, 13_engines_task_scheduler.md; record]. -/
  views : Views := {}
  deriving DecidableEq, Repr

/-- One outstanding mailbox request (R363). -/
structure MailRequest where
  core : Nat
  tid : Nat
  addr : Nat
  /-- 0 SEC, 1 OD, 2 EVT. -/
  target : Nat
  /-- Cipher job of a SEC request. -/
  job : Option Nat
  /-- Result once known: STATUS and output octets. -/
  result : Option (Nat × Octets)
  deriving DecidableEq, Repr

/-- One scheduler trace record (Table 13-8). -/
structure TraceRecord where
  time : Nat
  kind : Nat
  core : Nat
  sources : Nat
  tidOut : Nat
  tidIn : Nat
  prioIn : Nat
  fast : Bool
  prioOut : Nat
  depth : Nat
  seq : Nat
  deriving DecidableEq, Repr

/-- Running statistics of one core (Table 13-9), in ns and samples. -/
structure CoreStats where
  lsfNs : Nat := 0
  appNs : Nat := 0
  idleNs : Nat := 0
  depthMax : Nat := 0
  depthSum : Nat := 0
  depthSamples : Nat := 0
  waitMax : Nat := 0
  waitSum : Nat := 0
  dispatches : Nat := 0
  preempts : Nat := 0
  /-- Instant (ns) up to which the record accounts. -/
  since : Nat := 0
  deriving DecidableEq, Repr

/-- The task scheduler (R352 to R369). -/
structure Sched where
  /-- Threads by TID, those not FREE [R352, 13_engines_task_scheduler.md; 256 x 8 octets and contexts]. -/
  threads : FMap Thread := []
  /-- Ready lists by priority, in FIFO order [R355, 13_engines_task_scheduler.md; 32 lists]. -/
  lists : FMap (List Nat) := []
  /-- Thread running on each of CC1 to CC3 [R355, 13_engines_task_scheduler.md; 3 x 8 bits]. -/
  running : FMap Nat := []
  /-- Prefetch slot of each of CC1 to CC3 [R356, 13_engines_task_scheduler.md; 3 x 8 bits]. -/
  slots : FMap Nat := []
  /-- Application thread memory from 0x8000_0000 [R358, 13_engines_task_scheduler.md; 512 MiB]. -/
  memory : Memory := []
  /-- Application queues 0 to 63: packet numbers [R362, 13_engines_task_scheduler.md; 64 queues]. -/
  queues : FMap (List Nat) := []
  /-- Mailbox requests outstanding, by number [R363, 13_engines_task_scheduler.md; 64 per core]. -/
  mail : FMap MailRequest := []
  /-- Number of the next mailbox request [R363, 13_engines_task_scheduler.md; count]. -/
  nextMail : Nat := 0
  /-- On a follower, raisings of sources 2, 3 and 6 that wait for the journal: TID and source [R361, 13_engines_task_scheduler.md; list]. -/
  deferred : List (Nat × Nat) := []
  /-- On a follower, source and value of applied READING records that no wake or read has taken [R359, R361, 13_engines_task_scheduler.md; list]. -/
  readings : List (Nat × Nat) := []
  /-- Application started [R370, 13_engines_task_scheduler.md; 8 bits]. -/
  appRunning : Bool := false
  /-- Application starts since LOAD [R370, 13_engines_task_scheduler.md; 32 bits]. -/
  appStarts : Nat := 0
  /-- Trace ring of 65,536 records by sequence number [R367, 13_engines_task_scheduler.md; 65,536 x 16 octets]. -/
  trace : FMap TraceRecord := []
  /-- Next sequence number of the trace [R367, 13_engines_task_scheduler.md; 32 bits]. -/
  traceNext : Nat := 0
  /-- Running statistics of CC1 to CC3 [R369, 13_engines_task_scheduler.md; 3 records]. -/
  stats : FMap CoreStats := []
  /-- CORE_STATS published at the end of the last window [R369, 13_engines_task_scheduler.md; 3 x 32 octets]. -/
  published : FMap Octets := []
  /-- Instant (ns) the running window of STAT_WINDOW began [R369, 13_engines_task_scheduler.md; count]. -/
  windowAt : Nat := 0
  /-- WINDOW_NO of the running window [R369, 13_engines_task_scheduler.md; 32 bits]. -/
  windowNo : Nat := 0
  deriving DecidableEq, Repr

end Sys2Proof.Machine
end

