-- ==== Sys2Proof/Machine/StateTime.lean ====
section
/-! DEFINITION. The state of domain time, the time sources, the schedule and the look-ahead window (chapter 05). -/

namespace Sys2Proof.Machine

/-- The time states of Table 5-4. -/
inductive TimeMode where
  | unacquired | locked | holdover | root
  deriving DecidableEq, Repr

/-- The code of a time state in TIME_STATUS (0x4012). -/
def TimeMode.code : TimeMode → Nat
  | .unacquired => 0 | .locked => 1 | .holdover => 2 | .root => 3

/-- The qualification of one entry of TIME_SOURCES (R125). -/
structure TimeEntry where
  /-- Entry qualified and not lost [R125, 05_time_and_schedule.md; 1 bit]. -/
  qualified : Bool := false
  /-- Entry lost after it had qualified: sixteen good events requalify it [R125, 05_time_and_schedule.md; 1 bit]. -/
  lost : Bool := false
  /-- Consecutive good events [R125, 05_time_and_schedule.md; count]. -/
  good : Nat := 0
  /-- Consecutive misses [R125, 05_time_and_schedule.md; 2 bits]. -/
  misses : Nat := 0
  /-- Expected instant (ns of the chip's own count) of the next event [R125, 05_time_and_schedule.md; count]. -/
  expected : Option Nat := none
  /-- Good events since the entry last qualified, for event 0x3000 [R126, 05_time_and_schedule.md; count]. -/
  total : Nat := 0
  /-- Offset in ns implied by the latest good event [R125, 05_time_and_schedule.md; 32 bits signed]. -/
  offset : Int := 0
  deriving DecidableEq, Repr

/-- Domain time (R120 to R131). -/
structure DomainTime where
  /-- Time state of Table 5-4 [R126, 05_time_and_schedule.md; 2 bits]. -/
  mode : TimeMode := .unacquired
  /-- Domain time less the chip's own count, ns, before the slew in progress [R122, 05_time_and_schedule.md; 64 bits signed]. -/
  offset : Int := 0
  /-- Offset still to be slewed out when the slew began, ns [R122, 05_time_and_schedule.md; 64 bits signed]. -/
  slew : Int := 0
  /-- Instant (ns) the slew began [R122, 05_time_and_schedule.md; count]. -/
  slewAt : Nat := 0
  /-- Entries 0 to 3 of TIME_SOURCES [R125, 05_time_and_schedule.md; 4 records]. -/
  entries : FMap TimeEntry := []
  /-- TIME_SOURCE_ACTIVE 0x4011 [R126, 05_time_and_schedule.md; 8 bits]. -/
  active : Option Nat := none
  /-- Last offset of TIME_STATUS, ns [R144, 05_time_and_schedule.md; 32 bits signed]. -/
  lastOffset : Int := 0
  /-- Drift estimate frozen at HOLDOVER, ppb [R128, 05_time_and_schedule.md; 16 bits]. -/
  drift : Nat := 0
  /-- Instant (ns) HOLDOVER was entered [R128, 05_time_and_schedule.md; count]. -/
  holdoverAt : Option Nat := none
  /-- Instant (ns) LOCKED was entered [R128, 05_time_and_schedule.md; count]. -/
  lockedAt : Option Nat := none
  /-- Guard g kept until a slew after HOLDOVER or ROOT ends, us [R126, 05_time_and_schedule.md; 16 bits]. -/
  guardKept : Option Nat := none
  /-- Bands whose guard has reached its cap [R128, 05_time_and_schedule.md; 3 bits]. -/
  capReached : List Nat := []
  /-- Persisted domain time, time state and AON count at the write [R130, 05_time_and_schedule.md; record]. -/
  persisted : Option (Nat × Nat × Nat) := none
  /-- Instant (ns) LOAD began [R126, 05_time_and_schedule.md; count]. -/
  loadAt : Nat := 0
  /-- Instant (ns) of the next event 0x3006 [R126, 05_time_and_schedule.md; count]. -/
  reportDue : Nat := 0
  /-- Whole second of domain time of the last PPS_OUT pulse [R131, 05_time_and_schedule.md; count]. -/
  ppsSecond : Option Nat := none
  /-- Join metric of the last beacon [R138, 05_time_and_schedule.md; 8 bits]. -/
  joinMetric : Nat := 0
  /-- Join metric announced by the mesh source [R138, 05_time_and_schedule.md; 8 bits]. -/
  sourceMetric : Nat := 0
  /-- PTP sequence numbers of ETH0 and ETH1 [R131, 05_time_and_schedule.md; 2 x 16 bits]. -/
  ptpSeq : FMap Nat := []
  deriving DecidableEq, Repr

/-- One schedule cell (Table 5-5). -/
structure Cell where
  valid : Bool := false
  tx : Bool := false
  rx : Bool := false
  shared : Bool := false
  extTime : Bool := false
  kind : Nat := 0
  slotframe : Nat := 0
  bandSector : Nat := 0
  slotOffset : Nat := 0
  channelOffset : Nat := 0
  cls : Nat := 0
  mode : Nat := 0
  peer : Nat := 0
  hopSeq : Nat := 0
  migrated : Bool := false
  suspended : Bool := false
  home : Nat := 0
  tag : Nat := 0
  deriving DecidableEq, Repr

/-- One resolved entry of the look-ahead window (R139). -/
structure LookEntry where
  bandSector : Nat
  asn : Nat
  index : Nat
  cell : Cell
  /-- Lowest bin of the resolved channel [R133, 05_time_and_schedule.md; 9 bits]. -/
  firstBin : Nat
  resolved : Bool
  deriving DecidableEq, Repr

/-- The schedule (R132 to R143). -/
structure Schedule where
  /-- The 1,048,576 cells of DRAM by index, those not all zero [R132, 05_time_and_schedule.md; 1,048,576 x 16 octets]. -/
  cells : FMap Cell := []
  /-- The look-ahead window [R139, 05_time_and_schedule.md; 8,192 x 128 octets]. -/
  look : List LookEntry := []
  /-- Slotframe lengths not yet in effect: handle to (old length, first slot of the new one) [R135, 05_time_and_schedule.md; 16 records]. -/
  lengthPending : FMap (Nat × Nat) := []
  /-- SCHED_CELL_STATUS 0x4113 [R134, 05_time_and_schedule.md; 8 bits]. -/
  status : Nat := 0
  /-- SCHED_EFFECTIVE_ASN 0x4114 [R135, 05_time_and_schedule.md; 40 bits]. -/
  effectiveAsn : Nat := 0
  /-- SERVICE_STATE 0x4141 by band-sector, those out of service [R141, 05_time_and_schedule.md; 9 x 2 bits]. -/
  service : FMap Nat := []
  /-- Instant (ns) of the last enhanced beacon by band-sector [R138, 05_time_and_schedule.md; 9 records]. -/
  beaconAt : FMap Nat := []
  /-- Slot of each band last begun, 0 L, 1 M, 2 H [R120, 05_time_and_schedule.md; 3 x 40 bits]. -/
  slotNow : FMap Nat := []
  /-- Templates in effect: SLOT_TEMPLATE values taken when the chip last left MAINTENANCE, by band code [R123, 05_time_and_schedule.md; 3 x 9 x 32 bits]. -/
  templates : FMap (List Nat) := []
  deriving DecidableEq, Repr

end Sys2Proof.Machine
end

