-- ==== Sys2Proof/Machine/State.lean ====
section
/-! DEFINITION. The state of the whole chip, the reasons a step can stop, and the state after reset. -/

namespace Sys2Proof.Machine

/-- What leaves the chip, as the last command's rules say: an output is appended, newest first (log entry 3). -/
inductive Out where
  /-- A SOP frame in a UDP datagram of class 6: to an endpoint, from the address and port the endpoint addressed (R397). -/
  | sop (dest : Endpoint) (address : Octets) (port : Nat) (frame : Octets)
  /-- CAN FD frames on a bus: identifier and data (R396). -/
  | can (bus id : Nat) (data : Octets)
  /-- MSI vector of MB0 (R398). -/
  | msi (vector : Nat)
  /-- Octets returned on SPI (R399). -/
  | spi (octets : Octets)
  /-- A 48-bit debug response (R422). -/
  | debug (frame : Nat)
  /-- A frame on ETH0 or ETH1; `bad` when it ends with a bad FCS (Table 1-10). -/
  | eth (port : Nat) (data : Octets) (bad : Bool)
  /-- A MACsec-protected frame: port, SCI, AN, PN, enciphered, sealed octets (R251). -/
  | macsec (port an pn : Nat) (frame : Sealed)
  /-- A frame on the air: band-sector, start (ns), power in 0.25 dBm, octets (R91). -/
  | air (bandSector start : Nat) (power : Int) (octets : Octets)
  /-- The chip's burst of eight tones in a ranging cell: band-sector, start (ns), power of the burst in 0.25 dBm (R406). -/
  | burst (bandSector start : Nat) (power : Int)
  /-- A verified MACsec frame released toward the forwarding pipeline (R251). -/
  | macsecRx (port : Nat) (frame : Octets)
  /-- A sett frame, an ABORT block, a MARK block (R283, R284, R294). -/
  | sett (port : Nat) (f : SettFrame)
  | settAbort (port : Nat)
  | settMark (port hops master markNo : Nat)
  /-- A sett frame taken by the chip, its payload deciphered: TYPE 0 to TBL, TYPES 1 and 2 to LSF (R287). -/
  | settRx (port : Nat) (f : SettFrame)
  /-- A LINK frame's delay exchange, with the pair declaration on TWIN (R293, R299). -/
  | link (port : Nat) (m : LinkMessage) (declaration : Option Declaration)
  /-- A JOURNAL frame, a JACK, a snapshot request, a snapshot chunk on TWIN (R306, R311). -/
  | journal (claim : Bool) (records : List JournalRecord)
  | jack (jack : Jack)
  | snapshotRequest
  | snapshot (chunkNo region offset : Nat) (data : Octets) (last : Bool)
  /-- A PPS_OUT pulse (R131) and a PTP message: port, kind 0 Sync, 1 Delay_Resp, sequence, time, requester. -/
  | pps (second : Nat)
  | ptp (port kind sequence time : Nat) (requester : Octets)
  /-- A recovery response on REC_TX or for SPI (R338). -/
  | recovery (frame : Octets)
  /-- The COEX REQ or PRI outputs of a channel (R104). -/
  | coex (channel : Nat) (req pri : Bool)
  /-- A crossing FIFO's delivered word: FIFO number, word of 68 octets (R16). -/
  | fifo (number : Nat) (word : Octets)
  /-- An IPv6 packet on its way into queue port 15, to LSF (R202). -/
  | local (packet : Octets)
  /-- KM's answer to a key reference: the handle of its cache entry (R263). -/
  | keyHandle (reference : Octets) (handle : Nat)
  /-- Data returned to a requester of a cipher job: job, status, octets; a cut-through release (R235, R242). -/
  | cipher (job status : Nat) (octets : Octets)
  deriving DecidableEq, Repr

/-- The block. -/
structure State where
  /-- Commands waiting, first in, first out [log entry 1; the model's own]. -/
  pending : List Instr := []
  /-- The chip's own nanosecond count since the model's origin [R276, R120; log entry 2; count]. -/
  now : Nat := 0
  /-- Draws made so far from the free values [log entry 6; the model's own; count]. -/
  freeCtr : Nat := 0
  /-- Draws made so far from the random number generator [log entry 6; the model's own; count]. -/
  trngCtr : Nat := 0
  /-- What has left the chip, newest first [log entry 3; the model's own]. -/
  out : List Out := []
  /-- Object values other than their defaults, by 256 x index + subindex [R371, R374, 14_object_dictionary.md; octets]. -/
  vals : FMap Octets := []
  power : Power := {}
  /-- Crossing FIFOs 0 to 63, those not empty and at rest [R452, 01_architecture.md; 64 records]. -/
  fifos : FMap Fifo := []
  recorder : Recorder := {}
  measure : Measure := {}
  ptrace : Ptrace := {}
  dbg : Debug := {}
  rx : Receiver := {}
  modem : Modem := {}
  front : FrontEnd := {}
  time : DomainTime := {}
  sched : Schedule := {}
  link : Link := {}
  queues : Queues := {}
  fwd : Forwarding := {}
  cipher : Cipher := {}
  keys : Keys := {}
  sett : Sett := {}
  twin : Twin := {}
  image : Image := {}
  fleet : Fleet := {}
  threads : Sched := {}
  sop : Sop := {}
  deriving DecidableEq, Repr

/-- Faults: the spec gives every command of the table an effect, so none stops the machine. -/
inductive Fault where
  deriving DecidableEq, Repr

/-- Why a command has no meaning in the model. -/
inductive Refusal where
  /-- Raised by exec's arms for a command without a meaning yet; safe. -/
  | notModelled (mnemonic : String)
  /-- Raised when a Vendor session accesses 0xF000 to 0xFFFF, which Table 14-3 calls "Not described"; safe. -/
  | vendorRange
  deriving DecidableEq, Repr

/-- The chip as shipped, with no supply: OFF, FACTORY, one image in both banks (R320), every object at its default. -/
def State.reset : State := {}

end Sys2Proof.Machine
end

