-- ==== Sys2Proof/Machine/Ops.lean ====
section
/-! DEFINITION. The shared operations: objects, random and free values, time, events, counters, outputs, callers and
the checks every host command passes. -/

namespace Sys2Proof.Machine

/-- The outcome of a command whose effect is the state `s`. -/
def done (s : State) : Host.Outcome State Fault Refusal := .next s

/- Objects (R371 to R374). -/

/-- Key of an object in the store. -/
def objKey (idx sub : Nat) : Nat := idx * 256 + sub

/-- The row of an object, if the object tables list it (R371). -/
def objRow (idx sub : Nat) : Option ObjRow :=
  objRows.find? (fun r => r.index = idx && r.lo ≤ sub && sub ≤ r.hi && !(r.hi = 0x19 && 0x0A ≤ sub && sub ≤ 0x10))

/-- Subindex 0 of an object listed from 0x01 upward: its highest subindex (R371). -/
def highestSub (idx : Nat) : Option Nat :=
  (objRows.find? (fun r => r.index = idx && 1 ≤ r.lo)).map (fun r => r.hi)

/-- Default hopping sequence 0 of H (R133). -/
def defaultHopH : Octets :=
  beOctets 2 16 ++ ([16, 17, 23, 18, 26, 15, 25, 22, 19, 11, 12, 13, 24, 14, 20, 21].map
    (fun k => beOctets 2 (19 + 25 * (k - 11)))).flatten

/-- Default of an object; empty where it is computed or taken from a named source (R374). -/
def objDefault (idx sub : Nat) : Octets :=
  if idx = 0x4022 then (if sub = 1 then defaultHopH else beOctets 2 0)
  else if idx = 0x1103 then Config.fusedMac sub ++ zeros 17 ++ beOctets 1 64 ++ zeros 16
  else if idx = 0x2214 then beOctets 2 (Config.tunerDefault sub)
  else if idx = 0x2300 then zeros 556
  else match objRow idx sub with
    | some r => octetsOf (match r.default with
        | [] => []
        | [d] => d
        | ds => listGet ds (sub - r.lo) [])
    | none => []

/-- The value an object holds. -/
def obj (s : State) (idx sub : Nat) : Octets := FMap.getD s.vals (objKey idx sub) (objDefault idx sub)

/-- The number an object holds. -/
def objN (s : State) (idx sub : Nat) : Nat := beNat (obj s idx sub)

/-- Whether a BOOL object is TRUE. -/
def objB (s : State) (idx sub : Nat) : Bool := objN s idx sub != 0

/-- Store an object's value. -/
def setObj (s : State) (idx sub : Nat) (v : Octets) : State :=
  { s with vals := FMap.putD s.vals (objKey idx sub) v (objDefault idx sub) }

/-- Store a number of `w` octets in an object. -/
def setObjN (s : State) (idx sub w n : Nat) : State := setObj s idx sub (beOctets w n)

/-- Field of a stored record. -/
def objField (s : State) (idx sub off len : Nat) : Nat := fieldOf (obj s idx sub) off len

/- Values the spec leaves open, random numbers and outputs. -/

/-- A fresh value the spec leaves open. -/
def freeNow (s : State) : Nat := Config.free s.freeCtr

/-- Move past one free value. -/
def drewFree (s : State) : State := { s with freeCtr := s.freeCtr + 1 }

/-- `n` octets of the random number generator. -/
def trngNow (s : State) (n : Nat) : Octets := (Config.trng s.trngCtr n ++ zeros n).take n

/-- Move past one draw. -/
def drewTrng (s : State) : State := { s with trngCtr := s.trngCtr + 1 }

/-- Something leaves the chip. -/
def emit (s : State) (o : Out) : State := { s with out := o :: s.out }

/- Time (R120 to R122). -/

/-- The part of the pending slew already made: at most TIME_SLEW_MAX ppm of the time gone (R122). -/
def slewDone (s : State) : Int :=
  let most : Int := ((s.now - s.time.slewAt) * objN s 0x4015 0 / 1000000 : Nat)
  if s.time.slew < 0 then max s.time.slew (-most) else min s.time.slew most

/-- Domain time in ns (R120, R122). -/
def domainTime (s : State) : Nat := ((s.now : Int) + s.time.offset + slewDone s).toNat

/-- Domain time has been acquired (R126). -/
def timeAcquired (s : State) : Bool := s.time.mode != .unacquired

/-- Code of a band: 0 L, 1 M, 2 H. -/
def bandCode : Band → Nat
  | .l => 0 | .m => 1 | .h => 2

/-- Band code of a band-sector subindex (R33). -/
def bandOf (bs : Nat) : Nat := if bs = 9 then 0 else if bs ≤ 4 then 1 else 2

/-- Sector number of a band-sector subindex (R33). -/
def sectorOf (bs : Nat) : Nat := (bs - 1) % 4

/-- Band-sector subindices of a band (R33). -/
def bandSectors : Nat → List Nat
  | 0 => [9]
  | 1 => [1, 2, 3, 4]
  | _ => [5, 6, 7, 8]

/-- All nine band-sector subindices. -/
def allBandSectors : List Nat := [1, 2, 3, 4, 5, 6, 7, 8, 9]

/-- Slot template in effect, nine values in us (R123): SLOT_TEMPLATE as taken when the chip last left MAINTENANCE. -/
def template (s : State) (b : Nat) : List Nat :=
  match FMap.find s.sched.templates b with
  | some l => l
  | none => (List.range 9).map (fun i => objField s 0x4003 (b + 1) (4 * i) 4)

/-- One field of a band's template, us: 0 slot length, 1 TsTxOffset, 2 TsRxOffset, 3 TsRxWait, 4 TsTxAckDelay,
5 TsRxAckDelay, 6 TsAckWait, 7 TsMaxTx, 8 TsMaxAck (Table 5-1). -/
def slotField (s : State) (b i : Nat) : Nat := listGet (template s b) i 0

/-- Slot length of a band in ns. -/
def slotNs (s : State) (b : Nat) : Nat := max 1 (slotField s b 0 * 1000)

/-- ASN of the band's slot that holds a domain time (R120). -/
def asnAt (s : State) (b t : Nat) : Nat := (t - objN s 0x4001 0) / slotNs s b

/-- ASN now (R120). -/
def asnNow (s : State) (b : Nat) : Nat := asnAt s b (domainTime s)

/-- Domain time of the start of a slot (R120). -/
def slotStart (s : State) (b asn : Nat) : Nat := objN s 0x4001 0 + asn * slotNs s b

/- The region profile and the reference band. -/

/-- The region profile in force (R108, R326). -/
def regionProfile (s : State) : Octets := obj s 0x2300 0

/-- A band is enabled by the region profile (Table 4-5). -/
def bandEnabled (s : State) (b : Nat) : Bool := bitOf (fieldOf (regionProfile s) 3 1) b

/-- The chip's reference band: M if enabled, otherwise L, otherwise H (R126, R299). -/
def refBand (s : State) : Nat := if bandEnabled s 1 then 1 else if bandEnabled s 0 then 0 else 2

/-- ASN of the reference band's current slot. -/
def refAsn (s : State) : Nat := asnNow s (refBand s)

/- Events (R414 to R417). -/

/-- FIRST_TIME of an event now (Table 15-5). -/
def eventTime (s : State) : Nat :=
  if timeAcquired s then domainTime s else 2 ^ 63 + (s.now - s.power.startAt)

/-- AON's count of whole seconds (R276). -/
def aonSeconds (s : State) : Nat := (s.now - s.power.aonSince) / 1000000000

/-- Argument `i` of a record. -/
def EvtRecord.arg (r : EvtRecord) (i : Nat) : Nat := if i = 0 then r.arg0 else if i = 1 then r.arg1 else r.arg2

/-- Argument `i` of a record raised by 1, saturating (R416). -/
def EvtRecord.bump (r : EvtRecord) (i : Nat) : EvtRecord :=
  if i = 0 then { r with arg0 := satAdd 32 r.arg0 1 }
  else if i = 1 then { r with arg1 := satAdd 32 r.arg1 1 }
  else if i = 2 then { r with arg2 := satAdd 32 r.arg2 1 } else r

/-- Whether a record is open: its window of EVT_COALESCE ms has not run out (R416). -/
def recordOpen (s : State) (r : EvtRecord) : Bool :=
  s.now < r.firstAt + objN s 0xA007 0 * 1000000

/-- Whether an occurrence repeats a record: code, source and key arguments equal (R416). -/
def repeats (r : EvtRecord) (code inst keys a0 a1 a2 : Nat) : Bool :=
  r.code = code && r.unit = inst && (!bitOf keys 0 || r.arg0 = a0) && (!bitOf keys 1 || r.arg1 = a1) &&
    (!bitOf keys 2 || r.arg2 = a2)

/-- Write a record into the ring of 8,192 and the archive of 1,048,576 (R417). -/
def storeRecord (rc : Recorder) (r : EvtRecord) : Recorder :=
  { rc with
    ring := (FMap.put rc.ring r.seq r).keep (fun k _ => rc.nextSeq ≤ k + 8192)
    archive := (FMap.put rc.archive r.seq r).keep (fun k _ => rc.nextSeq ≤ k + 1048576) }

/-- Reserve the next block of 65,536 numbers before its first number is issued (R417). -/
def reserveBlock (rc : Recorder) : Recorder :=
  if rc.blockEnd ≤ rc.nextSeq then { rc with blockEnd := rc.nextSeq + 65536 } else rc

/-- Count a new record in the AON second's overload window (R417). -/
def overloadWindow (rc : Recorder) (second : Nat) : Recorder :=
  if rc.winSecond = second then { rc with winCount := rc.winCount + 1 }
  else { rc with winSecond := second, winCount := 1 }

/-- An argument as recorded: 32 bits (R414), or 1 where it is the count argument of a first occurrence (R416). -/
def firstArg (count i a : Nat) : Nat := if count = i then 1 else a % 2 ^ 32

/-- Write a new record at the next sequence number (R414, R417). -/
def putEvent (s : State) (rc : Recorder) (code sev island inst count a0 a1 a2 : Nat) : State :=
  let rc := reserveBlock rc
  let r : EvtRecord := {
    seq := rc.nextSeq, firstTime := eventTime s, firstAt := s.now, code := code, severity := sev, island := island,
    unit := inst, arg0 := firstArg count 0 a0, arg1 := firstArg count 1 a1, arg2 := firstArg count 2 a2,
    repeats := 0, lastOffset := 0 }
  let rc := storeRecord { rc with nextSeq := rc.nextSeq + 1 } r
  { s with recorder := { rc with oldest := max rc.oldest (rc.nextSeq - 1048576) } }

/-- The open record that an occurrence repeats, the newest first (R416). -/
def openRepeat (s : State) (code inst keys a0 a1 a2 : Nat) : Option EvtRecord :=
  (s.recorder.ring.reverse.find? (fun p =>
    repeats p.2 code inst keys (a0 % 2 ^ 32) (a1 % 2 ^ 32) (a2 % 2 ^ 32) && recordOpen s p.2)).map (·.2)

/-- A repeat raises the record it belongs to (R416). -/
def repeatRecord (s : State) (r : EvtRecord) (count : Nat) : State :=
  let r' := { r with repeats := satAdd 16 r.repeats 1, lastOffset := min ((s.now - r.firstAt) / 1000000) 65535 }
  { s with recorder := storeRecord s.recorder (r'.bump count) }

/-- A refusal for overload is counted, and event 0x0061 covers the refusals of its window (R417, Table 15-14). -/
def refuseRecord (s : State) (rc : Recorder) : State :=
  let s := { s with recorder := { rc with refused := satAdd 32 rc.refused 1 } }
  let sev := Config.eventSeverity 0x0061 % 8
  if objN s 0xA008 0 < sev ∨ 6 ≤ sev then s
  else
    let inst := Config.eventInstance 0x0061 0 % 256
    match openRepeat s 0x0061 inst 0 1 0 0 with
    | some r => repeatRecord s r 0
    | none => putEvent s s.recorder 0x0061 sev (Config.eventIsland 0x0061 % 32) inst 0 1 0 0

/-- A new record, unless overload refuses it (R417). -/
def newRecord (s : State) (code sev island inst count a0 a1 a2 : Nat) : State :=
  let rc := overloadWindow s.recorder (aonSeconds s)
  if 100000 < rc.winCount ∧ 6 ≤ sev then refuseRecord s rc else putEvent s rc code sev island inst count a0 a1 a2

/-- Record an occurrence of an event from a source with three arguments (R414 to R417). -/
def recordFrom (s : State) (code sev island inst a0 a1 a2 : Nat) : State :=
  let kind := (eventKind code).getD (0, 0xFF)
  if objN s 0xA008 0 < sev then s
  else
    match openRepeat s code inst kind.1 a0 a1 a2 with
    | some r => repeatRecord s r kind.2
    | none => newRecord s code sev island inst kind.2 a0 a1 a2

/-- Record an event of the chip's own islands; severity and source are the running image's (R415). -/
def record (s : State) (code a0 a1 a2 : Nat) : State :=
  recordFrom s code (Config.eventSeverity code % 8) (Config.eventIsland code % 32) (Config.eventInstance code a0 % 256)
    a0 a1 a2

/-- A signed argument, sign-extended to 32 bits (R414). -/
def argOf (i : Int) : Nat := ofSigned 32 i

/- Counters. -/

/-- Raise word `word` of a counter object by `n`, modulo 2^32. -/
def countBy (s : State) (idx sub word n : Nat) : State :=
  let v := padTo (4 * word + 4) (obj s idx sub)
  let c := (fieldOf v (4 * word) 4 + n) % 2 ^ 32
  setObj s idx sub (v.take (4 * word) ++ beOctets 4 c ++ v.drop (4 * word + 4))

/-- Raise word `word` of a counter object by 1. -/
def count (s : State) (idx sub word : Nat) : State := countBy s idx sub word 1

/-- Clear every counter object of an index. -/
def clearCounters (s : State) (idx : Nat) : State :=
  { s with vals := s.vals.keep (fun k _ => k / 256 != idx) }

/- DEGRADED (R24). -/

/-- Set or clear one cause of Table 1-12, recording a change. -/
def setCause (s : State) (bit : Nat) (on : Bool) : State :=
  let old := s.power.degraded.toNat
  let new := if on then withBit old bit else withoutBit old bit
  if new = old then s
  else record { s with power := { s.power with degraded := BitVec.ofNat 32 new } } 0x0011 old new 0

/- Callers, roles and the checks of a write (R371 to R378, R388 to R394). -/

/-- SOP status codes of Table 14-6. -/
def stOk : Nat := 0
def stFrame : Nat := 1
def stOp : Nat := 2
def stSession : Nat := 3
def stAuth : Nat := 4
def stSequence : Nat := 5
def stRights : Nat := 6
def stNoObject : Nat := 7
def stAccess : Nat := 8
def stState : Nat := 9
def stLocked : Nat := 10
def stGoverned : Nat := 11
def stRole : Nat := 12
def stType : Nat := 13
def stRange : Nat := 14
def stBusy : Nat := 15
def stResource : Nat := 16
def stIntegrity : Nat := 17
def stSegment : Nat := 18
def stTimeout : Nat := 19

/-- Role code of a caller, none where it names no open session (Table 14-7). -/
def callerRole (s : State) : Caller → Option Nat
  | .session sid => match FMap.find s.sop.sessions sid with
    | some x => if x.half then none else some x.role
    | none => none
  | .endpoint _ => some 0
  | .mailbox _ => some 1

/-- The rights a role code gives: Vendor has Installer rights in FACTORY and Operator rights elsewhere (Table 14-7). -/
def rightsOf (s : State) (role : Nat) : Nat :=
  if role = 3 then (if s.power.lifecycle = .factory then 2 else 1) else role

/-- The rights of a caller. -/
def callerRights (s : State) (who : Caller) : Option Nat := (callerRole s who).map (rightsOf s)

/-- What a caller holds of its own (R376). -/
def viewsOf (s : State) : Caller → Views
  | .session sid => match FMap.find s.sop.sessions sid with
    | some x => x.views
    | none => {}
  | .endpoint e => match s.sop.endpoints.find? (fun p => p.1 = e) with
    | some p => p.2
    | none => {}
  | .mailbox tid => match FMap.find s.threads.threads tid with
    | some t => t.views
    | none => {}

/-- Replace what a caller holds of its own. -/
def setViews (s : State) (who : Caller) (v : Views) : State :=
  match who with
  | .session sid => { s with sop := { s.sop with sessions := s.sop.sessions.update sid (fun x => { x with views := v }) } }
  | .endpoint e =>
    { s with sop := { s.sop with endpoints := (e, v) :: s.sop.endpoints.filter (fun p => p.1 ≠ e) } }
  | .mailbox tid =>
    { s with threads := { s.threads with threads := s.threads.threads.update tid (fun t => { t with views := v }) } }

/-- A caller's own copy of a cursor object (R376). -/
def cursorOf (s : State) (who : Caller) (idx : Nat) : Octets :=
  FMap.getD (viewsOf s who).cursors (objKey idx 0) (objDefault idx 0)

/-- Set a caller's cursor. -/
def setCursor (s : State) (who : Caller) (idx : Nat) (v : Octets) : State :=
  let w := viewsOf s who
  setViews s who { w with cursors := FMap.put w.cursors (objKey idx 0) v }

/-- Latch a caller's view or window. -/
def setWindow (s : State) (who : Caller) (idx : Nat) (v : Octets) : State :=
  let w := viewsOf s who
  setViews s who { w with windows := FMap.put w.windows (objKey idx 0) v }

/-- Whether the chip serves every SOP operation (R394). -/
def servesSop (s : State) : Bool :=
  (s.power.dev = .maintenance || s.power.dev = .active || s.power.dev = .follower) && s.power.lifecycle != .retired

/-- Counter, clear, cursor and view objects of the pair ranges: chip objects (R377). -/
def chipInPairRange : List Nat :=
  [0x303B, 0x303C, 0x3040, 0x3041, 0x4150, 0x4151, 0x4220, 0x4221, 0x4222, 0x4234, 0x4235, 0x4240, 0x4241, 0x5100,
   0x5130, 0x5131, 0x5140, 0x5141, 0x6060, 0x6061, 0x8043, 0x8044]

/-- Whether an object is a pair object (R377, Table 14-3). -/
def pairObject (idx : Nat) : Bool :=
  ((0x3000 ≤ idx && idx ≤ 0x6FFF) || (0x8030 ≤ idx && idx ≤ 0x8FFF) || (0xC100 ≤ idx && idx ≤ 0xC103) || idx = 0x2150)
    && !chipInPairRange.contains idx

/-- Whether an octet string has the length its type demands (R372, Table 14-1). -/
def lengthFits : ObjType → Nat → Bool
  | .bool, n => n = 1
  | .unsigned w, n => n = w
  | .signed w, n => n = w
  | .octets k, n => n = k
  | .text k, n => n ≤ k
  | .record base unit most, n =>
    if unit = 0 then n = base else base ≤ n && (n - base) % unit = 0 && (n - base) / unit ≤ most

/-- TABLE_CMD codes that any session may write: all but 1, 2, 3, 6, 8, 9 and 12 (R229). -/
def openTableCommand (v : Nat) : Bool := !([1, 2, 3, 6, 8, 9, 12].contains v)

/-- Least rights a write needs (R373). -/
def rightsNeeded (r : ObjRow) (v : Octets) : Nat :=
  if r.index = 0x6020 then (if openTableCommand (beNat v) then 0 else 1) else r.role

/-- The checks every write passes before the object's own rules: existence, access, rights, device state, lock, role
of the pair, type (R371 to R378, R388, R394). -/
def writeStatus (s : State) (who : Caller) (idx sub : Nat) (v : Octets) : Nat :=
  match callerRights s who with
  | none => stSession
  | some have_ =>
    if !servesSop s then stState
    else if 0xF000 ≤ idx && callerRole s who != some 3 then stRights
    else match objRow idx sub with
      | none => if sub = 0 && (highestSub idx).isSome then stAccess else stNoObject
      | some r =>
        if r.access = .ro then stAccess
        else if have_ < rightsNeeded r v then stRights
        else if r.access = .rwm && s.power.dev != .maintenance then stState
        else if pairObject idx && s.power.dev = .follower then stRole
        else if !lengthFits r.typ v.length then stType
        else if r.typ = .bool && 1 < beNat v then stRange
        else stOk

/-- CC0 is halted: SOP and every LSF service have stopped (Table 15-12). -/
def lsfStopped (s : State) : Bool := s.dbg.halted.toNat.testBit 0

/-- CC0 or a sequencer is halted (Table 15-12). -/
def roleHalted (s : State) : Bool := s.dbg.halted.toNat &&& 0x1FF1 != 0

/-- Remember the status of a caller's last write or command. -/
def setStatus (s : State) (who : Caller) (st : Nat) : State := setViews s who { viewsOf s who with status := st }

/- The twin journal (R304 to R306). -/

/-- A twin partner is declared (TWIN_PARTNER not zero, R299). -/
def hasPartner (s : State) : Bool := objN s 0x9002 0 != 0

/-- Whether the chip journals its inputs now: active, partner declared, present and agreeing; for a lagging follower from
s0 on (R305, R306, R311). -/
def journals (s : State) : Bool :=
  hasPartner s && s.power.dev = .active && !s.twin.absent && (!s.twin.lagging || s.twin.fromS0) && !s.twin.mismatch

/-- Whether a record that satisfies `p` still awaits the follower's receipt; none does while the partner is absent or
lagging (R306, R307). -/
def receiptAwaited (s : State) (p : JournalBody → Bool) : Bool :=
  journals s && !s.twin.lagging && s.twin.kept.any (fun r => s.twin.received < r.jseq && p r.body)

/-- The follower applies the partner's journal, and takes its inputs from there (R305). -/
def shadows (s : State) : Bool :=
  hasPartner s && s.power.dev = .follower && !s.twin.absent && !s.twin.mismatch && !s.twin.stopped && !roleHalted s

/-- The chip processes air frames: ACTIVE, or a follower that applies the AIR_RX records (R305). -/
def handlesAir (s : State) : Bool := s.power.dev = .active || shadows s

/-- Take a record into the journal, for a reference slot (R305, R306). -/
def journalIn (s : State) (asn flags : Nat) (body : JournalBody) : State :=
  if journals s then
    let r : JournalRecord := { flags := flags, jseq := s.twin.nextJseq, asn := asn, time := domainTime s, body := body }
    { s with twin := { s.twin with
        kept := s.twin.kept ++ [r], passRecords := s.twin.passRecords ++ [r], nextJseq := s.twin.nextJseq + 1,
        slotRecords := s.twin.slotRecords + 1, fillAt := some (s.twin.fillAt.getD s.now) } }
  else s

/-- Take a record into the journal (R305, R306). -/
def journal (s : State) (flags : Nat) (body : JournalBody) : State := journalIn s (refAsn s) flags body

/-- Words of a consumer in the TRNG records a follower has applied. -/
def shadowWords (s : State) (consumer n : Nat) : List Nat :=
  (((s.twin.trngWords.find? (fun x => x.1 = consumer)).map (·.2)).getD (List.replicate n (freeNow s % 2 ^ 32))).take n

/-- Drop the first TRNG record of a consumer. -/
def dropWords (consumer : Nat) : List (Nat × List Nat) → List (Nat × List Nat)
  | [] => []
  | x :: l => if x.1 = consumer then l else x :: dropWords consumer l

/-- `n` words of TRNG output that deterministic state consumes: journaled by the active chip, taken from the applied
TRNG records by a follower (R305, Table 11-6). -/
def drawWords (s : State) (consumer n : Nat) : List Nat × State :=
  if shadows s then
    (shadowWords s consumer n, drewFree { s with twin := { s.twin with trngWords := dropWords consumer s.twin.trngWords } })
  else
    let v := trngNow s (4 * n)
    let w := (List.range n).map (fun i => fieldOf v (4 * i) 4)
    (w, journal (drewTrng s) 0 (.trng consumer w))

/-- Transport code of a caller, as a SOP_WRITE record carries it (Table 14-8). -/
def transportOf (s : State) : Caller → Nat
  | .session sid => match FMap.find s.sop.sessions sid with
    | some x => x.endpoint.transport
    | none => 0
  | .endpoint e => e.transport
  | .mailbox _ => 7

/-- Journal an accepted write: SOP_WRITE for a pair object (R378), THREAD_OUT for every write of a thread (R363). A SHAPER_CFG value is
followed by the caller's cursor, which names the shaper (log entry 30). -/
def journalWrite (s : State) (who : Caller) (idx sub : Nat) (value : Octets) : State :=
  let v := if idx = 0x5101 then value ++ cursorOf s who 0x5100 else value
  match who with
  | .mailbox _ => journal s 0 (.threadOut true (beOctets 2 idx ++ beOctets 1 sub ++ v))
  | _ => if pairObject idx then journal s 0 (.sopWrite (transportOf s who) ((callerRole s who).getD 0) idx sub v) else s

/-- The status a write or command is answered with: the common checks, then the object's own rule (R371 to R378). -/
def commandStatus (s : State) (who : Caller) (idx sub : Nat) (v : Octets) (rule : State → Nat) : Nat :=
  match writeStatus s who idx sub v with
  | 0 => rule s
  | e => e

/-- One host command or write: the common checks, the object's own rule, then the journal record and the effect. A chip
whose CC0 is halted serves none. -/
def command (s : State) (who : Caller) (idx sub : Nat) (v : Octets) (rule : State → Nat) (act : State → State) :
    State :=
  if lsfStopped s then s
  else
  let st := commandStatus s who idx sub v rule
  if st = 0 then setStatus (act (journalWrite s who idx sub v)) who 0 else setStatus s who st

/-- Status 0 where a condition holds, else a refusal. -/
def require (c : Bool) (st : Nat) : Nat := if c then 0 else st

/-- The first refusal among checks. -/
def firstOf : List Nat → Nat
  | [] => 0
  | 0 :: l => firstOf l
  | e :: _ => e

/-- Whether a node handle has its reserved bits clear (R4). -/
def handleOk (h : Nat) : Bool := h < 2 ^ 29

/-- Local node index of a handle (Table 0-2). -/
def localIndex (h : Nat) : Nat := h % 131072

/-- Chip index of a handle (Table 0-2). -/
def chipOf (h : Nat) : Nat := h / 131072 % 4096

/-- The chip's own chip index (R2). -/
def chipIndex (s : State) : Nat := objN s 0x9000 0

/-- Pair index of PAIR_CFG, 0xFFFF when single (R299). -/
def pairIndex (s : State) : Nat := objField s 0x9001 0 8 2

/-- The chip index of the handles the chip issues: its pair index when it is of a pair (R299). -/
def ownIndex (s : State) : Nat := if pairIndex s = 0xFFFF then chipIndex s else pairIndex s

/-- Handle of one of the chip's own nodes (R1, R4). -/
def handleOf (s : State) (i : Nat) : Nat := ownIndex s % 4096 * 131072 + i

end Sys2Proof.Machine
end

