-- ==== Sys2Proof/Machine/Operands.lean ====
section
/-! DEFINITION. The operand forms the commands share: PHY modes and their airtimes (Tables 2-2, 3-1, 3-2), bins and
channels of the region profile (R32, R109), schedule cells, slotframes and hopping sequences (R132, R133), and the
OFDM-BL map (Table 3-6). -/

namespace Sys2Proof.Machine

/- PHY modes (R66 to R68). -/

/-- Mode families of Tables 2-2 and 2-4. -/
inductive Family where
  | fsk | oqpsk | ofdm | bl
  deriving DecidableEq, Repr

/-- Family of a mode code or listen code (Table 3-1, R68). -/
def familyOf (mode : Nat) : Family :=
  if mode < 0x20 then .fsk else if mode < 0x40 then .oqpsk else if mode < 0x80 then .ofdm else .bl

/-- Lowest and highest MCS code of an OFDM option, by high nibble (Table 3-1). -/
def ofdmRange (mode : Nat) : Nat × Nat :=
  match mode / 16 with
  | 4 => (0x40, 0x43) | 5 => (0x50, 0x55) | 6 => (0x61, 0x66) | 7 => (0x72, 0x76) | _ => (1, 0)

/-- An OFDM code of Table 3-1. -/
def ofdmCode (mode : Nat) : Bool := (ofdmRange mode).1 ≤ mode && mode ≤ (ofdmRange mode).2

/-- A code of Table 3-1 valid for a band (R66). -/
def modeValid (band mode : Nat) : Bool :=
  match band with
  | 0 => 1 ≤ mode && mode ≤ 3
  | 1 => mode = 0x11 || mode = 0x12 || ofdmCode mode || (0x80 ≤ mode && mode ≤ 0x8F)
  | _ => mode = 0x20 || ofdmCode mode || (0x80 ≤ mode && mode ≤ 0x8F)

/-- A code accepted where a listen code may stand (R66). -/
def listenValid (band mode : Nat) : Bool :=
  modeValid band mode || (band != 0 && (mode = 0x40 || mode = 0x50 || mode = 0x60 || mode = 0x70))

/-- The listen code that receives a mode (R68); coded SUN FSK frames carry their code plus 0x08 (R67). -/
def listenCode (mode : Nat) : Nat :=
  match familyOf mode with
  | .fsk => if mode / 8 % 2 = 1 then mode - 8 else mode
  | .oqpsk => 0x20
  | .ofdm => mode / 16 * 16
  | .bl => 0x80

/-- Bins a channel of the mode spans (Table 2-2). -/
def spanOf (mode : Nat) : Nat :=
  match mode / 16 with
  | 0 => 1 | 1 => 1 | 2 => 11 | 3 => 11 | 4 => 6 | 5 => 4 | 6 => 2 | 7 => 1 | _ => 6

/-- Two bin spans of one band and sector share a bin (R34). -/
def spansMeet (a la b lb : Nat) : Bool := a < b + lb && b < a + la

/-- Data rate of SUN FSK in b/s (Table 3-1). -/
def fskRate (mode : Nat) : Nat :=
  match listenCode mode with
  | 0x01 => 2400 | 0x02 => 4800 | 0x03 => 9600 | 0x11 => 50000 | _ => 100000

/-- Data bits per OFDM symbol of 120 us (Table 3-1). -/
def ofdmBits (mode : Nat) : Nat :=
  match mode with
  | 0x40 => 12 | 0x41 => 24 | 0x42 => 48 | 0x43 => 96
  | 0x50 => 6 | 0x51 => 12 | 0x52 => 24 | 0x53 => 48 | 0x54 => 72 | 0x55 => 96
  | 0x61 => 6 | 0x62 => 12 | 0x63 => 24 | 0x64 => 36 | 0x65 => 48 | 0x66 => 72
  | 0x72 => 6 | 0x73 => 12 | 0x74 => 18 | 0x75 => 24 | _ => 36

/-- Preamble symbol of a family in ns (Table 2-4). -/
def symbolNs (mode : Nat) : Nat :=
  match familyOf mode with
  | .fsk => 1000000000 / fskRate mode
  | .oqpsk => 16000
  | _ => 24000

/-- Preamble length in symbols (Table 2-4). -/
def preambleSymbols (mode : Nat) : Nat :=
  match familyOf mode with
  | .fsk => 64 | .oqpsk => 8 | _ => 20

/-- Duration of the SHR of a frame a node sends, ns (Tables 2-4 and 3-2): 8 preamble octets and the SFD, SHR of
O-QPSK, STF and LTF. -/
def shrNs (mode : Nat) : Nat :=
  match familyOf mode with
  | .fsk => 80 * 1000000000 / fskRate mode
  | .oqpsk => 160000
  | _ => 720000

/-- Quotient rounded up. -/
def ceilDiv (a b : Nat) : Nat := (a + b - 1) / max b 1

/-- PHR and PSDU octets of a SUN FSK frame on the air: doubled under FEC with the tail and padding of IEEE
802.15.4-2020 (R67, log entry 20). -/
def fskBody (coded : Bool) (len : Nat) : Nat :=
  if coded then 2 * (if len % 2 = 1 then len + 3 else len + 4) else len + 2

/-- Airtime of a frame in us, rounded up (R70, R76): `preamble` octets for SUN FSK, `dbits` the map's D for OFDM-BL. -/
def airtimeUs (mode preamble : Nat) (coded : Bool) (dbits len : Nat) : Nat :=
  match familyOf mode with
  | .fsk => ceilDiv ((preamble + 2 + fskBody coded len) * 8 * 1000000) (fskRate mode)
  | .oqpsk => (6 + len) * 32
  | .ofdm => 720 + 120 * ceilDiv 36 (ofdmBits (ofdmRange mode).1) + 120 * ceilDiv (8 * len + 6) (ofdmBits mode)
  | .bl => 1080 + 120 * ceilDiv (8 * len + 6) dbits

/- Bins and channels (R32, R109). -/

/-- A band block of the region profile (Table 4-6). -/
def bandBlock (profile : Octets) (b : Nat) : Octets := sliceOf profile (16 + 180 * b) 180

/-- Bins of a band (Table 2-1, R32). -/
def binCount (s : State) (b : Nat) : Nat :=
  match b with
  | 0 => 33 | 1 => fieldOf (regionProfile s) 8 2 | _ => 416

/-- Bin width in Hz (Table 2-1). -/
def binWidth (b : Nat) : Nat := if b = 0 then 12500 else 200000

/-- Centre of a bin in Hz (R32). -/
def binCentre (s : State) (b k : Nat) : Nat :=
  match b with
  | 0 => 169406250 + k * 12500
  | 1 => fieldOf (regionProfile s) 4 4 + k * 200000
  | _ => 2400200000 + k * 200000

/-- CHANNEL_MASK permits a bin (Table 4-6). -/
def binPermitted (block : Octets) (k : Nat) : Bool := bitOf (fieldOf block (k / 8) 1) (k % 8)

/-- Sub-bands in use (Table 4-6). -/
def subBands (block : Octets) : Nat := min 8 (fieldOf block 63 1)

/-- A sub-band entry's octets (Table 4-8). -/
def subBand (block : Octets) (i : Nat) : Octets := sliceOf block (84 + 12 * i) 12

/-- The sub-band that holds the bins `first` to `last`. -/
def subBandOf (block : Octets) (first last : Nat) : Option Nat :=
  (List.range (subBands block)).find? (fun i =>
    fieldOf (subBand block i) 0 2 ≤ first && last ≤ fieldOf (subBand block i) 2 2)

/-- Access in force in a sub-band (Table 4-8). -/
def subBandAccess (block : Octets) (i : Nat) : Nat :=
  let a := fieldOf (subBand block i) 10 1
  if a = 0xFF then fieldOf block 52 1 else a

/-- The block of a band in force; empty when the band is not enabled. -/
def blockOf (s : State) (b : Nat) : Octets := if bandEnabled s b then bandBlock (regionProfile s) b else []

/-- A channel is usable for transmission: all its bins are permitted and lie in one sub-band (R109). -/
def channelUsable (block : Octets) (bins mode first : Nat) : Bool :=
  let last := first + spanOf mode - 1
  last < bins && (List.range (spanOf mode)).all (fun i => binPermitted block (first + i)) &&
    (subBandOf block first last).isSome

/-- Sub-band of a channel of the profile in force. -/
def channelSubBand (s : State) (b mode first : Nat) : Nat :=
  (subBandOf (blockOf s b) first (first + spanOf mode - 1)).getD 0

/-- Octets before the first 0x00. -/
def listUpToZero (l : Octets) : List Nat := (l.map (·.toNat)).takeWhile (· != 0)

/-- MODES of a band block (Table 4-6). -/
def profileModes (block : Octets) : List Nat := listUpToZero (sliceOf block 64 16)

/-- A mode the region profile permits for its band (R109). -/
def modePermitted (s : State) (b mode : Nat) : Bool := (profileModes (blockOf s b)).contains (listenCode mode)

/-- A hopping-class mode (HOP_CLASS of Table 4-6). -/
def hoppingClass (block : Octets) (mode : Nat) : Bool :=
  match (profileModes block).findIdx? (fun m => m = listenCode mode) with
  | some i => bitOf (fieldOf block 80 2) i
  | none => false

/- Schedule cells, slotframes and hopping sequences (R132, R133). -/

/-- A cell as its 16 octets say (Table 5-5). -/
def cellOf (l : Octets) : Cell :=
  let b0 := fieldOf l 0 1
  let b13 := fieldOf l 13 1
  { valid := bitOf b0 7, tx := bitOf b0 6, rx := bitOf b0 5, shared := bitOf b0 4, extTime := bitOf b0 3
    kind := b0 % 8, slotframe := fieldOf l 1 1 / 16, bandSector := fieldOf l 1 1 % 16
    slotOffset := fieldOf l 2 2, channelOffset := fieldOf l 4 2, cls := fieldOf l 6 1 / 32, mode := fieldOf l 7 1
    peer := fieldOf l 8 4, hopSeq := fieldOf l 12 1 / 16, migrated := bitOf b13 7, suspended := bitOf b13 6
    home := bitsOf b13 5 2, tag := fieldOf l 14 2 }

/-- The 16 octets of a cell (Table 5-5). -/
def cellOctets (c : Cell) : Octets :=
  [byte (bitNat c.valid * 128 + bitNat c.tx * 64 + bitNat c.rx * 32 + bitNat c.shared * 16 + bitNat c.extTime * 8 +
      c.kind % 8),
    byte (c.slotframe * 16 + c.bandSector % 16)] ++
  beOctets 2 c.slotOffset ++ beOctets 2 c.channelOffset ++ [byte (c.cls % 8 * 32), byte c.mode] ++
  beOctets 4 c.peer ++ [byte (c.hopSeq * 16),
    byte (bitNat c.migrated * 128 + bitNat c.suspended * 64 + c.home % 16 * 4)] ++ beOctets 2 c.tag

/-- A cell of the schedule. -/
def cellAt (s : State) (i : Nat) : Cell := FMap.getD s.sched.cells i {}

/-- Store a cell. -/
def setCell (s : State) (i : Nat) (c : Cell) : State :=
  { s with sched := { s.sched with cells := FMap.putD s.sched.cells i c {} } }

/-- Slotframe handle: enabled, band, LENGTH (Table 5-9). -/
def slotframeOf (v : Octets) : Bool × Nat × Nat :=
  (bitOf (fieldOf v 0 1) 0, bitsOf (fieldOf v 0 1) 2 1, fieldOf v 1 2)

/-- A slotframe of the chip. -/
def slotframe (s : State) (h : Nat) : Bool × Nat × Nat := slotframeOf (obj s 0x4100 (h + 1))

/-- LENGTH of a slotframe as it is in effect in a slot (R135). -/
def frameLength (s : State) (h asn : Nat) : Nat :=
  match FMap.find s.sched.lengthPending h with
  | some (old, first) => if asn < first then old else (slotframe s h).2.2
  | none => (slotframe s h).2.2

/-- Hopping sequence of a band as its list of first bins (Table 5-9). -/
def hopList (v : Octets) : List Nat := (List.range (fieldOf v 0 2)).map (fun i => fieldOf v (2 + 2 * i) 2)

/-- Hopping sequence `q` of band `b`. -/
def hopSequence (s : State) (b q : Nat) : List Nat := hopList (obj s (0x4020 + b) (q + 1))

/-- A cell is active in a slot (R133): its slotframe is enabled and the slot is its offset. -/
def cellActive (s : State) (c : Cell) (asn : Nat) : Bool :=
  c.valid && (slotframe s c.slotframe).1 && frameLength s c.slotframe asn != 0 &&
    asn % frameLength s c.slotframe asn = c.slotOffset

/-- Lowest bin of the channel a cell uses in a slot (R133). -/
def cellChannel (s : State) (c : Cell) (asn : Nat) : Nat :=
  let l := hopSequence s (bandOf c.bandSector) c.hopSeq
  listGet l ((asn + c.channelOffset) % max 1 l.length) 0

/- The OFDM-BL map (Table 3-6). -/

/-- Coded bits of a 3-bit loading code; codes 5 to 7 are reserved. -/
def loadBits : Nat → Option Nat
  | 0 => some 0 | 1 => some 1 | 2 => some 2 | 3 => some 4 | 4 => some 6 | _ => none

/-- The 3-bit code of a loading. -/
def loadCode : Nat → Nat
  | 0 => 0 | 1 => 1 | 2 => 2 | 4 => 3 | _ => 4

/-- The 96 loading codes packed into 36 octets, d = 0 first. -/
def loadingCodes (l : Octets) : List Nat :=
  let v := beNat l
  (List.range 96).map (fun d => v / 8 ^ (95 - d) % 8)

/-- LOADING octets of a map. -/
def loadingOctets (load : List Nat) : Octets := beOctets 36 (load.foldl (fun a b => a * 8 + loadCode b) 0)

/-- CODED_BITS of a map (R76). -/
def codedBits (load : List Nat) : Nat := sumOf load

/-- Data bits per symbol D of a map (R76). -/
def dataBits (rate : Nat) (load : List Nat) : Nat :=
  if rate = 0 then codedBits load / 2 else codedBits load * 3 / 4

/-- D of a map. -/
def BlMap.d (m : BlMap) : Nat := dataBits m.rate m.load

/-- A map withdraws OFDM-BL when CODED_BITS is 0 (Table 3-6). -/
def BlMap.withdrawal (m : BlMap) : Bool := codedBits m.load = 0

/-- Octet 1 of a Map IE (Table 3-6). -/
def BlMap.head (m : BlMap) : Nat := m.mapId * 16 + m.rate * 4 + m.fallback

/-- Map IE content after the OUI, 45 octets (Table 3-6). -/
def BlMap.octets (m : BlMap) : Octets :=
  [byte 1, byte m.head] ++ beOctets 5 m.activate ++ beOctets 2 (codedBits m.load) ++ loadingOctets m.load

/- Node contexts. -/

/-- A node context by local index (Table 6-13). -/
def nodeAt (s : State) (i : Nat) : Option Node := FMap.find s.link.nodes i

/-- A node of the chip by handle: its handle carries the chip's own index (R1, R299). -/
def nodeOf (s : State) (h : Nat) : Option Node :=
  if handleOk h && chipOf h = ownIndex s then nodeAt s (localIndex h) else none

/-- Change a node context. -/
def updNode (s : State) (i : Nat) (f : Node → Node) : State :=
  { s with link := { s.link with nodes := s.link.nodes.update i f } }

/-- The node with an EUI-64. -/
def nodeByEui (s : State) (eui : Octets) : Option (Nat × Node) := s.link.nodes.find? (fun p => p.2.eui = eui)

/- Packets. -/

/-- A packet of the queue manager. -/
def packetOf (s : State) (k : Nat) : Option QPacket := FMap.find s.queues.packets k

/-- A transmit chain's port now, by chain subindex (R33, R102). -/
def portNow (s : State) (bs : Nat) : Nat :=
  let named := if objN s 0x2202 bs = 1 then bs + 16 else bs
  let other := if objN s 0x2202 bs = 1 then bs else bs + 16
  let gone := fun p => (FMap.getD s.front.ports p {}).state = .disabled
  if gone named && !gone other then other else named

/-- The effective profile of a band-sector (R26, R27): the sector's, or the chip's for L. -/
def profileOf (s : State) (bs : Nat) : Nat :=
  if bs = 9 then s.power.chipProfile else listGet s.power.effective (sectorOf bs) 0

/-- Slots of a band in a slot's look-ahead entries. -/
def lookFor (s : State) (bs asn : Nat) : List LookEntry :=
  s.sched.look.filter (fun e => e.bandSector = bs && e.asn = asn && e.resolved)

end Sys2Proof.Machine
end

