-- ==== Sys2Proof/Machine/Coex.lean ====
section
/-! DEFINITION. The coexistence channels: mapping, REQ and PRI (R103, R104). -/

namespace Sys2Proof.Machine

/-- COEX channel 0 to 3 that maps a band-sector (R103). -/
def coexChannel (s : State) (bs : Nat) : Option Nat := (List.range 4).find? (fun ch => bitOf (objN s 0x2240 (ch + 1)) (bs - 1))

/-- Some band-sector of a list is mapped to a channel. -/
def channelHeld (s : State) (l : List Nat) (ch : Nat) : Bool := l.any (fun bs => coexChannel s bs = some ch)

/-- Drive REQ and PRI of a channel: the OR over its band-sectors, active low where COEX_CFG says so (R103). -/
def driveCoex (s : State) (ch : Nat) : State :=
  let cfg := objN s 0x2241 (ch + 1)
  emit s (.coex ch (channelHeld s s.front.req ch != bitOf cfg 0) (channelHeld s s.front.pri ch != bitOf cfg 2))

/-- A band-sector raises REQ, and PRI for classes 0 to 2 (R104). -/
def raiseReq (s : State) (bs cls : Nat) : State :=
  match coexChannel s bs with
  | some ch =>
    let pri := s.front.pri.filter (· ≠ bs)
    driveCoex { s with front := { s.front with
      req := bs :: s.front.req.filter (· ≠ bs), pri := if cls ≤ 2 then bs :: pri else pri } } ch
  | none => s

/-- A band-sector drops REQ and PRI (R92, R104). -/
def dropReq (s : State) (bs : Nat) : State :=
  if s.front.req.contains bs then
    let s := { s with front := { s.front with
      req := s.front.req.filter (· ≠ bs), pri := s.front.pri.filter (· ≠ bs) } }
    match coexChannel s bs with
    | some ch => driveCoex s ch
    | none => s
  else s

end Sys2Proof.Machine
end

