-- ==== Sys2Proof/Machine/Ranges.lean ====
section
/-! DEFINITION. Ranging exchanges: their end without a result, and the distance (R405 to R410, Tables 15-1 to 15-3). -/

namespace Sys2Proof.Machine

/-- A ranging exchange ends without a result, with its STATUS and event 0x9010 (Tables 15-3, 15-14). -/
def endRange (s : State) (handle status : Nat) : State :=
  match FMap.find s.measure.ranges handle with
  | some r =>
    let x : RangeResult := {
      rangeId := r.rangeId, status := status, quality := 0, reports := r.tones.length, distance := 0, sigma := 0, resid := 0
      lastAsn := r.lastAsn, bandSector := r.bandSector, completed := domainTime s }
    let s := { s with measure := { s.measure with
      ranges := FMap.del s.measure.ranges handle, results := FMap.put s.measure.results handle x } }
    record s 0x9010 handle status r.tones.length
  | none => s

/-- The exchanges of some nodes are abandoned: departure, loss of the ranging cells, or the chip left ACTIVE (Table 15-3). -/
def abandonRanges (s : State) (which : Nat → Bool) : State :=
  ((s.measure.ranges.map (·.1)).filter which).foldl (fun s h => endRange s h 5) s

/- The distance (R409). Phases are counted in cycles, so that the factor pi cancels: a tone's phase is 2 f d / c cycles. -/

/-- Speed of light, m/s. -/
def lightSpeed : Rat := 299792458

/-- A surviving tone: frequency (Hz) and phase (cycles). -/
abbrev Tone := Nat × Rat

/-- The surviving tones of a cell (R407). -/
def survivors (l : List RangeTone) : List Tone :=
  (l.filter (·.ok)).map (fun t => (t.freq, (t.phase : Rat) / 65536))

/-- The nearest whole number. -/
def nearestInt (x : Rat) : Int := (x + 1 / 2).floor

/-- f0 and its phase: the lowest frequency of the first cell with two surviving tones or more. -/
def originTone (cells : List (List Tone)) : Option Tone :=
  (cells.find? (fun l => 2 ≤ l.length)).bind (fun l =>
    l.foldl (fun (b : Option Tone) t => match b with
      | none => some t
      | some x => if t.1 < x.1 then some t else some x) none)

/-- Coarse distance in metres from the in-cell slopes; how a cell's phases are unwrapped and fitted is not stated, so the
millimetres are Config's, from the tones. -/
def coarseDistance (cells : List (List Tone)) : Rat :=
  (Config.value 12 ((cells.map (fun l => (l.map (fun t => [(t.1 : Int), (t.2 * 65536).floor])).flatten)).flatten) : Rat) / 1000

/-- Insert a tone in order of its distance in frequency from f0. -/
def insertTone (f0 : Nat) (t : Tone) : List Tone → List Tone
  | [] => [t]
  | x :: l => if ((t.1 : Int) - f0).natAbs < ((x.1 : Int) - f0).natAbs then t :: x :: l else x :: insertTone f0 t l

/-- One unwrapped tone: offset in frequency (Hz) and phase (cycles) from f0's. -/
abbrev Unwrapped := Rat × Rat

/-- Least-squares slope through the origin, as a distance in metres; the estimate so far where no tone has an offset. -/
def slopeDistance (l : List Unwrapped) (d : Rat) : Rat :=
  let xx := (l.map (fun p => p.1 * p.1)).foldl (· + ·) 0
  let xu := (l.map (fun p => p.1 * p.2)).foldl (· + ·) 0
  if xx = 0 then d else xu / xx * lightSpeed / 2

/-- The unwrapping, tone by tone: the tones unwrapped, the distance, and whether some step was ambiguous: its prediction
lay more than a quarter of a cycle from the candidate taken (Table 15-3, STATUS 4). -/
def unwrapTones (o : Tone) : List Tone → List Unwrapped × Rat × Bool → List Unwrapped × Rat × Bool
  | [], acc => acc
  | t :: l, (done_, d, amb) =>
    let x : Rat := (t.1 : Rat) - o.1
    let dp : Rat := t.2 - o.2
    let turns : Rat := 2 * x * d / lightSpeed - dp
    let n := nearestInt turns
    let off : Rat := turns - n
    let all := done_ ++ [(x, dp + n)]
    unwrapTones o l (all, slopeDistance all d, amb || decide (1 / 4 < off) || decide (off < -(1 / 4)))

/-- Whole part of the square root of a number. -/
def sqrtGo (n : Nat) : Nat → Nat → Nat
  | 0, r => r
  | k + 1, r => let t := r + 2 ^ k; sqrtGo n k (if t * t ≤ n then t else r)

/-- Whole part of a square root of a rational below 2^128. -/
def sqrtFloor (x : Rat) : Nat := sqrtGo x.floor.toNat 64 0

/-- A value between whole numbers is reported as one of the two; which is not stated. -/
def openRound (s : State) (floor : Nat) (exact : Bool) : Nat := if exact then floor else floor + freeNow s % 2

/-- The end of an exchange after K Reports or 2K cells (R408, R409). -/
def finishRange (s : State) (handle : Nat) (r : RangeRun) : State :=
  let cells := r.tones.map (fun p => survivors p.2)
  let tones := cells.flatten
  let measured := (r.tones.map (fun p => p.2.length)).foldl (· + ·) 0
  match originTone cells with
  | none => endRange s handle 3
  | some o =>
    if r.tones.length * 2 < r.k ∨ tones.length < 16 then endRange s handle 3
    else
      let ordered := tones.foldl (fun l t => insertTone o.1 t l) []
      match unwrapTones o ordered ([], coarseDistance cells, false) with
      | (_, _, true) => endRange s handle 4
      | (l, d, false) =>
        let n : Rat := l.length
        let resid2 := ((l.map (fun p => (p.2 - 2 * p.1 * d / lightSpeed) * (p.2 - 2 * p.1 * d / lightSpeed))).foldl (· + ·) 0) / n
        let mean := ((l.map (·.1)).foldl (· + ·) 0) / n
        let spread := (l.map (fun p => (p.1 - mean) * (p.1 - mean))).foldl (· + ·) 0
        let sigma2 : Rat := if spread = 0 then 0 else resid2 * lightSpeed * lightSpeed / (4 * spread)
        let mm := (d * 1000).floor.toNat
        let x : RangeResult := {
          rangeId := r.rangeId, status := 0, reports := r.tones.length
          quality := if 1 / 576 < resid2 then 1 else if tones.length * 2 < measured then 2 else 0
          distance := min (openRound s mm (d * 1000 = mm)) 0xFFFFFFFF
          sigma := min (openRound s (sqrtFloor (sigma2 * 1000000)) (sigma2 = 0)) 0xFFFF
          resid := min (openRound s (sqrtFloor (resid2 * 12960000)) (resid2 = 0)) 0xFFFF
          lastAsn := r.lastAsn, bandSector := r.bandSector, completed := domainTime s }
        { drewFree s with measure := { s.measure with
            ranges := FMap.del s.measure.ranges handle, results := FMap.put s.measure.results handle x } }

end Sys2Proof.Machine
end

