-- ==== Sys2Proof/Machine/Scheduler.lean ====
section
/-! DEFINITION. The hardware task scheduler: lists, eligibility, dispatch, preemption, prefetch slots, wake sources,
trace and statistics (R352 to R361, R366 to R369). -/

namespace Sys2Proof.Machine

/-- The cores the scheduler serves. -/
def schedCores : List Nat := [1, 2, 3]

/-- A thread that is not FREE. -/
def threadOf (s : State) (tid : Nat) : Option Thread := FMap.find s.threads.threads tid

/-- Change a thread. -/
def updThread (s : State) (tid : Nat) (f : Thread → Thread) : State :=
  { s with threads := { s.threads with threads := s.threads.threads.update tid f } }

/-- The ready list of a priority. -/
def readyList (s : State) (p : Nat) : List Nat := FMap.getD s.threads.lists p []

/-- Replace the ready list of a priority. -/
def setReadyList (s : State) (p : Nat) (l : List Nat) : State :=
  { s with threads := { s.threads with lists := FMap.putD s.threads.lists p l [] } }

/-- The thread running on a core. -/
def runningOn (s : State) (core : Nat) : Option Nat := FMap.find s.threads.running core

/-- A core's harts are numbered by core number in the debug masks: CC1 to CC3 are harts 1 to 3 (R422). -/
def coreHalted (s : State) (core : Nat) : Bool := s.dbg.halted.toNat.testBit core

/-- A halt request waits on the core: no LSF thread is dispatched to it (Table 15-12). -/
def coreHalting (s : State) (core : Nat) : Bool := s.dbg.haltPending.toNat.testBit core

/-- A thread is eligible on a core (R355). -/
def eligible (s : State) (core tid : Nat) : Bool :=
  match threadOf s tid with
  | some t => t.state = .ready && t.aff.contains core && !(t.lsf && coreHalting s core) && !coreHalted s core
  | none => false

/-- Ready threads in priority and list order. -/
def readyOrder (s : State) : List Nat := ((List.range 32).map (readyList s)).flatten

/-- The thread a core would take next (R355). -/
def nextFor (s : State) (core : Nat) : Option Nat := (readyOrder s).find? (eligible s core)

/-- Threads eligible on a core. -/
def depthOf (s : State) (core : Nat) : Nat := ((readyOrder s).filter (eligible s core)).length

/-- Refill the prefetch slots in the order CC1, CC2, CC3 (R356). -/
def refillSlots (s : State) : State :=
  let step := fun (m : FMap Nat) core =>
    match (readyOrder s).find? (fun t => eligible s core t && !(m.any (fun p => p.2 = t))) with
    | some t => FMap.put m core t
    | none => m
  { s with threads := { s.threads with slots := schedCores.foldl step [] } }

/-- Whether a trace record passes TRACE_FILTER (R367). -/
def traceWanted (s : State) (kind core tidOut tidIn : Nat) : Bool :=
  let f := obj s 0xB021 0
  let tids := beNat (f.drop 2)
  objN s 0xB020 0 = 1 && (core = 0 || bitOf (fieldOf f 0 1) (core - 1)) && bitOf (fieldOf f 1 1) kind &&
    (tids.testBit tidIn || (tidOut < 255 && tids.testBit tidOut))

/-- Priority of a thread as the trace gives it. -/
def prioOf (s : State) (tid : Nat) : Nat := ((threadOf s tid).map (·.prio)).getD 0

/-- Write a trace record (R367, Table 13-8). -/
def traceRec (s : State) (kind core sources tidOut tidIn : Nat) (fast : Bool) : State :=
  if traceWanted s kind core tidOut tidIn then
    let n := s.threads.traceNext
    let r : TraceRecord := { time := domainTime s % 2 ^ 48, kind := kind, core := core, sources := sources % 256,
                             tidOut := tidOut, tidIn := tidIn, prioIn := prioOf s tidIn, fast := fast,
                             prioOut := prioOf s tidOut, depth := depthOf s core, seq := n }
    { s with threads := { s.threads with
        trace := (FMap.put s.threads.trace n r).keep (fun k _ => n < k + 65536), traceNext := n + 1 } }
  else s

/-- Account a core's running statistics up to now: times, and depth sampled every 1 us (R369). -/
def accountCore (s : State) (core : Nat) : State :=
  let c := FMap.getD s.threads.stats core {}
  let dt := s.now - c.since
  let samples := s.now / 1000 - c.since / 1000
  let d := depthOf s core
  let run := (runningOn s core).bind (threadOf s)
  let c' : CoreStats := { c with
    lsfNs := c.lsfNs + (match run with | some t => if t.lsf then dt else 0 | none => 0)
    appNs := c.appNs + (match run with | some t => if t.lsf then 0 else dt | none => 0)
    idleNs := c.idleNs + (match run with | some _ => 0 | none => dt)
    depthMax := max c.depthMax (if 0 < samples then d else 0)
    depthSum := c.depthSum + samples * d
    depthSamples := c.depthSamples + samples
    since := s.now }
  { s with threads := { s.threads with stats := FMap.put s.threads.stats core c' } }

/-- Account all cores. -/
def accountAll (s : State) : State := schedCores.foldl accountCore s

/-- Note a dispatch in a core's statistics: waiting ends at the first instruction (R369, Table 13-3). -/
def noteDispatch (s : State) (core wait : Nat) (preempt : Bool) : State :=
  let c := FMap.getD s.threads.stats core {}
  let c' := { c with
    waitMax := max c.waitMax wait, waitSum := c.waitSum + wait, dispatches := satAdd 16 c.dispatches 1,
    preempts := if preempt then satAdd 16 c.preempts 1 else c.preempts }
  { s with threads := { s.threads with stats := FMap.put s.threads.stats core c' } }

/-- Take a thread out of its ready list and every slot. -/
def unlist (s : State) (tid : Nat) : State :=
  let s := setReadyList s (prioOf s tid) ((readyList s (prioOf s tid)).filter (fun t => t ≠ tid))
  { s with threads := { s.threads with slots := s.threads.slots.keep (fun _ t => t != tid) } }

/-- Put a thread at the tail of its list, READY. -/
def readyTail (s : State) (tid : Nat) : State :=
  let s := updThread s tid (fun t => { t with state := .ready, readySince := s.now })
  setReadyList s (prioOf s tid) (readyList s (prioOf s tid) ++ [tid])

/-- Put a thread at the head of its list, READY. -/
def readyHead (s : State) (tid : Nat) : State :=
  let s := updThread s tid (fun t => { t with state := .ready, readySince := s.now })
  setReadyList s (prioOf s tid) (tid :: readyList s (prioOf s tid))

/-- A core's running thread leaves it: its run time is added. -/
def leaveCore (s : State) (core : Nat) : State :=
  let s := accountAll s
  match runningOn s core with
  | some t =>
    let s := updThread s t (fun x => { x with runNs := x.runNs + (s.now - x.runSince) })
    { s with threads := { s.threads with running := FMap.del s.threads.running core } }
  | none => s

/-- Whether a program trace record of an engine is wanted: PTRACE_CFG selects the engine, and the source or the target
lies in the range (R421). -/
def ptraceWanted (s : State) (engine source target : Nat) : Bool :=
  let v := obj s 0xA100 0
  let lo := fieldOf v 2 4
  let hi := fieldOf v 6 4
  let inside := fun (a : Nat) => decide (lo ≤ a) && decide (a ≤ hi)
  bitOf (fieldOf v 0 1) 0 && fieldOf v 1 1 = engine && (inside source || inside target) && !s.ptrace.stopped

/-- Write a program trace record (R421, Table 15-8): KIND, ENGINE, TID, FROM and TO. With STOP_FULL a full ring stops the
trace. -/
def ptraceRec (s : State) (kind engine tid source target : Nat) : State :=
  if ptraceWanted s engine (source % 2 ^ 32) (target % 2 ^ 32) then
    let n := s.ptrace.nextSeq
    if bitOf (objField s 0xA100 0 0 1) 1 && s.ptrace.oldest + 65536 ≤ n then { s with ptrace := { s.ptrace with stopped := true } }
    else
      let r : PtraceRecord := { time := domainTime s % 2 ^ 48, kind := kind, engine := engine, tid := tid,
                                source := source % 2 ^ 32, target := target % 2 ^ 32 }
      { s with ptrace := { s.ptrace with
          ring := (FMap.put s.ptrace.ring n r).keep (fun k _ => n < k + 65536), nextSeq := n + 1
          oldest := max s.ptrace.oldest (n + 1 - 65536) } }
  else s

/-- A hart halts: its program trace record of KIND 3 gives addresses the spec leaves to the engine (Table 15-8). -/
def haltHart (s : State) (hart tid : Nat) : State :=
  let s := { s with dbg := { s.dbg with
    halted := BitVec.ofNat 13 (withBit s.dbg.halted.toNat hart)
    haltPending := BitVec.ofNat 13 (withoutBit s.dbg.haltPending.toNat hart) } }
  drewFree (ptraceRec s 3 hart tid (freeNow s) (freeNow s))

/-- A core whose halt request waits halts at its next dispatch of an application thread, or idle (Table 15-12). -/
def haltAtDispatch (s : State) (core : Nat) : State :=
  if coreHalting s core then haltHart s core ((runningOn s core).getD 0xFF) else s

/-- A core takes its next thread, or idles; the decision is traced with its kind (R355, R356, Table 13-8). -/
def takeNext (s : State) (core kind tidOut : Nat) : State :=
  let s := accountAll s
  match nextFor s core with
  | some t =>
    let fast := FMap.find s.threads.slots core = some t
    let wait := s.now - ((threadOf s t).map (·.readySince)).getD s.now +
      (if kind = 2 then 400 else if fast then 50 else 250)
    let s := unlist s t
    let s := updThread s t (fun x =>
      { x with state := .running, core := core, dispatches := (x.dispatches + 1) % 2 ^ 32, runSince := s.now })
    let s := { s with threads := { s.threads with running := FMap.put s.threads.running core t } }
    let s := noteDispatch s core wait (kind = 2 && tidOut != 0xFF)
    refillSlots (haltAtDispatch (traceRec s kind core 0 tidOut t fast) core)
  | none => refillSlots (haltAtDispatch (traceRec s 4 core 0 tidOut 0xFF false) core)

/-- The core a READY thread takes at once: an idle eligible core, else the eligible core whose running thread has the
largest PRIO number above its own, the lowest core on a tie (R355). -/
def targetCore (s : State) (tid : Nat) : Option Nat :=
  let cs := schedCores.filter (fun c => eligible s c tid)
  match cs.find? (fun c => (runningOn s c).isNone) with
  | some c => some c
  | none =>
    let worst := cs.foldl (fun (b : Option Nat) c =>
      match b with
      | none => some c
      | some d =>
        if prioOf s ((runningOn s d).getD 0) < prioOf s ((runningOn s c).getD 0) then some c else some d) none
    worst.bind (fun c => if prioOf s tid < prioOf s ((runningOn s c).getD 0) then some c else none)

/-- The running thread of a core is preempted: head of its list (Table 13-2). -/
def preemptCore (s : State) (core : Nat) : State :=
  match runningOn s core with
  | some t => takeNext (readyHead (leaveCore s core) t) core 2 t
  | none => takeNext s core 2 0xFF

/-- One preemption decision: the first ready thread that some core must take at once. -/
def settleStep (s : State) : Option State :=
  match (readyOrder s).find? (fun t => (targetCore s t).isSome) with
  | some t => (targetCore s t).map (preemptCore s)
  | none => none

/-- Decisions until no core runs a thread while an eligible thread of higher priority waits (R355). -/
def settleGo : Nat → State → State
  | 0, s => s
  | n + 1, s => match settleStep s with
    | some s' => settleGo n s'
    | none => s

/-- Settle the cores after threads have become READY, and refill the slots (R355, R356). -/
def settle (s : State) : State := refillSlots (settleGo 8 (accountAll s))

/-- Raise a wake source for a thread (R354, R360): PENDING takes the bit, a thread that waits on it becomes READY. -/
def raiseNow (s : State) (tid src : Nat) : State :=
  match threadOf s tid with
  | none => s
  | some t =>
    let pend := withBit t.pending src
    if t.state = .blocked ∧ bitOf t.waitMask src then
      let woken := pend &&& t.waitMask
      let s := accountAll s
      let s := updThread s tid (fun x => { x with pending := pend ^^^ woken, result := woken, waitMask := 0 })
      let s := readyTail s tid
      settle (traceRec s 5 0 woken 0xFF tid false)
    else updThread s tid (fun x => { x with pending := pend })

/-- Sources that a follower raises only from the journal (R361). -/
def journaledSource (src : Nat) : Bool := src = 2 || src = 3 || src = 6

/-- Raise a wake source: sources 2, 3 and 6 are journaled by the active chip and wait for the journal on a
follower (R361). -/
def raiseSource (s : State) (tid src : Nat) : State :=
  if journaledSource src && s.power.dev = .follower && hasPartner s then
    { s with threads := { s.threads with deferred := s.threads.deferred ++ [(tid, src)] } }
  else raiseNow (if journaledSource src then journal s 0 (.reading 1 (domainTime s)) else s) tid src

/-- Raise the wakes a follower still held back, now that the chip is active and raises its own (R357, R361). -/
def releaseDeferred (s : State) : State :=
  let l := s.threads.deferred
  l.foldl (fun s (x : Nat × Nat) => raiseNow s x.1 x.2)
    { s with threads := { s.threads with deferred := [], readings := [] } }

/-- Raise a source for every application thread. -/
def raiseAll (s : State) (src : Nat) : State :=
  ((s.threads.threads.filter (fun p => !p.2.lsf)).map (·.1)).foldl (fun s t => raiseSource s t src) s

end Sys2Proof.Machine
end

