-- ==== Sys2Proof/Machine/Shaper.lean ====
section
/-! DEFINITION. The shapers: their buckets, their configuration, and the charge of the frame each band-sector has latched
(R187, R193 to R195). -/

namespace Sys2Proof.Machine

/-- A shaper. -/
def shaperOf (s : State) (n : Nat) : Shaper := FMap.getD s.queues.shapers n {}

/-- Change a shaper. -/
def updShaper (s : State) (n : Nat) (f : Shaper → Shaper) : State :=
  { s with queues := { s.queues with shapers := FMap.putD s.queues.shapers n (f (shaperOf s n)) {} } }

/-- Fields of a SHAPER_CFG record (Table 7-9). -/
def shaperEnabled (c : Octets) : Bool := bitOf (fieldOf c 0 1) 7
def shaperResetFull (c : Octets) : Bool := bitOf (fieldOf c 0 1) 6
def shaperCir (c : Octets) : Nat := fieldOf c 4 4
def shaperCbs (c : Octets) : Nat := fieldOf c 8 4
def shaperPir (c : Octets) : Nat := fieldOf c 12 4
def shaperPbs (c : Octets) : Nat := fieldOf c 16 4

/-- Colours of R193. -/
inductive Colour where
  | green | yellow | red
  deriving DecidableEq, Repr

/-- Bring an accepted configuration into force at a consultation (R195). -/
def Shaper.takeConfig (x : Shaper) : Shaper :=
  match x.pending with
  | some (c, t) =>
    let full := shaperResetFull c
    { x with
      config := c, pending := none, last := t
      tc := if full then (shaperCbs c : Int) * 1000000 else 0
      tp := if full then (shaperPbs c : Int) * 1000000 else 0 }
  | none => x

/-- The buckets filled up to a time in us (R193). -/
def Shaper.fill (x : Shaper) (t : Nat) : Shaper :=
  let dt : Int := (t : Int) - (x.last : Int)
  { x with
    last := t
    tc := min ((shaperCbs x.config : Int) * 1000000) (x.tc + (shaperCir x.config : Int) * dt)
    tp := min ((shaperPbs x.config : Int) * 1000000) (x.tp + (shaperPir x.config : Int) * dt) }

/-- The colour of a frame of counted length `lc` (R193). -/
def Shaper.colour (x : Shaper) (lc : Nat) : Colour :=
  if !shaperEnabled x.config then .green
  else if x.tp < (min lc (shaperPbs x.config) : Nat) * 1000000 then .red
  else if x.tc < (min lc (shaperCbs x.config) : Nat) * 1000000 then .yellow
  else .green

/-- Charge a frame of a colour; a disabled shaper is never charged (R193). -/
def Shaper.charge (x : Shaper) (lc : Nat) (c : Colour) : Shaper :=
  if !shaperEnabled x.config then x
  else { x with
    tc := if c = .green then x.tc - (lc : Int) * 1000000 else x.tc
    tp := if c = .red then x.tp else x.tp - (lc : Int) * 1000000 }

/-- Return a charge, capped at the bucket sizes (R187, R195). -/
def Shaper.refund (x : Shaper) (lc : Nat) (green : Bool) : Shaper :=
  if !shaperEnabled x.config then x
  else { x with
    tc := if green then min ((shaperCbs x.config : Int) * 1000000) (x.tc + (lc : Int) * 1000000) else x.tc
    tp := min ((shaperPbs x.config : Int) * 1000000) (x.tp + (lc : Int) * 1000000) }

/-- Return the charge of the frame a band-sector has latched (R187). -/
def returnCharge (s : State) (bs : Nat) : State :=
  match FMap.find s.queues.charges bs with
  | some (n, lc, green) =>
    let s := updShaper s n (fun x => x.refund lc green)
    { s with queues := { s.queues with charges := FMap.del s.queues.charges bs } }
  | none => s

/-- The charge of a band-sector's frame stays made: the frame is on the air. -/
def keepCharge (s : State) (bs : Nat) : State :=
  { s with queues := { s.queues with charges := FMap.del s.queues.charges bs } }

end Sys2Proof.Machine
end

