-- ==== Sys2Proof/Machine/Role.lean ====
section
/-! DEFINITION. Device states, the claim output, the bypass, the end of transmissions, sessions and debug, the zeroize
sequence, internal resets and fatal-to-role faults (R22 to R25, R275 to R279, R295, R301, R312, R432, R451). -/

namespace Sys2Proof.Machine

/-- States in which LSF runs, so that a change out of them is recorded at once (R451). -/
def lsfRuns : DevState → Bool
  | .load | .maintenance | .active | .follower => true
  | _ => false

/-- States whose time counts towards BANK_TRIAL_TIME (Table 12-12). -/
def trialState : DevState → Bool
  | .maintenance | .active | .follower => true
  | _ => false

/-- Note the start or end of the time a trial bank spends in service (Table 12-12). -/
def trialClock (s : State) (new : DevState) : Option Nat :=
  if trialState new then some (s.image.trialSince.getD s.now) else none

/-- Change the device state with its cause (R22, R451); wake source 6 follows entering or leaving ACTIVE (R360). -/
def changeState (s : State) (new : DevState) (cause : Nat) : State :=
  let old := s.power.dev
  let s := if lsfRuns old then record s 0x0010 old.code new.code cause else s
  let s := { s with
    power := { s.power with dev := new, stateTime := if timeAcquired s then domainTime s else 0 }
    image := { s.image with trialSince := trialClock s new } }
  let s := if new = .active then releaseDeferred s else s
  let s := if old = .active ∧ new ≠ .active then abandonRanges s (fun _ => true) else s
  if (old = .active) != (new = .active) then raiseAll s 6 else s

/- Transmissions in hand. -/

/-- Change a transmit chain. -/
def updChain (s : State) (bs : Nat) (f : TxChain → TxChain) : State :=
  { s with front := { s.front with chains := FMap.putD s.front.chains bs (f (FMap.getD s.front.chains bs {})) {} } }

/-- A transmit chain. -/
def chainOf (s : State) (bs : Nat) : TxChain := FMap.getD s.front.chains bs {}

/-- Change a packet of the queue manager. -/
def updPacket (s : State) (p : Nat) (f : QPacket → QPacket) : State :=
  { s with queues := { s.queues with packets := s.queues.packets.update p f } }

/-- Give back a reservation of duty (R116). -/
def unreserve (s : State) (account amount : Nat) : State :=
  { s with front := { s.front with duty := s.front.duty.update account (fun a =>
      { a with reserved := a.reserved - amount }) } }

/-- Drop a transmission that has not begun: its frame stays queued, its reservation and its shaper charge are given back
(R92, R116, R187). -/
def dropPlan (s : State) (bs : Nat) : State :=
  match (chainOf s bs).plan with
  | some p =>
    let s := dropReq (returnCharge (unreserve s p.account p.reserved) bs) bs
    let s := match p.packet with
      | some k => updPacket s k (fun q => { q with latched := false })
      | none => s
    updChain s bs (fun c => { c with plan := none, xpaEn := false, xpaTxon := false })
  | none => s

/-- Cut one chain short: a frame on the air is lost and waits for its ramp-down, any other stays queued (R101, R301). -/
def cutChain (s : State) (bs : Nat) : State :=
  match (chainOf s bs).plan with
  | some p =>
    if p.phase = .txon ∨ p.phase = .onAir then
      updChain s bs (fun c => { c with plan := some { p with cut := true }, xpaTxon := false, txonFell := some s.now })
    else if p.phase = .ended then s else dropPlan s bs
  | none => s

/-- Every PA ramps down and no planned frame starts (R22, R301). -/
def silence (s : State) : State := allBandSectors.foldl cutChain s

/-- The locked section is unresolved: outcome 3, or 4 in FIELD (R326). -/
def lockUnresolved (s : State) : Bool :=
  s.image.lockedOutcome = 3 || (s.image.lockedOutcome = 4 && s.power.lifecycle = .field)

/-- The chip may transmit on aerial ports: ACTIVE, the claim interlock open, no thermal hold, the locked section resolved
(R22, R301, R30, R326). -/
def mayTransmit (s : State) : Bool :=
  s.power.dev = .active && s.power.txGate && !s.power.pasHeld && timeAcquired s && !lockUnresolved s

/-- Release the claim output: the gate closes and a transmitting PA ramps down (R301, R302). -/
def releaseClaim (s : State) : State :=
  silence { s with
    power := { s.power with claimOut := false, txGate := false }
    twin := { s.twin with claim := .released, claimAsn := none, backoffDue := none } }

/-- Change a sett port. -/
def updPort (s : State) (p : Nat) (f : SettPort → SettPort) : State :=
  { s with sett := { s.sett with ports := FMap.putD s.sett.ports p (f (FMap.getD s.sett.ports p {})) {} } }

/-- The bypass closes: EAST joins WEST, frames on the ring links and in the transit buffers are lost (R295, R296). -/
def closeBypass (s : State) : State :=
  let lost := fun (p : SettPort) => { p with state := .down, transit := [], request := none }
  updPort (updPort { s with power := { s.power with bypassOn := true } } 1 lost) 2 lost

/- Sessions and debug. -/

/-- Free the working and pinned entries of a session's key is part of the session record; end one session, recording
its cause (R393). -/
def endSession (s : State) (cause sid : Nat) : State :=
  match FMap.find s.sop.sessions sid with
  | some x =>
    record { s with sop := { s.sop with sessions := FMap.del s.sop.sessions sid } } 0xA001 sid cause x.role
  | none => s

/-- End every session with a cause (R393). -/
def endSessions (s : State) (cause : Nat) : State := (s.sop.sessions.map (·.1)).foldl (fun s k => endSession s cause k) s

/-- The debug level in force: open at level 2 in FACTORY, locked in RETIRED (R423). -/
def debugLevel (s : State) : Nat :=
  match s.power.lifecycle with
  | .factory => 2
  | .retired => 0
  | _ => s.dbg.level

/-- A debug level reaches an engine: 0 to 3 CC0 to CC3, 4 to 12 SQ0 to SQ8 (Table 15-11). -/
def levelCovers (level engine : Nat) : Bool := level = 2 || (level = 1 && 1 ≤ engine && engine ≤ 3)

/-- The program trace of an engine that the level in force no longer covers ends (R421). -/
def endTrace (s : State) : State :=
  let v := obj s 0xA100 0
  if bitOf (fieldOf v 0 1) 0 && !levelCovers (debugLevel s) (fieldOf v 1 1) then
    setObj s 0xA100 0 (byte (withoutBit (fieldOf v 0 1) 0) :: v.drop 1)
  else s

/-- Debug locks with a cause (R424). -/
def lockDebug (s : State) (cause : Nat) : State :=
  if s.dbg.level = 0 then s
  else
    let level := s.dbg.level
    let s := endTrace { s with dbg := { s.dbg with level := 0, expires := none } }
    record s 0x0072 cause level 0

/- The zeroize sequence (Table 10-10). -/

/-- SOURCES of the alarm as a log record (R279). -/
def tamperLog (s : State) (sources action : Nat) : State :=
  let r : TamperRecord := { sources := sources, state := s.power.dev.code, action := action, aonTime := aonSeconds s }
  { s with keys := { s.keys with log := (r :: s.keys.log).take 8 } }

/-- Clear the KEK register and, in seed mode 1, the AON seed (R276, Table 10-11). -/
def clearKek (s : State) : State :=
  { s with keys := { s.keys with kek := none, aonSeed := if objN s 0x7103 0 = 1 then [] else s.keys.aonSeed } }

/-- A cipher job ends as ABORTED: its requester receives the result block alone, with STATUS 9 (Table 9-6). -/
def abortJob (s : State) (k : Nat) (j : CipherJob) : State :=
  let s := emit (count s 0x7050 (j.engine + 1) 10) (.cipher k 9 [])
  { s with
    cipher := { s.cipher with jobs := FMap.del s.cipher.jobs k }
    threads := { s.threads with mail := s.threads.mail.mapVals (fun _ m =>
      if m.target = 0 && m.job = some k then { m with result := some (9, []) } else m) } }

/-- R245: engines, working registers, hold buffers and the derived-key cache are cleared. -/
def clearEngines (s : State) : State :=
  let s := s.cipher.jobs.foldl (fun s p => abortJob s p.1 p.2) s
  { s with
    cipher := { s.cipher with jobs := [], engines := s.cipher.engines.mapVals (fun _ e => { e with registers := [] }) }
    keys := { s.keys with cache := [], prov := none } }

/-- The partition as the ≤ 40 us row leaves it: ZEROIZE_PENDING written, seed record and commit words overwritten
(R276). -/
def wipePartition (m : Memory) : Memory :=
  ((m.clear 0 64).clear 0x100 512).writeAll 0x40 (List.replicate 8 (byte 0x5A))

/-- Rows of Table 10-10 from ≤ 1 us to ≤ 40 us; `cause` is event 0x6301's third argument. -/
def zeroizeRows (s : State) (cause : Nat) : State :=
  let s := closeBypass (releaseClaim (clearEngines (clearKek s)))
  let s := { s with
    keys := { s.keys with
      partition := wipePartition s.keys.partition
      status := if s.keys.pending.isEmpty && s.keys.waiting.isEmpty then s.keys.status else 10
      pending := [], waiting := [], failed := [], overwrite := some (s.now, cause) } }
  lockDebug (endSessions s 4) 5

/-- A tamper alarm in a state with VIN present (R276, R278, R279). -/
def tamperAlarm (s : State) (sources : Nat) : State :=
  let s := { s with keys := { s.keys with lastSources := sources, alarms := s.keys.alarms + 1 } }
  match s.power.dev with
  | .off => s
  | .dormant => clearKek (tamperLog { s with keys := { s.keys with zeroizeFlag := true } } sources 2)
  | .zeroized => tamperLog s sources 3
  | d =>
    let s := tamperLog { s with keys := { s.keys with zeroizeFlag := true } } sources 1
    let s := record s 0x6300 sources d.code (aonSeconds s)
    zeroizeRows (changeState s .zeroized 0x1B) 1

/- Resets (R22, R321, Table 12-2). -/

/-- What the reset of all islands except AON leaves: MRAM and AON contents, DRAM contents that LOAD may find retained,
and nothing else (Table 12-2). -/
def islandReset (s : State) : State :=
  { s with
    fifos := [], rx := {}, modem := {}, measure := {}, ptrace := {}, dbg := {}, queues := {}, twin := {}, threads := {}
    front := { minutes := s.front.minutes, minuteLast := s.front.minuteLast }
    time := { persisted := s.time.persisted, offset := s.time.offset }
    sched := { cells := s.sched.cells }
    link := { nodes := s.link.nodes, resting := s.link.resting, netFc := s.link.netFcLimit, netFcLimit := s.link.netFcLimit }
    fwd := { host := s.fwd.host, stash := s.fwd.stash, routes := s.fwd.routes, nextHops := s.fwd.nextHops }
    cipher := { macsec := s.cipher.macsec }
    keys := { s.keys with
      waiting := [], pending := [], status := 0, cache := [], prov := none, zeroizeArmed := none, overwrite := none }
    recorder := { s.recorder with ring := [] }
    sett := { senderFc := s.sett.senderFcEnd, senderFcEnd := s.sett.senderFcEnd }
    image := { s.image with recovery := none, spiRequest := false, recSample := false,
                            trialSince := none, updState := 0, updCode := 0, sampled := false, bootFailed := [],
                            rolledBack := false }
    fleet := { stages := s.fleet.stages, store := s.fleet.store, nextId := s.fleet.nextId }
    sop := {}
    power := { s.power with
      degraded := 0#32, claimOut := false, txGate := false, profileDue := none, retireArmed := none, pasHeld := false,
      pasWait := [],
      thermForced := false, coolSince := none, vioLimit := false, clockLock := 0#32 } }

/-- Note the recovery session of a chip that leaves RECOVERY, for event 0x8030 (R339). -/
def leaveRecovery (s : State) : State :=
  match s.image.recovery with
  | some r => { s with image := { s.image with
      bootEvents := s.image.bootEvents ++ [(0x8030, r.cause, r.bank.getD 0xFF, r.written)], retain := false } }
  | none => s

/-- A start ends an unlock: event 0x0072 with cause 4 waits for the end of the next LOAD (R424, R451). -/
def noteUnlock (s : State) : State :=
  if s.dbg.level = 0 then s
  else { s with image := { s.image with bootEvents := s.image.bootEvents ++ [(0x0072, 4, s.dbg.level, 0)] } }

/-- Start cause of a reset: 6 out of RECOVERY, 7 out of ZEROIZED (Table 12-19). -/
def causeFrom (old : DevState) (cause : Nat) : Nat :=
  match old with
  | .recovery => 6
  | .zeroized => 7
  | _ => cause

/-- All islands except AON are reset with a start cause; DRAM goes into self-refresh unless a DRAM fault forbids it
(R22, R321, R451). -/
def resetIslands (s : State) (cause : Nat) (keepDram : Bool) : State :=
  let s := leaveRecovery (closeBypass (releaseClaim s))
  let from_ := s.power.dev
  let retain := keepDram && s.image.recovery.isNone && (lsfRuns from_ || s.image.retain)
  let s := islandReset (noteUnlock s)
  { s with
    power := { s.power with dev := .boot, startCause := causeFrom from_ cause, latchedState := from_, rails := false }
    image := { s.image with retain := retain } }

/-- An internal reset into BOOT (R22); without VIN or with the rails never up there is nothing to reset. -/
def internalReset (s : State) (cause : Nat) (keepDram : Bool := true) : State :=
  match s.power.dev with
  | .off | .dormant => s
  | _ => resetIslands s cause keepDram

/-- A fatal-to-role fault (R22, R312): cause 3, or 4 for the thermal row, of Table 12-19. -/
def fatalToRole (s : State) (cause : Nat := 3) (keepDram : Bool := true) : State :=
  match s.power.dev with
  | .load | .maintenance | .active | .follower | .recovery => internalReset s cause keepDram
  | _ => s

end Sys2Proof.Machine
end

