-- ==== Sys2Proof/Machine/Listen.lean ====
section
/-! DEFINITION. Listen sets, the lane pool, the receive guard and the classes of detections (R35 to R47, R128, R129):
what the receiver's commands share. -/

namespace Sys2Proof.Machine

/-- A lane. -/
def laneOf (s : State) (n : Nat) : Lane := FMap.getD s.rx.lanes n {}

/-- Change a lane. -/
def updLane (s : State) (n : Nat) (f : Lane → Lane) : State :=
  { s with rx := { s.rx with lanes := FMap.putD s.rx.lanes n (f (laneOf s n)) {} } }

/-- A lane that holds a packet or a detection: ACQUIRE to PAYLOAD (Table 2-5). -/
def LaneState.holds : LaneState → Bool
  | .acquire | .shr | .phr | .payload => true
  | _ => false

/-- A lane before its PHR check has passed. -/
def LaneState.early : LaneState → Bool
  | .acquire | .shr | .phr => true
  | _ => false

/-- Lanes that hold something. -/
def heldLanes (s : State) : List (Nat × Lane) := s.rx.lanes.filter (fun p => p.2.state.holds)

/-- Lanes of the pool that a profile sets (Table 1-14, R27). -/
def poolSize (s : State) : Nat :=
  match s.power.chipProfile with
  | 0 => 128 | 1 => 64 | 2 => 96 | _ => 48

/-- A lane is of the pool: low-numbered enough and not withdrawn, withdrawn lanes not replaced (R41). -/
def inPool (s : State) (n : Nat) : Bool := n < poolSize s && (laneOf s n).state != .withdrawn

/-- LANE_POOL, the effective pool (R41). -/
def lanePool (s : State) : Nat := ((List.range (poolSize s)).filter (inPool s)).length

/-- Lane floor of a band (Table 1-14). -/
def laneFloor (s : State) (b : Nat) : Nat :=
  match s.power.chipProfile, b with
  | 1, 0 => 8 | 1, 1 => 40
  | 3, 0 => 4 | 3, 1 => 24
  | _, _ => 0

/-- Lanes that a band holds (R42). -/
def busyLanes (s : State) (b : Nat) : Nat := ((heldLanes s).filter (fun p => bandOf p.2.bandSector = b)).length

/-- Free lanes of the pool, lowest first. -/
def freeLanes (s : State) : List Nat := (List.range (poolSize s)).filter (fun n => (laneOf s n).state = .idle)

/-- Lanes the floors of the bands other than `b` still claim, with `gone` lanes of band `c` released (R42). -/
def floorClaim (s : State) (b c gone : Nat) : Nat :=
  sumOf (([0, 1, 2].filter (· ≠ b)).map (fun x =>
    laneFloor s x - (busyLanes s x - (if x = c then gone else 0))))

/-- The lane a detection of a band takes, if R42 gives it one. -/
def laneFor (s : State) (b : Nat) : Option Nat :=
  let free := freeLanes s
  if floorClaim s b b 0 + 1 ≤ free.length then free.head? else none

/-- Release of a held lane of the pool would satisfy R42 for a detection of band `b` (R45). -/
def releaseHelps (s : State) (b n : Nat) : Bool :=
  inPool s n && floorClaim s b (bandOf (laneOf s n).bandSector) 1 ≤ (freeLanes s).length

/-- Extended integration is in force for SUN FSK entries of a band-sector: Reach governs it (R38). -/
def extendedOn (s : State) (bs : Nat) : Bool := bandOf bs != 2 && profileOf s bs = 1

/-- One listen-set entry: lowest bin and mode (Table 2-3). -/
structure ListenEntry where
  firstBin : Nat
  mode : Nat
  deriving DecidableEq, Repr

/-- Lowest bins at which a mode has a channel: the 16 channels of IEEE 802.15.4 for O-QPSK (R133), every bin otherwise
(log entry 21). -/
def channelStarts (bins mode : Nat) : List Nat :=
  if mode = 0x20 then (List.range 16).map (fun i => 19 + 25 * i) else List.range bins

/-- Entries LISTEN_AUTO wants: the usable channels of each listen mode in the order of MODE_LIST (R36, R69, R109). -/
def wantedEntries (s : State) (bs : Nat) : List ListenEntry :=
  let b := bandOf bs
  let block := blockOf s b
  ((listUpToZero (obj s 0x3010 bs)).map (fun m =>
    if modePermitted s b m then
      ((channelStarts (binCount s b) m).filter (channelUsable block (binCount s b) m)).map (fun k => ⟨k, m⟩)
    else [])).flatten

/-- Enabled entries of a host's listen set (Table 2-3). -/
def hostEntries (v : Octets) : List ListenEntry :=
  ((List.range (v.length / 4)).filter (fun i => bitOf (fieldOf v (4 * i + 3) 1) 7)).map (fun i =>
    ⟨fieldOf v (4 * i) 2 % 512, fieldOf v (4 * i + 2) 1⟩)

/-- Correlator units of a band-sector's island (R35). -/
def islandUnits (bs : Nat) : Nat :=
  match bandOf bs with
  | 0 => 99 | 1 => 320 | _ => 160

/-- Units an entry uses (R35, R38). -/
def entryUnits (s : State) (bs : Nat) (e : ListenEntry) : Nat :=
  if extendedOn s bs && familyOf e.mode = .fsk then 2 else 1

/-- Keep the entries that fit the island's units, in order (R36). -/
def fitEntries (s : State) (bs : Nat) : Nat → List ListenEntry → List ListenEntry
  | _, [] => []
  | left, e :: l =>
    if entryUnits s bs e ≤ left then e :: fitEntries s bs (left - entryUnits s bs e) l else fitEntries s bs left l

/-- Entries wanted for a band-sector. -/
def wantedSet (s : State) (bs : Nat) : List ListenEntry :=
  if objB s 0x2101 bs then wantedEntries s bs else hostEntries (obj s 0x2102 bs)

/-- The listen set in force (R36). -/
def listenSet (s : State) (bs : Nat) : List ListenEntry := fitEntries s bs (islandUnits bs) (wantedSet s bs)

/-- Record the truncation of a listen set when it is rebuilt (R36). -/
def rebuildListen (s : State) (bs : Nat) : State :=
  if (listenSet s bs).length < (wantedSet s bs).length then
    record s 0x1120 bs (wantedSet s bs).length (islandUnits bs)
  else s

/-- A band and sector receives: its chains are enabled, its band too, and the device state has its radios on. -/
def receives (s : State) (bs : Nat) : Bool :=
  (s.power.dev = .active || s.power.dev = .follower) && objB s 0x2100 bs && bandEnabled s (bandOf bs) &&
    !s.rx.blanked.contains bs

/-- Drift estimate in force, ppb (R128). -/
def driftNow (s : State) : Nat := s.time.drift

/-- Receive guard g of a band, us (R126, R128). -/
def guardUs (s : State) (b : Nat) : Nat :=
  match s.time.mode, s.time.holdoverAt with
  | .holdover, some t =>
    min ((objN s 0x4014 0 * 1000 + driftNow s * (s.now - t) / 1000000000) / 1000) (slotField s b 3 / 2)
  | _, _ => s.time.guardKept.getD (objN s 0x4014 0)

/-- Receive cells of a band-sector's current slot whose channel overlaps a detection's (R43). -/
def matchingCells (s : State) (bs firstBin mode : Nat) : List LookEntry :=
  (lookFor s bs (asnNow s (bandOf bs))).filter (fun e =>
    e.cell.rx && spansMeet firstBin (spanOf mode) e.firstBin (spanOf e.cell.mode))

/-- The entry of smallest class, the first on a tie. -/
def bestClass : List LookEntry → Option LookEntry
  | [] => none
  | e :: l => match bestClass l with
    | some f => if f.cell.cls < e.cell.cls then some f else some e
    | none => some e

/-- A transmit chain waits for the acknowledgement of the frame it has sent. -/
def awaitingAck (s : State) (bs : Nat) : Option TxPlan :=
  match (chainOf s bs).plan with
  | some p => if p.phase = .ended && p.ackRequested then some p else none
  | none => none

/-- Class and matched cell of a detection (R43). -/
def detectionClass (s : State) (bs firstBin mode : Nat) : Nat × Option Nat :=
  let c := bestClass (matchingCells s bs firstBin mode)
  match awaitingAck s bs, c with
  | some p, some e => if e.cell.cls < p.cls then (e.cell.cls, some e.index) else (p.cls, some e.index)
  | some p, none => (p.cls, none)
  | none, some e => (e.cell.cls, some e.index)
  | none, none => (7, none)

/-- Raise a word of RX_COUNTERS (Table 2-10). -/
def countRx (s : State) (bs word : Nat) : State := count s 0x2170 bs word

/-- Clear a lane's work, keeping its test history and the octets of its last packet. -/
def idleLane (l : Lane) : Lane :=
  { fails := l.fails, passes := l.passes, retestAt := l.retestAt, bandSector := l.bandSector, descriptor := l.descriptor }

/-- Release a lane to the pool; a test turn that waits for it starts (R48). -/
def releaseLane (s : State) (n : Nat) : State :=
  let s := updLane s n idleLane
  if s.rx.testWaiting = some n then
    updLane { s with rx := { s.rx with testWaiting := none } } n (fun l => { l with state := .test, fails := 0 })
  else s

/-- A lane holds a chain of its band and sector: both before its diversity decision, the selected one after (R50). -/
def holdsChain (l : Lane) (chain : Nat) : Bool :=
  l.state.holds && l.bandSector = chain % 16 && (!l.selected || l.chainB = (16 ≤ chain))

/-- Lanes that hold a chain. -/
def chainHolders (s : State) (chain : Nat) : Nat := (s.rx.lanes.filter (fun p => holdsChain p.2 chain)).length

/-- Lanes of a transmitting band-sector are aborted (R57). -/
def abortOwnTx (s : State) (bs cls : Nat) : State :=
  let ls := (heldLanes s).filter (fun p => p.2.bandSector = bs)
  if ls.isEmpty then s
  else
    let s := ls.foldl (fun s p => countRx (releaseLane s p.1) bs 8) s
    record s 0x1140 bs ls.length cls

/-- Mark or unmark the other sectors of a transmitting band (R56): bit of DESENSE_MARK for a band-sector. -/
def markBit (bs : Nat) : Option Nat := if bs ≤ 8 then some (bs - 1) else none

/-- Sectors that a set of transmitting band-sectors desenses. -/
def desenseOf (blanked : List Nat) : BitVec 16 :=
  BitVec.ofNat 16 (([1, 2, 3, 4, 5, 6, 7, 8].filter (fun bs =>
    blanked.any (fun x => x ≠ bs && bandOf x = bandOf bs))).foldl (fun n bs => withBit n (bs - 1)) 0)

/-- Set the blanked band-sectors; every other sector of their bands carries a mark, which its lanes note (R56, R57). -/
def setBlanked (s : State) (l : List Nat) : State :=
  let m := desenseOf l
  { s with rx := { s.rx with
      blanked := l, desense := m
      lanes := s.rx.lanes.mapVals (fun _ x =>
        if x.state.holds && x.bandSector ≤ 8 && m.toNat.testBit (x.bandSector - 1) then { x with desense := true }
        else x) } }

end Sys2Proof.Machine
end

