-- ==== Sys2Proof/Machine/Ceiling.lean ====
section
/-! DEFINITION. Output power: the ceilings of R107, the target of R97 and the external power amplifiers of R98. -/

namespace Sys2Proof.Machine

/-- State of an aerial port. -/
def portOf (s : State) (p : Nat) : Port := FMap.getD s.front.ports p {}

/-- Change an aerial port. -/
def updPortState (s : State) (p : Nat) (f : Port → Port) : State :=
  { s with front := { s.front with ports := FMap.putD s.front.ports p (f (portOf s p)) {} } }

/-- Band-sector of a chain subindex (R33). -/
def portSector (p : Nat) : Nat := if 16 < p then p - 16 else p

/-- Maximum conducted power of a band-sector under its effective profile, 0.25 dBm (Table 1-14). -/
def bandMax (s : State) (bs : Nat) : Int :=
  let economy := profileOf s bs = 3
  match bandOf bs with
  | 0 => 108
  | 1 => if economy then 96 else 108
  | _ => if economy then 68 else 80

/-- The external amplifier of an M sector is in use (R98). -/
def xpaOn (s : State) (bs : Nat) : Bool := bandOf bs = 1 && objB s 0x2230 (sectorOf bs + 1)

/-- One valid entry of XPA_TABLE (Table 4-3). -/
structure XpaEntry where
  byp : Bool
  gsel : Bool
  gain : Int
  most : Int
  detRef : Nat
  detSlope : Nat
  deriving DecidableEq, Repr

/-- Valid entries of an XPA table value. -/
def xpaEntries (v : Octets) : List XpaEntry :=
  (List.range (v.length / 8)).filterMap (fun i =>
    let b := fieldOf v (8 * i) 1
    if bitOf b 7 then
      some { byp := bitOf b 6, gsel := bitOf b 5, gain := toSigned 8 (fieldOf v (8 * i + 1) 1)
             most := toSigned 16 (fieldOf v (8 * i + 2) 2), detRef := fieldOf v (8 * i + 4) 2, detSlope := fieldOf v (8 * i + 6) 2 }
    else none)

/-- XPA_TABLE of a sector. -/
def xpaTable (s : State) (bs : Nat) : List XpaEntry := xpaEntries (obj s 0x2231 (sectorOf bs + 1))

/-- The largest of some integers, or a default. -/
def maxOf (d : Int) : List Int → Int
  | [] => d
  | [a] => a
  | a :: l => max a (maxOf d l)

/-- P_band of R107. -/
def topPower (s : State) (bs : Nat) : Int :=
  if xpaOn s bs then maxOf (bandMax s bs) ((xpaTable s bs).map (·.most)) else bandMax s bs

/-- EIRP limit of a sub-band, 0.25 dBm (Table 4-8). -/
def eirpLimit (s : State) (b sub : Nat) : Int := toSigned 16 (fieldOf (subBand (blockOf s b) sub) 4 2)

/-- PORT_GAIN and PORT_LOSS (R106). -/
def portGain (s : State) (p : Nat) : Int := toSigned 16 (objN s 0x2200 p)
def portLoss (s : State) (p : Nat) : Int := objN s 0x2201 p

/-- Conducted ceiling of a port in a sub-band, 0.25 dBm (R107). -/
def ceiling (s : State) (p sub : Nat) : Int :=
  let bs := portSector p
  min (topPower s bs) (eirpLimit s (bandOf bs) sub - portGain s p + portLoss s p) -
    (if (portOf s p).state = .derated then 24 else 0)

/-- TX_CEILING of a port (R107). -/
def txCeiling (s : State) (p : Nat) : Octets :=
  let n := subBands (blockOf s (bandOf (portSector p)))
  ((List.range 8).map (fun i => beOctets 2 (if i < n then ofSigned 16 (ceiling s p i) else 0))).flatten

/-- The entry of lowest GAIN whose P_OUT_MAX reaches a target (R98). -/
def xpaChoice (s : State) (bs : Nat) (target : Int) : Option XpaEntry :=
  ((xpaTable s bs).filter (fun e => target ≤ e.most)).foldl (fun b e => match b with
    | some x => if e.gain < x.gain then some e else some x
    | none => some e) none

/-- Bottom of the chip's 40 dB range (R96). -/
def bottomPower (s : State) (bs : Nat) : Int := bandMax s bs - 160

/-- The chip's own conducted power for a target, with the XPA entry that carries it; none where it lies outside the range
(R97, R98). -/
def txSetting (s : State) (bs p sub : Nat) (target : Int) : Option (Int × Option XpaEntry) :=
  if xpaOn s bs then
    match xpaChoice s bs target with
    | some e =>
      let own := target - e.gain
      if bottomPower s bs ≤ own ∧ own ≤ bandMax s bs then some (own, some e) else none
    | none => none
  else if ceiling s p sub < bottomPower s bs then none
  else some (max target (bottomPower s bs), none)

/-- The target of a frame: the node's requested power and the ceiling (R97). -/
def targetPower (s : State) (p sub : Nat) (requested : Option Nat) : Int :=
  match requested with
  | some r => min (toSigned 8 r) (ceiling s p sub)
  | none => ceiling s p sub

end Sys2Proof.Machine
end

