-- ==== Sys2Proof/Machine/Campaign.lean ====
section
/-! DEFINITION. Campaign records: their configuration, states, node bits and persistence (R346 to R350). -/

namespace Sys2Proof.Machine

/-- A campaign. -/
def campaignAt (s : State) (k : Nat) : Campaign := FMap.getD s.fleet.campaigns k {}

/-- Change a campaign. -/
def updCampaign (s : State) (k : Nat) (f : Campaign → Campaign) : State :=
  { s with fleet := { s.fleet with campaigns := FMap.putD s.fleet.campaigns k (f (campaignAt s k)) {} } }

/- CAMPAIGN_CFG (Table 12-19). -/

def Campaign.slot (c : Campaign) : Nat := fieldOf c.cfg 0 1
def Campaign.frame (c : Campaign) : Nat := fieldOf c.cfg 1 1
def Campaign.mask (c : Campaign) : Nat := fieldOf c.cfg 2 2
def Campaign.policy (c : Campaign) : Nat := fieldOf c.cfg 8 1
def Campaign.activateAsn (c : Campaign) : Nat := fieldOf c.cfg 9 5
def Campaign.endAsn (c : Campaign) : Nat := fieldOf c.cfg 14 5
def Campaign.maxSymbols (c : Campaign) : Nat := fieldOf c.cfg 19 4

/-- Band-sectors of the campaign mask: bit i names subindex i + 1. -/
def Campaign.sectors (c : Campaign) : List Nat := allBandSectors.filter (fun bs => bitOf c.mask (bs - 1))

/-- An EUI-64 matches a selector: the first PLEN bits are equal (R346). -/
def Campaign.selects (c : Campaign) (eui : Octets) : Bool :=
  (List.range (min 8 (fieldOf c.cfg 23 1))).any (fun i =>
    let drop := 2 ^ (64 - min 64 (fieldOf c.cfg (32 + 9 * i) 1))
    fieldOf c.cfg (24 + 9 * i) 8 / drop = beNat eui / drop)

/-- Band of the campaign slotframe, whose slots its ASNs count (log entry 33). -/
def campaignBand (s : State) (c : Campaign) : Nat := (slotframe s c.frame).2.1

/-- ASN now as the campaign counts it. -/
def campaignAsn (s : State) (c : Campaign) : Nat := asnNow s (campaignBand s c)

/-- State code of CAMPAIGN_STATUS and event 0x8050 (log entry 10). -/
def stateCode (x : CampaignState) : Nat := Config.campaignCode x.place % 256

/- Persistence and changes of state (R347, R348). -/

/-- The record is written: changed bitmap pages, then the older header (R348). -/
def persistCampaign (s : State) (k : Nat) : State :=
  let s := updCampaign s k (fun c => { c with persistedAsn := campaignAsn s c })
  let seq := ((FMap.find s.fleet.store k).map (·.1)).getD 0
  { s with fleet := { s.fleet with store := FMap.put s.fleet.store k (seq + 1, campaignAt s k) } }

/-- A change of state: event 0x8050, and the record is written (R347, R348). -/
def changeCampaign (s : State) (k : Nat) (new : CampaignState) : State :=
  let c := campaignAt s k
  let s := record s 0x8050 c.id (stateCode c.state) (stateCode new)
  persistCampaign (updCampaign s k (fun c => { c with state := new })) k

/-- What follows from the node bits: DELIVERED once every TARGET node is COMPLETE, CLOSED once every COMPLETE node is
ACTIVATED (Table 12-18). -/
def settleCampaign (s : State) (k : Nat) : State :=
  let c := campaignAt s k
  if c.state = .running && !c.complete.isEmpty && c.target.all c.complete.contains then changeCampaign s k .delivered
  else if c.state = .activating && c.complete.all c.activated.contains then changeCampaign s k .closed
  else s

/- Node bits (R346, R350). -/

/-- The eight campaigns. -/
def allCampaigns : List Nat := [1, 2, 3, 4, 5, 6, 7, 8]

/-- Take an index into a set of node bits. -/
def withIndex (i : Nat) (l : List Nat) : List Nat := if l.contains i then l else i :: l

/-- Clear a node's four bits. -/
def Campaign.clearNode (c : Campaign) (i : Nat) : Campaign :=
  { c with
    target := c.target.filter (· ≠ i), accepted := c.accepted.filter (· ≠ i), complete := c.complete.filter (· ≠ i)
    activated := c.activated.filter (· ≠ i), offers := FMap.del c.offers i, activates := FMap.del c.activates i }

/-- The departure of a node clears its bits in every campaign (R350). -/
def clearBits (s : State) (i : Nat) : State :=
  allCampaigns.foldl (fun s k => settleCampaign (updCampaign s k (fun c => c.clearNode i)) k) s

/-- A node that joins becomes TARGET of every RUNNING campaign that selects it (R346). -/
def joinCampaigns (s : State) (i : Nat) (eui : Octets) : State :=
  allCampaigns.foldl (fun s k => updCampaign s k (fun c =>
    if c.state = .running && c.selects eui then { c with target := withIndex i c.target } else c)) s

end Sys2Proof.Machine
end

