-- ==== Sys2Proof/Machine/Adapt.lean ====
section
/-! DEFINITION. IPv6 headers as the air carries them: RFC 6282 compression with context 0 (R206), the source routing header
of non-storing RPL and the removal of RPL headers and options (R211). The formats are those of the cited standards (log
entry 9). -/

namespace Sys2Proof.Machine

/- Compression (R206). -/

/-- TF of LOWPAN_IPHC and the octets carried inline, for a traffic class and a flow label. -/
def iphcFlow (tc label : Nat) : Nat × Octets :=
  let turned := tc % 4 * 64 + tc / 4
  if label = 0 then if tc = 0 then (3, []) else (2, [byte turned])
  else if tc / 4 = 0 then (1, beOctets 3 (tc * 2 ^ 22 + label))
  else (0, beOctets 4 (turned * 2 ^ 24 + label))

/-- HLIM of LOWPAN_IPHC and the octet carried inline. -/
def iphcHop : Nat → Nat × Octets
  | 1 => (1, [])
  | 64 => (2, [])
  | 255 => (3, [])
  | h => (0, [byte h])

/-- Context bit, address mode and inline octets of a unicast address; `iid` is the interface identifier that the frame's own
address gives. -/
def iphcUnicast (pref iid a : Octets) : Nat × Nat × Octets :=
  let head := a.take 8
  let tail := a.drop 8
  let mode : Nat × Octets :=
    if tail = iid then (3, [])
    else if tail.take 6 = octetsOf [0, 0, 0, 0xFF, 0xFE, 0] then (2, tail.drop 6)
    else (1, tail)
  if head = octetsOf [0xFE, 0x80, 0, 0, 0, 0, 0, 0] then (0, mode)
  else if head = pref then (1, mode)
  else (0, 0, a)

/-- Context bit, address mode and inline octets of a source address; the unspecified address needs none. -/
def iphcSource (pref iid a : Octets) : Nat × Nat × Octets := if a = zeros 16 then (1, 0, []) else iphcUnicast pref iid a

/-- M, context bit, address mode and inline octets of a destination address. -/
def iphcDest (pref iid a : Octets) : Nat × Nat × Nat × Octets :=
  let gap := fun (n : Nat) => sliceOf a 2 n = zeros n
  if fieldOf a 0 1 ≠ 0xFF then (0, iphcUnicast pref iid a)
  else if fieldOf a 1 1 = 2 ∧ gap 13 then (1, 0, 3, a.drop 15)
  else if gap 11 then (1, 0, 2, sliceOf a 1 1 ++ a.drop 13)
  else if gap 9 then (1, 0, 1, sliceOf a 1 1 ++ a.drop 11)
  else if fieldOf a 3 1 = 64 ∧ sliceOf a 4 8 = pref then (1, 1, 0, sliceOf a 1 2 ++ a.drop 12)
  else (1, 0, 0, a)

/-- A UDP header under LOWPAN_NHC; the checksum stays inline. -/
def nhcUdp (l : Octets) : Octets :=
  let s := fieldOf l 0 2
  let d := fieldOf l 2 2
  let ports : Octets :=
    if s / 16 = 0xF0B ∧ d / 16 = 0xF0B then [byte 0xF3, byte (s % 16 * 16 + d % 16)]
    else if d / 256 = 0xF0 then byte 0xF1 :: beOctets 2 s ++ [byte d]
    else if s / 256 = 0xF0 then byte 0xF2 :: byte s :: beOctets 2 d
    else byte 0xF0 :: l.take 4
  ports ++ sliceOf l 6 2 ++ l.drop 8

/-- Extension header number of LOWPAN_NHC: hop-by-hop, routing, destination options, mobility. -/
def nhcNumber : Nat → Option Nat
  | 0 => some 0
  | 43 => some 1
  | 60 => some 3
  | 135 => some 4
  | _ => none

/-- The options of a hop-by-hop or destination options header: type and octets each. -/
def ipOptions : Nat → Octets → List (Nat × Octets)
  | 0, _ => []
  | _ + 1, [] => []
  | n + 1, a :: l =>
    if a.toNat = 0 then (0, [a]) :: ipOptions n l
    else
      let len := fieldOf l 0 1 + 1
      (a.toNat, a :: l.take len) :: ipOptions n (l.drop len)

/-- The options without a Pad1 or PadN of at most 7 octets at their end. -/
def withoutPad (l : Octets) : Octets :=
  match (ipOptions l.length l).getLast? with
  | some (typ, o) => if typ ≤ 1 ∧ o.length ≤ 7 then l.take (l.length - o.length) else l
  | none => l

/-- Length of the extension header that octets begin with. -/
def extLength (l : Octets) : Nat := 8 * (fieldOf l 1 1 + 1)

/-- A header and all behind it in compressed form, by the value that announces it; none where it stays inline. `src` and
`dst` are the interface identifiers of the addresses around it. -/
def lowpan (pref : Octets) : Nat → Nat → Octets → Octets → Octets → Option Octets
  | 0, _, _, _, _ => none
  | n + 1, nh, src, dst, l =>
    if nh = 17 then if 8 ≤ l.length ∧ fieldOf l 4 2 = l.length then some (nhcUdp l) else none
    else if nh = 41 then
      if 40 ≤ l.length ∧ fieldOf l 0 1 / 16 = 6 ∧ fieldOf l 4 2 = l.length - 40 then
        let next := fieldOf l 6 1
        let t := iphcFlow (fieldOf l 0 2 / 16 % 256) (fieldOf l 1 3 % 2 ^ 20)
        let h := iphcHop (fieldOf l 7 1)
        let s := iphcSource pref src (sliceOf l 8 16)
        let d := iphcDest pref dst (sliceOf l 24 16)
        let inner := lowpan pref n next (sliceOf l 16 8) (sliceOf l 32 8) (l.drop 40)
        let nhBit := if inner.isSome then 1 else 0
        some ([byte (0x60 + t.1 * 8 + nhBit * 4 + h.1),
            byte (s.1 * 64 + s.2.1 * 16 + d.1 * 8 + d.2.1 * 4 + d.2.2.1)] ++
          t.2 ++ (if inner.isSome then [] else [byte next]) ++ h.2 ++ s.2.2 ++ d.2.2.2 ++
          (match inner with
            | some c => if next = 41 then byte 0xEE :: c else c
            | none => l.drop 40))
      else none
    else match nhcNumber nh with
      | some e =>
        let len := extLength l
        let next := fieldOf l 0 1
        let body := if nh = 0 ∨ nh = 60 then withoutPad (sliceOf l 2 (len - 2)) else sliceOf l 2 (len - 2)
        if l.length < len ∨ 255 < body.length then none
        else match lowpan pref n next src dst (l.drop len) with
          | some c => some (byte (0xE0 + 2 * e + 1) :: byte body.length :: body ++ (if next = 41 then byte 0xEE :: c else c))
          | none => some (byte (0xE0 + 2 * e) :: byte next :: byte body.length :: body ++ l.drop len)
      | none => none

/-- A packet as an air frame carries it: compressed with context 0, or behind the uncompressed IPv6 dispatch. -/
def compress (pref src dst data : Octets) : Octets :=
  (lowpan pref (data.length + 1) 41 src dst data).getD (byte 0x41 :: data)

/- RPL (R211). -/

/-- An IPv6 packet with another next header and what follows its first 40 octets. -/
def withPayload (data : Octets) (next : Nat) (payload : Octets) : Octets :=
  data.take 4 ++ beOctets 2 payload.length ++ [byte next] ++ sliceOf data 7 33 ++ payload

/-- The source routing header of RFC 6554 before a packet's payload: the packet goes to the first hop's address, the header
lists the addresses after it with their first 8 octets elided, and the last of them is the packet's own destination. -/
def sourceRoute (first : Octets) (rest : List Octets) (data : Octets) : Octets :=
  let n := rest.length
  let head := [sliceOf data 6 1, [byte n, byte 3, byte n, byte 0x88, byte 0, byte 0, byte 0],
    (rest.map (fun a => a.drop 8)).flatten].flatten
  let p := withPayload data 43 (head ++ data.drop 40)
  p.take 24 ++ first ++ p.drop 40

/-- An RPL option: 0x63, or 0x23. -/
def isRplOption (o : Nat × Octets) : Bool := o.1 = 0x63 || o.1 = 0x23

/-- A hop-by-hop header with padding in the place of its RPL options; none where nothing but padding is left. -/
def hopWithoutRpl (head : Octets) : Option Octets :=
  let opts := ipOptions head.length (head.drop 2)
  if opts.any isRplOption && opts.all (fun o => isRplOption o || o.1 ≤ 1) then none
  else some (head.take 2 ++ (opts.map (fun o =>
    if isRplOption o then byte 1 :: byte (o.2.length - 2) :: zeros (o.2.length - 2) else o.2)).flatten)

/-- A chain of extension headers without RPL's: the value that announces what remains, and the octets. -/
def chainWithoutRpl : Nat → Nat → Octets → Nat × Octets
  | 0, nh, l => (nh, l)
  | n + 1, nh, l =>
    if (nh = 0 ∨ nh = 43 ∨ nh = 60) ∧ 8 ≤ l.length ∧ extLength l ≤ l.length then
      let rest := chainWithoutRpl n (fieldOf l 0 1) (l.drop (extLength l))
      let head := l.take (extLength l)
      let keep := fun (h : Octets) => (nh, byte rest.1 :: h.drop 1 ++ rest.2)
      if nh = 43 then if fieldOf l 2 1 = 3 then rest else keep head
      else if nh = 0 then match hopWithoutRpl head with
        | some h => keep h
        | none => rest
      else keep head
    else (nh, l)

/-- A packet with its RPL headers and options removed (R211). -/
def withoutRpl (data : Octets) : Octets :=
  if data.length < 40 ∨ fieldOf data 0 1 / 16 ≠ 6 then data
  else
    let c := chainWithoutRpl data.length (fieldOf data 6 1) (data.drop 40)
    if c.2 = data.drop 40 then data else withPayload data c.1 c.2

end Sys2Proof.Machine
end

