-- ==== Sys2Proof/Machine/BitLoad.lean ====
section
/-! DEFINITION. OFDM-BL links: the estimate, the loading rule, and the author and user sides of Tables 3-9 and 3-10
(R77 to R89). SNR values are exact, in 0.25 dB; a comparison with m - sqrt v is decided by squares (R80). -/

namespace Sys2Proof.Machine

/-- Key of a link's record: handle and band code. -/
def blKey (h b : Nat) : Nat := 4 * h + b

/-- A link's record. -/
def blLink (s : State) (h b : Nat) : BlLink := FMap.getD s.modem.links (blKey h b) {}

/-- Change a link's record. -/
def updBl (s : State) (h b : Nat) (f : BlLink → BlLink) : State :=
  { s with modem := { s.modem with links := FMap.putD s.modem.links (blKey h b) (f (blLink s h b)) {} } }

/-- Raise a word of MODEM_COUNTERS (Table 3-13). -/
def countModem (s : State) (bs word : Nat) : State := count s 0x3040 bs word

/-- Dedicated cells toward or from a peer on a band: index and cell. -/
def linkCells (s : State) (h b : Nat) (rx : Bool) : List (Nat × Cell) :=
  s.sched.cells.filter (fun p => p.2.valid && p.2.kind = 0 && !p.2.shared && p.2.peer = h &&
    bandOf p.2.bandSector = b && (if rx then p.2.rx else p.2.tx))

/-- Lowest-numbered slotframe that holds the link's dedicated receive cells (R83). -/
def linkSlotframe (s : State) (h b : Nat) : Nat :=
  (linkCells s h b true).foldl (fun n p => min n p.2.slotframe) 15

/-- Band-sector of the link's first dedicated receive cell, whose counters a link's maps count in (log entry 22). -/
def linkSector (s : State) (h b : Nat) : Nat :=
  match linkCells s h b true with
  | (_, c) :: _ => c.bandSector
  | [] => (bandSectors b).headD 9

/-- A link holds maps (R89, BL_LINKS_USED). -/
def BlLink.holdsMap (r : BlLink) : Bool :=
  r.cur.isSome || r.next.isSome || r.userCur.isSome || r.userPending.isSome

/-- Links holding maps. -/
def blLinksUsed (s : State) : Nat := (s.modem.links.filter (fun p => p.2.holdsMap)).length

/-- A link may hold maps: it holds some already, or fewer than 2,048 do (R89). -/
def blRoom (s : State) (h b : Nat) : Bool := (blLink s h b).holdsMap || blLinksUsed s < 2048

/-- Record once that a link found the map table full (R89). -/
def blFull (s : State) (h b : Nat) : State :=
  if s.modem.fullReported.contains (blKey h b) then s
  else record { s with modem := { s.modem with fullReported := blKey h b :: s.modem.fullReported } } 0x2003 h b 0

/-- The peer transmits OFDM-BL under received maps (BL_TX, Table 3-8) and the chip allows it (R77). -/
def authorQualifies (s : State) (h b : Nat) : Bool :=
  objB s 0x3030 0 && (linkCells s h b true).any (fun p => listenCode p.2.mode = 0x40) &&
    (match nodeOf s h with | some n => n.blCap && bitOf n.cap 6 | none => false)

/-- The peer receives OFDM-BL (BL_RX, Table 3-8) and the chip allows it (R77). -/
def userQualifies (s : State) (h : Nat) : Bool :=
  objB s 0x3030 0 && (match nodeOf s h with | some n => n.blCap && bitOf n.cap 7 | none => false)

/- The estimate (R80). -/

/-- One sub-carrier's update, x in 0.25 dB (R80). -/
def estStep (w : Nat) (e : Rat × Rat) (x : Rat) : Rat × Rat :=
  (e.1 + (x - e.1) / w, e.2 + ((x - e.1) * (x - e.1) - e.2) / w)

/-- Enter a trailer: octet d is 0.25 dB offset by 16 dB (R79); a new estimate starts at its first trailer's values with
no variance (log entry 23). -/
def enterTrailer (w : Nat) (r : BlLink) (trailer : Octets) : BlLink :=
  let xs := trailer.map (fun o => ((o.toNat : Rat) - 64))
  { r with
    est := if r.est.isEmpty then xs.map (fun x => (x, 0)) else List.zipWith (estStep w) r.est xs
    trailers := r.trailers + 1 }

/-- Delete a link's maps of the receive direction and reset its estimate. -/
def BlLink.resetAuthor (r : BlLink) (a : AuthorState) : BlLink :=
  { r with author := a, est := [], trailers := 0, cur := none, next := none, acked := false, sends := 0, sendMap := false }

/-- The next map becomes current; a withdrawal deletes both and resets the estimate (Table 3-9). -/
def BlLink.activate (r : BlLink) : BlLink :=
  match r.next with
  | some n =>
    if n.withdrawal then r.resetAuthor .estimate
    else { r with author := .current, cur := some n, next := none, acked := false, sends := 0, sendMap := false }
  | none => r

/-- Delete the next map (Table 3-9). -/
def BlLink.dropNext (r : BlLink) : BlLink :=
  { r with
    author := if r.cur.isSome then .current else .estimate, next := none, acked := false, sends := 0, sendMap := false }

/-- A frame's trailer enters the link's estimate, and a frame under the next map makes it current (R80, R86). -/
def receiveTrailer (s : State) (h b mode : Nat) (trailer : Octets) : State :=
  if authorQualifies s h b then
    let s := updBl s h b (fun r => if r.author = .none then { r with author := .estimate } else r)
    let s := if trailer.length = 96 then updBl s h b (fun r => enterTrailer (objN s 0x3035 0) r trailer) else s
    if familyOf mode = .bl && ((blLink s h b).next.map (·.mapId)) = some (mode % 16) then
      updBl s h b BlLink.activate
    else s
  else s

/- Comparisons with square roots. -/

/-- c < sqrt p - sqrt q for p, q ≥ 0. -/
def belowRoots (c p q : Rat) : Bool :=
  if 0 ≤ c then
    let r := p - q - c * c
    0 < r && 4 * (c * c) * q < r * r
  else
    let l := q - p - c * c
    l < 0 || l * l < 4 * (c * c) * p

/-- m - sqrt v ≥ t (R80). -/
def estAtLeast (e : Rat × Rat) (t : Rat) : Bool := t ≤ e.1 && e.2 ≤ (e.1 - t) * (e.1 - t)

/-- m - sqrt v less t is below that of another sub-carrier. -/
def marginBelow (e f : Rat × Rat) (t u : Rat) : Bool := belowRoots ((e.1 - t) - (f.1 - u)) e.2 f.2

/-- Insert into a list kept in rising order of SNR_est. -/
def estInsert (e : Rat × Rat) : List (Rat × Rat) → List (Rat × Rat)
  | [] => [e]
  | f :: l => if marginBelow e f 0 0 then e :: f :: l else f :: estInsert e l

/-- Rising order of SNR_est. -/
def estSort (l : List (Rat × Rat)) : List (Rat × Rat) := l.foldl (fun a e => estInsert e a) []

/-- The median of an even list, the mean of its middle two, is at least t: (m1 + m2) - 2t ≥ sqrt v1 + sqrt v2. -/
def medianAtLeast (l : List (Rat × Rat)) (t : Rat) : Bool :=
  let o := estSort l
  let e := listGet o (l.length / 2 - 1) (0, 0)
  let f := listGet o (l.length / 2) (0, 0)
  let k := e.1 + f.1 - 2 * t
  let r := k * k - e.2 - f.2
  0 ≤ k && 0 ≤ r && 4 * (e.2 * f.2) ≤ r * r

/- The loading rule (R81 to R83). -/

/-- T(r, b) in 0.25 dB (R81). -/
def blThreshold (s : State) (r v : Nat) : Rat :=
  let i := match v with | 1 => 0 | 2 => 1 | 4 => 2 | _ => 3
  ((toSigned 16 (objField s 0x3033 0 (2 * (4 * r + i)) 2) : Int) : Rat)

/-- BL_MARGIN and BL_HYST in 0.25 dB. -/
def blMargin (s : State) : Rat := ((objN s 0x3031 0 : Nat) : Rat)
def blHyst (s : State) : Rat := ((objN s 0x3032 0 : Nat) : Rat)

/-- Highest loading of a MAX_BITS code (Table 3-8). -/
def maxBits : Nat → Nat
  | 0 => 1 | 1 => 2 | 2 => 4 | _ => 6

/-- Highest level the author may load (R82). -/
def levelLimit (s : State) (h : Nat) : Nat :=
  min (objN s 0x3037 0) (match nodeOf s h with | some n => maxBits (bitsOf n.cap 5 4) | none => 1)

/-- Loading of one sub-carrier (R82). -/
def loadOne (s : State) (r limit : Nat) (curLoad : Option Nat) (e : Rat × Rat) : Nat :=
  let levels := [1, 2, 4, 6].filter (· ≤ limit)
  let b := levels.foldl (fun b v => if estAtLeast e (blThreshold s r v + blMargin s) then v else b) 0
  match curLoad with
  | some c =>
    if c < b then
      (levels.filter (fun v => c < v && v ≤ b)).foldl
        (fun h v => if estAtLeast e (blThreshold s r v + blMargin s + blHyst s) then v else h) c
    else b
  | none => b

/-- Next lower level (R82). -/
def nextLower : Nat → Nat
  | 6 => 4 | 4 => 2 | 2 => 1 | _ => 0

/-- The loaded sub-carrier of smallest margin, the lowest d on a tie (R82). -/
def leastMargin (s : State) (r : Nat) (est : List (Rat × Rat)) (load : List Nat) : Option Nat :=
  let t := fun d => blThreshold s r (listGet load d 0) + blMargin s
  (List.range load.length).foldl (fun (best : Option Nat) d =>
    if listGet load d 0 = 0 then best
    else match best with
      | none => some d
      | some k => if marginBelow (listGet est d (0, 0)) (listGet est k (0, 0)) (t d) (t k) then some d else some k) none

/-- Trim the sum to a multiple (R82). -/
def trimLoad (s : State) (r : Nat) (est : List (Rat × Rat)) : Nat → List Nat → List Nat
  | 0, load => load
  | n + 1, load =>
    if codedBits load % (if r = 0 then 2 else 4) = 0 then load
    else match leastMargin s r est load with
      | some d => trimLoad s r est n (listSet load d (nextLower (listGet load d 0)))
      | none => load

/-- Candidate loading for a rate (R82). -/
def candidateLoad (s : State) (h r : Nat) (l : BlLink) : List Nat :=
  let curLoad := match l.cur with | some m => if m.rate = r then some m.load else none | none => none
  let load := l.est.zipIdx.map (fun p =>
    loadOne s r (levelLimit s h) (curLoad.map (fun c => listGet c p.2 0)) p.1)
  trimLoad s r l.est 600 load

/-- The candidate kept: rate and loading of the larger D, rate 1/2 on a tie (R83). -/
def candidate (s : State) (h : Nat) (l : BlLink) : Nat × List Nat :=
  let rates := objN s 0x3038 0
  let half := candidateLoad s h 0 l
  let three := candidateLoad s h 1 l
  if bitOf rates 0 && (!bitOf rates 1 || dataBits 1 three ≤ dataBits 0 half) then (0, half) else (1, three)

/-- FALLBACK_MCS: the highest MCS whose threshold the median less BL_MARGIN reaches, or 0 (R83). -/
def fallbackMcs (s : State) (l : BlLink) : Nat :=
  ([1, 2, 3].filter (fun i =>
    medianAtLeast l.est (((toSigned 16 (objField s 0x3034 0 (2 * i) 2) : Int) : Rat) + blMargin s))).foldl max 0

/-- Data bits per symbol of an option 1 MCS (Table 3-5). -/
def mcsBits (i : Nat) : Nat := ofdmBits (0x40 + i)

/-- MAP_ID of the next map (Table 3-9). -/
def nextMapId (l : BlLink) : Nat := match l.cur with | some m => (m.mapId + 1) % 16 | none => 0

/-- Offer a map: it waits for the next frame to the peer (Table 3-9). -/
def offerMap (s : State) (h b : Nat) (m : BlMap) : State :=
  if blRoom s h b then
    let s := updBl s h b (fun r =>
      { r with author := .offered, next := some m, acked := false, sends := 0, sendMap := true })
    record (countModem s (linkSector s h b) 4) 0x2000 h m.head (codedBits m.load)
  else blFull s h b

/-- The current map no longer fits some sub-carrier (R83, point 4). -/
def mapStale (s : State) (l : BlLink) (m : BlMap) : Bool :=
  (List.range 96).any (fun d =>
    listGet m.load d 0 != 0 &&
      !estAtLeast (listGet l.est d (0, 0)) (blThreshold s m.rate (listGet m.load d 0) + blMargin s))

/-- Decide what a recompute does (R83). -/
def recompute (s : State) (h b : Nat) : State :=
  let l := blLink s h b
  if (l.author = .estimate || l.author = .current) && objN s 0x3036 0 ≤ l.trailers && l.next.isNone then
    let (rate, load) := candidate s h l
    let fb := fallbackMcs s l
    let m : BlMap := { mapId := nextMapId l, rate := rate, fallback := fb, activate := 0, load := load }
    if dataBits rate load < mcsBits fb then
      match l.cur with
      | some _ => offerMap s h b { m with load := List.replicate 96 0 }
      | none => s
    else match l.cur with
      | none => offerMap s h b m
      | some c => if mapStale s l c || 17 * c.d ≤ 16 * m.d then offerMap s h b m else s
  else s

/-- The activation interval in slots (R86). -/
def activationInterval (s : State) (h b : Nat) : Nat :=
  let v := objN s 0x3039 0
  if v = 0 then 2 * (slotframe s (linkSlotframe s h b)).2.2 else v

/-- Delete a link's maps and estimate (Table 3-9, last row). -/
def dropLink (s : State) (h b : Nat) : State :=
  { s with modem := { s.modem with links := FMap.del s.modem.links (blKey h b) } }

/-- Delete the maps of a node on every band, as at its departure (Table 3-9, R168). -/
def dropLinks (s : State) (h : Nat) : State := dropLink (dropLink (dropLink s h 0) h 1) h 2

/- The user side (R87). -/

/-- A Map IE's content as a map, with its CODED_BITS, if its codes are not reserved (Table 3-6). -/
def parseMap (content : Octets) : Option (BlMap × Nat) :=
  let codes := loadingCodes (sliceOf content 9 36)
  let b1 := fieldOf content 1 1
  if content.length = 45 && fieldOf content 0 1 = 1 && bitsOf b1 3 2 < 2 && codes.all (· < 5) then
    some ({ mapId := b1 / 16, rate := bitsOf b1 3 2, fallback := b1 % 4, activate := fieldOf content 2 5
            load := codes.map (fun c => (loadBits c).getD 0) }, fieldOf content 7 2)
  else none

/-- REASON of a refused Map IE, 0 when it is accepted (Table 3-7); checks in the order of the codes. -/
def mapReason (s : State) (h b : Nat) (m : BlMap) (bits : Nat) : Nat :=
  if codedBits m.load ≠ bits ∨ bits % (if m.rate = 0 then 2 else 4) ≠ 0 then 1
  else if m.load.any (objN s 0x3037 0 < ·) ∨ !bitOf (objN s 0x3038 0) m.rate then 2
  else if m.activate ≤ asnNow s b then 3
  else if !userQualifies s h then 4
  else if ((blLink s h b).userCur.map (·.mapId)) = some m.mapId then 6
  else if !blRoom s h b then 4
  else 0

/-- Owe a Map Ack: in the acknowledgement of the frame that carried the Map IE, or in the next frame (R87). -/
def oweMapAck (s : State) (h b octet : Nat) (ackRequested : Bool) : State :=
  if ackRequested && s.link.acksDue.any (fun a => a.handle = h && bandOf a.bandSector = b) then
    { s with link := { s.link with acksDue := s.link.acksDue.map (fun a =>
      if a.handle = h && bandOf a.bandSector = b then { a with mapAck := some octet } else a) } }
  else updBl s h b (fun r => { r with sendAck := some octet })

/-- A dedicated transmit cell at or after a pending map's ACTIVATE_ASN: it becomes current, or withdraws (Table 3-10). -/
def userActivate (s : State) (h b asn : Nat) : State :=
  match (blLink s h b).userPending with
  | some m =>
    if m.activate ≤ asn then
      updBl s h b (fun r =>
        if m.withdrawal then { r with userCur := none, userPending := none, unacked := 0 }
        else { r with userCur := some m, userPending := none, unacked := 0 })
    else s
  | none => s

/-- An OFDM-BL frame went unacknowledged: the third in a row deletes the maps and falls back (R87). -/
def blUnacked (s : State) (h b bs : Nat) : State :=
  let r := blLink s h b
  match r.userCur with
  | some m =>
    if r.unacked < 2 then updBl s h b (fun r => { r with unacked := r.unacked + 1 })
    else
      let s := updBl s h b (fun r =>
        { r with userCur := none, userPending := none, unacked := 0, sendAck := some (m.mapId * 16 + 5) })
      record (countModem s bs 6) 0x2002 h 3 m.fallback
  | none => s

/-- The mode of the frames toward a node in a dedicated cell of option 1, or elsewhere (R77, R87): under a current map
its OFDM-BL code, after a withdrawal FALLBACK_MCS of the last map received, otherwise the node's or the cell's mode. -/
def linkMode (s : State) (h b : Nat) (dedicated : Bool) (mode : Nat) : Nat :=
  if dedicated && mode / 16 = 4 && userQualifies s h then
    match (blLink s h b).userCur, (blLink s h b).userFallback with
    | some m, _ => 0x80 + m.mapId
    | none, some f => 0x40 + f
    | none, none => mode
  else mode

/-- D of the current map of the transmit direction. -/
def linkBits (s : State) (h b : Nat) : Nat := match (blLink s h b).userCur with | some m => m.d | none => 1

end Sys2Proof.Machine
end

