-- ==== Sys2Proof/Machine/KeyStore.lean ====
section
/-! DEFINITION. The key partition, the slots in force and the derivation tree (R255 to R263, R272, R273). -/

namespace Sys2Proof.Machine

/-- Commit word of a slot, 8 octets (Table 10-2). -/
def commitWord (s : State) (slot : Nat) : Nat := beNat (s.keys.partition.readAll (0x100 + 8 * slot) 8)

/-- Half `h` of a slot, 64 octets (Table 10-2). -/
def slotHalf (s : State) (slot h : Nat) : Octets := s.keys.partition.readAll (0x1000 + 128 * slot + 64 * h) 64

/-- The commit word names the slot (R258). -/
def wordValid (s : State) (slot : Nat) : Bool := bitsOf (commitWord s slot) 63 58 = slot

/-- Committed COUNTER of a slot; 0 where the word does not name the slot (R258). -/
def slotCounter (s : State) (slot : Nat) : Nat := if wordValid s slot then bitsOf (commitWord s slot) 31 0 else 0

/-- HALF of a slot's commit word. -/
def halfInForce (s : State) (slot : Nat) : Nat := if wordValid s slot then bitsOf (commitWord s slot) 57 57 else 1

/-- The slot is empty (R258). -/
def slotEmpty (s : State) (slot : Nat) : Bool := !wordValid s slot || bitOf (commitWord s slot) 56

/-- The key of a half whose checks pass: SLOT and COUNTER equal the commit word's, TAG verifies, VALUE unwraps
(R258). -/
def halfValue (s : State) (slot : Nat) : Option Octets :=
  match s.keys.kek with
  | none => none
  | some kek =>
    let h := slotHalf s slot (halfInForce s slot)
    if bitsOf (fieldOf h 0 1) 7 2 = slot ∧ fieldOf h 4 4 = slotCounter s slot ∧
        cmac (Config.integrityOf kek) (h.take 48) = h.drop 48 then
      keyUnwrap kek (sliceOf h 8 (if bitOf (fieldOf h 1 1) 7 then 40 else 24))
    else none

/-- Value of a slot in force; slot 0 is the PROV key KM derived at BOOT (R258, R273). -/
def slotValue (s : State) (slot : Nat) : Option Octets :=
  if slot = 0 then s.keys.prov else if slotEmpty s slot then none else halfValue s slot

/-- Use attribute of a slot in force (Table 10-4): slot 0 is wrap-only. -/
def slotUse (s : State) (slot : Nat) : Nat :=
  if slot = 0 then 2 else fieldOf (slotHalf s slot (halfInForce s slot)) 0 1 % 4

/-- State of a slot in KEY_SLOT_INFO: 0 empty, 1 valid, 2 pending, 3 failed (R258, R280). -/
def slotState (s : State) (slot : Nat) : Nat :=
  if s.keys.pending.has slot then 2
  else if s.keys.failed.contains slot then 3
  else if (slotValue s slot).isSome then 1
  else 0

/-- The key partition counts as empty while slot 1 holds no usable key (R22). -/
def partitionEmpty (s : State) : Bool := (slotValue s 1).isNone

/-- Fixed input of op 10: LABEL, 0x00, CONTEXT, L (R261). -/
def fixedInput (label : Octets) (context bits : Nat) : Octets := label ++ [byte 0, byte context] ++ beOctets 2 bits

/-- MESH_EUI of the chip: PAIR_EUI in a pair, its DEVICE_EUI otherwise (R299, Table 6-14). -/
def meshEui (s : State) : Octets := if pairIndex s = 0xFFFF then Config.deviceEui else sliceOf (obj s 0x9001 0) 0 8

/-- Chip key of the chip with a MESH_EUI (Table 10-5). -/
def chipKey (s : State) (eui : Octets) : Option Octets :=
  (slotValue s 1).map (fun k => kdf k (fixedInput eui 1 256) 256)

/-- LABEL of a purpose code: 1 net, 2 lnk, 3 upd, 4 ctl, 5 set, 6 mac (Tables 10-5 and 10-6). -/
def purposeLabel (code : Nat) : Octets :=
  octetsOf (match code with
    | 1 => [0x6E, 0x65, 0x74] | 2 => [0x6C, 0x6E, 0x6B] | 3 => [0x75, 0x70, 0x64]
    | 4 => [0x63, 0x74, 0x6C] | 5 => [0x73, 0x65, 0x74] | _ => [0x6D, 0x61, 0x63])

/-- L of a purpose key. -/
def purposeBits (code : Nat) : Nat := if code = 1 then 128 else 256

/-- Purpose key of a chip (Table 10-5). -/
def purposeKey (s : State) (eui : Octets) (code : Nat) : Option Octets :=
  (chipKey s eui).map (fun k => kdf k (fixedInput (purposeLabel code) 2 (purposeBits code)) (purposeBits code))

/-- Node base key (Table 10-5). -/
def nodeBase (s : State) (home node : Octets) : Option Octets :=
  (purposeKey s home 2).map (fun k => kdf k (fixedInput node 3 256) 256)

/-- Whether a node's EUI-64 matches an entry of SINGLE_KEY_PREFIX (R262). -/
def singleKey (s : State) (eui : Octets) : Bool :=
  let l := obj s 0x7104 0
  (List.range (l.length / 9)).any (fun i =>
    let plen := fieldOf l (9 * i + 8) 1
    fieldOf l (9 * i) 8 / 2 ^ (64 - plen) = beNat eui / 2 ^ (64 - plen))

/-- Node direction key: "up", or "dn", which is "up" for a single-key node (R262, Table 10-5). -/
def nodeKey (s : State) (home node : Octets) (down : Bool) : Option Octets :=
  let label := octetsOf (if down && !singleKey s node then [0x64, 0x6E] else [0x75, 0x70])
  (nodeBase s home node).map (fun k => kdf k (fixedInput label 4 128) 128)

/-- Child of "upd": 1 "nim", 2 "app" (Table 12-15). -/
def updChild (s : State) (eui : Octets) (code : Nat) : Option Octets :=
  let label := octetsOf (if code = 1 then [0x6E, 0x69, 0x6D] else [0x61, 0x70, 0x70])
  (purposeKey s eui 3).map (fun k => kdf k (fixedInput label 5 256) 256)

/-- Configuration integrity key (R324). -/
def configKey : Octets := kdf Config.deviceKey (fixedInput (octetsOf [0x63, 0x66, 0x67]) 0 128) 128

/-- Slot 0 as KM derives it at BOOT; empty once PROV_GEN is 32 (R273). -/
def provKey (s : State) : Option Octets :=
  if 32 ≤ s.keys.provGen then none
  else some (kdf Config.deviceKey (fixedInput (octetsOf [0x70, 0x72, 0x6F, 0x76]) s.keys.provGen 256) 256)

/-- KEK seed: the copy SEED_MODE names, or the other where that one is zero (R259). -/
def seedNow (s : State) : Octets :=
  let mram := s.keys.partition.readAll 0 32
  let aon := padTo 32 s.keys.aonSeed
  if objN s 0x7103 0 = 1 then (if beNat aon = 0 then mram else aon) else (if beNat mram = 0 then aon else mram)

end Sys2Proof.Machine
end

