-- ==== Sys2Proof/Machine/Service.lean ====
section
/-! DEFINITION. The schedule check (R134), Cell Updates (R169), and band-sectors in and out of service with the migration
and restoring of their cells (R141 to R143). -/

namespace Sys2Proof.Machine

/- The schedule check (R134). -/

/-- A cell stands in an enabled slotframe. -/
def cellEnabled (s : State) (c : Cell) : Bool := c.valid && (slotframe s c.slotframe).1

/-- Cells that a band's schedule check looks at, with their indices: those of its enabled slotframes and band-sectors. -/
def bandCells (s : State) (b : Nat) : List (Nat × Cell) :=
  s.sched.cells.filter (fun p =>
    cellEnabled s p.2 && (bandOf p.2.bandSector = b || (slotframe s p.2.slotframe).2.1 = b))

/-- Type rules of R138. -/
def typeOk (c : Cell) : Bool :=
  match c.kind with
  | 0 => true
  | 1 => c.tx && c.shared
  | 2 => c.tx && c.peer != 0xFFFFFFFF
  | 3 => c.tx && c.rx && !c.shared
  | 4 => c.tx && !c.rx && c.peer = 0xFFFFFFFF
  | _ => false

/-- Fields in range and a mode valid and permitted for the band (Table 5-5, R66, R109, R132). -/
def cellFieldsOk (s : State) (c : Cell) : Bool :=
  let b := bandOf c.bandSector
  let (_, fb, len) := slotframe s c.slotframe
  1 ≤ c.bandSector && c.bandSector ≤ 9 && fb = b && c.slotOffset < len && typeOk c &&
    (if c.tx then modeValid b c.mode else listenValid b c.mode) && modePermitted s b c.mode &&
    (c.peer = 0xFFFFFFFF || handleOk c.peer)

/-- Number of distinct members of a list. -/
def distinct : List Nat → Nat
  | [] => 0
  | x :: l => (if l.contains x then 0 else 1) + distinct l

/-- Every channel of the cell's sequence is usable for its mode, and a hopping-class one has MIN_HOP of them. -/
def cellChannelsOk (s : State) (c : Cell) : Bool :=
  let b := bandOf c.bandSector
  let l := hopSequence s b c.hopSeq
  let block := blockOf s b
  !l.isEmpty && l.all (fun k => channelUsable block (binCount s b) c.mode k) &&
    (!hoppingClass block c.mode || fieldOf block 62 1 ≤ distinct l)

/-- Two cells are active together in some slot: their offsets agree modulo the common divisor of their lengths. -/
def sharesSlot (s : State) (c d : Cell) : Bool :=
  let g := Nat.gcd (slotframe s c.slotframe).2.2 (slotframe s d.slotframe).2.2
  c.slotOffset % max 1 g = d.slotOffset % max 1 g

/-- SECTOR_ISOLATION of two band-sectors of a band, dB (R59). -/
def isolation (s : State) (x y : Nat) : Nat := objField s 0x2150 (bandOf x) (4 * sectorOf x + sectorOf y) 1

/-- A TX-capable cell shares a slot with another cell of its band-sector that has RX set. -/
def conflictOwn (s : State) (l : List (Nat × Cell)) : Bool :=
  l.any (fun p => p.2.tx && l.any (fun q =>
    p.1 != q.1 && q.2.rx && p.2.bandSector = q.2.bandSector && sharesSlot s p.2 q.2))

/-- An RX cell shares a slot with a TX-capable cell of another sector isolated by less than 60 dB (R58). -/
def conflictCross (s : State) (l : List (Nat × Cell)) : Bool :=
  l.any (fun p => p.2.rx && l.any (fun q =>
    q.2.tx && p.2.bandSector != q.2.bandSector && bandOf p.2.bandSector = bandOf q.2.bandSector &&
      isolation s p.2.bandSector q.2.bandSector < 60 && sharesSlot s p.2 q.2))

/-- Least common multiple of the enabled slotframe lengths of a band. -/
def hyperperiod (s : State) (b : Nat) : Nat :=
  (List.range 16).foldl (fun n h =>
    let (on, fb, len) := slotframe s h
    if on && fb = b then Nat.lcm n (max 1 len) else n) 1

/-- More cells of one band-sector are active in some slot than its limit allows. -/
def crowded (s : State) (b : Nat) (l : List (Nat × Cell)) : Bool :=
  let limit := if b = 0 then 256 else 480
  (bandSectors b).any (fun bs =>
    let own := l.filter (fun p => p.2.bandSector = bs)
    limit < own.length && (List.range (min 1048576 (hyperperiod s b))).any (fun a =>
      limit < (own.filter (fun p => a % max 1 (slotframe s p.2.slotframe).2.2 = p.2.slotOffset)).length))

/-- Status of a band's whole schedule, 0 where it stands (R134, Table 5-6). -/
def bandStatus (s : State) (b : Nat) : Nat :=
  let all := bandCells s b
  let l := all.filter (fun p => !p.2.suspended)
  firstOf [
    require (all.all (fun p => cellFieldsOk s p.2)) 2,
    require (all.all (fun p => cellChannelsOk s p.2)) 3,
    require (!conflictOwn s l) 5,
    require (!conflictCross s l) 4,
    require (!crowded s b l) 6,
    require (hyperperiod s b ≤ 1048576) 8]

/-- Status of written cells: a slotframe enabled for each valid one, then their bands (R134). -/
def cellsStatus (s : State) (l : List Cell) : Nat :=
  let valid := l.filter (·.valid)
  firstOf (require (valid.all (fun c => 1 ≤ c.bandSector && c.bandSector ≤ 9)) 2 ::
    require (valid.all (cellEnabled s)) 7 :: [0, 1, 2].map (bandStatus s))

/- Cell Updates (R169). -/

/-- A cell's descriptor as its node sees it (Table 6-10). -/
def cellDescriptor (s : State) (c : Cell) (delete : Bool) : Octets :=
  [byte (bitNat delete * 128 + bitNat c.rx * 64 + bitNat c.tx * 32 + bitNat c.shared * 16 + c.slotframe)] ++
  beOctets 2 (slotframe s c.slotframe).2.2 ++ beOctets 2 c.slotOffset ++ beOctets 2 c.channelOffset ++
  [byte (c.hopSeq * 16 + c.kind * 2), byte c.mode, byte 0]

/-- Hopping Sequence contents for a sequence of a band, at most 255 entries each (Table 6-10). -/
def hoppingContents (s : State) (b q : Nat) : List Octets :=
  let l := hopSequence s b q
  let part := fun start (m : List Nat) =>
    [byte 0x25, byte (q * 16)] ++ beOctets 2 l.length ++ [byte start, byte m.length] ++ (m.map (beOctets 2)).flatten
  if l.length ≤ 255 then [part 0 l] else [part 0 (l.take 255), part 255 (l.drop 255)]

/-- Owe a JOINED node the Cell Update of one descriptor, and the sequence it has not been given first (R169). -/
def oweCell (s : State) (c : Cell) (delete : Bool) : State :=
  match nodeOf s c.peer with
  | some n =>
    if n.state = .joined then
      let key := 16 * bandOf c.bandSector + c.hopSeq
      let new := !delete && !n.sequences.contains key
      let first := if new then hoppingContents s (bandOf c.bandSector) c.hopSeq else []
      updNode s (localIndex c.peer) (fun n =>
        { n with
          updates := n.updates ++ first ++ [[byte 0x24, byte 16] ++ cellDescriptor s c delete]
          sequences := if new then key :: n.sequences else n.sequences })
    else s
  | none => s

/-- Two cells are one cell for their node. -/
def sameCell (c d : Cell) : Bool :=
  c.peer = d.peer && c.slotframe = d.slotframe && c.slotOffset = d.slotOffset && c.channelOffset = d.channelOffset

/-- A host write changes a cell from `old` to `new` (R169). -/
def oweChange (s : State) (old new : Cell) : State :=
  let s := if old.valid && (!new.valid || !sameCell old new) then oweCell s old true else s
  if new.valid then oweCell s new false else s

/- Service (R141 to R143). -/

/-- The H sector is off under the effective profile: Economy with ECONOMY_H 0, or sectors 1 and 3 with 1 (Table 1-14). -/
def profileOff (s : State) (bs : Nat) : Bool :=
  bandOf bs = 2 && bs ≤ 8 && profileOf s bs = 3 && (objN s 0xC103 0 = 0 || sectorOf bs % 2 = 1)

/-- Both ports of a band-sector are DISABLED (R102). -/
def portsGone (s : State) (bs : Nat) : Bool :=
  (FMap.getD s.front.ports bs {}).state = .disabled && (FMap.getD s.front.ports (bs + 16) {}).state = .disabled

/-- A band-sector's sequencer is halted: SQ0 to SQ8 are harts 4 to 12 (Table 15-12). -/
def debugHalts (s : State) (bs : Nat) : Bool := s.dbg.halted.toNat.testBit (bs + 3)

/-- The service state a band-sector should be in: 0 in service, 1 out for transmission, 2 out fully (R141, R426). -/
def serviceWanted (s : State) (bs : Nat) : Nat :=
  if objN s 0x4140 bs = 1 || profileOff s bs || debugHalts s bs then 2
  else if s.modem.suspended.contains bs || portsGone s bs then 1
  else 0

/-- SERVICE_STATE in force. -/
def serviceState (s : State) (bs : Nat) : Nat := FMap.getD s.sched.service bs 0

/-- A service state affects a cell (R141). -/
def affects (state : Nat) (c : Cell) : Bool := state = 2 || (state = 1 && c.tx)

/-- Migrate one affected cell: the first target of MIGRATE_MAP that passes R134, else SUSPENDED (R142). -/
def migrateCell (s : State) (i : Nat) : State :=
  let c := cellAt s i
  let targets := (listUpToZero (obj s 0x4142 c.home)).filter (fun t => !affects (serviceState s t) c)
  let moved := fun t : Nat => { c with bandSector := t, migrated := true, suspended := false }
  match targets.find? (fun t => bandStatus (setCell s i (moved t)) (bandOf t) = 0) with
  | some t => setCell s i (moved t)
  | none => setCell s i { c with suspended := true }

/-- Cells that stand on a band-sector and are affected by its service state, in index order. -/
def affectedCells (s : State) (bs : Nat) : List Nat :=
  (s.sched.cells.filter (fun p =>
    p.2.valid && p.2.bandSector = bs && !p.2.suspended && affects (serviceState s bs) p.2)).map (·.1)

/-- The role goes to the twin instead of a migration (R142): ACTIVE, a ready follower whose transmit chain passes. -/
def prefersTwin (s : State) (bs : Nat) : Bool :=
  objB s 0x4143 0 && s.power.dev = .active && hasPartner s && !s.twin.absent && s.twin.ready &&
    s.twin.partnerLoopback.testBit (if bs = 9 then 0 else bs)

/-- Migrate the affected cells of a band-sector, or begin the scheduled swap (R142). -/
def migrate (s : State) (bs : Nat) : State :=
  if prefersTwin s bs then
    record { s with twin := { s.twin with swapSince := some (s.twin.swapSince.getD s.now) } } 0x3022 bs 0 0
  else
    let l := affectedCells s bs
    let s := l.foldl migrateCell s
    let held := (l.filter (fun i => (cellAt s i).suspended)).length
    record s 0x3021 bs (l.length - held) held

/-- Restore the cells whose home a band-sector is (R143). -/
def restoreCells (s : State) (bs : Nat) : State :=
  { s with sched := { s.sched with cells := s.sched.cells.mapVals (fun _ c =>
      if c.valid && c.home = bs && (c.migrated || c.suspended) && !affects (serviceState s bs) c then
        { c with bandSector := bs, migrated := false, suspended := false }
      else c) } }

/-- DEGRADED bit 0: some band-sector is out of service for a reason other than the profile (R141). -/
def serviceCause (s : State) : State :=
  setCause s 0 (allBandSectors.any (fun bs =>
    objN s 0x4140 bs = 1 || debugHalts s bs || s.modem.suspended.contains bs || portsGone s bs))

/-- Bring a band-sector's service state to what it should be, with its migration or restoring (R141 to R143). -/
def refreshService (s : State) (bs : Nat) : State :=
  let old := serviceState s bs
  let new := serviceWanted s bs
  let s := serviceCause s
  if old = new then s
  else
    let s := { s with sched := { s.sched with service := FMap.putD s.sched.service bs new 0 } }
    let s := record s 0x3020 bs old new
    let s := restoreCells s bs
    if (affectedCells s bs).isEmpty then s else migrate s bs

end Sys2Proof.Machine
end

