-- ==== Sys2Proof/Machine/Queue.lean ====
section
/-! DEFINITION. Queues and shapers: what admission, the queue latch and wired egress share (R176 to R199). -/

namespace Sys2Proof.Machine

/- Packets and queues (R179 to R181). -/

/-- Node queue of a local index. -/
def nodeQueue (s : State) (i : Nat) : List Nat := FMap.getD s.queues.nodeQ i []

/-- Class queue of a port. -/
def classQueue (s : State) (port cls : Nat) : List Nat := FMap.getD s.queues.classQ (8 * port + cls) []

/-- Port of Table 7-2 a packet counts under: its own, or that of the band-sector its node was last heard on. -/
def packetPort (s : State) (p : QPacket) : Nat :=
  if p.classQueue then p.target % 16 else ((nodeAt s p.target).map (fun n => n.heardBs - 1)).getD 0

/-- Raise a word of QUEUE_COUNTERS of a port (Table 7-12). -/
def countQ (s : State) (port word : Nat) : State := count s 0x5140 (port + 1) word

/-- Bits [51:20] of domain time (R185). -/
def expiryNow (s : State) : Nat := domainTime s / 2 ^ 20 % 2 ^ 32

/-- EXPIRY of a frame of a class whose lifetime starts now (Table 7-3). -/
def expiryFor (s : State) (cls : Nat) : Nat :=
  let ms := objN s 0x5010 (cls + 1)
  if ms = 0 then 0
  else
    let v := ceilDiv (domainTime s + ms * 1000000) (2 ^ 20) % 2 ^ 32
    if v = 0 then 1 else v

/-- A frame has expired (R185). -/
def expired (s : State) (p : QPacket) : Bool :=
  let d := (expiryNow s + 2 ^ 32 - p.expiry) % 2 ^ 32
  p.expiry != 0 && d != 0 && d < 2 ^ 31

/-- A new packet on its way into the queue manager (R180); the admission of its LAST word is a command of its own. -/
def newPacket (s : State) (p : QPacket) : State :=
  let k := s.queues.nextPacket
  { s with queues := { s.queues with
      packets := FMap.put s.queues.packets k { p with enqTime := domainTime s, linkedAt := s.now }
      nextPacket := k + 1 } }

/-- A packet with a fresh header: class, target and octets (Table 7-3). -/
def packetFor (s : State) (classQ : Bool) (target cls : Nat) (ackReq : Bool) (data : Octets) : QPacket :=
  { classQueue := classQ, target := target, cls := cls, ackReq := ackReq, cutThrough := false, mode := 0,
    length := data.length, source := 0xFFFFFFFF, enqTime := 0, linkedAt := 0, expiry := expiryFor s cls,
    buffer := none, poison := false, complete := true, ingress := 15, destMac := [], data := data }

/-- A packet is in a queue: a node, class or application queue. -/
def linked (s : State) (k : Nat) : Bool :=
  s.queues.nodeQ.any (fun p => p.2.contains k) || s.queues.classQ.any (fun p => p.2.contains k) ||
    s.threads.queues.any (fun p => p.2.contains k)

/-- Class of a queued packet. -/
def clsOf (s : State) (k : Nat) : Nat := ((packetOf s k).map (·.cls)).getD 7

/-- Head class of a node queue. -/
def headClass (s : State) (i : Nat) : Option Nat := (nodeQueue s i).head?.map (clsOf s)

/-- The active-list key a node belongs to, if its queue holds a frame (R186). -/
def activeKey (s : State) (i : Nat) : Option Nat :=
  (headClass s i).map (fun c => 8 * (((nodeAt s i).map (·.heardBs)).getD 0) + c)

/-- Keep the active lists after a node's head or band-sector may have changed (R186). -/
def updActive (s : State) (i : Nat) : State :=
  let want := activeKey s i
  let drop := s.queues.active.mapVals (fun k l => if want = some k then l else l.filter (· ≠ i))
  let s := { s with queues := { s.queues with active := drop.keep (fun _ l => !l.isEmpty) } }
  match want with
  | some k =>
    let l := FMap.getD s.queues.active k []
    if l.contains i then s
    else { s with queues := { s.queues with active := FMap.put s.queues.active k (l ++ [i]) } }
  | none => s

/-- Replace a node queue. -/
def setNodeQueue (s : State) (i : Nat) (l : List Nat) : State :=
  updActive { s with queues := { s.queues with nodeQ := FMap.putD s.queues.nodeQ i l [] } } i

/-- Replace a class queue. -/
def setClassQueue (s : State) (port cls : Nat) (l : List Nat) : State :=
  { s with queues := { s.queues with classQ := FMap.putD s.queues.classQ (8 * port + cls) l [] } }

/-- Insert after the last frame of the same or smaller class (R181). -/
def insertByClass (s : State) (k c : Nat) : List Nat → List Nat
  | [] => [k]
  | x :: l => if clsOf s x ≤ c then x :: insertByClass s k c l else k :: x :: l

/-- Take a packet out of its queue and free its buffer. -/
def removePacket (s : State) (k : Nat) : State :=
  match packetOf s k with
  | some p =>
    let s :=
      if p.classQueue then
        setClassQueue s (p.target % 16) p.cls ((classQueue s (p.target % 16) p.cls).filter (· ≠ k))
      else setNodeQueue s p.target ((nodeQueue s p.target).filter (· ≠ k))
    { s with queues := { s.queues with packets := FMap.del s.queues.packets k } }
  | none => s

/-- A packet received over the air from a node still waits for its admission (R159, R240). -/
def waitsAdmission (s : State) (h : Nat) : Bool :=
  s.queues.packets.any (fun p => p.2.source = h && p.2.ingress < 9 && !linked s p.1)

/-- A frame of a node is admitted: RX_FC takes its counter, LINK_COUNTERS word 0 (R159, Table 6-6). -/
def frameAdmitted (s : State) (i : Nat) : State :=
  match FMap.find s.link.fcPending i with
  | some c =>
    let s := { s with link := { s.link with fcPending := FMap.del s.link.fcPending i } }
    let s := updNode s i (fun n => { n with rxFc := c })
    count s 0x4240 (max 1 (((nodeAt s i).map (·.heardBs)).getD 0)) 0
  | none => s

/-- A verified frame no queue can refuse any more, since no packet of it waits, counts as admitted (log entry 27). -/
def settleFrame (s : State) (i : Nat) : State :=
  if waitsAdmission s (handleOf s i) then s else frameAdmitted s i

/-- Link a packet to its queue (R181, R182). -/
def linkPacket (s : State) (k : Nat) : State :=
  match packetOf s k with
  | some p =>
    let s := updPacket s k (fun q => { q with enqTime := domainTime s, linkedAt := s.now })
    let s := countQ s (packetPort s p) 0
    if p.classQueue then setClassQueue s (p.target % 16) p.cls (classQueue s (p.target % 16) p.cls ++ [k])
    else setNodeQueue s p.target (insertByClass s k p.cls (nodeQueue s p.target))
  | none => s

/- Buffers (R179, R183). -/

/-- A frame in a DRAM queue: a node queue or an air class queue. -/
def inDram (p : QPacket) : Bool := !p.classQueue || p.target % 16 < 9

/-- Bytes of the buffer a frame takes in the pool. -/
def bufferBytes (len : Nat) : Nat := if 32 + len ≤ 256 then 256 else 4096

/-- Packets that hold a buffer of the pool. -/
def pooled (s : State) : List (Nat × QPacket) := s.queues.packets.filter (fun p => p.2.buffer.isSome)

/-- Bytes of the pool a class uses. -/
def classUse (s : State) (c : Nat) : Nat :=
  sumOf (((pooled s).filter (fun p => p.2.cls = c)).map (fun p => bufferBytes p.2.length))

/-- Free buffers of a size. -/
def freeBuffers (s : State) (bytes : Nat) : Nat :=
  let used := ((pooled s).filter (fun p => bufferBytes p.2.length = bytes)).length
  (if bytes = 256 then 2097152 else 131072) - used

/-- POOL_RESERVE of a class in bytes. -/
def poolReserve (s : State) (c : Nat) : Nat := objN s 0x5020 (c + 1) * 1024

/-- The shared part: the pool less the sum of all reserves (R183). -/
def sharedPart (s : State) : Nat := 2 ^ 30 - sumOf ((List.range 8).map (poolReserve s))

/-- Unused parts of the other classes' reserves. -/
def othersUnused (s : State) (c : Nat) : Nat :=
  sumOf (((List.range 8).filter (· ≠ c)).map (fun d => poolReserve s d - classUse s d))

/-- R183: the pool grants a class a buffer for a frame of a length. -/
def poolGrants (s : State) (c len : Nat) : Bool :=
  let need := bufferBytes len
  let use := classUse s c
  0 < freeBuffers s need &&
    (use < poolReserve s c ||
      (othersUnused s c + need ≤ freeBuffers s 256 * 256 + freeBuffers s 4096 * 4096 &&
        (use + need - poolReserve s c) * 100 ≤ sharedPart s * objN s 0x5021 (c + 1)))

/-- A buffer index for a frame: the size bit, and a number the spec leaves open (R180, log entry 14). -/
def bufferIndex (s : State) (len : Nat) : Nat :=
  if bufferBytes len = 256 then freeNow s % 2097152 else 2 ^ 31 + freeNow s % 131072

/-- Blocks of the burst buffers a frame takes. -/
def burstBlocks (len : Nat) : Nat := ceilDiv (32 + len) 256

/-- Free blocks of the burst buffers, BURST_FREE. -/
def burstFree (s : State) : Nat :=
  8192 - sumOf ((s.queues.packets.filter (fun p => !inDram p.2 && linked s p.1)).map (fun p => burstBlocks p.2.length))

/-- Bytes in a class queue. -/
def queueBytes (s : State) (l : List Nat) : Nat := sumOf (l.map (fun k => ((packetOf s k).map (·.length)).getD 0))

/- Shapers in use (R193 to R196). -/

/-- The shaper a campaign frame's campaign names, 0xFFFF for none (R343, Table 12-16). -/
def campaignShaper (s : State) (p : QPacket) : Nat :=
  if p.target < 9 && p.cls = 5 && fieldOf p.data 0 1 = 0x3C then
    match s.fleet.campaigns.find? (fun c => c.2.state != .free && c.2.id = fieldOf p.data 1 1) with
    | some c => fieldOf c.2.cfg 6 2
    | none => 0xFFFF
  else 0xFFFF

/-- The shaper of a frame: its node queue's or its campaign's, else SHAPER_ASSIGN of its port and class (R193, R343, Table
7-4). -/
def shaperFor (s : State) (port : Nat) (p : QPacket) : Option Nat :=
  let own := if p.classQueue then campaignShaper s p else FMap.getD s.queues.nodeShaper p.target 0xFFFF
  let n := if own = 0xFFFF then objField s 0x5110 0 (16 * port + 2 * p.cls) 2 else own
  if n < 512 then some n else none

/-- us of domain time. -/
def timeUs (s : State) : Nat := domainTime s / 1000

/-- Consult a frame's shaper: its colour, and the state with the consultation made (R193). -/
def consult (s : State) (port : Nat) (p : QPacket) (lc : Nat) : Colour × State :=
  match shaperFor s port p with
  | some n =>
    let x := ((shaperOf s n).takeConfig).fill (timeUs s)
    let c := x.colour lc
    let x := match c with
      | .green => { x with green := (x.green + 1) % 2 ^ 32 }
      | .yellow => { x with yellow := (x.yellow + 1) % 2 ^ 32 }
      | .red => { x with red := (x.red + 1) % 2 ^ 32 }
    let s := updShaper s n (fun _ => x)
    (c, if c = .red then countQ s port 10 else s)
  | none => (.green, s)

/-- Charge the chosen frame (R187, R189). -/
def chargeFrame (s : State) (port : Nat) (p : QPacket) (lc : Nat) (c : Colour) : State :=
  match shaperFor s port p with
  | some n =>
    let s := updShaper s n (fun x => x.charge lc c)
    countQ s port (if c = .green then 8 else 9)
  | none => s

/-- Data rate of a mode in b/s, from Table 3-1. -/
def modeRate (mode : Nat) : Nat :=
  match familyOf mode with
  | .fsk => fskRate mode
  | .oqpsk => 250000
  | .ofdm => ofdmBits mode * 1000000 / 120
  | .bl => 800000

/-- Airtime of SHR and PHR with the default preamble, us (R194). -/
def headUs (mode : Nat) : Nat :=
  match familyOf mode with
  | .fsk => 12 * 8 * 1000000 / fskRate mode
  | .oqpsk => 192
  | .ofdm => 720 + 120 * ceilDiv 36 (ofdmBits (ofdmRange mode).1)
  | .bl => 1080

/-- FRAME_OVH and ACK_OVH of a mode: SHAPER_OVH's entry, else the defaults of R194. -/
def modeOverhead (s : State) (mode : Nat) : Nat × Nat :=
  let l := obj s 0x5111 0
  match (List.range (l.length / 6)).find? (fun i => fieldOf l (6 * i) 1 = mode) with
  | some i => (fieldOf l (6 * i + 2) 2, fieldOf l (6 * i + 4) 2)
  | none =>
    let m := if 0x80 ≤ mode then 0x43 else mode
    (ceilDiv (headUs m * modeRate m) 8000000, ceilDiv (airtimeUs m 8 false 1 18 * modeRate m) 8000000)

/-- Counted length of an air frame (R194). -/
def airLength (s : State) (p : QPacket) (mode : Nat) : Nat :=
  p.length + (modeOverhead s mode).1 + (if p.ackReq then (modeOverhead s mode).2 else 0)

/-- Drop every expired frame that heads a queue; word 6 and event 0x4010 (R185). -/
def dropExpired (s : State) : List Nat → State
  | [] => s
  | k :: l =>
    match packetOf s k with
    | some p =>
      if expired s p && !p.latched then
        let port := packetPort s p
        dropExpired (removePacket (record (countQ s port 6) 0x4010 port p.cls 0) k) l
      else s
    | none => s

/-- Drop the expired frames at the head of a node queue. -/
def freshNodeQueue (s : State) (i : Nat) : State := dropExpired s (nodeQueue s i)

/- Flushes (R191). -/

/-- Flush one queued packet: dropped and counted, or marked where it is latched; one on the wire stays. -/
def flushPacket (s : State) (k : Nat) : State :=
  match packetOf s k with
  | some p =>
    if p.started then s
    else if p.latched then updPacket s k (fun q => { q with flushed := true })
    else removePacket (countQ s (packetPort s p) 7) k
  | none => s

/-- Flush a list of packets. -/
def flushAll (s : State) (l : List Nat) : State := l.foldl flushPacket s

end Sys2Proof.Machine
end

