-- ==== Sys2Proof/Machine/Table.lean ====
section
/-! DEFINITION. The host table, its update port, the trie and the next-hop table (R212 to R226, R230). -/

namespace Sys2Proof.Machine

/-- Raise a word of FWD_COUNTERS (Table 8-11). -/
def countF (s : State) (word : Nat) : State := count s 0x6060 0 word

/-- TABLE_LOC of a stash entry (R230). -/
def stashLoc (n : Nat) : Nat := 2 ^ 31 + n

/-- The first candidate bucket of a key (R213). -/
def bucket1 (key : Octets) : Nat := crc32c key % 65536

/-- The second candidate bucket (R213). -/
def bucket2 (key : Octets) : Nat :=
  let b := crc32 key % 65536
  if b = bucket1 key then (if b < 0x8000 then b + 0x8000 else b - 0x8000) else b

/-- The candidate bucket other than the one that holds a key (R213). -/
def altBucket (key : Octets) (b : Nat) : Nat := if b = bucket1 key then bucket2 key else bucket1 key

/-- The entry at a location (R230). -/
def entryAt (s : State) (loc : Nat) : Option HostEntry :=
  if 2 ^ 31 ≤ loc then FMap.find s.fwd.stash (loc - 2 ^ 31) else FMap.find s.fwd.host loc

/-- Write or clear a location. -/
def setEntry (s : State) (loc : Nat) (e : Option HostEntry) : State :=
  let put := fun (m : FMap HostEntry) k => match e with | some x => FMap.put m k x | none => FMap.del m k
  if 2 ^ 31 ≤ loc then { s with fwd := { s.fwd with stash := put s.fwd.stash (loc - 2 ^ 31) } }
  else { s with fwd := { s.fwd with host := put s.fwd.host loc } }

/-- Locations a lookup of a key examines, in order (R214). -/
def lookupOrder (key : Octets) : List Nat :=
  (List.range 4).map (fun i => 4 * bucket1 key + i) ++ (List.range 4).map (fun i => 4 * bucket2 key + i) ++
    (List.range 64).map stashLoc

/-- Location of a key (R214). -/
def findKey (s : State) (key : Octets) : Option Nat :=
  (lookupOrder key).find? (fun l => match entryAt s l with
    | some e => e.key = key
    | none => false)

/-- TABLE_ENTRIES: valid entries, stash included; the source copy of a move counts once. -/
def tableEntries (s : State) : Nat := s.fwd.host.length + s.fwd.stash.length - bitNat s.fwd.transit.isSome

/-- Lowest free slot of a bucket. -/
def freeSlot (s : State) (b : Nat) : Option Nat :=
  ((List.range 4).map (fun i => 4 * b + i)).find? (fun l => (entryAt s l).isNone)

/-- Key held at a location. -/
def keyAt (s : State) (loc : Nat) : Octets := ((entryAt s loc).map (·.key)).getD []

/-- Outcome of a search (R215). -/
inductive Found where
  | slot (loc : Nat)
  | path (p : List Nat) (free : Nat)
  | stash (n kicks : Nat)
  | full
  deriving DecidableEq, Repr

/-- The end of a search that found no path (R215). -/
def searchStash (s : State) (kicks : Nat) : Found :=
  match FMap.lowestFree s.fwd.stash 0 64 with
  | some n => .stash n kicks
  | none => .full

/-- The kicks of the search from bucket `b`, with `left` kicks left (R215). -/
def searchGo (s : State) : Nat → Nat → List Nat → Found
  | 0, _, path => searchStash s path.length
  | left + 1, b, path =>
    let slots := (List.range 4).map (fun j => 4 * b + j)
    let short := slots.find? (fun l =>
      !path.contains l && (freeSlot s (altBucket (keyAt s l) b)).isSome)
    match short with
    | some l => .path (path ++ [l]) ((freeSlot s (altBucket (keyAt s l) b)).getD 0)
    | none =>
      let r := (7 - left) % 4
      match ((List.range 4).map (fun i => 4 * b + (r + i) % 4)).find? (fun l => !path.contains l) with
      | some l => searchGo s left (altBucket (keyAt s l) b) (path ++ [l])
      | none => searchStash s path.length

/-- The search for a new entry (R215, R216). -/
def search (s : State) (key : Octets) : Found :=
  if 262144 ≤ tableEntries s then .full
  else match freeSlot s (bucket1 key), freeSlot s (bucket2 key) with
    | some l, _ => .slot l
    | none, some l => .slot l
    | none, none => searchGo s 8 (bucket1 key) []

/-- Copy and clear steps of a path whose last entry goes to `free`, from the end back (R215). -/
def pathSteps : List Nat → Nat → List TableStep
  | [], _ => []
  | [p], free => [.copy p free, .clear p]
  | p :: q :: l, free => pathSteps (q :: l) free ++ [.copy p q, .clear p]

/-- Pass parity now (R221). -/
def passParity (s : State) : Bool :=
  (domainTime s - objN s 0x4001 0) / (max 1 (objN s 0x6032 0) * 1000000000) % 2 = 1

/-- A new entry as an insertion writes it: HIT and AGE clear, PASS the parity, LEARN_TIME now (R212, R221). -/
def freshEntry (s : State) (e : HostEntry) : HostEntry :=
  { e with hit := false, age := false, pass := passParity s, learnTime := domainTime s / 1000000000 % 2 ^ 32 }

/-- Put steps in front of those waiting. -/
def pushSteps (s : State) (l : List TableStep) : State := { s with fwd := { s.fwd with steps := l ++ s.fwd.steps } }

/-- Put a step behind those waiting. -/
def queueStep (s : State) (t : TableStep) : State := { s with fwd := { s.fwd with steps := s.fwd.steps ++ [t] } }

/-- End the register's command (R231). -/
def finishTable (s : State) (status loc : Nat) : State :=
  setObjN (setObjN s 0x6024 0 1 status) 0x6023 0 4 loc

/-- The end of an insertion at a location, for the register. -/
def finishSteps (register : Bool) (loc : Nat) : List TableStep := if register then [.finish 0 loc] else []

/-- Search a place for an entry and put the steps of its insertion in front (R215); FULL is refused, counted for
learning and recorded. -/
def expandInsert (s : State) (e : HostEntry) (register : Bool) : State :=
  match findKey s e.key with
  | some l => if register then finishTable s 3 l else s
  | none =>
    let n := freshEntry s e
    let learned := fun s : State => if register || e.confirmed then s else countF s 6
    match search s e.key with
    | .slot l => pushSteps (learned s) ([.write l n] ++ finishSteps register l)
    | .path p free =>
      pushSteps (learned s) (pathSteps p free ++ [.write (p.head?.getD 0) n] ++ finishSteps register (p.head?.getD 0))
    | .stash i kicks =>
      let s := record (countF (learned s) 9) 0x5001 (bucket1 e.key) kicks (s.fwd.stash.length + 1)
      pushSteps s ([.write (stashLoc i) n] ++ finishSteps register (stashLoc i))
    | .full =>
      let s := record s 0x5000 (bucket1 e.key) (bucket2 e.key) (tableEntries s)
      if register then finishTable s 4 (objN s 0x6023 0) else countF s 8

/-- Begin an insertion: searched at once when no structural step waits before it (R222). -/
def startInsert (s : State) (e : HostEntry) (register : Bool) : State :=
  if s.fwd.steps.isEmpty then expandInsert s e register else queueStep s (.insert e register)

/-- Bucket of a location; the stash is bucket 65,536. -/
def locBucket (loc : Nat) : Nat := if 2 ^ 31 ≤ loc then 65536 else loc / 4

/-- Set HIT at a location, and at the other copy of an entry in transit (R223). -/
def setHit (s : State) (loc : Nat) : State :=
  let both := match s.fwd.transit with
    | some (a, b) => if loc = a ∨ loc = b then [a, b] else [loc]
    | none => [loc]
  both.foldl (fun s l => setEntry s l ((entryAt s l).map (fun e => { e with hit := true }))) s

/-- Apply the pending hits of one bucket (R222). -/
def applyHits (s : State) (bucket : Nat) : State :=
  let now_ := s.fwd.pendingHits.filter (fun l => locBucket l = bucket)
  let s := now_.foldl setHit s
  { s with fwd := { s.fwd with pendingHits := s.fwd.pendingHits.filter (fun l => locBucket l ≠ bucket) } }

/-- A lookup matches an entry: its HIT is pending from this cycle (R220). -/
def hitAt (s : State) (loc : Nat) : State :=
  if s.fwd.pendingHits.contains loc then s
  else { s with fwd := { s.fwd with pendingHits := s.fwd.pendingHits ++ [loc] } }

/-- Remove the entry at a location and owe its bucket a refill (R216). -/
def removeAt (s : State) (loc : Nat) : State :=
  let s := setEntry s loc none
  if 2 ^ 31 ≤ loc then s else pushSteps s [.refill (loc / 4)]

/-- The sweep action on one location (Table 8-4). -/
def sweepEntry (s : State) (loc : Nat) : State :=
  let source := match s.fwd.transit with | some (a, _) => a = loc | none => false
  match entryAt s loc with
  | some e =>
    let par := passParity s
    if source || e.pass = par then s
    else if e.hit then setEntry s loc (some { e with hit := false, age := false, pass := par })
    else if e.noAge then setEntry s loc (some { e with pass := par })
    else if !e.age then setEntry s loc (some { e with age := true, pass := par })
    else
      let s := removeAt (countF s 10) loc
      let s := { s with fwd := { s.fwd with sweepRemoved := s.fwd.sweepRemoved + 1 } }
      record s 0x5020 0 (bitNat par) 0
  | none => s

/-- A sweep visit of a bucket, and of the stash with bucket 0 (R221). -/
def sweepBucket (s : State) (b : Nat) : State :=
  let s := applyHits s b
  let s := ((List.range 4).map (fun i => 4 * b + i)).foldl sweepEntry s
  if b = 0 then ((List.range 64).map stashLoc).foldl sweepEntry (applyHits s 65536) else s

/-- The lowest stash entry that belongs to a bucket (R216). -/
def refillFrom (s : State) (b : Nat) : Option Nat :=
  (s.fwd.stash.find? (fun p => bucket1 p.2.key = b || bucket2 p.2.key = b)).map (·.1)

/-- Fields of an entry that UPDATE replaces: all but HIT, AGE and PASS (Table 8-8). -/
def replaced (old new : HostEntry) : HostEntry := { new with key := old.key, hit := old.hit, age := old.age, pass := old.pass }

/-- End a step that may be the register's. -/
def endStep (register : Bool) (s : State) (status loc : Nat) : State := if register then finishTable s status loc else s

/-- One structural step, after the pending hits of the buckets it operates on (R222). -/
def runStep (s : State) : TableStep → State
  | .copy a b =>
    let s := applyHits (applyHits s (locBucket a)) (locBucket b)
    setEntry { s with fwd := { s.fwd with transit := some (a, b) } } b (entryAt s a)
  | .clear a =>
    let s := applyHits s (locBucket a)
    setEntry { s with fwd := { s.fwd with transit := none } } a none
  | .write l e => setEntry (applyHits s (locBucket l)) l (some e)
  | .insert e r => expandInsert s e r
  | .replace k e r =>
    match findKey s k with
    | some l =>
      let s := applyHits s (locBucket l)
      endStep r (setEntry s l ((entryAt s l).map (fun o => replaced o e))) 0 l
    | none => endStep r s 2 (objN s 0x6023 0)
  | .remove k r =>
    match findKey s k with
    | some l => endStep r (removeAt (applyHits s (locBucket l)) l) 0 l
    | none => endStep r s 2 (objN s 0x6023 0)
  | .confirm k r =>
    match findKey s k with
    | some l =>
      let s := applyHits s (locBucket l)
      match entryAt s l with
      | some e =>
        if e.confirmed then endStep r s 8 l
        else endStep r (setEntry s l (some { e with confirmed := true, noAge := e.noAge || e.kind = 0 })) 0 l
      | none => endStep r s 2 l
    | none => endStep r s 2 (objN s 0x6023 0)
  | .refill b =>
    match refillFrom s b, freeSlot s b with
    | some n, some l => pushSteps s [.copy (stashLoc n) l, .clear (stashLoc n)]
    | _, _ => s
  | .sweep b => sweepBucket s b
  | .finish st l => finishTable s st l

/- Keys (R217). -/

/-- IID of an EUI-64: bit 1 of its first octet inverted. -/
def iidOf (eui : Octets) : Octets :=
  match eui with
  | [] => []
  | a :: l => (a ^^^ 2#8) :: l

/-- Mesh address of an EUI-64. -/
def meshAddress (s : State) (eui : Octets) : Octets := obj s 0x6000 0 ++ iidOf eui

/- The trie (R224, R225). -/

/-- Key of a prefix. -/
def routeKey (upper len : Nat) : Nat := 128 * upper + len

/-- Upper 64 bits of an address. -/
def upper64 (a : Octets) : Nat := fieldOf a 0 8

/-- A prefix's bits below its length are zero. -/
def prefixClean (upper len : Nat) : Bool := upper % 2 ^ (64 - len) = 0

/-- Stage in which a prefix length ends. -/
def stageOf (len : Nat) : Nat := (len - 9) / 8

/-- Capacity of stages 1 to 6 in nodes (Table 8-5). -/
def stageNodes : List Nat := [64, 96, 128, 160, 256, 512]

/-- Nodes in use in a stage: one for each distinct path of the prefixes that end in it or below it. -/
def nodesUsed (routes : FMap Nat) (stage : Nat) : Nat :=
  let bits := 8 + 8 * stage
  distinct (((routes.map (·.1)).filter (fun k => bits < k % 128)).map (fun k => k / 128 / 2 ^ (64 - bits)))

/-- A set of prefixes fits the stage memories. -/
def trieFits (routes : FMap Nat) : Bool :=
  [1, 2, 3, 4, 5, 6].all (fun n => nodesUsed routes n ≤ listGet stageNodes (n - 1) 0)

/-- Longest-prefix match: length and next-hop index. -/
def trieLookup (s : State) (addr : Octets) : Option (Nat × Nat) :=
  let u := upper64 addr
  ((List.range 64).map (fun i => 64 - i)).findSome? (fun len =>
    (FMap.find s.fwd.routes (routeKey (u / 2 ^ (64 - len) * 2 ^ (64 - len)) len)).map (fun nh => (len, nh)))

/-- A next-hop entry. -/
def nextHopAt (s : State) (i : Nat) : NextHop := FMap.getD s.fwd.nextHops i {}

/-- DEFAULT_NH, if set. -/
def defaultNh (s : State) : Option Nat := if objN s 0x6042 0 < 4096 then some (objN s 0x6042 0) else none

/-- REFS of a next-hop entry (Table 8-7). -/
def nhRefs (s : State) (i : Nat) : Nat :=
  (s.fwd.routes.filter (fun p => p.2 = i)).length + bitNat (defaultNh s = some i)

end Sys2Proof.Machine
end

