-- ==== Sys2Proof/Machine/Forward.lean ====
section
/-! DEFINITION. The forwarding pipeline: classification, adaptation, lookups, learning, resolution, egress build and
enqueue (R201 to R211, R217, R218). -/

namespace Sys2Proof.Machine

/-- The chip's own mesh address. -/
def ownAddress (s : State) : Octets := meshAddress s (meshEui s)

/-- Class of a packet (R176). -/
def packetClass (s : State) (p : Packet) : Nat :=
  match p.ingress with
  | .eth _ => if p.dst.isEmpty then 4 else fieldOf (obj s 0x5000 0) (p.dscp % 64) 1 % 8
  | _ => p.cls % 8

/-- Queue port an ingress is (Table 7-2). -/
def ingressPort : Ingress → Nat
  | .air bs => bs - 1
  | .eth p => 9 + p
  | .sett p => p
  | .ctl => 15

/-- Source address a packet is looked up and learned by (R217). -/
def sourceKey (s : State) (p : Packet) : Octets :=
  match p.ingress with
  | .air _ => meshAddress s p.macEui
  | _ => p.src

/-- Tokens a learning source holds now, in millionths (R218). -/
def learnTokens (s : State) (sub : Nat) : Nat :=
  let rate := objN s 0x6031 sub
  match FMap.find s.fwd.tokens sub with
  | some (t, at_) => min (rate * 1000000) (t + rate * (timeUs s - at_))
  | none => rate * 1000000

/-- R218: take a token and queue a learning request, or refuse it. -/
def learnRequest (s : State) (sub : Nat) (r : LearnRequest) : State :=
  let t := learnTokens s sub
  if t < 1000000 ∨ 64 ≤ s.fwd.learnQ.length then record (countF s 7) 0x5010 sub 0 0
  else { s with fwd := { s.fwd with
      tokens := FMap.put s.fwd.tokens sub (t - 1000000, timeUs s), learnQ := s.fwd.learnQ ++ [r] } }

/-- The learning request of a source miss, where its ingress learns (R217). -/
def learnFrom (s : State) (p : Packet) (key : Octets) : State :=
  if !objB s 0x6030 0 || p.poison then s
  else match p.ingress with
    | .air bs => learnRequest s bs { key := key, kind := 0, port := 0, learnBs := bs, handle := 0xFFFFFFFF }
    | .sett port => learnRequest s 10 { key := key, kind := 1, port := port, learnBs := 10, handle := p.sourceHandle }
    | _ => s

/-- Stage 3: HIT set on a match, learning requested on a miss (Table 8-1). -/
def sourceLookup (s : State) (p : Packet) : State :=
  let key := sourceKey s p
  if key.length ≠ 16 then s
  else match findKey s key with
    | some l => hitAt s l
    | none => learnFrom s p key

/-- Count one lookup for the shadow sample (R227). -/
def countLookup (s : State) : State := { s with fwd := { s.fwd with lookups := (s.fwd.lookups + 1) % 65536 } }

/-- Where a packet goes (Table 8-2). -/
inductive Egress where
  | local
  | node (handle : Nat)
  | wired (port : Nat) (mac : Octets)
  | airClass (bandSector : Nat)
  | drop
  deriving DecidableEq, Repr

/-- A link-local unicast address. -/
def linkLocal (a : Octets) : Bool := fieldOf a 0 2 / 64 = 0xFE80 / 64

/-- Address looked up: a link-local one from port 15 gets MESH_PREFIX (R202). -/
def lookupAddress (s : State) (p : Packet) : Octets :=
  if p.ingress = .ctl && linkLocal p.dst then obj s 0x6000 0 ++ p.dst.drop 8 else p.dst

/-- Destination address for a sett port: the chip index in 2 octets. -/
def chipMac (chip : Nat) : Octets := beOctets 2 chip

/-- Egress of a next-hop entry. -/
def nhEgress (s : State) (i : Nat) : Egress :=
  let n := nextHopAt s i
  if n.valid then .wired n.port (if n.port < 11 then n.destMac else chipMac n.chipIndex) else .drop

/-- The member a DEST_CHIP names: by chip index, or by the pair index of an active chip (R287). -/
def memberFor (s : State) (chip : Nat) : Option Member :=
  (s.sett.members.find? (fun p =>
    p.1 = chip || (p.2.census.pairIndex = chip && p.2.census.role ≤ 1))).map (·.2)

/-- Queue port of the ring port with fewer hops to a chip, EAST on a tie, or the only one that reaches it (R288). -/
def ringPort (s : State) (chip : Nat) : Option Nat :=
  (memberFor s chip).bind (fun m => match FMap.find m.hops 1, FMap.find m.hops 2 with
    | some e, some w => some (if e ≤ w then 11 else 12)
    | some _, none => some 11
    | none, some _ => some 12
    | none, none => none)

/-- Egress of a host-table entry (Table 8-2, rows 2 to 5; R288). -/
def hostEgress (s : State) (e : HostEntry) : Egress :=
  match e.kind with
  | 0 => .node e.handle
  | 1 =>
    let port := if e.port = 14 then 14 else (ringPort s (chipOf e.handle)).getD e.port
    if port = 13 then .drop else .wired port (chipMac (chipOf e.handle))
  | 2 => .wired e.port e.destMac
  | _ => .local

/-- R202: the destination resolves to its egress by the first row that applies, with its hit and its count. -/
def resolve (s : State) (p : Packet) : Egress × State :=
  match p.airClass with
  | some bs => (.airClass bs, s)
  | none =>
    let a := lookupAddress s p
    if a.length ≠ 16 then (.drop, countF s 3)
    else if fieldOf a 0 1 = 0xFF then (.local, s)
    else if p.ingress != .ctl && linkLocal p.dst then (.local, s)
    else match findKey s a with
      | some l =>
        let e := match entryAt s l with
          | some e => hostEgress s e
          | none => .drop
        (e, countF (hitAt s l) 1)
      | none =>
        if a.take 8 = obj s 0x6000 0 then (.drop, countF s 3)
        else
          let e := match trieLookup s a, defaultNh s with
            | some (_, nh), _ => nhEgress s nh
            | none, some nh => nhEgress s nh
            | none, none => .drop
          (e, countF s (if e = .drop then 3 else 2))

/-- R211, non-storing mode: the nodes from a target up to the first hop; none where the walk is too deep or returns. -/
def routeWalk (s : State) : Nat → Nat → List Nat → Option (List Nat)
  | 0, _, _ => none
  | n + 1, h, seen =>
    match nodeOf s h with
    | some x =>
      if x.nextHop = h ∨ x.nextHop = 0 then some (h :: seen)
      else if (h :: seen).contains x.nextHop then none
      else routeWalk s n x.nextHop (h :: seen)
    | none => none

/-- The first hop toward an own node, and the intermediate nodes of a source route (R211). -/
def firstHop (s : State) (h : Nat) : Option (Nat × List Nat) :=
  if objN s 0x6010 0 = 0 then (nodeOf s h).map (fun n => (if n.nextHop = 0 then h else n.nextHop, []))
  else match routeWalk s (objN s 0x6013 0 + 1) h [] with
    | some (f :: rest) => some (f, rest)
    | _ => none

/- Egress build (R178, R206, R208). -/

/-- DSCP_REWRITE of an IPv6 packet that leaves on a wired port (R178). -/
def rewriteDscp (s : State) (cls : Nat) (data : Octets) : Octets :=
  if objB s 0x5002 0 && fieldOf data 0 1 / 16 = 6 then
    let tc := fieldOf data 0 2 / 16 % 256
    let new := fieldOf (obj s 0x5001 0) cls 1 % 64 * 4 + tc % 4
    beOctets 2 (6 * 4096 + new * 16 + fieldOf data 0 2 % 16) ++ data.drop 2
  else data

/-- MIC octets of a security level. -/
def micLen (level : Nat) : Nat := match level % 4 with | 1 => 4 | 2 => 8 | 3 => 16 | _ => 0

/-- Octets of a data frame besides its content: frame control 2, sequence 1, PAN ID 2, an address of 8 and security of 5 to
a node, 2 and 6 in a broadcast, MIC and FCS (R208, Table 6-1, log entry 25). -/
def frameOverhead (s : State) (cast : Bool) : Nat := (if cast then 13 else 18) + micLen (objN s 0x4202 0) + 2

/-- Largest PSDU of a mode whose airtime fits TsMaxTx and its PHR (R208). -/
def largestPsdu (s : State) (b mode dbits : Nat) : Nat :=
  let cap := if familyOf mode = .oqpsk then 127 else 2047
  (((List.range (cap + 1)).reverse).find? (fun n => airtimeUs mode 8 false dbits n ≤ slotField s b 7)).getD 0

/-- Payload capacity of a mode (R208). -/
def capacityOf (s : State) (b mode dbits : Nat) (cast : Bool) : Nat := largestPsdu s b mode dbits - frameOverhead s cast

/-- Mode in force toward a node at adaptation: its current OFDM-BL map, else the context's MODE (R208). -/
def nodeCapacity (s : State) (h : Nat) : Nat :=
  match nodeOf s h with
  | some n =>
    let b := bandOf n.heardBs
    match (blLink s h b).userCur with
    | some m => capacityOf s b 0x80 (max 1 m.d) false
    | none => capacityOf s b n.mode 1 false
  | none => 0

/-- Smallest capacity among the advertising and broadcast cells of a band-sector (R208). -/
def airCapacity (s : State) (bs : Nat) : Nat :=
  let l := (s.sched.cells.filter (fun p =>
    p.2.valid && p.2.bandSector = bs && (p.2.kind = 1 || p.2.kind = 4))).map (fun p =>
      capacityOf s (bandOf bs) p.2.mode 1 true)
  (l.foldl (fun m c => match m with | some x => some (min x c) | none => some c) none).getD 0

/-- Fragments after the first of a datagram: RFC 4944 header of 5 octets and a multiple of 8 octets each, but the last. -/
def laterFragments (tag size room : Nat) : Nat → Nat → Octets → List Octets
  | 0, _, _ => []
  | n + 1, off, rest =>
    if rest.isEmpty then []
    else
      let part := (room - 5) / 8 * 8
      let head := beOctets 2 (0xE000 + size % 2048) ++ beOctets 2 tag ++ [byte (off / 8)]
      if rest.length + 5 ≤ room then [head ++ rest]
      else (head ++ rest.take part) :: laterFragments tag size room n (off + part) (rest.drop part)

/-- Fragment a compressed datagram of `size` octets for a capacity (R208, RFC 4944): offsets count octets of the datagram as
it was before compression. -/
def fragments (tag size room : Nat) (data : Octets) : List Octets :=
  if data.length ≤ room then [data]
  else
    let covered := (room - 4 + size - data.length) / 8 * 8
    let part := covered + data.length - size
    (beOctets 2 (0xC000 + size % 2048) ++ beOctets 2 tag ++ data.take part) ::
      laterFragments tag size room data.length covered (data.drop part)

/-- Enqueue one packet on its way to the queue manager (stage 7). -/
def enqueue (s : State) (p : Packet) (classQ : Bool) (target cls : Nat) (mac data : Octets) (ack : Bool) : State :=
  let own := match p.ingress with
    | .air _ => p.sourceHandle
    | .sett _ => p.sourceHandle
    | _ => 0xFFFFFFFF
  newPacket s { packetFor s classQ target cls ack data with
    cutThrough := p.cutThrough, mode := p.mode, source := own, poison := p.poison, complete := !p.cutThrough,
    ingress := ingressPort p.ingress, destMac := mac }

/-- Interface identifier that the frame to a target gives: the node's, or none in a broadcast frame. -/
def targetIid (s : State) (classQ : Bool) (target : Nat) : Octets :=
  if classQ then [] else ((nodeAt s target).map (fun n => iidOf n.eui)).getD []

/-- Compress, fragment and enqueue a datagram toward the air (R206, R208). -/
def enqueueAir (s : State) (p : Packet) (classQ : Bool) (target cls room : Nat) (data : Octets) (ack : Bool) : State :=
  let small := if p.dst.isEmpty then data
    else compress (obj s 0x6000 0) (iidOf (meshEui s)) (targetIid s classQ target) data
  let tag := s.fwd.datagramTag
  let s := { s with fwd := { s.fwd with datagramTag := (tag + 1) % 65536 } }
  (fragments tag data.length (max 16 room) small).foldl (fun s f => enqueue s p classQ target cls [] f ack) s

/-- Mesh address of the own node of a handle. -/
def handleAddress (s : State) (h : Nat) : Octets := meshAddress s (((nodeOf s h).map (·.eui)).getD [])

/- ICMPv6 answers (R202, R204, R208). -/

/-- Sum of 16-bit words. -/
def wordSum : Octets → Nat
  | [] => 0
  | [a] => a.toNat * 256
  | a :: b :: l => a.toNat * 256 + b.toNat + wordSum l

/-- ICMPv6 checksum over the pseudo-header and the message (RFC 4443). -/
def icmpChecksum (src dst msg : Octets) : Nat :=
  let n := wordSum (src ++ dst ++ beOctets 4 msg.length ++ beOctets 4 58 ++ msg)
  let n := n % 65536 + n / 65536
  0xFFFF - (n % 65536 + n / 65536)

/-- An ICMPv6 error about a packet, from the chip's own address, as a packet of port 15. -/
def icmpPacket (s : State) (p : Packet) (typ code value : Nat) : Packet :=
  let body := beOctets 4 value ++ p.data.take 1232
  let sum := icmpChecksum (ownAddress s) p.src ([byte typ, byte code, byte 0, byte 0] ++ body)
  let msg := [byte typ, byte code] ++ beOctets 2 sum ++ body
  { p with
    ingress := .ctl, src := ownAddress s, dst := p.src, hopLimit := 64, dscp := 48, cls := 0, fragment := none
    ackRequested := true, cutThrough := false, poison := false, airClass := none, mode := 0, dispatchOk := true
    data := beOctets 4 0x60000000 ++ beOctets 2 msg.length ++ [byte 58, byte 64] ++ ownAddress s ++ p.src ++ msg }

/-- Take one of the 10 ICMPv6 answers of the second (R202). -/
def icmpAllowed (s : State) : Bool × State :=
  let t := domainTime s / 1000000000
  let n := if s.fwd.icmpSecond = t then s.fwd.icmpCount else 0
  if n < 10 then (true, { s with fwd := { s.fwd with icmpSecond := t, icmpCount := n + 1 } }) else (false, s)

/-- The egress part of the pipeline: hop limit, header, enqueue; answers an error for a packet it drops (R202, R204). -/
def forwardGo : Nat → State → Packet → State
  | 0, s, _ => s
  | n + 1, s, p =>
    let cls := packetClass s p
    let s := countLookup (sourceLookup s p)
    let (e, s) := resolve s p
    let answer := fun (s : State) (typ code value : Nat) =>
      if p.ingress = .ctl ∨ p.src.length ≠ 16 then s
      else match icmpAllowed s with
        | (true, s) => forwardGo n s (icmpPacket s p typ code value)
        | (false, s) => s
    match e with
    | .drop => answer s 1 0 0
    | .local => countF (enqueue s p true 15 cls [] p.data false) 4
    | .airClass bs => enqueueAir (countF s 0) p true (bs - 1) cls (airCapacity s bs) p.data false
    | .wired port mac =>
      if p.hopLimit ≤ 1 then answer (countF s 5) 3 0 0
      else enqueue (countF s 0) p true port cls mac (rewriteDscp s cls (withoutRpl p.data)) false
    | .node h =>
      if p.hopLimit ≤ 1 then answer (countF s 5) 3 0 0
      else if objN s 0x6001 0 < p.data.length then answer s 2 0 (objN s 0x6001 0)
      else match firstHop s h with
        | some (f, via) =>
          let data := if via.isEmpty then p.data else sourceRoute (handleAddress s f) (via.map (handleAddress s)) p.data
          enqueueAir (countF s 0) p false (localIndex f) cls (nodeCapacity s f) data true
        | none =>
          if (nodeOf s h).isSome then record (countF s 14) 0x5050 h (objN s 0x6013 0) 0 else countF s 3

/-- Decrement the hop limit octet of an IPv6 packet (R204). -/
def lowerHop (p : Packet) : Packet :=
  if p.ingress = .ctl ∨ p.dst.isEmpty then p
  else { p with data := p.data.take 7 ++ [byte (p.hopLimit - 1)] ++ p.data.drop 8 }

/-- The pipeline from classification on. -/
def forward (s : State) (p : Packet) : State := forwardGo 2 s (lowerHop p)

/- Reassembly (R207). -/

/-- Key of a reassembly context. -/
def reasmKey (handle tag size : Nat) : Nat := (handle * 65536 + tag) * 65536 + size

/-- A datagram is dropped: word 12 and event 0x5040. -/
def dropReasm (s : State) (key handle : Nat) : State :=
  record (countF { s with fwd := { s.fwd with reasm := FMap.del s.fwd.reasm key } } 12) 0x5040 handle 0 0

/-- Octet `i` of a datagram as its fragments give it. -/
def partOctet (parts : List (Nat × Octets × Bool)) (i : Nat) : Option Byte :=
  parts.findSome? (fun q => if q.1 ≤ i && i < q.1 + q.2.1.length then q.2.1[i - q.1]? else none)

/-- Two fragments overlap with different contents. -/
def partsConflict (parts : List (Nat × Octets × Bool)) (off : Nat) (data : Octets) : Bool :=
  (List.range data.length).any (fun j => match partOctet parts (off + j) with
    | some b => data[j]? != some b
    | none => false)

/-- The context of the same source and tag that states another size. -/
def otherSize (s : State) (handle tag size : Nat) : Option Nat :=
  (s.fwd.reasm.find? (fun q => q.1 / 65536 = handle * 65536 + tag && q.1 % 65536 ≠ size)).map (·.1)

/-- A fragment enters its context; the last one forwards the datagram (R207). -/
def reassemble (s : State) (p : Packet) (tag size off : Nat) : State :=
  let key := reasmKey p.sourceHandle tag size
  match otherSize s p.sourceHandle tag size with
  | some k => dropReasm s k p.sourceHandle
  | none =>
    let old := FMap.find s.fwd.reasm key
    if old.isNone ∧ 4096 ≤ s.fwd.reasm.length then countF s 13
    else
      let c := old.getD { startedAt := s.now, cls := 7, parts := [] }
      if partsConflict c.parts off p.data then dropReasm s key p.sourceHandle
      else
        let c := { c with cls := min c.cls (p.cls % 8), parts := c.parts ++ [(off, p.data, p.poison)] }
        let octets := (List.range size).map (partOctet c.parts)
        if octets.all (·.isSome) then
          if c.parts.any (fun q => q.2.2) then dropReasm s key p.sourceHandle
          else
            let data := octets.map (fun o => o.getD 0#8)
            let s := { s with fwd := { s.fwd with reasm := FMap.del s.fwd.reasm key } }
            forward s { p with
              src := sliceOf data 8 16, dst := sliceOf data 24 16, hopLimit := fieldOf data 7 1,
              cls := c.cls, fragment := none, data := data }
        else { s with fwd := { s.fwd with reasm := FMap.put s.fwd.reasm key c } }

/-- One packet through the pipeline (R201). -/
def pipeline (s : State) (p : Packet) : State :=
  match p.ingress, p.dispatchOk, p.fragment with
  | .air _, false, _ => countF s 15
  | .air _, true, some (tag, size, off) => reassemble (sourceLookup s p) p tag size off
  | _, _, _ => forward s p

end Sys2Proof.Machine
end

