-- ==== Sys2Proof/Machine/Link.lean ====
section
/-! DEFINITION. The link exchange's shared operations: counters, frames, retries, the end of a transmission, joins and
departures (R145, R150 to R169). -/

namespace Sys2Proof.Machine

/-- Raise a word of LINK_COUNTERS (Table 6-15). -/
def countL (s : State) (bs word : Nat) : State := count s 0x4240 bs word

/- Transmit counters (R160 to R164). -/

/-- The next block limit above a counter (R162). -/
def blockLimit (c : Nat) : Nat := c / 256 * 256 + 256

/-- R163: at the first use of a node's counter after a takeover it starts at its limit. -/
def raiseFc (s : State) (i : Nat) : State :=
  if s.twin.raiseDue.contains i then
    updNode { s with twin := { s.twin with raiseDue := s.twin.raiseDue.filter (· ≠ i) } } i
      (fun n => { n with txFc := n.txFcLimit })
  else s

/-- Reserve a node's next block when its counter has reached the limit, and journal it (R162). -/
def reserveFc (s : State) (i : Nat) : State :=
  let s := raiseFc s i
  match nodeAt s i with
  | some n =>
    if n.txFcLimit ≤ n.txFc then
      journal (updNode s i (fun n => { n with txFcLimit := blockLimit n.txFc })) 0 (.fcBlock (handleOf s i) (blockLimit n.txFc))
    else s
  | none => s

/-- The receipt for a reserved block is still missing (R307). -/
def fcAwaited (s : State) (handle : Nat) : Bool :=
  receiptAwaited s (fun b => match b with
    | .fcBlock h _ => h = handle
    | _ => false)

/-- Consume a node's transmit counter (R160). -/
def useFc (s : State) (i : Nat) : State := updNode s i (fun n => { n with txFc := n.txFc + 1 })

/-- A node's counter has run out: nothing more is sent to it, event 0x3105 once (R164). -/
def fcExhausted (s : State) (i : Nat) : Bool := match nodeAt s i with
  | some n => 2 ^ 32 ≤ n.txFc
  | none => true

/-- Mark an exhausted node (R164). -/
def markExhausted (s : State) (i : Nat) : State :=
  match nodeAt s i with
  | some n =>
    if n.exhausted then s else record (updNode s i (fun n => { n with exhausted := true })) 0x3105 (handleOf s i) 0 0
  | none => s

/-- Reserve the next block of NET_FC (R162), after R163 at its first use after a takeover. -/
def reserveNet (s : State) : State :=
  let s := if s.twin.raiseDue.contains 0xFFFFFFFF then
      { s with
        twin := { s.twin with raiseDue := s.twin.raiseDue.filter (· ≠ 0xFFFFFFFF) }
        link := { s.link with netFc := s.link.netFcLimit } }
    else s
  if s.link.netFcLimit ≤ s.link.netFc then
    journal { s with link := { s.link with netFcLimit := blockLimit s.link.netFc } } 0
      (.fcBlock 0xFFFFFFFF (blockLimit s.link.netFc))
  else s

/-- Consume NET_FC (R160). -/
def useNet (s : State) : State := { s with link := { s.link with netFc := s.link.netFc + 1 } }

/- Frames (R145, Table 6-1; IEEE 802.15.4-2020 field encodings, log entry 25). -/

/-- Octets in the order of IEEE 802.15.4, least significant first. -/
def leOctets (w n : Nat) : Octets := (beOctets w n).reverse

/-- A payload IE of Wenram: Group ID 2, the OUI, the content (R84). -/
def vendorIe (s : State) (content : Octets) : Octets :=
  leOctets 2 (0x8000 + 2 * 2048 + (3 + content.length)) ++ obj s 0x3001 0 ++ content

/-- CCM* nonce: sender, counter, level (R145). -/
def ccmNonce (eui : Octets) (fc level : Nat) : Octets := eui ++ beOctets 4 fc ++ [byte level]

/-- A secured frame: header in the clear, body enciphered from level 5 on, MIC (R145, R246). -/
def secureFrame (key eui header body : Octets) (fc level : Nat) : Octets :=
  let n := ccmNonce eui fc level
  if 4 ≤ level then header ++ ccmCipher key n body ++ ccmTag key n header body (micLen level)
  else header ++ body ++ ccmTag key n (header ++ body) [] (micLen level)

/-- MAC header of a frame to one of the chip's own nodes: type, ACK request, sequence number, PAN ID, extended
destination, source omitted, key mode 0, counter. -/
def nodeHeader (s : State) (typ : Nat) (ack ie : Bool) (seq level fc : Nat) (eui : Octets) : Octets :=
  leOctets 2 (typ + 8 + bitNat ack * 32 + bitNat ie * 512 + 0x0C00 + 0x2000) ++ [byte seq] ++ leOctets 2 (objN s 0x4201 0) ++
    eui.reverse ++ [byte level] ++ leOctets 4 fc

/-- MAC header of a broadcast or beacon under the "net" key: source extended, key mode 1, index 1. -/
def netHeader (s : State) (typ : Nat) (ie : Bool) (seq level fc : Nat) : Octets :=
  leOctets 2 (typ + 8 + bitNat ie * 512 + 0x0800 + 0x2000 + 0xC000) ++ [byte seq] ++ leOctets 2 (objN s 0x4201 0) ++
    leOctets 2 0xFFFF ++ (meshEui s).reverse ++ [byte (level + 8)] ++ leOctets 4 fc ++ [byte 1]

/-- A frame under a node's "dn" key at its next counter. -/
def frameToNode (s : State) (n : Node) (typ : Nat) (ack : Bool) (seq level : Nat) (ies data : Octets) : Octets :=
  let key := (nodeKey s n.homeEui n.eui true).getD []
  let header := nodeHeader s typ ack (!ies.isEmpty) seq level n.txFc n.eui
  secureFrame key (meshEui s) header (ies ++ data) n.txFc level

/-- A broadcast frame or beacon under the "net" key. -/
def frameNet (s : State) (typ level : Nat) (ies data : Octets) : Octets :=
  let key := (purposeKey s (meshEui s) 1).getD []
  let header := netHeader s typ (!ies.isEmpty) s.link.netDsn level s.link.netFc
  secureFrame key (meshEui s) header (ies ++ data) s.link.netFc level

/-- Content of the chip's Capability IE (Table 3-8). -/
def ownCapability (s : State) : Octets :=
  let most := match objN s 0x3037 0 with | 1 => 0 | 2 => 1 | 4 => 2 | _ => 3
  [byte 3, byte ((if objB s 0x3030 0 then 0xC0 else 0) + most * 16 + bitNat (bitOf (objN s 0x3038 0) 1) * 8)]

/-- The IEs owed to a node in its next frame: Capability, Map, Map Ack, Cell Updates (R85 to R87, R169). -/
def owedIes (s : State) (h b : Nat) (n : Node) : Octets :=
  let r := blLink s h b
  (if n.capDue then vendorIe s (ownCapability s) else []) ++
  (match r.sendMap, r.next with | true, some m => vendorIe s m.octets | _, _ => []) ++
  (match r.sendAck with | some a => vendorIe s [byte 2, byte a] | none => []) ++
  (n.updates.map (vendorIe s)).flatten

/-- The owed IEs have gone out with a frame. -/
def clearOwed (s : State) (h b : Nat) : State :=
  let r := blLink s h b
  let s := if r.sendMap || r.sendAck.isSome then
      updBl s h b (fun r => { r with sends := r.sends + bitNat r.sendMap, sendMap := false, sendAck := none })
    else s
  updNode s (localIndex h) (fun n => { n with capDue := false, updates := [] })

/- Departure (R165, R168). -/

/-- Content of a Departure frame. -/
def departureBody (s : State) (cause : Nat) : Octets := vendorIe s [byte 0x23, byte cause]

/-- Clear VALID of every cell whose PEER is a handle (R168). -/
def clearPeerCells (s : State) (h : Nat) : State :=
  { s with sched := { s.sched with cells := s.sched.cells.mapVals (fun _ c =>
      if c.valid && c.peer = h then { c with valid := false } else c) } }

/-- The context returns to FREE and its index rests (R3, R168). -/
def freeNode (s : State) (i : Nat) : State :=
  { s with link := { s.link with
      nodes := FMap.del s.link.nodes i, resting := FMap.put s.link.resting i s.now
      fcPending := FMap.del s.link.fcPending i } }

/-- R168: the departure actions of a node, with their cause in event 0x3103. -/
def departureActions (s : State) (i cause : Nat) : State :=
  match nodeAt s i with
  | some n =>
    let h := handleOf s i
    let l := nodeQueue s i
    let flushed := (l.filter (fun k => match packetOf s k with | some p => !p.latched && !p.started | none => false)).length
    let s := flushAll s l
    let s := queueStep s (.remove (meshAddress s n.eui) false)
    let s := abandonRanges (clearPeerCells (dropLinks s h) h) (fun x => x = h)
    let s := countL s (max 1 n.heardBs) 19
    updActive (clearBits (freeNode (record s 0x3103 h cause flushed) i) i) i
  | none => s

/- Retries (R154 to R156). -/

/-- The cell of a plan is shared. -/
def planShared (s : State) (p : TxPlan) : Bool := match p.cell with
  | some i => (cellAt s i).shared
  | none => false

/-- Draw a backoff from 0 to 2^BE - 1, journaled in a pair (R155, R156). -/
def drawBackoff (s : State) (i be : Nat) : State :=
  let (w, s) := drawWords s 1 1
  updNode s i (fun n => { n with be := be, backoff := listGet w 0 0 % 2 ^ be })

/-- MinBE and MaxBE (Table 6-14). -/
def minBe (s : State) : Nat := objField s 0x4205 0 0 1
def maxBe (s : State) : Nat := objField s 0x4205 0 1 1

/-- A completed frame or an empty queue resets the backoff (R155). -/
def resetBackoff (s : State) (i : Nat) : State := updNode s i (fun n => { n with be := minBe s, backoff := 0 })

/-- A packet is the node's own Departure frame. -/
def isDeparture (s : State) (k : Nat) : Bool := match packetOf s k with
  | some p => p.data = departureBody s 1
  | none => false

/-- The frame of a plan leaves its queue: dropped or complete. A DEPARTING node whose Departure went is freed (R165). -/
def frameGone (s : State) (i : Nat) (p : TxPlan) : State :=
  match p.packet with
  | some k =>
    let gone := isDeparture s k && ((nodeAt s i).map (·.state)) = some .departing
    let s := removePacket s k
    let s := updNode s i (fun n => { n with retries := 0, dsnTx := (n.dsnTx + 1) % 256 })
    if gone then departureActions s i 1 else s
  | none => s

/-- ETX of a node after a transmission; the spec gives its unit and no rule (log entry 8). -/
def noteEtx (s : State) (i : Nat) (acked : Bool) : State :=
  updNode s i (fun n => { n with etx := (Config.value 5 [(n.etx : Int), (bitNat acked : Int)]).toNat % 65536 })

/-- R154, R155: an unacknowledged transmission: RETRIES, the drop past LINK_MAX_RETRIES, the backoff of shared cells. -/
def retryHandling (s : State) (i : Nat) (p : TxPlan) : State :=
  match nodeAt s i with
  | some n =>
    let s := noteEtx s i false
    let s := if planShared s p then drawBackoff s i (min (n.be + 1) (maxBe s)) else s
    let flushed := ((p.packet.bind (packetOf s)).map (·.flushed)).getD false
    if flushed then frameGone (countQ s (max 1 n.heardBs - 1) 7) i p
    else if objN s 0x4204 (p.cls + 1) < n.retries + 1 then
      frameGone (record (countL s (max 1 n.heardBs) 14) 0x3104 (handleOf s i) p.cls 0) i p
    else
      let s := updNode s i (fun n => { n with retries := n.retries + 1 })
      match p.packet with
      | some k => updPacket s k (fun q => { q with latched := false })
      | none => s
  | none => s

/-- The chain of a band-sector is done with its plan. -/
def endPlan (s : State) (bs : Nat) : State := dropReq (updChain s bs (fun c => { c with plan := none })) bs

/-- Local index of a plan's peer. -/
def planIndex (p : TxPlan) : Nat := localIndex (p.peer.getD 0)

/-- R147: an unacknowledged transmission of a band-sector's plan. -/
def unackedPlan (s : State) (bs : Nat) (p : TxPlan) : State :=
  let s := countL (endPlan s bs) bs 13
  let s := if 0x80 ≤ p.mode then blUnacked s (p.peer.getD 0) (bandOf bs) bs else s
  retryHandling s (planIndex p) p

/-- R147: the frame of a plan is complete; NACK still applies the node's retries and backoff. -/
def completePlan (s : State) (bs : Nat) (p : TxPlan) (nack : Bool) : State :=
  let i := planIndex p
  let s := countL (endPlan s bs) bs 12
  let s := if 0x80 ≤ p.mode then updBl s (p.peer.getD 0) (bandOf bs) (fun r => { r with unacked := 0 }) else s
  let s := noteEtx s i true
  if nack then
    let s := match nodeAt s i with
      | some n => if planShared s p then drawBackoff s i (min (n.be + 1) (maxBe s)) else s
      | none => s
    let r := ((nodeAt s i).map (·.retries)).getD 0 + 1
    updNode (frameGone s i p) i (fun n => { n with retries := min r 16 })
  else resetBackoff (frameGone s i p) i

/- Times of acknowledgements (R146, R150). -/

/-- Frame end of a transmission that awaits its acknowledgement: start plus airtime with the ramps taken off. -/
def planEnd (p : TxPlan) : Nat := p.startAt + (p.onTime - 20) * 1000

/-- The acknowledgement window of a plan (Table 6-2). -/
def ackOpens (s : State) (bs : Nat) (p : TxPlan) : Nat := planEnd p + slotField s (bandOf bs) 5 * 1000
def ackCloses (s : State) (bs : Nat) (p : TxPlan) : Nat := ackOpens s bs p + slotField s (bandOf bs) 6 * 1000

/-- Content of a Join Response (Table 6-9). -/
def joinResponse (status handle : Nat) (challenge : Octets) (window hopSeq : Nat) : Octets :=
  [byte 0x21, byte status] ++ beOctets 4 handle ++ padTo 8 challenge ++ beOctets 2 window ++ [byte (hopSeq * 16)]

/-- Queue port 0 to 8 of a band-sector. -/
def airPort (bs : Nat) : Nat := bs - 1

/-- Queue a Join Response that has no context: through the band-sector's air class queue, its destination, home and
counter carried in place of a MAC address (R165). -/
def answerWithout (s : State) (bs : Nat) (eui home : Octets) (fc status hopSeq : Nat) : State :=
  let body := vendorIe s (joinResponse status 0xFFFFFFFF [] 0 hopSeq)
  newPacket s { packetFor s true (airPort bs) 0 false body with destMac := eui ++ home ++ beOctets 4 fc }

/- Joins (R165). -/

/-- Queue a class-0 frame of LSF to a node. -/
def queueToNode (s : State) (i cls : Nat) (ack : Bool) (data : Octets) : State :=
  newPacket s (packetFor s false i cls ack data)

/-- Seconds left for the Join Confirm. -/
def confirmLeft (s : State) (n : Node) : Nat := objN s 0x4212 0 - (s.now - n.joiningAt) / 1000000000

/-- Queue the Join Response of a JOINING node (Table 6-7). -/
def answerJoin (s : State) (i status : Nat) : State :=
  match nodeAt s i with
  | some n =>
    let h := if status = 0 then handleOf s i else 0xFFFFFFFF
    queueToNode s i 0 false (vendorIe s (joinResponse status h n.challenge (confirmLeft s n) n.joinSeq))
  | none => s

/-- An index freed by a departure is not issued again for 24 h (R3). -/
def restingDone (s : State) (i : Nat) : Bool := match FMap.find s.link.resting i with
  | some t => t + 86400000000000 ≤ s.now
  | none => true

end Sys2Proof.Machine
end

