-- ==== Sys2Proof/Machine/Modem.lean ====
section
/-! DEFINITION. The commands of OFDM-BL (chapter 03): recompute, Map, Map Ack and Capability IEs, activation. -/

namespace Sys2Proof.Machine

/-- R83: the author recomputes a link's candidate map and issues, withdraws or keeps it. -/
def execBlRecompute (handle : Nat) (band : Band) (s : State) : Host.Outcome State Fault Refusal :=
  done (recompute s handle (bandCode band))

/-- R87: a Map IE is validated, stored as pending and answered with a Map Ack; one that did not come under the link key
is ignored (R84). -/
def execMapIeRx (handle : Nat) (band : Band) (content : Octets) (secured ackRequested : Bool) (s : State) :
    Host.Outcome State Fault Refusal :=
  let b := bandCode band
  if secured && (nodeOf s handle).isSome && content.length = 45 && fieldOf content 0 1 = 1 then
    let id := fieldOf content 1 1 / 16
    match parseMap content with
    | none => done (oweMapAck s handle b (id * 16 + 1) ackRequested)
    | some (m, bits) =>
      let reason := mapReason s handle b m bits
      if reason = 0 then
        let s := updBl s handle b (fun r => { r with userPending := some m, userFallback := some m.fallback })
        done (oweMapAck s handle b (id * 16 + 8) ackRequested)
      else
        let s := if reason = 4 && !blRoom s handle b then blFull s handle b else s
        done (oweMapAck s handle b (id * 16 + reason) ackRequested)
  else done s

/-- A Map Ack marks the next map acknowledged, or deletes it on refusal or fallback (R86). -/
def mapAck (s : State) (handle b : Nat) (content : Octets) (secured : Bool) : State :=
  let r := blLink s handle b
  let b1 := fieldOf content 1 1
  let id := b1 / 16
  let reason := b1 % 8
  if secured && content.length = 2 && fieldOf content 0 1 = 2 && (r.author = .offered || r.author = .current) then
    if bitOf b1 3 then
      if (r.next.map (·.mapId)) = some id then updBl s handle b (fun r => { r with acked := true }) else s
    else if reason = 5 then
      let fb := match r.next, r.cur with | some m, _ => m.fallback | none, some m => m.fallback | none, none => 0
      let s := countModem (updBl s handle b (fun r => r.resetAuthor .estimate)) (linkSector s handle b) 6
      record s 0x2002 handle 2 fb
    else if (r.next.map (·.mapId)) = some id then
      let s := countModem (updBl s handle b BlLink.dropNext) (linkSector s handle b) 5
      record s 0x2001 handle id reason
    else s
  else s

/-- R86: a Map Ack marks the next map acknowledged, or deletes it on refusal or fallback. -/
def execMapAckRx (handle : Nat) (band : Band) (content : Octets) (secured : Bool) (s : State) :
    Host.Outcome State Fault Refusal := done (mapAck s handle (bandCode band) content secured)

/-- R86: at ACTIVATE_ASN the author resends or deletes an unacknowledged map; an acknowledged one becomes current after
the activation interval. -/
def execMapActivateSlot (handle : Nat) (band : Band) (s : State) : Host.Outcome State Fault Refusal :=
  let b := bandCode band
  let r := blLink s handle b
  match r.next with
  | some n =>
    if r.author = .offered && !r.sendMap && 0 < r.sends && n.activate ≤ asnNow s b then
      if r.acked then
        if n.activate + activationInterval s handle b ≤ asnNow s b then done (updBl s handle b BlLink.activate) else done s
      else if r.sends < 3 then done (updBl s handle b (fun r => { r with sendMap := true }))
      else
        let s := countModem (updBl s handle b BlLink.dropNext) (linkSector s handle b) 6
        done (record s 0x2002 handle 1 n.fallback)
    else done s
  | none => done s

/-- R85: a peer's Capability IE is recorded in its node context; a capability lost deletes the link's maps
(Table 3-9). A Ranging Capability IE is noted as well (R405). -/
def execCapabilityIeRx (handle : Nat) (content : Octets) (s : State) : Host.Outcome State Fault Refusal :=
  if content.length = 2 && fieldOf content 0 1 = 3 && (nodeOf s handle).isSome then
    let cap := fieldOf content 1 1
    let s := updNode s (localIndex handle) (fun n => { n with blCap := true, cap := cap })
    done (if bitOf cap 7 || bitOf cap 6 then s else dropLinks s handle)
  else if content.length = 2 && fieldOf content 0 1 = 0x12 then
    done (updNode s (localIndex handle) (fun n => { n with rangeCap := fieldOf content 1 1 }))
  else done s

/-- R90: the command clears all MODEM_COUNTERS. -/
def execModemCountersClear (who : Caller) (s : State) : Host.Outcome State Fault Refusal :=
  done (command s who 0x3041 0 [byte 0] (fun _ => 0) (fun s => clearCounters s 0x3040))

end Sys2Proof.Machine
end

