-- ==== Sys2Proof/Machine/Receive.lean ====
section
/-! DEFINITION. The receive commands (chapter 02): detections, lanes, diversity, the PHR check, lane tests, gain and the
noise floor. -/

namespace Sys2Proof.Machine

/- Detections (R37 to R46, R53, R54). -/

/-- A lane that takes a detection (Table 2-5, IDLE or a capture). -/
def takeDetection (s : State) (d : Detection) (cls : Nat) (cell : Option Nat) (l : Lane) : Lane :=
  { idleLane l with
    state := .acquire, bandSector := d.bandSector, firstBin := d.firstBin, mode := d.mode, chainB := d.chainB,
    cls := cls, cell := cell, detectedAt := s.now, power := d.power, asn := asnNow s (bandOf d.bandSector)
    desense := match markBit d.bandSector with
      | some i => s.rx.desense.toNat.testBit i
      | none => false
    extended := extendedOn s d.bandSector && familyOf d.mode = .fsk }

/-- Assign a lane to a detection (R42). -/
def assignLane (s : State) (d : Detection) (cls : Nat) (cell : Option Nat) (n : Nat) : State :=
  countRx (updLane s n (takeDetection s d cls cell)) d.bandSector 2

/-- Refuse a detection: counted, and recorded once per coalescing window (R46). -/
def refuseDetection (s : State) (bs cls : Nat) : State :=
  record (countRx s bs 3) 0x1100 bs cls (heldLanes s).length

/-- The lane of the newest detection of the largest class number whose release helps, if it is refused in place of a
new detection of class `cls` (R45). -/
def preemptVictim (s : State) (b cls : Nat) : Option Nat :=
  ((heldLanes s).foldl (fun (v : Option Nat × Nat × Nat) p =>
    if p.2.state.early && releaseHelps s b p.1 &&
        (v.2.1 < p.2.cls || (p.2.cls = v.2.1 && v.2.2 < p.2.detectedAt)) then
      (some p.1, p.2.cls, p.2.detectedAt)
    else v) (none, cls, s.now)).1

/-- A detection that finds no free lane: preempt or refuse (R45, R46). -/
def exhausted (s : State) (d : Detection) (cls : Nat) (cell : Option Nat) : State :=
  match preemptVictim s (bandOf d.bandSector) cls with
  | some n =>
    let l := laneOf s n
    assignLane (refuseDetection (updLane s n idleLane) l.bandSector l.cls) d cls cell n
  | none => refuseDetection s d.bandSector cls

/-- A lane that hears the same packet in another sector of the band (R44). -/
def mergePartner (s : State) (d : Detection) : Option Nat :=
  if objB s 0x2115 0 then
    ((heldLanes s).find? (fun p =>
      p.2.state.early && bandOf p.2.bandSector = bandOf d.bandSector && p.2.bandSector ≠ d.bandSector &&
        p.2.mode = d.mode && p.2.firstBin = d.firstBin && s.now - p.2.detectedAt < symbolNs d.mode &&
        ((matchingCells s d.bandSector d.firstBin d.mode).isEmpty ||
          (matchingCells s p.2.bandSector d.firstBin d.mode).isEmpty))).map (·.1)
  else none

/-- Merge a detection with the lane of another sector: the higher P_corr keeps the lane (R44). -/
def mergeDetection (s : State) (d : Detection) (cls : Nat) (cell : Option Nat) (n : Nat) : State :=
  let l := laneOf s n
  if l.power < d.power then
    countRx (updLane s n (fun l => { takeDetection s d cls cell l with merged := true })) l.bandSector 1
  else countRx (updLane s n (fun l => { l with merged := true })) d.bandSector 1

/-- A detection on a channel that a lane already holds: captured or blocked (R53, R54). -/
def captureOrBlock (s : State) (d : Detection) (cls : Nat) (cell : Option Nat) (n : Nat) : State :=
  let l := laneOf s n
  let policy := objN s 0x2130 0
  let strong := l.rssi + 4 * (objN s 0x2131 0 : Int) ≤ d.power
  if strong && ((policy = 1 && l.state.early) || policy = 2) then
    countRx (updLane s n (fun l => { takeDetection s d cls cell l with captured := true })) d.bandSector 4
  else countRx s d.bandSector 5

/-- R37: a correlator unit declares a detection. -/
def execCorrelatorDetection (d : Detection) (s : State) : Host.Outcome State Fault Refusal :=
  if receives s d.bandSector && (listenSet s d.bandSector).contains ⟨d.firstBin, d.mode⟩ then
    let s := countRx s d.bandSector 0
    let (cls, cell) := detectionClass s d.bandSector d.firstBin d.mode
    match (heldLanes s).find? (fun p => p.2.bandSector = d.bandSector &&
        spansMeet d.firstBin (spanOf d.mode) p.2.firstBin (spanOf p.2.mode)) with
    | some (n, _) => done (captureOrBlock s d cls cell n)
    | none =>
      match mergePartner s d with
      | some n => done (mergeDetection s d cls cell n)
      | none =>
        match laneFor s (bandOf d.bandSector) with
        | some n => done (assignLane s d cls cell n)
        | none => done (exhausted s d cls cell)
  else done s

/-- R51: the history replay reaches the detection point. -/
def execLaneDetectionPoint (lane : Nat) (rssi : Int) (s : State) : Host.Outcome State Fault Refusal :=
  if (laneOf s lane).state = .acquire then
    done (updLane s lane (fun l => { l with state := .shr, rssi := rssi }))
  else done s

/-- Chain B is selected (R52): values 1 and 2 of DIVERSITY_MODE force a chain; otherwise the declared chain stays
unless the other is more than 1 dB better. -/
def selectB (mode : Nat) (declaredB : Bool) (snrA snrB : Int) : Bool :=
  match mode with
  | 1 => false
  | 2 => true
  | _ => if declaredB then snrA - snrB ≤ 4 else 4 < snrB - snrA

/-- R52: the diversity window closes and the lane selects its chain. -/
def execDiversityWindowClose (lane : Nat) (snrA snrB : Int) (s : State) : Host.Outcome State Fault Refusal :=
  let l := laneOf s lane
  if l.state = .shr && !l.selected then
    let b := selectB (objN s 0x2140 0) l.chainB snrA snrB
    done (updLane s lane (fun l =>
      { l with selected := true, chainB := b, corrSnr := if b then snrB else snrA }))
  else done s

/-- Expected receive timestamp of a cell of the lane's slot, ns: slot start, TsTxOffset and the SHR (R129). -/
def expectedStamp (s : State) (l : Lane) : Nat :=
  let b := bandOf l.bandSector
  slotStart s b l.asn + slotField s b 1 * 1000 + shrNs l.mode

/-- A match with an EXT_TIME cell outside the guard is undone (R129). -/
def guardCheck (s : State) (lane : Nat) : State :=
  let l := laneOf s lane
  match l.cell with
  | some i =>
    let off : Int := (l.stamp / 16 : Nat) - (expectedStamp s l : Int)
    if (cellAt s i).extTime && guardUs s (bandOf l.bandSector) * 1000 < off.natAbs then
      count (updLane s lane (fun l => { l with cell := none, cls := 7 })) 0x4150 l.bandSector 8
    else s
  | none => s

/-- R63: the SFD is found and the receive timestamp, in 1/16 ns of domain time, is taken. -/
def execSfdFound (lane arrivalNs sixteenths : Nat) (s : State) : Host.Outcome State Fault Refusal :=
  if (laneOf s lane).state = .shr then
    done (guardCheck (updLane s lane (fun l =>
      { l with state := .phr, selected := true, stamp := arrivalNs * 16 + sixteenths % 16 })) lane)
  else done s

/-- Latest instant (ns) at which a lane waits for its SFD (R40). -/
def sfdDeadline (l : Lane) : Nat := l.detectedAt + (preambleSymbols l.mode + 8) * symbolNs l.mode

/-- R40: no SFD arrives within the preamble length plus 8 symbols. -/
def execSfdTimeout (lane : Nat) (s : State) : Host.Outcome State Fault Refusal :=
  let l := laneOf s lane
  if l.state = .shr && sfdDeadline l ≤ s.now then done (countRx (releaseLane s lane) l.bandSector 6) else done s

/- The PHR check (R71) and the receive descriptor (R64). -/

/-- The handle of the neighbour of the one dedicated receive cell a detection matched (R71, R78). -/
def linkOfLane (s : State) (l : Lane) : Option Nat :=
  match (matchingCells s l.bandSector l.firstBin l.mode).filter (fun e =>
      e.cell.kind = 0 && !e.cell.shared && e.cell.peer != 0xFFFFFFFF) with
  | [e] => some e.cell.peer
  | _ => none

/-- The link of a lane has a live map of an identifier (R71, R78). -/
def liveMap (s : State) (l : Lane) (mapId : Nat) : Bool :=
  match linkOfLane s l with
  | some h =>
    let r := blLink s h (bandOf l.bandSector)
    (r.cur.map (·.mapId)) = some mapId || (r.next.map (·.mapId)) = some mapId
  | none => false

/-- The PHR check of Table 3-3. -/
def phrPasses (s : State) (l : Lane) (p : PhrResult) : Bool :=
  p.codeGood && (match familyOf p.mode with
    | .fsk => listenCode p.mode = l.mode && 2 < p.psduLen && p.psduLen ≤ 2047
    | .oqpsk => l.mode = 0x20 && p.mode = 0x20 && 4 ≤ p.psduLen && p.psduLen ≤ 127
    | .ofdm => listenCode p.mode = listenCode l.mode && ofdmCode p.mode && 1 ≤ p.psduLen && p.psduLen ≤ 2047
    | .bl => listenCode l.mode = 0x40 && 1 ≤ p.psduLen && p.psduLen ≤ 2047 && p.mode = 0x80 + p.mapId &&
        liveMap s l p.mapId)

/-- Published noise floor of a bin, I16 code in 0.25 dBm, and its count of valid slots (R61); 0x8000 before any
publication. -/
def noiseOf (s : State) (bs bin : Nat) : Nat × Nat := FMap.getD s.rx.noise (65536 * bs + bin) (0x8000, 0)

/-- The receive descriptor of Table 2-8. -/
def descriptorOf (s : State) (n : Nat) (l : Lane) (p : PhrResult) : Octets :=
  let b := bandOf l.bandSector
  beOctets 8 (l.stamp / 16) ++
  [byte (l.stamp % 16 * 16 + b * 4 + (if b = 0 then 0 else sectorOf l.bandSector)), byte (bitNat l.chainB * 128 + n)] ++
  beOctets 2 l.firstBin ++
  [byte p.mode, byte (l.cls * 32 + bitNat l.desense * 16 + bitNat p.clipped * 8 + bitNat l.captured * 4 +
    bitNat l.merged * 2 + bitNat l.extended)] ++
  beOctets 2 (ofSigned 16 l.rssi) ++ beOctets 2 (ofSigned 16 p.corrSnr) ++
  beOctets 2 (noiseOf s l.bandSector l.firstBin).1 ++ beOctets 2 (ofSigned 16 p.freqOffset) ++ beOctets 2 p.psduLen ++
  beOctets 5 l.asn ++ beOctets 3 (match l.cell with | some i => 2 ^ 23 + i | none => 0)

/-- R71: the lane checks the PHR, writing the receive descriptor or releasing the lane. -/
def execPhrCheck (lane : Nat) (phr : PhrResult) (s : State) : Host.Outcome State Fault Refusal :=
  let l := laneOf s lane
  if l.state = .phr then
    if phrPasses s l phr then
      done (updLane s lane (fun l => { l with
        state := .payload, descriptor := descriptorOf s lane l phr, mode := phr.mode, clipped := phr.clipped
        corrSnr := phr.corrSnr }))
    else
      let s := countRx (releaseLane s lane) l.bandSector 6
      done (if familyOf phr.mode = .bl && phr.codeGood && !liveMap s l phr.mapId then count s 0x3040 l.bandSector 2 else s)
  else done s

/- The end of a packet (R40, R79, R80). -/

/-- Count a good frame's marks and its modem counters (Tables 2-10 and 3-13). -/
def countGood (s : State) (l : Lane) (clippedLater : Bool) : State :=
  let s := if l.desense then countRx s l.bandSector 10 else s
  let s := if l.clipped || clippedLater then countRx s l.bandSector 11 else s
  let s := if familyOf l.mode = .fsk && l.mode / 8 % 2 = 1 then count s 0x3040 l.bandSector 0 else s
  if familyOf l.mode = .bl then count s 0x3040 l.bandSector 1 else s

/-- A frame in option 1 or OFDM-BL carries the SNR trailer (R79). -/
def carriesTrailer (mode : Nat) : Bool := mode / 16 = 4 || familyOf mode = .bl

/-- R40: the last symbol arrives and the PHY CRC closes the packet. -/
def execPayloadEnd (lane : Nat) (crcGood : Bool) (psdu snrTrailer : Octets) (clippedLater : Bool) (s : State) :
    Host.Outcome State Fault Refusal :=
  let l := laneOf s lane
  if l.state = .payload then
    if crcGood then
      let trailer := if carriesTrailer l.mode then snrTrailer.take 96 else []
      let s := countGood s l clippedLater
      let s := match linkOfLane s l with
        | some h => receiveTrailer s h (bandOf l.bandSector) l.mode trailer
        | none => s
      done (releaseLane (updLane s lane (fun l => { l with descriptor := l.descriptor.take 32 ++ psdu ++ trailer })) lane)
    else done (countRx (releaseLane s lane) l.bandSector 7)
  else done s

/- Lane tests (R48). -/

/-- Bring DEGRADED bit 3 to what the lanes say (Table 1-12). -/
def laneCause (s : State) : State := setCause s 3 (s.rx.lanes.any (fun p => p.2.state = .withdrawn))

/-- Next lane of the rotation from `n` on that is not withdrawn (R48). -/
def nextTestLane (s : State) (n : Nat) : Option Nat :=
  ((List.range 128).map (fun i => (n + i) % 128)).find? (fun k => (laneOf s k).state != .withdrawn)

/-- R48: the next lane in rotation is pulled for a loopback test, or waited for. -/
def execLaneTestTurn (s : State) : Host.Outcome State Fault Refusal :=
  if objN s 0x2114 0 != 0 && s.rx.testDue ≤ s.now then
    match nextTestLane s s.rx.testNext with
    | some n =>
      let s := { s with rx := { s.rx with
        testNext := (n + 1) % 128, testDue := s.now + objN s 0x2114 0 * 1000000000 } }
      if (laneOf s n).state = .idle then done (updLane s n (fun l => { l with state := .test, fails := 0 }))
      else done { s with rx := { s.rx with testWaiting := some n } }
    | none => done s
  else done s

/-- Count a lane loopback failure in the record of the band-sector the lane held last (log entry 22). -/
def countLaneFailure (s : State) (l : Lane) : State := countRx s (if l.bandSector = 0 then 1 else l.bandSector) 12

/-- R48: a loopback test ends; a lane that fails twice is withdrawn. -/
def execLaneTestResult (lane failMask bitErrors : Nat) (s : State) : Host.Outcome State Fault Refusal :=
  let l := laneOf s lane
  if l.state = .test then
    if failMask = 0 then done (updLane s lane (fun l => { idleLane l with fails := 0 }))
    else
      let s := countLaneFailure s l
      if l.fails = 0 then done (updLane s lane (fun l => { l with fails := 1 }))
      else
        let s := updLane s lane (fun l =>
          { l with state := .withdrawn, fails := 0, passes := 0, retestAt := s.now + 3600000000000 })
        done (laneCause (record s 0x1101 lane failMask bitErrors))
  else done s

/-- R48: a withdrawn lane is retested hourly and restored after three consecutive passes. -/
def execLaneHourlyRetest (lane failMask : Nat) (s : State) : Host.Outcome State Fault Refusal :=
  let l := laneOf s lane
  if l.state = .withdrawn && l.retestAt ≤ s.now then
    if failMask = 0 then
      if l.passes < 2 then
        done (updLane s lane (fun l => { l with passes := l.passes + 1, retestAt := s.now + 3600000000000 }))
      else done (laneCause (record (updLane s lane (fun l => { idleLane l with passes := 0, retestAt := 0 })) 0x1102 lane 0 0))
    else
      done (countLaneFailure (updLane s lane (fun l => { l with passes := 0, retestAt := s.now + 3600000000000 })) l)
  else done s

/- Gain (R49, R50). -/

/-- Steps of 24 quarter-dB that bring `excess` quarter-dB down to 0 or below. -/
def stepsDown (excess : Int) : Nat := ((excess + 23) / 24).toNat

/-- The gain state a chain wants (R49): current state, peak in 0.25 dBFS, headroom in dB, clipped. -/
def wantedGain (g : Nat) (peak : Int) (headroom : Nat) (clipped : Bool) : Nat :=
  let h : Int := 4 * headroom
  if clipped then g - max 2 (stepsDown (peak + h))
  else if -h < peak then g - stepsDown (peak + h)
  else if peak < -h - 36 then min 10 (g + ((-h - peak) / 24).toNat)
  else g

/-- Announce one chain's gain; clipping while a lane holds the chain is recorded (R49, R50). -/
def announceChain (s : State) (chain : Nat) (peak : Int) (clipped : Nat) : State :=
  let g := FMap.getD s.rx.gain chain 0
  let w := wantedGain g peak (objN s 0x2120 0) (clipped != 0)
  let s := if clipped != 0 && 0 < chainHolders s chain then record s 0x1111 chain clipped (chainHolders s chain) else s
  { s with rx := { s.rx with announced := if w = g then FMap.del s.rx.announced chain else FMap.put s.rx.announced chain w } }

/-- R49: near the end of a slot the sequencer computes and announces each chain's gain. -/
def execGainAnnounce (bandSector : Nat) (peakA peakB : Int) (clippedA clippedB : Nat) (s : State) :
    Host.Outcome State Fault Refusal :=
  if receives s bandSector then
    done (announceChain (announceChain s bandSector peakA clippedA) (bandSector + 16) peakB clippedB)
  else done s

/-- A chain's announced step at the slot boundary: committed if no lane holds the chain, deferred otherwise (R50). -/
def commitGain (s : State) (chain : Nat) : State :=
  match FMap.find s.rx.announced chain with
  | some w =>
    let s := { s with rx := { s.rx with announced := FMap.del s.rx.announced chain } }
    if chainHolders s chain = 0 then
      { s with rx := { s.rx with gain := FMap.put s.rx.gain chain w, deferrals := FMap.del s.rx.deferrals chain } }
    else
      let n := FMap.getD s.rx.deferrals chain 0 + 1
      let s := { s with rx := { s.rx with deferrals := FMap.put s.rx.deferrals chain n } }
      if n = objN s 0x2122 0 then record s 0x1110 chain (FMap.getD s.rx.gain chain 0) w else s
  | none => { s with rx := { s.rx with deferrals := FMap.del s.rx.deferrals chain } }

/-- The gain steps of a band at its slot boundary (R50). -/
def commitGains (s : State) (b : Nat) : State :=
  (bandSectors b).foldl (fun s bs => commitGain (commitGain s bs) (bs + 16)) s

/- The noise floor (R60 to R62). -/

/-- Enter one bin's slot value when its parts add up to at least 1,000 us (R60). -/
def enterNoise (s : State) (x : Nat × BinMeasure) : State :=
  if 1000 ≤ x.2.micros then
    let k := 65536 * x.1 + x.2.bin
    let (sum, n) := FMap.getD s.rx.noiseSum k (0, 0)
    { s with rx := { s.rx with noiseSum := FMap.put s.rx.noiseSum k (sum + (x.2.powerA + x.2.powerB) / 2, n + 1) } }
  else s

/-- A pass of a slotframe ends now: it is enabled and the band's slot is a multiple of its LENGTH. -/
def passEnds (s : State) (h : Nat) : Bool :=
  let (on, b, len) := slotframe s h
  on && len != 0 && asnNow s b % len = 0

/-- The published value of a bin with a sum and a count: the mean as an I16 code in 0.25 dBm, a conversion the spec does
not compute (log entry 8). -/
def floorCode (sum n : Nat) : Nat := ofSigned 16 (Config.value 1 [(sum : Int), (n : Int)])

/-- New publication of one bin (R61). -/
def publishBin (s : State) (bs bin : Nat) : Nat × Nat :=
  let (sum, n) := FMap.getD s.rx.noiseSum (65536 * bs + bin) (0, 0)
  if n = 0 then ((noiseOf s bs bin).1, 0) else (floorCode sum n % 65536, n % 65536)

/-- Publish a band-sector's bins and record its stale ones (R61). -/
def publishSector (s : State) (bs : Nat) : State :=
  let bins := List.range (binCount s (bandOf bs))
  let vals := bins.map (fun k => (65536 * bs + k, publishBin s bs k))
  let stale := (vals.filter (fun p => p.2.2 = 0)).length
  let s := { s with rx := { s.rx with noise := vals.foldl (fun m p => FMap.put m p.1 p.2) s.rx.noise } }
  if 0 < stale then record s 0x1130 bs stale (asnNow s (bandOf bs) % 2 ^ 32) else s

/-- R61: MS publishes the noise floor at the end of each pass of NF_SLOTFRAME. -/
def execNoiseFloorPublish (s : State) : Host.Outcome State Fault Refusal :=
  let h := objN s 0x2160 0
  if lsfRuns s.power.dev && passEnds s h then
    let s := (allBandSectors.filter (fun bs => bandEnabled s (bandOf bs))).foldl publishSector s
    done { s with rx := { s.rx with
      noiseSum := [], noiseAsn := asnNow s (slotframe s h).2.1, noisePasses := s.rx.noisePasses + 1 } }
  else done s

/-- The 16-bin window from a bin of a band-sector (R62). -/
def noiseWindow (s : State) (bs first : Nat) : Octets :=
  ((List.range 16).map (fun i =>
    let (f, n) := if first + i < binCount s (bandOf bs) then noiseOf s bs (first + i) else (0x8000, 0)
    beOctets 2 f ++ beOctets 2 n)).flatten

/-- The check of NF_CURSOR's own rule: a band-sector subindex (Table 2-9). -/
def nfCursorCheck (value : Nat) : Nat := require (1 ≤ value / 65536 % 256 && value / 65536 % 256 ≤ 9) stRange

/-- The effect of a write of NF_CURSOR: the window and its ASN are latched (R62). -/
def nfCursorApply (who : Caller) (value : Nat) (s : State) : State :=
  let s := setCursor s who 0x2161 (beOctets 4 value)
  let s := setWindow s who 0x2162 (noiseWindow s (value / 65536 % 256) (value % 65536))
  setWindow s who 0x2163 (beOctets 5 s.rx.noiseAsn)

/-- R62: a write of NF_CURSOR latches a 16-bin window of the latest publication. -/
def execNfCursorWrite (who : Caller) (value : Nat) (s : State) : Host.Outcome State Fault Refusal :=
  done (command s who 0x2161 0 (beOctets 4 value) (fun _ => nfCursorCheck value) (nfCursorApply who value))

/-- R65: the command clears all RX_COUNTERS. -/
def execRxCountersClear (who : Caller) (s : State) : Host.Outcome State Fault Refusal :=
  done (command s who 0x2171 0 [byte 0] (fun _ => 0) (fun s => clearCounters s 0x2170))

end Sys2Proof.Machine
end

