-- ==== Sys2Proof/Machine/Slot.lean ====
section
/-! DEFINITION. Slot boundaries, the resolution of look-ahead entries and the securing deadline (R50, R60, R135, R139,
R305). -/

namespace Sys2Proof.Machine

/-- Note a cell's outcome for CELL_OUTCOME (Tables 11-6 and 11-7). -/
def addOutcome (s : State) (cell bs code onTime : Nat) : State :=
  if journals s then { s with twin := { s.twin with outcomes := s.twin.outcomes ++ [(cell, bs, code, onTime)] } } else s

/-- The end of a reference slot in the journal: its outcomes, then SLOT_END, whose ASN is the slot that ended (R305). -/
def journalSlotEnd (s : State) : State :=
  if journals s then
    let s := if s.twin.outcomes.isEmpty then s else journal s 0 (.cellOutcome s.twin.outcomes)
    let s := journalIn s (refAsn s - 1) 0 (.slotEnd s.twin.slotRecords)
    { s with twin := { s.twin with slotRecords := 0, outcomes := [] } }
  else s

/-- Entries a sequencer requests at the start of slot m - 2 for the active cells of slot m (R139). -/
def requestEntries (s : State) (bs asn : Nat) : List LookEntry :=
  ((s.sched.cells.filter (fun p =>
      p.2.bandSector = bs && !p.2.suspended && cellActive s p.2 asn)).map (fun p =>
    { bandSector := bs, asn := asn, index := p.1, cell := p.2, firstBin := 0, resolved := false })).take
      (if bs = 9 then 256 else 480)

/-- Affected active cells that a slot skips because their band-sector is out of service are counted (R141). -/
def countSuspended (s : State) (bs asn : Nat) : State :=
  let n := (s.sched.cells.filter (fun p => p.2.bandSector = bs && p.2.suspended && cellActive s p.2 asn)).length
  countBy s 0x4150 bs 5 n

/-- Skip the entries of a slot not resolved by the start of the slot before it: word 3 and event 0x3010 (R139). -/
def skipLate (s : State) (bs asn : Nat) : State :=
  let late := s.sched.look.filter (fun e => e.bandSector = bs && e.asn = asn && !e.resolved)
  if late.isEmpty then s
  else
    let s := late.foldl (fun s e => if e.cell.tx then addOutcome s e.index bs 8 0 else s) s
    let s := countBy s 0x4150 bs 3 late.length
    let s := record s 0x3010 bs (asn % 2 ^ 32) late.length
    { s with sched := { s.sched with
        look := s.sched.look.filter (fun e => !(e.bandSector = bs && e.asn = asn && !e.resolved)) } }

/-- One band-sector's look-ahead work at the start of slot `a` (R139): old entries retired, late ones skipped, those of
slot a + 2 requested. -/
def lookStep (a : Nat) (s : State) (bs : Nat) : State :=
  let s := { s with sched := { s.sched with look := s.sched.look.filter (fun e => !(e.bandSector = bs && e.asn < a)) } }
  let s := skipLate s bs (a + 1)
  let s := countSuspended s bs a
  { s with sched := { s.sched with look := s.sched.look ++ requestEntries s bs (a + 2) } }

/-- A slot of a band begins. `idle` holds the bins' idle measurements of the slot that ended (R60, R135, R139). -/
def slotBegins (s : State) (b a : Nat) (idle : List (Nat × BinMeasure)) : State :=
  let s := { s with
    sched := { s.sched with slotNow := FMap.put s.sched.slotNow b a }
    power := { s.power with pasWait := s.power.pasWait.filter (· ≠ b) } }
  let s := commitGains s b
  let s := (idle.filter (fun x => bandOf x.1 = b)).foldl enterNoise s
  let s := (bandSectors b).foldl (lookStep a) s
  let s := if b = refBand s then journalSlotEnd s else s
  { s with sched := { s.sched with lengthPending := s.sched.lengthPending.keep (fun h p =>
    !((slotframe s h).2.1 = b && p.2 ≤ a)) } }

/-- R139: the entries of a slot are resolved to their channels, or skipped once slot m - 1 has begun. -/
def execLookaheadResolved (bandSector asn : Nat) (s : State) : Host.Outcome State Fault Refusal :=
  let own := s.sched.look.filter (fun e => e.bandSector = bandSector && e.asn = asn && !e.resolved)
  if own.isEmpty then done s
  else if asn ≤ asnNow s (bandOf bandSector) + 1 then done (skipLate s bandSector asn)
  else
    let s := { s with sched := { s.sched with look := s.sched.look.map (fun e =>
      if e.bandSector = bandSector && e.asn = asn then { e with firstBin := cellChannel s e.cell asn, resolved := true }
      else e) } }
    done (countBy s 0x4150 bandSector 0 own.length)

end Sys2Proof.Machine
end

