-- ==== Sys2Proof/Machine/Exchange.lean ====
section
/-! DEFINITION. Acknowledgements, received air frames, and the acknowledgement decision (R145 to R159, R307). -/

namespace Sys2Proof.Machine

/-- Security level of an acknowledgement, from its MIC length. -/
def levelOfTag (n : Nat) : Nat := if n = 8 then 6 else if n = 16 then 7 else 5

/-- A sealed body verifies under a key, sender, counter and level (R157). -/
def sealVerifies (key eui : Octets) (fc level : Nat) (x : Sealed) : Bool :=
  let n := ccmNonce eui fc level
  let plain := if 4 ≤ level then ccmCipher key n x.body else x.body
  let tag := if 4 ≤ level then ccmTag key n x.clear plain (micLen level)
    else ccmTag key n (x.clear ++ plain) [] (micLen level)
  tag = x.tag && tag.length = micLen level

/-- The opened body of a sealed frame. -/
def openBody (key eui : Octets) (fc level : Nat) (x : Sealed) : Octets :=
  if 4 ≤ level then ccmCipher key (ccmNonce eui fc level) x.body else x.body

/-- An acknowledgement is that of a plan: enhanced, its channel, its window, its sequence number (R146). -/
def ackMatches (s : State) (bs : Nat) (p : TxPlan) (a : AckFrame) : Bool :=
  a.enhanced && a.firstBin = p.firstBin && ackOpens s bs p ≤ a.startNs && a.startNs ≤ ackCloses s bs p && a.seq = p.seqNo

/-- An acknowledgement that matches and passes its MIC and counter checks completes the frame it answers (R146, R147). -/
def ackAccepted (s : State) (bs : Nat) (p : TxPlan) (a : AckFrame) : State :=
  match nodeAt s (planIndex p) with
  | some n =>
    let key := (nodeKey s n.homeEui n.eui false).getD []
    if ackMatches s bs p a ∧ n.rxFc < a.counter ∧
        sealVerifies key n.eui a.counter (levelOfTag a.sealedBody.tag.length) a.sealedBody then
      let s := updNode s (planIndex p) (fun n => { n with rxFc := a.counter, heardAt := s.now })
      let s := if a.mapAck.isEmpty then s else mapAck s (p.peer.getD 0) (bandOf bs) a.mapAck true
      completePlan s bs p a.nack
    else s
  | none => s

/-- An acknowledgement as an AIR_RX record carries it: NACK, frame type and Map Ack in the octets (Table 11-6, R309). -/
def ackRecord (s : State) (bs : Nat) (p : TxPlan) (a : AckFrame) : JournalBody :=
  let n := nodeAt s (planIndex p)
  .airRx (byte (2 * bitNat a.enhanced + bitNat a.nack) :: a.mapAck)
    { bandSector := bs, lane := 0, version := 2, macType := .ack, secured := true
      level := levelOfTag a.sealedBody.tag.length, counterPlain := true, keyMode := 0, keyIndex := 0, keySource := []
      dest := meshEui s, source := (n.map (·.eui)).getD [], hasSeq := true, seq := a.seq, counter := a.counter
      ackRequested := false, startNs := a.startNs, endNs := a.startNs, mode := p.mode, firstBin := a.firstBin, rssi := 0
      sealedBody := a.sealedBody }

/-- The acknowledgement an AIR_RX record carries. -/
def ackOfRecord (octets : Octets) (f : AirFrame) : AckFrame :=
  let flags := fieldOf octets 0 1
  { startNs := f.startNs, firstBin := f.firstBin, seq := f.seq, counter := f.counter, nack := bitOf flags 0
    enhanced := bitOf flags 1, sealedBody := f.sealedBody, mapAck := octets.drop 1 }

/-- R146, R147: an acknowledgement that matches and passes its MIC and counter checks completes the frame. The active chip
of a pair journals it. -/
def execAckRx (bandSector : Nat) (ack : AckFrame) (s : State) : Host.Outcome State Fault Refusal :=
  match awaitingAck s bandSector with
  | some p => done (ackAccepted (journal s 0 (ackRecord s bandSector p ack)) bandSector p ack)
  | none => done s

/-- R147: the acknowledgement window closes; the transmission is unacknowledged. -/
def execAckWindowClose (bandSector : Nat) (s : State) : Host.Outcome State Fault Refusal :=
  match awaitingAck s bandSector with
  | some p => if ackCloses s bandSector p ≤ s.now then done (unackedPlan s bandSector p) else done s
  | none => done s

/- Received frames (R157, R158). -/

/-- Step 1: the frame is as Table 6-1 accepts it. -/
def formatOk (f : AirFrame) : Bool :=
  f.version = 2 && f.secured && f.hasSeq && f.counterPlain && f.source.length = 8 &&
  (match f.macType with
    | .data => 5 ≤ f.level && f.level ≤ 7
    | .command => 5 ≤ f.level && f.level ≤ 7
    | .ack => 5 ≤ f.level && f.level ≤ 7
    | .beacon => f.level = 1
    | .other => false) &&
  (f.keyMode = 0 || (f.keyMode = 1 && f.keyIndex = 1) || (f.keyMode = 3 && f.keyIndex = 1 && f.keySource.length = 8))

/-- The frame is addressed to the chip itself (Table 6-1). -/
def toChip (s : State) (f : AirFrame) : Bool := f.dest = meshEui s || f.dest = beOctets 2 (ownIndex s)

/-- Step 2: the address filter. -/
def addressOk (s : State) (f : AirFrame) : Bool := toChip s f || f.dest = beOctets 2 0xFFFF

/-- Step 3: the key of a frame: the node's "up" key, or the sender's "net" key. -/
def frameKey (s : State) (f : AirFrame) : Option Octets :=
  match f.keyMode with
  | 0 => match nodeByEui s f.source with
    | some (_, n) => nodeKey s n.homeEui f.source false
    | none => none
  | 3 => nodeKey s f.keySource f.source false
  | _ => purposeKey s f.source 1

/-- The counter a frame is compared with: RX_FC of its context, or the peer's "net" counter (R158). -/
def storedFc (s : State) (f : AirFrame) : Option Nat :=
  if f.keyMode = 1 then (s.link.peers.find? (fun p => p.2.eui = f.source)).map (fun p => p.2.netFc)
  else (nodeByEui s f.source).map (fun p => p.2.rxFc)

/-- The acknowledgement a frame is owed (R148). -/
def ackDueOf (s : State) (f : AirFrame) (i : Nat) : AckDue :=
  let l := laneOf s f.lane
  { handle := handleOf s i, bandSector := f.bandSector, startNs := f.startNs, endNs := f.endNs,
    cls := fieldOf l.descriptor 13 1 / 32, cell := l.cell, seq := f.seq, mode := f.mode, firstBin := f.firstBin,
    nack := false, mapAck := none }

/-- Owe an acknowledgement where the frame asks for one and is the chip's; a result after the deadline comes too late
(R148). -/
def oweAck (s : State) (f : AirFrame) (i : Nat) : State :=
  if f.ackRequested && toChip s f then
    if f.endNs + 700000 < s.now then countL s f.bandSector 9
    else { s with link := { s.link with acksDue := s.link.acksDue ++ [ackDueOf s f i] } }
  else s

/-- Note an authenticated frame of a node (Table 6-13). -/
def noteHeard (s : State) (f : AirFrame) (i : Nat) : State :=
  updActive (updNode s i (fun n => { n with
    heardBs := f.bandSector, lastHeard := asnNow s (bandOf f.bandSector), heardAt := s.now, dsnRx := f.seq
    rssi := Config.value 4 [n.rssi, f.rssi] })) i

/-- Step 5: Table 6-6 for a frame of a context; the frame waits for its admission to a queue (R158, R159). -/
def fcCheck (s : State) (f : AirFrame) (i : Nat) (n : Node) : State :=
  if n.rxFc < f.counter then
    let s := oweAck (noteHeard s f i) f i
    { s with link := { s.link with fcPending := FMap.put s.link.fcPending i f.counter } }
  else if n.rxFc = f.counter then oweAck (countL (noteHeard s f i) f.bandSector 6) f i
  else record (countL s f.bandSector 5) 0x6101 (handleOf s i) f.counter n.rxFc

/-- Step 5 for a mode-1 frame: the peer's "net" counter. -/
def netFcCheck (s : State) (f : AirFrame) : State :=
  match s.link.peers.find? (fun p => p.2.eui = f.source) with
  | some (k, p) =>
    if p.netFc < f.counter then
      { s with link := { s.link with peers := FMap.put s.link.peers k { p with netFc := f.counter } } }
    else if f.counter < p.netFc then record (countL s f.bandSector 5) 0x6101 (k * 131072) f.counter p.netFc
    else s
  | none => s

/-- R157: the steps on a received frame, stopping at the first failure. -/
def airProcess (s : State) (f : AirFrame) : State :=
  let ctx := nodeByEui s f.source
  if !formatOk f then countL s f.bandSector 1
  else if !addressOk s f then countL s f.bandSector 2
  else
    let known := match ctx with
      | some (_, n) => n.state != .joining
      | none => false
    if f.keyMode = 0 && !known then countL s f.bandSector 3
    else match frameKey s f with
      | none => countL s f.bandSector 4
      | some key =>
        if !sealVerifies key f.source f.counter f.level f.sealedBody then
          record (countL s f.bandSector 4) 0x6100 (fieldOf f.source 4 4) 0 f.bandSector
        else match f.keyMode, ctx with
          | 1, _ => netFcCheck s f
          | 0, some (i, _) =>
            let s := settleFrame s i
            match nodeAt s i with
            | some n => fcCheck s f i n
            | none => s
          | _, _ => s

/-- R157: a received air frame; the active chip journals it as its lane closes it (Table 11-6). -/
def execAirRxJob (f : AirFrame) (s : State) : Host.Outcome State Fault Refusal :=
  if s.power.dev = .active then
    done (airProcess (journal s 0 (.airRx (laneOf s f.lane).descriptor f)) f)
  else done s

/- The acknowledgement (R148 to R153). -/

/-- Time correction in us: expected less measured start, rounded and clamped (R151). -/
def timeCorrection (s : State) (a : AckDue) : Int :=
  let b := bandOf a.bandSector
  let measured : Int := (a.startNs : Int) + ((domainTime s : Int) - (s.now : Int))
  let expected : Int := (slotStart s b (asnAt s b measured.toNat) : Int) + (slotField s b 1 * 1000 : Nat)
  max (-2048) (min 2047 ((expected - measured + 500) / 1000))

/-- Mode of an acknowledgement: the frame's, or option 1 at FALLBACK_MCS for OFDM-BL (R152). -/
def ackMode (s : State) (a : AckDue) : Nat :=
  if 0x80 ≤ a.mode then
    0x40 + (match (blLink s a.handle (bandOf a.bandSector)).cur with | some m => m.fallback | none => 0)
  else a.mode

/-- A mode code of a coded FSK frame (R67). -/
def codedMode (mode : Nat) : Bool := familyOf mode = .fsk && mode / 8 % 2 = 1

/-- Airtime of an acknowledgement of a length. -/
def ackAirtime (mode len : Nat) : Nat := airtimeUs mode 8 (codedMode mode) 1 len

/-- Whether the Map Ack fits the acknowledgement (R153). -/
def mapAckFits (s : State) (a : AckDue) : Bool :=
  a.mapAck.isSome && ackAirtime (ackMode s a) 27 ≤ slotField s (bandOf a.bandSector) 8

/-- The octets of an acknowledgement (Table 6-4, R153). -/
def ackOctets (s : State) (a : AckDue) (n : Node) : Octets :=
  let tc := ofSigned 12 (timeCorrection s a)
  let head := [byte 0x0A, byte 0x22, byte a.seq, byte 0x05] ++ leOctets 4 n.txFc ++ [byte 0x02, byte 0x0F] ++
    leOctets 2 (tc + bitNat a.nack * 32768)
  let key := (nodeKey s n.homeEui n.eui true).getD []
  match mapAckFits s a, a.mapAck with
  | true, some b1 => secureFrame key (meshEui s) (head ++ leOctets 2 0x3F00) (vendorIe s [byte 2, byte b1]) n.txFc 5 ++ zeros 2
  | _, _ => secureFrame key (meshEui s) head [] n.txFc 5 ++ zeros 2

/-- Start (ns) of an acknowledgement: TsTxAckDelay after the frame's end. -/
def ackStart (s : State) (a : AckDue) : Nat := a.endNs + slotField s (bandOf a.bandSector) 4 * 1000

/-- The receipt for a node's AIR_RX record is still missing (R307). -/
def airAwaited (s : State) (eui : Octets) : Bool :=
  receiptAwaited s (fun b => match b with
    | .airRx _ f => f.source = eui
    | _ => false)

/-- The plan of an acknowledgement. -/
def ackPlan (s : State) (a : AckDue) (n : Node) : TxPlan :=
  let octets := ackOctets s a n
  { kind := .ack, startAt := ackStart s a, cell := a.cell, peer := some a.handle, cls := a.cls, mode := ackMode s a
    firstBin := a.firstBin, seqNo := a.seq, octets := octets, onTime := ackAirtime (ackMode s a) octets.length + 20
    port := portNow s a.bandSector, secured := true }

/-- R148, R149: the decision on one frame's acknowledgement. -/
def decideAck (s : State) (a : AckDue) : State :=
  let i := localIndex a.handle
  let s := reserveFc (settleFrame s i) i
  match nodeAt s i with
  | some n =>
    if s.link.fcPending.has i || airAwaited s n.eui || fcAwaited s a.handle || fcExhausted s i then
      countL s a.bandSector 9
    else if slotField s (bandOf a.bandSector) 8 < ackAirtime (ackMode s a) 18 then countL s a.bandSector 11
    else if (chainOf s a.bandSector).plan.isSome then
      addOutcome (countL s a.bandSector 10) (a.cell.getD 0) a.bandSector 11 0
    else
      let p := ackPlan s a n
      let s := updChain s a.bandSector (fun c => { c with plan := some p })
      let s := if mapAckFits s a then s
        else match a.mapAck with
          | some b1 => updBl s a.handle (bandOf a.bandSector) (fun r => { r with sendAck := some b1 })
          | none => s
      let s := countL (useFc s i) a.bandSector 7
      if a.nack then countL s a.bandSector 8 else s
  | none => s

/-- One acknowledgement comes before another: earlier end, then class, then cell (R149). -/
def ackBefore (a b : AckDue) : Bool :=
  a.endNs < b.endNs || (a.endNs = b.endNs && (a.cls < b.cls || (a.cls = b.cls && a.cell.getD 0 ≤ b.cell.getD 0)))

/-- Insert in the order of R149. -/
def insertAck (a : AckDue) : List AckDue → List AckDue
  | [] => [a]
  | b :: l => if ackBefore a b then a :: b :: l else b :: insertAck a l

/-- R148: the decision deadline, 700 us after the frame's end. -/
def execAckDecisionDeadline (bandSector : Nat) (s : State) : Host.Outcome State Fault Refusal :=
  let due := s.link.acksDue.filter (fun a => a.bandSector = bandSector && a.endNs + 700000 ≤ s.now)
  let s := { s with link := { s.link with
    acksDue := s.link.acksDue.filter (fun a => !(a.bandSector = bandSector && a.endNs + 700000 ≤ s.now)) } }
  done ((due.foldl (fun l a => insertAck a l) []).foldl decideAck s)

/-- R175: the command clears all LINK_COUNTERS. -/
def execLinkCountersClear (who : Caller) (s : State) : Host.Outcome State Fault Refusal :=
  done (command s who 0x4241 0 [byte 0] (fun _ => 0) (fun s => clearCounters s 0x4240))

end Sys2Proof.Machine
end

