-- ==== Sys2Proof/Machine/SettLink.lean ====
section
/-! DEFINITION. Sett frames: their layout, how a chip secures and sends one, and how it verifies one (R284 to R286). -/

namespace Sys2Proof.Machine

/-- The 24 header octets of a sett frame, with a TTL (Table 11-2). -/
def settHeader (f : SettFrame) (ttl : Nat) : Octets :=
  [byte (f.typ % 16 * 16 + bitNat f.enc * 8 + f.cls % 8), byte (ttl % 16 * 16)] ++
    beOctets 2 (bitNat f.bcast * 32768 + f.destChip % 4096) ++ beOctets 2 (f.srcChip % 4096) ++
    beOctets 2 (f.origChip % 4096) ++ beOctets 2 f.payload.length ++ zeros 2 ++ beOctets 4 f.srcHandle ++
    beOctets 8 f.senderFc

/-- IV of a sett frame (R285). -/
def settIv (f : SettFrame) : Octets := beOctets 2 (f.origChip % 4096) ++ zeros 2 ++ beOctets 8 f.senderFc

/-- Tag of a sett frame as its payload stands, enciphered or not (R285). -/
def settTag (key : Octets) (f : SettFrame) : Octets :=
  let aad := settHeader f 0
  if f.enc then gcmTag key (settIv f) aad f.payload else gcmTag key (settIv f) (aad ++ f.payload) []

/-- Secure a frame under a key (R285). -/
def settSeal (key : Octets) (f : SettFrame) : SettFrame :=
  let f := if f.enc then { f with payload := gcmCipher key (settIv f) f.payload } else f
  { f with tag := settTag key f }

/-- A frame's tag verifies under a key. -/
def settVerifies (key : Octets) (f : SettFrame) : Bool := settTag key f = f.tag

/-- The payload of a verified frame. -/
def settPayload (key : Octets) (f : SettFrame) : Octets :=
  if f.enc then gcmCipher key (settIv f) f.payload else f.payload

/-- SRC_CHIP of the chip's frames: its pair index when it is the active chip of a pair, else its own (R288). -/
def settSource (s : State) : Nat := if s.power.dev = .active then ownIndex s else chipIndex s

/-- Take the next SENDER_FC, the block's end persisted first (R286). -/
def reserveSender (s : State) : State :=
  if s.sett.senderFcEnd ≤ s.sett.senderFc then
    { s with sett := { s.sett with senderFcEnd := s.sett.senderFc + 65536 } }
  else s

/-- Consume a SENDER_FC. -/
def useSender (s : State) : State := { s with sett := { s.sett with senderFc := s.sett.senderFc + 1 } }

/-- A port carries frames: it is up, and for EAST and WEST the bypass is open (R282, R295). -/
def portCarries (s : State) (p : Nat) : Bool :=
  (FMap.getD s.sett.ports p {}).state = .up && !((p = 1 || p = 2) && s.power.bypassOn)

/-- Raise a word of SETT_COUNTERS of a port (Table 11-14). -/
def countS (s : State) (port word : Nat) : State := count s 0x9020 port word

/-- Send a formed frame on a port that carries frames; word 0 counts it. -/
def settPut (s : State) (p : Nat) (f : SettFrame) : State :=
  if portCarries s p then emit (countS s p 0) (.sett p f) else s

/-- The chip's own "set" key (Table 10-5). -/
def setKey (s : State) : Option Octets := purposeKey s (meshEui s) 5

/-- Form, secure and send one frame of the chip on some ports. -/
def settOriginate (s : State) (ports : List Nat) (typ : Nat) (enc : Bool) (cls dest : Nat) (bcast : Bool) (ttl handle : Nat)
    (payload : Octets) : State :=
  match setKey s with
  | some key =>
    let s := reserveSender s
    let f : SettFrame := { typ := typ, enc := enc, cls := cls, ttl := ttl, bcast := bcast, destChip := dest,
                           srcChip := settSource s, origChip := chipIndex s, srcHandle := handle,
                           senderFc := s.sett.senderFc, payload := payload, tag := [] }
    let f := settSeal key f
    useSender (ports.foldl (fun s p => settPut s p f) s)
  | none => s

/-- ROLE of Announcements and census: 0 single ACTIVE, 1 ACTIVE with a twin, 2 FOLLOWER, 3 MAINTENANCE or LOAD
(Tables 6-12 and 11-4). -/
def peerRole (s : State) : Nat := match s.power.dev with
  | .active => bitNat (hasPartner s)
  | .follower => 2
  | _ => 3

end Sys2Proof.Machine
end

