-- ==== Sys2Proof/Machine/TimeSource.lean ====
section
/-! DEFINITION. Domain time: the source entries, the time state, the slew, the guard's cap, persistence, PPS and PTP
(R120 to R131). -/

namespace Sys2Proof.Machine

/-- One entry of TIME_SOURCES (Table 5-2). -/
structure SourceCfg where
  typ : Nat
  enable : Bool
  portBand : Nat
  paramB : Int
  ebSeconds : Nat
  eui : Octets
  deriving DecidableEq, Repr

/-- Entry `i` of TIME_SOURCES. -/
def sourceCfg (s : State) (i : Nat) : SourceCfg :=
  let l := sliceOf (obj s 0x4010 0) (12 * i) 12
  let b := fieldOf l 0 1
  { typ := b / 64, enable := bitOf b 5 && l.length = 12, portBand := fieldOf l 1 1
    paramB := toSigned 8 (fieldOf l 3 1), ebSeconds := fieldOf l 2 2, eui := sliceOf l 4 8 }

/-- State of an entry. -/
def timeEntry (s : State) (i : Nat) : TimeEntry := FMap.getD s.time.entries i {}

/-- Change an entry's state. -/
def updEntry (s : State) (i : Nat) (f : TimeEntry → TimeEntry) : State :=
  { s with time := { s.time with entries := FMap.putD s.time.entries i (f (timeEntry s i)) {} } }

/-- Period P of an entry in ns (Table 5-3). -/
def sourcePeriod (c : SourceCfg) : Nat :=
  match c.typ with
  | 0 => 1000000000
  | 1 => if c.paramB < 0 then 1000000000 / 2 ^ (-c.paramB).toNat else 1000000000 * 2 ^ c.paramB.toNat
  | 2 => 100000000
  | _ => c.ebSeconds * 1000000000

/-- Acceptance window W in ns (Table 5-3). -/
def sourceWindow (s : State) (c : SourceCfg) : Nat :=
  match c.typ with
  | 0 => objField s 0x4019 0 7 2
  | 1 => sourcePeriod c / 2
  | 2 => 1000
  | _ => guardUs s c.portBand * 1000

/-- Delay after the expected instant at which a miss is declared, ns (Table 5-3). -/
def missDelay (s : State) (c : SourceCfg) : Nat := if c.typ = 2 then 50000000 else sourceWindow s c

/-- The chip is itself the ring master: a SETT entry is passed over (R125). -/
def ringMaster (s : State) : Bool := s.sett.master = some (chipIndex s)

/-- The first qualified entry that is not lost (R126). -/
def bestEntry (s : State) : Option Nat :=
  [0, 1, 2, 3].find? (fun i =>
    let e := timeEntry s i
    let c := sourceCfg s i
    c.enable && e.qualified && !e.lost && !(c.typ = 2 && ringMaster s))

/-- MARK blocks of the active chip arrive on TWIN: the last one is not yet missed (Table 5-3: 50 ms after the next was
due). -/
def twinMarks (s : State) : Bool := match (FMap.getD s.sett.ports 3 {}).mark with
  | some (_, _, _, t) => s.now < t + 150000000
  | none => false

/-- The chip runs its own selection: not a follower that applies journaled time or steers to the active chip's marks
(R127). -/
def selectsTime (s : State) : Bool :=
  lsfRuns s.power.dev && !(s.power.dev = .follower && hasPartner s && (shadows s || twinMarks s))

/-- Begin slewing an offset out; the part of the former slew already made stays (R122). -/
def startSlew (s : State) (offset : Int) : State :=
  { s with time := { s.time with
      offset := s.time.offset + slewDone s, slew := offset, slewAt := s.now, lastOffset := offset } }

/-- Step domain time by an offset (R122). -/
def stepTime (s : State) (offset : Int) : State :=
  { s with time := { s.time with
      offset := s.time.offset + slewDone s + offset, slew := 0, slewAt := s.now, lastOffset := offset } }

/-- A MESH entry names a peer marked mismatched: its events count as missing (R172). -/
def fromMismatched (s : State) (c : SourceCfg) : Bool :=
  c.typ = 3 && s.link.peers.any (fun p => p.2.eui = c.eui && p.2.mismatched)

/-- An event is good: in its window, secured where Table 5-3 asks it, not an outlier, not before ASN_EPOCH (R125). -/
def goodEvent (s : State) (c : SourceCfg) (e : TimeEntry) (implied : Int) (secured : Bool) : Bool :=
  let inWindow := match e.expected with
    | some t => t ≤ s.now + sourceWindow s c && s.now ≤ t + sourceWindow s c
    | none => true
  let off := (implied - domainTime s).natAbs
  inWindow && (c.typ != 3 || secured) && !fromMismatched s c && (objN s 0x4001 0 : Int) ≤ implied &&
    (!timeAcquired s || e.expected.isNone || off ≤ objN s 0x4018 0 * 1000)

/-- A good event advances its entry: four qualify it, sixteen after a loss (R125). -/
def advanceEntry (s : State) (c : SourceCfg) (e : TimeEntry) (offset : Int) : TimeEntry :=
  let good := e.good + 1
  let reached := (if e.lost then 16 else 4) ≤ good
  { e with
    good := good, misses := 0, total := e.total + 1, offset := offset, expected := some (s.now + sourcePeriod c)
    qualified := e.qualified || reached, lost := e.lost && !reached }

/-- Journal a time-source event with its implied offset (R127, Table 11-6). -/
def journalTime (s : State) (i : Nat) (c : SourceCfg) (miss : Bool) (offset : Int) : State :=
  journal s 0 (.timeEvent i c.typ miss s.time.mode.code offset s.time.slew)

/-- A timing event of an entry, with the domain time it implies (R125). -/
def timeEvent (s : State) (entry : Nat) (implied : Int) (secured : Bool) (bandSector : Nat) : State :=
  let c := sourceCfg s entry
  if 4 ≤ entry ∨ !c.enable ∨ !selectsTime s then s
  else
    let e := timeEntry s entry
    let offset := implied - domainTime s
    let late := match e.expected with
      | some t => t + sourceWindow s c < s.now || s.now + sourceWindow s c < t
      | none => false
    if late && !e.qualified then
      -- the new first event of an entry that has not qualified
      let first : TimeEntry := { e with expected := none, good := 0 }
      if goodEvent s c first implied secured then
        journalTime (updEntry s entry (fun _ => advanceEntry s c first offset)) entry c false offset
      else updEntry s entry (fun _ => first)
    else if goodEvent s c e implied secured then
      let s := journalTime s entry c false offset
      let s := updEntry s entry (fun e => advanceEntry s c e offset)
      let s := if c.typ = 3 then count s 0x4150 bandSector 7 else s
      if s.time.mode = .locked ∧ s.time.active = some entry then startSlew s offset else s
    else s

/-- R125: a timing event of an entry, with the domain time it implies; in LOCKED the active source's offset is slewed
out (R122). -/
def execTimeSourceEvent (entry : Nat) (implied : Int) (secured : Bool) (bandSector : Nat) (s : State) :
    Host.Outcome State Fault Refusal := done (timeEvent s entry implied secured bandSector)

/-- R125: a period passes without a good event; three misses make a qualified entry lost, a miss restarts the count of
one that has not qualified. -/
def execTimeSourceMiss (entry : Nat) (s : State) : Host.Outcome State Fault Refusal :=
  let c := sourceCfg s entry
  let e := timeEntry s entry
  match e.expected with
  | some t =>
    if 4 ≤ entry ∨ !c.enable ∨ !selectsTime s ∨ s.now < t + missDelay s c then done s
    else
      let s := journalTime s entry c true 0
      if e.qualified ∧ !e.lost then
        if 2 ≤ e.misses then
          done (updEntry s entry (fun e =>
            { e with qualified := false, lost := true, good := 0, misses := 0, expected := none }))
        else done (updEntry s entry (fun e => { e with good := 0, misses := e.misses + 1, expected := some (t + sourcePeriod c) }))
      else done (updEntry s entry (fun e => { e with good := 0, expected := none }))
  | none => done s

/-- DEGRADED bit 5 follows HOLDOVER (Table 1-12). -/
def setMode (s : State) (m : TimeMode) : State :=
  setCause { s with time := { s.time with mode := m } } 5 (m = .holdover)

/-- Lock to an entry, slewing its offset; from HOLDOVER the guard is kept until the slew ends (Table 5-4). -/
def lockTo (s : State) (i : Nat) : State :=
  let kept := if s.time.mode = .holdover then some (guardUs s (refBand s)) else s.time.guardKept
  let since := if s.time.mode = .locked then s.time.lockedAt else some s.now
  let off := (timeEntry s i).offset
  let s := startSlew s off
  let s := setMode { s with time := { s.time with
    active := some i, guardKept := kept, lockedAt := since, holdoverAt := none, capReached := [] } } .locked
  record s 0x3001 i (sourceCfg s i).typ (argOf off)

/-- Event 0x3000 for the entry that was active and is lost. -/
def sourceLost (s : State) (i : Nat) : State :=
  let n := (timeEntry s i).total
  updEntry (record s 0x3000 i (sourceCfg s i).typ n) i (fun e => { e with total := 0 })

/-- Drift estimate on entering HOLDOVER: 500 ppb under 3,600 s of lock, else the larger of TIME_DRIFT_FLOOR and three
standard deviations of the frequency correction, which the spec does not compute (R128, log entry 6). -/
def driftEstimate (s : State) : Nat :=
  if s.now < s.time.lockedAt.getD s.now + 3600000000000 then 500 else max (objN s 0x4016 0) (freeNow s % 65536)

/-- R126: at the reference slot boundary the active source and the time state change (Table 5-4). -/
def execTimeStateChange (s : State) : Host.Outcome State Fault Refusal :=
  if !selectsTime s then done s
  else match s.time.mode, bestEntry s with
    | .unacquired, some i =>
      let off := (timeEntry s i).offset
      let s := stepTime s off
      let s := setMode { s with time := { s.time with active := some i, lockedAt := some s.now } } .locked
      done (record s 0x3004 1 i (argOf (off / 1000)))
    | .unacquired, none => done s
    | .locked, some i =>
      match s.time.active with
      | some j =>
        if i = j then done s
        else if (timeEntry s j).lost then done (lockTo (sourceLost s j) i)
        else done (lockTo s i)
      | none => done (lockTo s i)
    | .locked, none =>
      let last := s.time.active.getD 0xFF
      let s := sourceLost s last
      if objB s 0x4013 0 then done (setMode { s with time := { s.time with active := none } } .root)
      else
        let d := driftEstimate s
        let s := drewFree s
        let s := setMode { s with time := { s.time with active := none, drift := d, holdoverAt := some s.now } } .holdover
        done (record s 0x3002 d last 0)
    | .holdover, some i => done (lockTo s i)
    | .root, some i => done (lockTo s i)
    | .holdover, none => done s
    | .root, none => done s

/-- R130: 10 s after LOAD began with no entry qualified, a TIME_ROOT chip adopts its count and enters ROOT. -/
def execTimeRootTimer (s : State) : Host.Outcome State Fault Refusal :=
  if s.time.mode = .unacquired ∧ lsfRuns s.power.dev ∧ selectsTime s ∧ objB s 0x4013 0 ∧ bestEntry s = none ∧
      s.time.loadAt + 10000000000 ≤ s.now then
    done (record (setMode s .root) 0x3004 3 0xFF 0)
  else done s

/-- R126: every 600 s without acquisition event 0x3006 is recorded. -/
def execUnacquiredReportTimer (s : State) : Host.Outcome State Fault Refusal :=
  if s.time.mode = .unacquired ∧ lsfRuns s.power.dev ∧ objB s 0x4013 0 = false ∧ bestEntry s = none ∧
      s.time.reportDue ≤ s.now then
    let n := ([0, 1, 2, 3].filter (fun i => (sourceCfg s i).enable)).length
    let s := record s 0x3006 ((s.now - s.time.loadAt) / 1000000000) n 0
    done { s with time := { s.time with reportDue := s.now + 600000000000 } }
  else done s

/-- R128: in HOLDOVER the guard of a band reaches TsRxWait / 2 and is held there. -/
def execGuardCapReached (band : Band) (s : State) : Host.Outcome State Fault Refusal :=
  let b := bandCode band
  match s.time.mode, s.time.holdoverAt with
  | .holdover, some t =>
    if guardUs s b = slotField s b 3 / 2 ∧ !s.time.capReached.contains b then
      let s := record s 0x3003 b ((s.now - t) / 1000000000) (guardUs s b)
      done { s with time := { s.time with capReached := b :: s.time.capReached } }
    else done s
  | _, _ => done s

/-- R130: once a minute an acquired chip persists domain time and its time state. -/
def execTimePersist (s : State) : Host.Outcome State Fault Refusal :=
  let due : Bool := match s.time.persisted with
    | some (_, _, w) => decide (w + 60000000000 ≤ s.now)
    | none => true
  if timeAcquired s ∧ lsfRuns s.power.dev ∧ due then
    done { s with time := { s.time with persisted := some (domainTime s, s.time.mode.code, s.now) } }
  else done s

/-- R131: PPS_OUT rises at a whole second of domain time where PPS_CFG, the device state and the time state allow it. -/
def execPpsOutPulse (s : State) : Host.Outcome State Fault Refusal :=
  let second := domainTime s / 1000000000
  if trialState s.power.dev ∧ timeAcquired s ∧ bitOf (objField s 0x4019 0 0 1) 0 ∧ s.time.ppsSecond ≠ some second then
    done (emit { s with time := { s.time with ppsSecond := some second } } (.pps second))
  else done s

/-- The chip serves PTP on an Ethernet port (0 ETH0, 1 ETH1): transmitter role, and not its own active source (R131). -/
def servesPtp (s : State) (port : Nat) : Bool :=
  let role := objField s 0x4017 0 0 1
  let own := match s.time.active with
    | some i => (sourceCfg s i).typ = 1 && ((sourceCfg s i).portBand = port || (sourceCfg s i).portBand = 2)
    | none => false
  (role = 3 || role = port + 1) && port < 2 && !own && timeAcquired s && trialState s.power.dev

/-- R131: the chip sends PTP Sync, two-step, on a port where it serves PTP. -/
def execPtpSyncTx (port : Nat) (s : State) : Host.Outcome State Fault Refusal :=
  if servesPtp s port then
    let n := FMap.getD s.time.ptpSeq port 0
    let s := { s with time := { s.time with ptpSeq := FMap.put s.time.ptpSeq port ((n + 1) % 65536) } }
    done (emit s (.ptp port 0 n (domainTime s) []))
  else done s

/-- R125: a Delay_Req on a port where the chip serves PTP is timestamped and answered with a Delay_Resp. -/
def execPtpDelayRequestRx (port : Nat) (requester : Octets) (sequence : Nat) (s : State) :
    Host.Outcome State Fault Refusal :=
  if servesPtp s port then done (emit s (.ptp port 1 sequence (domainTime s) requester)) else done s

/-- R126: the slew ends; the guard kept since HOLDOVER returns to TIME_GUARD_BASE. -/
def execTimeSlewComplete (s : State) : Host.Outcome State Fault Refusal :=
  if slewDone s = s.time.slew then
    done { s with time := { s.time with
      offset := s.time.offset + s.time.slew, slew := 0, slewAt := s.now, guardKept := none } }
  else done s

end Sys2Proof.Machine
end

