-- ==== Sys2Proof/Machine/PeerMessage.lean ====
section
/-! DEFINITION. Peer messages: their header, their bodies, their CMAC, and how the chip sends them (R170, R171, R299). -/

namespace Sys2Proof.Machine

/-- SENDER_INDEX and SENDER_EUI: the pair's for the active chip of a pair, the chip's own for its follower (R299). -/
def senderIndex (s : State) : Nat := if s.power.dev = .follower then chipIndex s else ownIndex s
def senderEui (s : State) : Octets := if s.power.dev = .follower then Config.deviceEui else meshEui s

/-- Header of a peer message (Table 6-11). -/
def peerHeader (s : State) (typ len : Nat) : Octets :=
  [byte 1, byte typ] ++ beOctets 2 len ++ beOctets 2 (senderIndex s) ++ zeros 2 ++ padTo 8 (senderEui s) ++
    beOctets 8 (domainTime s)

/-- A peer message closed by the CMAC under the sender's "ctl" key (R170). -/
def peerSealed (s : State) (m : Octets) : Option Octets := (purposeKey s (senderEui s) 4).map (fun k => m ++ cmac k m)

/-- The digest of a band's template, 0 where it is disabled (Table 6-12). -/
def templateDigest (s : State) (b : Nat) : Nat :=
  if bandEnabled s b then fieldOf (sha256 ((template s b).map (beOctets 4)).flatten) 0 4 else 0

/-- Join metric of the beacons and Announcements (Table 5-7). -/
def joinMetric (s : State) : Nat :=
  match s.time.mode with
  | .root => 0
  | .locked => match s.time.active with
    | some i => if (sourceCfg s i).typ = 3 then min 255 (s.time.sourceMetric + 1) else 0
    | none => 0
  | .holdover => min 255 (s.time.joinMetric + 16)
  | .unacquired => 255

/-- JOINED nodes, NODES_JOINED. -/
def nodesJoined (s : State) : Nat := (s.link.nodes.filter (fun p => p.2.state = .joined)).length

/-- Body of an Announcement (Table 6-12). -/
def announcementBody (s : State) : Octets :=
  obj s 0x4001 0 ++ ([0, 1, 2].map (fun b => beOctets 4 (templateDigest s b))).flatten ++
    [byte (peerRole s), byte s.time.mode.code, byte (joinMetric s), byte 0] ++ beOctets 4 (nodesJoined s)

/-- A UDP datagram in IPv6 from the chip. -/
def udpPacket (s : State) (dst : Octets) (srcPort dstPort : Nat) (payload : Octets) : Octets :=
  let udp := fun sum => beOctets 2 srcPort ++ beOctets 2 dstPort ++ beOctets 2 (8 + payload.length) ++ beOctets 2 sum ++ payload
  let src := ownAddress s
  let n := 8 + payload.length
  let pseudo := src ++ dst ++ beOctets 4 n ++ zeros 3 ++ [byte 17] ++ udp 0
  let fold := fun v => v % 65536 + v / 65536
  let c := 65535 - fold (fold (fold (wordSum pseudo)))
  beOctets 4 0x60000000 ++ beOctets 2 n ++ [byte 17, byte 64] ++ src ++ dst ++ udp (if c = 0 then 65535 else c)

/-- Ethernet group address of an IPv6 group. -/
def groupMac (dst : Octets) : Octets := octetsOf [0x33, 0x33] ++ sliceOf dst 12 4

/-- Send a peer message on the ports of PEER_PORTS, a follower's over sett only (R170, R299). -/
def sendPeer (s : State) (m : Octets) (dest : Nat) (bcast : Bool) : State :=
  let ports := objN s 0x4230 0
  let group := obj s 0x4232 0
  let port := objN s 0x4231 0
  let eth := fun (s : State) (p : Nat) =>
    if bitOf ports p && s.power.dev = .active then
      newPacket s { packetFor s true (9 + p) 0 false (udpPacket s group port port m) with destMac := groupMac group }
    else s
  let s := [0, 1].foldl eth s
  if bitOf ports 2 then settOriginate s [1, 2, 4] 1 false 0 dest bcast 7 0xFFFFFFFF m else s

/-- Send one Node Moved (Table 6-12). -/
def sendMoved (s : State) (x : Nat × Octets × Nat) : State :=
  match peerSealed s (peerHeader s 2 56 ++ x.2.1) with
  | some m => sendPeer s m x.1 false
  | none => s

end Sys2Proof.Machine
end

