-- ==== Sys2Proof/Machine/Latch.lean ====
section
/-! DEFINITION. The queue latch: the candidates of a slot, their rank, the frame built for the chosen cell, and its
transmission plan (R72, R137 to R140, R186, R187, R197). -/

namespace Sys2Proof.Machine

/- Time gates of the air (R197). -/

/-- Class mask of a GATE_AIR list at a position of its cycle (Table 7-10). -/
def gateAirMask (g : Octets) : Nat → Nat → Nat → Nat
  | 0, _, _ => 0
  | n + 1, i, at_ =>
    let len := fieldOf g (4 + 4 * i) 2
    if at_ < len then fieldOf g (6 + 4 * i) 1 else gateAirMask g n (i + 1) (at_ - len)

/-- The gate of a band-sector is open to a class in a slot. -/
def airGateOpen (s : State) (bs asn cls : Nat) : Bool :=
  let g := FMap.getD s.queues.gates bs []
  let cycle := fieldOf g 0 2
  cycle = 0 || bitOf (gateAirMask g (fieldOf g 2 1) 0 (asn % cycle)) cls

/- Beacons (R138). -/

/-- An enhanced beacon is due: EB_PERIOD has gone since the band-sector's last one. -/
def beaconDue (s : State) (bs : Nat) : Bool := match FMap.find s.sched.beaconAt bs with
  | some t => t + objN s 0x4120 0 * 1000000000 ≤ s.now
  | none => true

/-- A short nested IE of IEEE 802.15.4 (log entry 25). -/
def shortIe (id : Nat) (content : Octets) : Octets := leOctets 2 (id * 256 + content.length) ++ content

/-- The IEs of an enhanced beacon in an advertising cell (Table 5-7). -/
def beaconIes (s : State) (bs asn : Nat) (c : Cell) : Octets :=
  let b := bandOf bs
  let sync := shortIe 0x1A (leOctets 5 asn ++ [byte (joinMetric s)])
  let default_ := octetsOf (listGet ((objRow 0x4003 (b + 1)).map (·.default) |>.getD []) b [])
  let full := ((template s b).map (leOctets 4)).flatten
  let slot := shortIe 0x1C (if ((template s b).map (beOctets 4)).flatten = default_ then [byte 0] else byte 1 :: full)
  let hop := leOctets 2 (0x8000 + 9 * 2048 + 1) ++ [byte c.hopSeq]
  let shared := (s.sched.cells.filter (fun p =>
    p.2.valid && p.2.shared && p.2.bandSector = bs && p.2.slotframe = c.slotframe)).map (fun p => p.2)
  let link := fun (d : Cell) => leOctets 2 d.slotOffset ++ leOctets 2 d.channelOffset ++
    [byte (bitNat d.rx + 2 * bitNat d.tx + 4 * bitNat d.shared)]
  let frame := shortIe 0x1B ([byte 1, byte c.slotframe] ++ leOctets 2 (slotframe s c.slotframe).2.2 ++
    [byte shared.length] ++ (shared.map link).flatten)
  let mlme := sync ++ slot ++ frame ++ hop
  leOctets 2 (0x8000 + 2048 + mlme.length) ++ mlme

/- Candidates (R186). -/

/-- What a candidate cell would send. -/
inductive Load where
  | beacon
  | packet (k : Nat)
  deriving DecidableEq, Repr

/-- A candidate: its cell, what it sends, its class, whether it is green, its counted length and mode. -/
structure Candidate where
  entry : LookEntry
  load : Load
  cls : Nat
  green : Bool
  lc : Nat
  mode : Nat
  deriving DecidableEq, Repr

/-- A cell of the chip toward one node only. -/
def dedicatedCell (c : Cell) : Bool := c.kind = 0 && !c.shared && c.peer != 0xFFFFFFFF

/-- Mode a packet resolves to in a cell (R67, R72, R77). -/
def resolvedMode (s : State) (bs : Nat) (c : Cell) (p : QPacket) : Nat :=
  let node := if p.classQueue then none else nodeAt s p.target
  let plain := if c.mode = 0 then (node.map (·.mode)).getD 0 else c.mode
  let mode := if p.mode != 0 then p.mode
    else if p.classQueue then plain
    else linkMode s (handleOf s p.target) (bandOf bs) (dedicatedCell c) plain
  if familyOf mode = .fsk && !codedMode mode && (node.map (·.fec)).getD false then mode + 8 else mode

/-- A node may be sent to: no exhausted counter. -/
def nodeSendable (s : State) (i : Nat) : Bool := !fcExhausted s i

/-- Head of a node's queue that is not in transmission. -/
def headPacket (s : State) (i : Nat) : Option Nat := (nodeQueue s i).head?

/-- First node of the active lists of a band-sector for a cell open to any node (R186). -/
def activeNode (s : State) (bs : Nat) (entries : List LookEntry) : Option Nat :=
  let order := ((List.range 8).map (fun c => FMap.getD s.queues.active (8 * bs + c) [])).flatten
  order.find? (fun i => match nodeAt s i with
    | some n => n.heardBs = bs && n.backoff = 0 && nodeSendable s i &&
        !entries.any (fun e => e.cell.tx && dedicatedCell e.cell && e.cell.peer = handleOf s i)
    | none => false)

/-- First packet of a band-sector's air class queues in class order. -/
def classHead (s : State) (bs : Nat) : Option Nat :=
  ((List.range 8).map (fun c => classQueue s (airPort bs) c)).flatten.head?

/-- The packet a node's cell would carry: its head; a latency cell under Latency carries only class 2 (R138). -/
def peerPacket (s : State) (bs i : Nat) (c : Cell) : Option Nat :=
  let n := nodeAt s i
  match headPacket s i with
  | some k =>
    let backoff := c.shared && 0 < (n.map (·.backoff)).getD 0
    let reserved := c.kind = 2 && profileOf s bs = 2 && clsOf s k != 2
    if backoff || reserved || !nodeSendable s i then none else some k
  | none => none

/-- What a transmit cell would send at the latch, before colour and gate. -/
def cellLoad (s : State) (bs : Nat) (entries : List LookEntry) (c : Cell) : Option Load :=
  let open_ := (activeNode s bs entries).bind (headPacket s)
  match c.kind with
  | 0 => (if c.peer = 0xFFFFFFFF then open_ else peerPacket s bs (localIndex c.peer) c).map .packet
  | 1 => if beaconDue s bs then some .beacon
    else match classHead s bs with
      | some k => some (.packet k)
      | none => open_.map .packet
  | 2 => (peerPacket s bs (localIndex c.peer) c).map .packet
  | 4 => (classHead s bs).map .packet
  | _ => none

/-- Expired heads of every queue the cells of the slot may draw on are dropped (R185). -/
def freshenFor (s : State) (bs : Nat) (entries : List LookEntry) : State :=
  let nodes := (entries.filterMap (fun e => if e.cell.peer = 0xFFFFFFFF then none else some (localIndex e.cell.peer))) ++
    ((List.range 8).map (fun c => FMap.getD s.queues.active (8 * bs + c) [])).flatten
  let s := nodes.foldl freshNodeQueue s
  (List.range 8).foldl (fun s c => dropExpired s (classQueue s (airPort bs) c)) s

/-- Judge one cell: its candidate, if any, with its shaper consulted; a shared cell toward a node that backs off counts its
BACKOFF down (R155, R186, R193, R197). -/
def judgeCell (bs asn : Nat) (entries : List LookEntry) (x : State × List Candidate) (e : LookEntry) :
    State × List Candidate :=
  let (s, found) := x
  let c := e.cell
  match cellLoad s bs entries c with
  | none => (s, found)
  | some .beacon => (s, found ++ [{ entry := e, load := .beacon, cls := 0, green := true, lc := 0, mode := c.mode }])
  | some (.packet k) =>
    match packetOf s k with
    | some p =>
      if p.latched || (domainTime s < p.enqTime) then (s, found)
      else if (c.shared || c.kind = 4) && !airGateOpen s bs asn p.cls then (countQ s (airPort bs) 11, found)
      else
        let mode := resolvedMode s bs c p
        let lc := airLength s p mode
        let (colour, s) := consult s (airPort bs) p lc
        if colour = .red then (s, found)
        else (s, found ++ [{ entry := e, load := .packet k, cls := p.cls, green := colour = .green, lc := lc, mode := mode }])
    | none => (s, found)

/-- Count a node's BACKOFF down once for each shared cell of the slot that could carry its head frame (R155). -/
def backoffCell (bs : Nat) (s : State) (e : LookEntry) : State :=
  if e.cell.tx && e.cell.shared then
    { s with link := { s.link with nodes := s.link.nodes.mapVals (fun i n =>
        if 0 < n.backoff && !(nodeQueue s i).isEmpty &&
            (e.cell.peer = handleOf s i || (e.cell.peer = 0xFFFFFFFF && n.heardBs = bs)) then
          { n with backoff := n.backoff - 1 } else n) } }
  else s

/-- One candidate ranks before another: class, green, slotframe, cell index (R186). -/
def ranksBefore (a b : Candidate) : Bool :=
  let key := fun (c : Candidate) => [c.cls, bitNat (!c.green), c.entry.cell.slotframe, c.entry.index]
  decide (key a < key b)

/-- The candidate ranked first. -/
def bestCandidate : List Candidate → Option Candidate
  | [] => none
  | c :: l => match bestCandidate l with
    | some d => if ranksBefore d c then some d else some c
    | none => some c

/- Frames and plans. -/

/-- A packet of IEs of LSF rather than of data. -/
def isIeData (s : State) (data : Octets) : Bool :=
  bitOf (fieldOf data 1 1) 7 && sliceOf data 2 3 = obj s 0x3001 0 && 5 ≤ data.length

/-- A Join Response, which is secured at level 1 (R165). -/
def isJoinResponse (data : Octets) : Bool := fieldOf data 5 1 = 0x21

/-- The octets of a frame to a node, its owed IEs with it. -/
def nodeFrame (s : State) (bs i : Nat) (n : Node) (p : QPacket) : Octets :=
  let ie := isIeData s p.data
  let owed := if n.state = .joined && p.ackReq then owedIes s (handleOf s i) (bandOf bs) n else []
  let level := if ie && isJoinResponse p.data then 1 else objN s 0x4202 0
  frameToNode s n 1 p.ackReq n.dsnTx level (owed ++ if ie then p.data else []) (if ie then [] else p.data)

/-- A Join Response without a context: under the node's "dn" key at the counter its report gives (R165). -/
def strayFrame (s : State) (p : QPacket) : Octets :=
  let n : Node := { eui := sliceOf p.destMac 0 8, homeEui := sliceOf p.destMac 8 8, txFc := fieldOf p.destMac 16 4 }
  frameToNode s n 1 false s.link.netDsn 1 p.data []

/-- SFD-to-end airtime of a frame of the chip, us: octets with their FCS, the chip's FSK preamble (R70). -/
def frameAirtime (s : State) (b mode dbits len : Nat) : Nat :=
  airtimeUs mode (objN s 0x3013 (b + 1)) (codedMode mode) dbits (len + 2)

/-- Planned frame start of slot `m`, ns of the chip's own count. -/
def frameStart (s : State) (b m : Nat) : Nat :=
  s.now + (slotStart s b m + slotField s b 1 * 1000) - domainTime s

/-- A plan for a frame's octets in a cell. -/
def planOf (s : State) (bs m : Nat) (c : Candidate) (octets : Octets) (dbits : Nat) : TxPlan :=
  { kind := .frame, startAt := frameStart s (bandOf bs) m, cell := some c.entry.index, cls := c.cls, mode := c.mode
    firstBin := c.entry.firstBin, octets := octets
    onTime := frameAirtime s (bandOf bs) c.mode dbits octets.length + 20, port := portNow s bs }

/-- Target power of a plan toward a node or to all (R97). -/
def withTarget (s : State) (bs : Nat) (p : TxPlan) (requested : Option Nat) : TxPlan :=
  { p with target := targetPower s p.port (channelSubBand s (bandOf bs) p.mode p.firstBin) requested }

/-- The airtime of a plan exceeds TsMaxTx (R72). -/
def tooLong (s : State) (bs : Nat) (p : TxPlan) : Bool := slotField s (bandOf bs) 7 < p.onTime - 20

/-- R72: a frame too long for its slot is dropped and counted. -/
def dropLong (s : State) (bs mode k : Nat) : State := removePacket (record (countModem s bs 7) 0x2020 bs 1 mode) k

/-- Set a chain's plan. -/
def setPlan (s : State) (bs : Nat) (p : TxPlan) : State := updChain s bs (fun c => { c with plan := some p })

/-- Latch a packet: charge its shaper, note the charge for its return, mark it (R181, R187). -/
def latchPacket (s : State) (bs k : Nat) (p : QPacket) (c : Candidate) : State :=
  let s := chargeFrame s (airPort bs) p c.lc (if c.green then .green else .yellow)
  let s := match shaperFor s (airPort bs) p with
    | some n => { s with queues := { s.queues with charges := FMap.put s.queues.charges bs (n, c.lc, c.green) } }
    | none => s
  updPacket s k (fun q => { q with latched := true })

/-- Start a frame to a node: counter reserved and consumed, frame built (R160, R162). -/
def latchNode (s : State) (bs m k : Nat) (p : QPacket) (c : Candidate) : State :=
  let i := p.target
  let h := handleOf s i
  let s := reserveFc s i
  match nodeAt s i with
  | some n =>
    let octets := nodeFrame s bs i n p
    let plan := withTarget s bs { planOf s bs m c octets (linkBits s h (bandOf bs)) with
      queue := some i, packet := some k, peer := some h, ackRequested := p.ackReq, seqNo := n.dsnTx, retries := n.retries }
      (some n.txPower)
    if tooLong s bs plan then dropLong s bs c.mode k
    else
      let s := if n.state = .joined && p.ackReq then clearOwed s h (bandOf bs) else s
      useFc (setPlan (latchPacket s bs k p c) bs plan) i
  | none => s

/-- Start a broadcast, campaign or stray frame of an air class queue. -/
def latchClass (s : State) (bs m k : Nat) (p : QPacket) (c : Candidate) : State :=
  let stray := p.destMac.length = 20
  let s := if stray then s else reserveNet s
  let octets := if stray then strayFrame s p else frameNet s 1 (objN s 0x4202 0) [] p.data
  let plan := withTarget s bs { planOf s bs m c octets 1 with packet := some k, seqNo := s.link.netDsn } none
  if tooLong s bs plan then dropLong s bs c.mode k
  else
    let s := if stray then s else useNet s
    let s := setPlan (latchPacket s bs k p c) bs plan
    { s with link := { s.link with netDsn := (s.link.netDsn + 1) % 256 } }

/-- Start an enhanced beacon (R138). -/
def latchBeacon (s : State) (bs m : Nat) (c : Candidate) : State :=
  let s := reserveNet s
  let octets := frameNet s 0 1 (beaconIes s bs m c.entry.cell) []
  let plan := withTarget s bs { planOf s bs m c octets 1 with seqNo := s.link.netDsn } none
  let s := useNet (setPlan s bs plan)
  { s with link := { s.link with netDsn := (s.link.netDsn + 1) % 256 } }

/-- A frame's transmission begins: its cell is used, its charge stays made, a beacon starts its period (R138, Table 5-10). -/
def noteSending (s : State) (bs : Nat) (p : TxPlan) : State :=
  let s := keepCharge (count s 0x4150 bs 1) bs
  if p.packet.isNone then
    count { s with
      sched := { s.sched with beaconAt := FMap.put s.sched.beaconAt bs s.now }
      time := if s.time.mode = .holdover then s.time else { s.time with joinMetric := joinMetric s } } 0x4150 bs 6
  else s

/-- Start what the chosen candidate sends. -/
def latchCandidate (s : State) (bs m : Nat) (c : Candidate) : State :=
  match c.load with
  | .beacon => latchBeacon s bs m c
  | .packet k => match packetOf s k with
    | some p => if p.classQueue then latchClass s bs m k p c else latchNode s bs m k p c
    | none => s

/-- A pending map of a link toward a node becomes current at a dedicated transmit cell (R87). -/
def activateMaps (s : State) (bs m : Nat) (entries : List LookEntry) : State :=
  (entries.filter (fun e => dedicatedCell e.cell)).foldl (fun s e => userActivate s e.cell.peer (bandOf bs) m) s

/-- The queue latch of slot `m` of a band-sector. -/
def latchSlot (s : State) (bs m : Nat) : State :=
  let entries := (lookFor s bs m).filter (fun e => e.cell.tx && serviceState s bs = 0)
  let s := freshenFor (activateMaps s bs m entries) bs entries
  let (s, found) := entries.foldl (judgeCell bs m entries) (s, [])
  let s := entries.foldl (backoffCell bs) s
  let empty := (entries.filter (fun e => !found.any (fun c => c.entry.index = e.index))).length
  let s := countBy s 0x4150 bs 2 empty
  match bestCandidate found with
  | some c => latchCandidate s bs m c
  | none => s

/-- The slot whose latch instant has been reached: 2,000 us before its frame start (R139, R140). -/
def latchAsn (s : State) (b : Nat) : Nat := asnAt s b (domainTime s + 2000000 - slotField s b 1 * 1000)

/-- A sequencer is halted for a restart (R313). -/
def seqHalted (s : State) (bs : Nat) : Bool := ((FMap.find s.twin.restarts bs).map (·.halted)).getD false

/-- A follower latches in its own deterministic state, and transmits nothing (R305, R309). -/
def shadowLatch (s : State) : Bool := shadows s && timeAcquired s

/-- R137: at TsTxOffset less 2,000 us the sequencer fetches queue heads, ranks candidates and chooses the transmit cell. -/
def execQueueLatch (bandSector : Nat) (s : State) : Host.Outcome State Fault Refusal :=
  let b := bandOf bandSector
  let m := latchAsn s b
  let start := slotStart s b m + slotField s b 1 * 1000
  if (mayTransmit s || shadowLatch s) ∧ !s.power.pasWait.contains b ∧ allBandSectors.contains bandSector ∧ bandEnabled s b ∧
      !seqHalted s bandSector ∧ !debugHalts s bandSector ∧ (chainOf s bandSector).plan.isNone ∧ domainTime s + 160000 < start ∧
      !(s.modem.suspended.contains bandSector) then
    done (latchSlot s bandSector m)
  else done s

/-- R139: a frame not secured by frame start - 100 us, or whose counter block still awaits its receipt (R307), skips its cell
and stays queued. -/
def execSecureDeadline (bandSector : Nat) (secured : Bool) (s : State) : Host.Outcome State Fault Refusal :=
  match (chainOf s bandSector).plan with
  | some p =>
    if s.power.dev ≠ .follower ∧ p.kind = .frame ∧ p.secured = false ∧ (p.phase = .planned ∨ p.phase = .retuned ∨ p.phase = .commanded ∨
        p.phase = .ready) then
      let held := match p.peer with
        | some h => fcAwaited s h
        | none => fcAwaited s 0xFFFFFFFF
      if secured && !held then done (updChain s bandSector (fun c => { c with plan := some { p with secured := true } }))
      else if p.startAt ≤ s.now + 100000 then
        let s := addOutcome s (p.cell.getD 0) bandSector 7 0
        done (dropPlan (count s 0x4150 bandSector 4) bandSector)
      else done s
    else done s
  | none => done s

end Sys2Proof.Machine
end

