-- ==== Sys2Proof/Machine/KeyCache.lean ====
section
/-! DEFINITION. Key references, the derived-key cache, key handles and the working key registers (R236 to R238, R260 to
R264). -/

namespace Sys2Proof.Machine

/-- A key reference (Table 10-6). -/
def keyReference (kind use label : Nat) (chip node : Octets) : Octets :=
  [byte (kind * 16 + use * 4), byte label, byte 0, byte 0] ++ padTo 8 chip ++ padTo 8 node

/-- Fields of a key reference. -/
def refKind (r : Octets) : Nat := fieldOf r 0 1 / 16
def refUse (r : Octets) : Nat := fieldOf r 0 1 / 4 % 4
def refLabel (r : Octets) : Nat := fieldOf r 1 1
def refChip (r : Octets) : Octets := sliceOf r 4 8
def refNode (r : Octets) : Octets := sliceOf r 12 8

/-- The use attributes under which the chip holds an instance of a reference's key (Table 10-5). -/
def refUses (s : State) (r : Octets) : List Nat :=
  let own := refChip r = meshEui s
  match refKind r, refLabel r with
  | 1, 0 => [3]
  | 2, 1 => if own then [0] else [1]
  | 2, 2 => [3]
  | 2, 3 => [3]
  | 2, 4 => if own then [0, 1] else [1]
  | 2, 5 => if own then [0] else [1]
  | 2, 6 => [2]
  | 3, 0 => [3]
  | 4, 1 => [0]
  | 4, 2 => [1]
  | 4, 3 => [0]
  | _, _ => []

/-- A well-formed reference to a key of the tree (Tables 10-5 and 10-6). -/
def refOk (s : State) (r : Octets) : Bool :=
  r.length = 20 && fieldOf r 0 1 % 4 = 0 && fieldOf r 2 2 = 0 && (refUses s r).contains (refUse r) &&
    (3 ≤ refKind r || fieldOf r 12 8 = 0)

/-- The key a reference names, derived from slot 1 (Table 10-5). -/
def deriveRef (s : State) (r : Octets) : Option Octets :=
  match refKind r with
  | 1 => chipKey s (refChip r)
  | 2 => purposeKey s (refChip r) (refLabel r)
  | 3 => nodeBase s (refChip r) (refNode r)
  | _ => nodeKey s (refChip r) (refNode r) (refLabel r = 1)

/-- References of a key's ancestors below the domain key, the highest first. -/
def refAncestors (r : Octets) : List Octets :=
  let chip := keyReference 1 3 0 (refChip r) []
  let lnk := keyReference 2 3 2 (refChip r) []
  match refKind r with
  | 2 => [chip]
  | 3 => [chip, lnk]
  | 4 => [chip, lnk, keyReference 3 3 0 (refChip r) (refNode r)]
  | _ => []

/-- The cache entry that holds a reference. -/
def cacheFind (s : State) (r : Octets) : Option Nat := (s.keys.cache.find? (fun p => p.2.reference = r)).map (·.1)

/-- Handle of a cache entry (R260). -/
def cacheHandle (e : Nat) : Nat := 0x8000 + e

/-- A look-ahead entry resolved for a node needs the key of a reference (R263). -/
def lookNeeds (s : State) (r : Octets) : Bool :=
  refKind r = 4 && s.sched.look.any (fun e => match nodeOf s e.cell.peer with
    | some n => n.eui = refNode r
    | none => false)

/-- A cache entry is pinned (R263). -/
def cachePinned (s : State) (e : Nat) (x : CacheEntry) : Bool :=
  (x.own && lsfRuns s.power.dev) || lookNeeds s x.reference ||
    s.cipher.jobs.any (fun j => j.2.request.handle = cacheHandle e) ||
    s.cipher.engines.any (fun g => g.2.registers.any (fun k => k.2.valid && k.2.handle = cacheHandle e))

/-- Registers that hold a handle of a set are invalidated (R238). -/
def dropRegisters (s : State) (gone : Nat → Bool) : State :=
  { s with cipher := { s.cipher with engines := s.cipher.engines.mapVals (fun _ g =>
      { g with registers := g.registers.mapVals (fun _ k => if gone k.handle then { k with valid := false } else k) }) } }

/-- The next stamp of a use. -/
def stampNow (s : State) : State := { s with cipher := { s.cipher with stamp := s.cipher.stamp + 1 } }

/-- The unpinned entry least recently used. -/
def cacheVictim (s : State) : Option Nat :=
  (s.keys.cache.foldl (fun (b : Option (Nat × Nat)) p =>
    if cachePinned s p.1 p.2 then b
    else match b with
      | some (_, u) => if p.2.used < u then some (p.1, p.2.used) else b
      | none => some (p.1, p.2.used)) none).map (·.1)

/-- Entries that hold session keys: two pinned entries for each open METHOD 0 session (R263, R391). -/
def sessionEntries (s : State) : Nat := 2 * (s.sop.sessions.filter (fun p => p.2.method = 0 && !p.2.half)).length

/-- A place for a new entry: a free one, or the unpinned entry least recently used, which is evicted (R263, R264). -/
def cachePlace (s : State) : Option (Nat × State) :=
  match if s.keys.cache.length + sessionEntries s < 16384 then FMap.lowestFree s.keys.cache 0 16384 else none with
  | some e => some (e, s)
  | none => (cacheVictim s).map (fun e =>
      (e, dropRegisters { s with keys := { s.keys with evictions := (s.keys.evictions + 1) % 2 ^ 32 } }
        (fun h => h = cacheHandle e)))

/-- Make room for the two entries of a session key: at most two unpinned entries are evicted (R263, R391). -/
def cacheRoom (s : State) : State :=
  [0, 1].foldl (fun s _ =>
    if s.keys.cache.length + sessionEntries s + 2 ≤ 16384 then s
    else match cacheVictim s with
      | some e => dropRegisters { s with keys := { s.keys with
          cache := FMap.del s.keys.cache e, evictions := (s.keys.evictions + 1) % 2 ^ 32 } } (fun h => h = cacheHandle e)
      | none => s) s

/-- Own entries: the chip key and purpose keys of the chip itself (R263). -/
def refOwn (s : State) (r : Octets) : Bool := refKind r ≤ 2 && refChip r = meshEui s

/-- Write a cache entry. -/
def putCache (s : State) (e : Nat) (x : CacheEntry) : State :=
  { s with keys := { s.keys with cache := FMap.put s.keys.cache e x } }

/-- Resolve a reference to its entry, allocating one on a miss (R263). -/
def resolveRef (s : State) (r : Octets) : State × Option Nat :=
  let s := stampNow s
  if !refOk s r then (s, none)
  else match cacheFind s r with
    | some e =>
      ({ s with keys := { s.keys with cache := s.keys.cache.update e (fun x => { x with used := s.cipher.stamp }) } }, some e)
    | none => match cachePlace s with
      | some (e, s) =>
        (putCache s e { reference := r, value := none, used := s.cipher.stamp, own := refOwn s r }, some e)
      | none => (s, none)

/-- Compute the value of one reference's entry, resolving the entry first; a derivation counts (R263, R280). -/
def fillRef (s : State) (r : Octets) : State :=
  match resolveRef s r with
  | (s, some e) => match FMap.find s.keys.cache e with
    | some x =>
      if x.value.isSome then s
      else match deriveRef s r with
        | some k => count (putCache s e { x with value := some k }) 0x7130 0 3
        | none => s
    | none => s
  | (s, none) => s

/-- Compute an entry's value with its missing ancestors (R263). -/
def fillChain (s : State) (r : Octets) : State := (refAncestors r ++ [r]).foldl fillRef s

/-- References of the chip's own entries (R263). -/
def ownReferences (s : State) : List Octets :=
  let m := meshEui s
  [keyReference 1 3 0 m [], keyReference 2 0 1 m [], keyReference 2 3 2 m [], keyReference 2 3 3 m [],
    keyReference 2 0 4 m [], keyReference 2 1 4 m [], keyReference 2 0 5 m [], keyReference 2 2 6 m []]

/-- The chip's own entries are allocated and computed. -/
def fillOwn (s : State) : State := (ownReferences s).foldl fillRef s

/-- Invalidate entries: a pinned one keeps its handle and is recomputed at its next load, any other is freed; event
0x6204 (R264). -/
def flushCache (s : State) (cause chip : Nat) (which : CacheEntry → Bool) : State :=
  let gone := s.keys.cache.filter (fun p => which p.2)
  let kept := s.keys.cache.filterMap (fun p =>
    if which p.2 then (if cachePinned s p.1 p.2 then some (p.1, { p.2 with value := none }) else none) else some p)
  let s := dropRegisters { s with keys := { s.keys with cache := kept } }
    (fun h => gone.any (fun p => cacheHandle p.1 = h))
  record s 0x6204 cause gone.length chip

/-- A peer mismatch invalidates that chip's subtree (R172, R264). -/
def flushPeer (s : State) (chip : Nat) (eui : Octets) : State := flushCache s 3 chip (fun x => refChip x.reference = eui)

/- Handles and registers (R236, R260). -/

/-- The attribute and value behind a handle, its derived value computed (R236, R260). -/
def loadHandle (s : State) (h : Nat) : State × Option (Nat × Octets) :=
  if h < 64 then (s, (slotValue s h).map (fun k => (slotUse s h, k)))
  else if 0x8000 ≤ h ∧ h < 0xC000 then
    match FMap.find s.keys.cache (h - 0x8000) with
    | some x =>
      let s := if x.value.isSome then s else fillChain s x.reference
      (s, ((FMap.find s.keys.cache (h - 0x8000)).bind (·.value)).map (fun k => (refUse x.reference, k)))
    | none => (s, none)
  else (s, none)

/-- An engine. -/
def engineOf (s : State) (e : Nat) : Engine := FMap.getD s.cipher.engines e {}

/-- Change an engine. -/
def updEngine (s : State) (e : Nat) (f : Engine → Engine) : State :=
  { s with cipher := { s.cipher with engines := FMap.putD s.cipher.engines e (f (engineOf s e)) {} } }

/-- Raise a word of CE_COUNTERS of an engine (Table 9-9). -/
def countC (s : State) (e word : Nat) : State := count s 0x7050 (e + 1) word

/-- The register of an engine a load replaces: an empty one, else the least recently used that no running job holds. -/
def registerPlace (s : State) (e : Nat) : Nat :=
  let g := engineOf s e
  match FMap.lowestFree g.registers 0 16 with
  | some i => i
  | none =>
    let held := fun (k : KeyRegister) => s.cipher.jobs.any (fun j => j.2.engine = e && j.2.request.handle = k.handle)
    let pick := g.registers.foldl (fun (b : Option (Nat × Nat)) p =>
      if held p.2 && p.2.valid then b
      else match b with
        | some (_, u) => if p.2.used < u then some (p.1, p.2.used) else b
        | none => some (p.1, p.2.used)) none
    (pick.map (·.1)).getD 0

/-- The key behind a handle in a working register, loaded by KM where no valid register holds it (R236). -/
def registerKey (s : State) (e h : Nat) : State × Option KeyRegister :=
  let s := stampNow s
  match (engineOf s e).registers.find? (fun p => p.2.valid && p.2.handle = h) with
  | some (i, k) =>
    (updEngine s e (fun g => { g with registers := FMap.put g.registers i { k with used := s.cipher.stamp } }), some k)
  | none =>
    let miss := 0x8000 ≤ h && ((FMap.find s.keys.cache (h - 0x8000)).bind (·.value)).isNone
    let s := if miss then countC s e 7 else s
    match loadHandle s h with
    | (s, some (attr, v)) =>
      let k : KeyRegister := { handle := h, attr := attr, value := v, used := s.cipher.stamp, valid := true }
      let i := registerPlace s e
      (updEngine s e (fun g => { g with registers := FMap.put g.registers i k }), some k)
    | (s, none) => (s, none)

end Sys2Proof.Machine
end

