-- ==== Sys2Proof/Machine/Cipher.lean ====
section
/-! DEFINITION. The cipher engines' jobs and self-tests (R234 to R249). -/

namespace Sys2Proof.Machine

/- Requests (R234, R235, R237). -/

/-- An operation of Table 9-1 with a key size, tag length and nonce length it has (R234). -/
def modeOk (r : CipherRequest) : Bool :=
  let size := r.keyBits = 128 || r.keyBits = 256
  let short := r.tagLen = 4 || r.tagLen = 8 || r.tagLen = 16
  match r.op with
  | 1 => r.keyBits = 128 && short && r.nonce.length = 13
  | 2 => r.keyBits = 128 && short && r.nonce.length = 13
  | 3 => size && r.tagLen = 16 && r.nonce.length = 12
  | 4 => size && r.tagLen = 16 && r.nonce.length = 12
  | 5 => size && r.tagLen = 0 && r.nonce.length = 16
  | 6 => size && short && r.nonce.isEmpty
  | 7 => size && short && r.nonce.isEmpty
  | 8 => size && r.tagLen = 0 && r.nonce.isEmpty
  | 9 => size && r.tagLen = 16 && r.nonce.isEmpty
  | 10 => size && r.tagLen = 0 && r.nonce.isEmpty
  | _ => false

/-- L of a derivation, as its fixed input ends (R261). -/
def kdfBits (payload : Octets) : Nat := fieldOf payload (payload.length - 2) 2

/-- The inputs are within the limits of Table 9-2 (R235). -/
def lengthOk (r : CipherRequest) : Bool :=
  let a := r.header.length
  let m := r.payload.length
  match r.op with
  | 1 => a + m ≤ 2047
  | 2 => a + m ≤ 2047
  | 3 => a + m ≤ 16384
  | 4 => a + m ≤ 16384
  | 5 => m ≤ 16384 && fieldOf r.nonce 12 4 + (m + 15) / 16 ≤ 2 ^ 32
  | 6 => m ≤ 16384
  | 7 => m ≤ 16384
  | 8 => m = 16 || m = 24 || m = 32
  | 9 => (m = 24 || m = 32 || m = 40) && a ≤ 16384
  | _ => 1 ≤ m && m ≤ 64 && (kdfBits r.payload = 128 || kdfBits r.payload = 256)

/-- An operation the attribute of its key permits; derivation only as KM's own (Table 9-3; KM is of island 15, SEC). -/
def attrOk (attr : Nat) (r : CipherRequest) : Bool :=
  match attr with
  | 0 => r.op = 1 || r.op = 3 || (r.op = 5 && !r.decrypt) || r.op = 6
  | 1 => r.op = 2 || r.op = 4 || (r.op = 5 && r.decrypt) || r.op = 7
  | 2 => r.op = 8 || r.op = 9
  | _ => r.op = 10 && r.island = 15

/-- A cut-through release: decrypt-and-verify on an enabled path, of at least CT_MIN_LEN octets (R242, R243). -/
def cutsThrough (s : State) (r : CipherRequest) : Bool :=
  (r.op = 2 || r.op = 4) && objN s 0x7011 0 ≤ r.header.length + r.payload.length && r.fcOrder = 0 &&
    (match r.path with
      | some p => bitOf (objN s 0x7010 0) p
      | none => false)

/-- TAG_LEN code of the result block. -/
def tagCode (n : Nat) : Nat := match n with | 0 => 0 | 4 => 1 | 8 => 2 | _ => 3

/-- The 16-octet result block (Table 9-5). -/
def resultBlock (j : CipherJob) (status : Nat) (pending : Bool) : Octets :=
  let fc := if j.request.op = 2 then j.request.counter else 0
  [byte status, byte (bitNat pending * 128 + j.engine * 64 + j.request.op % 16 * 4 + tagCode j.request.tagLen)] ++
    beOctets 2 j.request.handle ++ beOctets 4 fc ++ zeros 8

/-- Status of a request before any block is processed, with the key it is bound to (R234 to R238). -/
def jobStart (s : State) (e : Nat) (r : CipherRequest) : State × Nat × Octets :=
  if !modeOk r then (countC s e 8, 6, [])
  else if !lengthOk r then (countC s e 8, 7, [])
  else match registerKey s e r.handle with
    | (s, none) => (s, 5, [])
    | (s, some k) =>
      if !attrOk k.attr r then (record (countC s e 6) 0x6011 r.island r.handle r.op, 4, [])
      else if 8 * k.value.length ≠ r.keyBits then (countC s e 8, 6, [])
      else (s, 0, k.value)

/-- Take a job in an engine: its number, its binding, and the first words of a cut-through release (R238, R240, R243). -/
def startJob (s : State) (e : Nat) (r : CipherRequest) : State :=
  let (s, st, key) := jobStart s e r
  let n := s.cipher.nextJob
  let j : CipherJob := { engine := e, request := r, status := st, key := key, startedAt := s.now,
                         released := st = 0 && cutsThrough s r }
  let s := { s with cipher := { s.cipher with jobs := FMap.put s.cipher.jobs n j, nextJob := n + 1 } }
  if j.released then emit s (.cipher n 0 (resultBlock j 0 true)) else s

/-- R240: a job starts in a serving engine, which KM and the engines of a zeroized chip never do. -/
def execCipherJobStart (engine : Nat) (job : CipherRequest) (s : State) : Host.Outcome State Fault Refusal :=
  if engine < 2 ∧ (engineOf s engine).mode = 0 ∧ lsfRuns s.power.dev then done (startJob s engine job) else done s

/- Results (R241 to R244). -/

/-- AES blocks of a job (Table 9-2). -/
def jobBlocks (r : CipherRequest) : Nat :=
  let b := fun n => (n + 15) / 16
  let a := r.header.length
  let m := r.payload.length
  match r.op with
  | 1 => 1 + (if a = 0 then 0 else b (2 + a)) + 2 * b m + 1
  | 2 => 1 + (if a = 0 then 0 else b (2 + a)) + 2 * b m + 1
  | 3 => 1 + b m + 1
  | 4 => 1 + b m + 1
  | 5 => b m
  | 6 => max 1 (b m)
  | 7 => max 1 (b m)
  | 8 => 6 * (m / 8)
  | 9 => max 1 (b a) + 6 * (m / 8 - 1)
  | _ => kdfBits r.payload / 128 * b (4 + m)

/-- Whether a job's tag, integrity value or CMAC verifies; producing operations have none (Table 9-2). -/
def jobVerifies (key : Octets) (r : CipherRequest) : Bool :=
  match r.op with
  | 2 => ccmTag key r.nonce r.header (ccmCipher key r.nonce r.payload) r.tagLen = r.tag
  | 4 => gcmTag key r.nonce r.header r.payload = r.tag
  | 7 => (cmac key r.payload).take r.tagLen = r.tag
  | 9 => cmac key r.header = r.tag && (keyUnwrap key r.payload).isSome
  | _ => true

/-- Output of a job that ends OK; wrap, unwrap and derivation release nothing outside SEC (R242). -/
def jobOutput (key : Octets) (r : CipherRequest) : Octets :=
  match r.op with
  | 1 => ccmCipher key r.nonce r.payload ++ ccmTag key r.nonce r.header r.payload r.tagLen
  | 2 => ccmCipher key r.nonce r.payload
  | 3 => gcmCipher key r.nonce r.payload ++ gcmTag key r.nonce r.header (gcmCipher key r.nonce r.payload)
  | 4 => gcmCipher key r.nonce r.payload
  | 5 => ctrMode key r.nonce r.payload 4
  | 6 => (cmac key r.payload).take r.tagLen
  | _ => []

/-- STATUS at the end of a job (Table 9-6). -/
def jobStatus (j : CipherJob) : Nat :=
  let r := j.request
  if j.status ≠ 0 then j.status
  else if r.engineFault then 10
  else if r.poisonIn then 8
  else if !jobVerifies j.key r then 1
  else if r.op = 2 && r.path.isSome && r.fcOrder = 2 then 2
  else if r.op = 2 && r.path.isSome && r.fcOrder = 1 then 3
  else 0

/-- The counters and events of a job's end (Table 9-9, R243, R244). -/
def countJob (s : State) (j : CipherJob) (st : Nat) : State :=
  let r := j.request
  let e := j.engine
  let done_ := st ≤ 3
  let s := if done_ then countBy (countC s e 0) 0x7050 (e + 1) 1 (jobBlocks r) else s
  let s := if st = 8 || st = 10 then countC s e 9 else s
  if st = 1 then
    let s := match r.path, r.op with
      | some 0, _ => countC s e 2
      | some 2, _ => countC s e 3
      | _, 2 => countC s e 4
      | _, _ => s
    if j.released then
      record (countC s e 5) 0x6010 (r.path.getD 0) r.unit (r.header.length + r.payload.length)
    else s
  else s

/-- The result of a SEC request of the mailbox (R363). -/
def mailResult (s : State) (n st : Nat) (octets : Octets) : State :=
  { s with threads := { s.threads with mail := s.threads.mail.mapVals (fun _ m =>
      if m.target = 0 && m.job = some n then { m with result := some (st, octets) } else m) } }

/-- R241: a job ends with its result block; output is released with status 0 alone, a cut-through packet's final word
carries POISON with every other status (R242 to R244). -/
def execCipherJobComplete (engine number : Nat) (s : State) : Host.Outcome State Fault Refusal :=
  match FMap.find s.cipher.jobs number with
  | some j =>
    if j.engine = engine then
      let st := jobStatus j
      let out := if st = 0 then jobOutput j.key j.request else []
      let s := { s with cipher := { s.cipher with jobs := FMap.del s.cipher.jobs number } }
      let s := mailResult (countJob s j st) number st out
      done (emit s (.cipher number st (resultBlock j st false ++ out)))
    else done s
  | none => done s

/- Self-tests (R248, R249). -/

/-- The other engine. -/
def otherEngine (e : Nat) : Nat := 1 - e

/-- DEGRADED bit 4: an engine is withdrawn. -/
def engineCause (s : State) : State := setCause s 4 ((engineOf s 0).mode = 2 || (engineOf s 1).mode = 2)

/-- Begin an engine's test: only while the other one serves (R248). -/
def beginTest (s : State) (e : Nat) : State :=
  if (engineOf s e).mode = 0 ∧ (engineOf s (otherEngine e)).mode = 0 then updEngine s e (fun g => { g with mode := 1 }) else s

/-- R248: the turn of one engine, every CE_SELFTEST_PERIOD. -/
def execCeSelftestTurn (s : State) : Host.Outcome State Fault Refusal :=
  if lsfRuns s.power.dev ∧ s.cipher.testDue ≤ s.now then
    let e := s.cipher.testNext % 2
    let s := { s with cipher := { s.cipher with
      testNext := otherEngine e, testDue := s.now + objN s 0x7001 0 * 1000000000 } }
    done (beginTest s e)
  else done s

/-- An engine is withdrawn (R248). -/
def withdrawEngine (s : State) (e op keySize : Nat) : State :=
  let s := updEngine s e (fun g => { g with mode := 2, fails := 0, passes := 0, retestAt := s.now + 3600000000000 })
  record (engineCause s) 0x6000 e op keySize

/-- The TRNG jobs of a test disagree (R248). -/
def crossDisagrees (s : State) (e op : Nat) : State :=
  let s := record (countC s e 13) 0x6002 e op 0
  let s := updEngine s e (fun g => { g with mode := 0, fails := 0 })
  match s.cipher.disagreedAt with
  | some t =>
    if s.now ≤ t + 60000000000 then fatalToRole s
    else { s with cipher := { s.cipher with disagreedAt := some s.now, testNext := otherEngine e } }
  | none => { s with cipher := { s.cipher with disagreedAt := some s.now, testNext := otherEngine e } }

/-- R248: a self-test ends. -/
def execCeSelftestDone (engine : Nat) (romPass trngAgree : Bool) (op keySize : Nat) (s : State) :
    Host.Outcome State Fault Refusal :=
  if engine < 2 ∧ (engineOf s engine).mode = 1 then
    if !romPass then
      let s := countC s engine 12
      if 1 ≤ (engineOf s engine).fails then done (withdrawEngine s engine op keySize)
      else done (updEngine s engine (fun g => { g with fails := g.fails + 1 }))
    else if !trngAgree then done (crossDisagrees s engine op)
    else done (updEngine (countC s engine 11) engine (fun g => { g with mode := 0, fails := 0 }))
  else done s

/-- CE_SELFTEST_NOW names an engine, 1 CE0 or 2 CE1; refused if the other engine is not serving. -/
def selftestNowCheck (v : Nat) (s : State) : Nat :=
  firstOf [require (v = 1 || v = 2) stRange, require ((engineOf s (2 - v)).mode = 0) stState]

/-- Start the test it names: a withdrawn engine may be retested at once. -/
def selftestNowApply (v : Nat) (s : State) : State :=
  let e := v - 1
  if (engineOf s e).mode = 2 then updEngine s e (fun g => { g with retestAt := s.now }) else beginTest s e

/-- R248: the command starts a self-test of the named engine. -/
def execCeSelftestNow (who : Caller) (engine : Nat) (s : State) : Host.Outcome State Fault Refusal :=
  done (command s who 0x7002 0 (beOctets 1 engine) (selftestNowCheck (engine % 256)) (selftestNowApply (engine % 256)))

/-- R248: a withdrawn engine is retested once an hour; three consecutive passes restore it. -/
def execCeHourlyRetest (engine : Nat) (pass : Bool) (s : State) : Host.Outcome State Fault Refusal :=
  if engine < 2 ∧ (engineOf s engine).mode = 2 ∧ (engineOf s engine).retestAt ≤ s.now then
    let s := updEngine s engine (fun g => { g with retestAt := s.now + 3600000000000 })
    if !pass then done (updEngine (countC s engine 12) engine (fun g => { g with passes := 0 }))
    else
      let s := countC s engine 11
      if 3 ≤ (engineOf s engine).passes + 1 then
        let s := updEngine s engine (fun g => { g with mode := 0, passes := 0, retestAt := 0 })
        done (record (engineCause s) 0x6001 engine 0 0)
      else done (updEngine s engine (fun g => { g with passes := g.passes + 1 }))
  else done s

/-- R249: the lone serving engine's own ROM vectors; a failure is fatal to the role. -/
def execLoneEngineSlice (engine : Nat) (pass : Bool) (s : State) : Host.Outcome State Fault Refusal :=
  if engine < 2 ∧ (engineOf s engine).mode = 0 ∧ (engineOf s (otherEngine engine)).mode = 2 then
    if pass then done s else done (fatalToRole (countC s engine 12))
  else done s

/-- R254: the command clears all CE_COUNTERS. -/
def execCeCountersClear (who : Caller) (s : State) : Host.Outcome State Fault Refusal :=
  done (command s who 0x7051 0 [byte 0] (fun _ => 0) (fun s => clearCounters s 0x7050))

/-- R263: KM resolves a key reference to a cache handle, on a miss allocating the entry and deriving its value. -/
def execKeyResolve (reference : Octets) (s : State) : Host.Outcome State Fault Refusal :=
  if lsfRuns s.power.dev then
    match resolveRef s reference with
    | (s, some e) => done (fillChain (emit s (.keyHandle reference (cacheHandle e))) reference)
    | (s, none) => done s
  else done s

/-- R264: the command invalidates every derived-key cache entry. -/
def execKeyCacheFlush (who : Caller) (s : State) : Host.Outcome State Fault Refusal :=
  done (command s who 0x7111 0 [byte 0] (fun _ => 0) (fun s => flushCache s 2 0xFFFF (fun _ => true)))

end Sys2Proof.Machine
end

