-- ==== Sys2Proof/Machine/Macsec.lean ====
section
/-! DEFINITION. MACsec on ETH0 and ETH1: associations, packet numbers and frames (R251, R252). -/

namespace Sys2Proof.Machine

/-- Fields of MACSEC_CFG of a port (Table 9-8). -/
def macsecOn (s : State) (port : Nat) : Bool := bitOf (objField s 0x7040 (port + 1) 0 1) 0
def macsecBits (s : State) (port : Nat) : Nat := if bitOf (objField s 0x7040 (port + 1) 0 1) 1 then 256 else 128
def macsecStrict (s : State) (port : Nat) : Bool := bitOf (objField s 0x7040 (port + 1) 0 1) 2
def macsecSci (s : State) (port : Nat) : Octets := sliceOf (obj s 0x7040 (port + 1)) 1 8
def macsecWindow (s : State) (port : Nat) : Nat := objField s 0x7040 (port + 1) 9 4

/-- One association of MACSEC_SA. -/
structure MacsecSa where
  an : Nat
  tx : Bool
  rx : Bool
  handle : Nat
  pn : Nat
  deriving DecidableEq, Repr

/-- Association `i` of a MACSEC_SA value. -/
def saOf (v : Octets) (i : Nat) : MacsecSa :=
  { an := fieldOf v (8 * i) 1, tx := bitOf (fieldOf v (8 * i + 1) 1) 0, rx := bitOf (fieldOf v (8 * i + 1) 1) 1
    handle := fieldOf v (8 * i + 2) 2, pn := fieldOf v (8 * i + 4) 4 }

/-- The two associations of a port. -/
def macsecSas (s : State) (port : Nat) : List MacsecSa := [0, 1].map (saOf (obj s 0x7041 (port + 1)))

/-- The association a port transmits with: the first the host marks for transmission (log entry 28). -/
def txSa (s : State) (port : Nat) : Option MacsecSa := (macsecSas s port).find? (·.tx)

/-- The association that receives an AN. -/
def rxSa (s : State) (port an : Nat) : Option MacsecSa := (macsecSas s port).find? (fun a => a.rx && a.an = an)

/-- Key of the packet-number state of an association, direction 1 transmit. -/
def pnKey (port dir an : Nat) : Nat := 32 * port + 4 * dir + an % 4

/-- Packet-number state of an association: as MACSEC_SA starts it where nothing has used it. -/
def pnOf (s : State) (port dir : Nat) (a : MacsecSa) : MacsecPn :=
  FMap.getD s.cipher.macsec (pnKey port dir a.an)
    { next := a.pn, blockEnd := 0, slotCounter := slotCounter s (a.handle % 64), warned := false }

/-- Store it. -/
def setPn (s : State) (port dir an : Nat) (x : MacsecPn) : State :=
  { s with cipher := { s.cipher with macsec := FMap.put s.cipher.macsec (pnKey port dir an) x } }

/-- R252: the next block of 65,536 transmit PNs is persisted with the slot's COUNTER before its first PN is used. -/
def reservePn (s : State) (a : MacsecSa) (x : MacsecPn) : MacsecPn :=
  if x.blockEnd ≤ x.next then { x with blockEnd := x.next + 65536, slotCounter := slotCounter s (a.handle % 64) } else x

/-- SecTAG of a frame with an explicit SCI and E = C = 1 (IEEE 802.1AE). -/
def secTag (s : State) (port an pn len : Nat) : Octets :=
  beOctets 2 0x88E5 ++ [byte (0x2C + an % 4), byte (if len < 48 then len else 0)] ++ beOctets 4 pn ++ macsecSci s port

/-- IV of a MACsec frame (IEEE 802.1AE). -/
def macsecIv (sci : Octets) (pn : Nat) : Octets := padTo 8 sci ++ beOctets 4 pn

/-- An engine that takes a MACsec job: a serving one, either where both serve (log entry 29). -/
def macsecEngine (s : State) : Nat :=
  if (engineOf s 0).mode ≠ 0 then 1 else if (engineOf s 1).mode ≠ 0 then 0 else freeNow s % 2

/-- The transmit key of a port, its attribute and size checked as for op 3 (R237). -/
def macsecKey (s : State) (port : Nat) (a : MacsecSa) (op use : Nat) : State × Option Octets :=
  let e := macsecEngine s
  let s := drewFree s
  match registerKey s e a.handle with
  | (s, some k) =>
    if k.attr ≠ use then (record (countC s e 6) 0x6011 16 a.handle op, none)
    else if 8 * k.value.length ≠ macsecBits s port then (countC s e 8, none)
    else (s, some k.value)
  | (s, none) => (s, none)

/-- Send one Ethernet frame (addresses, then type and data) on a port with MACsec; none where the port sends no MACsec
frame (R251, R252). -/
def macsecSend (s : State) (port : Nat) (frame : Octets) : State × Bool :=
  match txSa s port with
  | none => (s, false)
  | some a =>
    let x := pnOf s port 1 a
    if 2 ^ 32 ≤ x.next then (record s 0x6021 port a.an 0, false)
    else match macsecKey s port a 3 0 with
      | (s, none) => (s, false)
      | (s, some key) =>
        let x := reservePn s a x
        let pn := x.next
        let clear := frame.take 12 ++ secTag s port a.an pn (frame.length - 12)
        let body := gcmCipher key (macsecIv (macsecSci s port) pn) (frame.drop 12)
        let tag := gcmTag key (macsecIv (macsecSci s port) pn) clear body
        let warn := objN s 0x7042 0 < pn && !x.warned
        let s := setPn s port 1 a.an { x with next := pn + 1, warned := x.warned || warn }
        let s := if warn then record s 0x6020 port a.an pn else s
        (emit s (.macsec port a.an pn { clear := clear, body := body, tag := tag }), true)

/-- R252: a MACsec frame is sent on an Ethernet port. -/
def execMacsecFrameTx (port : Nat) (frame : Octets) (s : State) : Host.Outcome State Fault Refusal :=
  if port < 2 ∧ macsecOn s port ∧ lsfRuns s.power.dev then done (macsecSend s port frame).1 else done s

/-- A received frame is discarded and counted (R251). -/
def macsecDiscard (s : State) : State := countC (drewFree s) (macsecEngine s) 3

/-- A frame's ICV verifies: enciphered and authenticated, or authenticated alone (R251). -/
def macsecVerifies (key sci : Octets) (pn : Nat) (ec : Bool) (f : Sealed) : Bool :=
  if ec then gcmTag key (macsecIv sci pn) f.clear f.body = f.tag
  else gcmTag key (macsecIv sci pn) (f.clear ++ f.body) [] = f.tag

/-- A verified frame advances the lowest PN accepted and goes on (R251). -/
def macsecAccept (s : State) (port pn : Nat) (a : MacsecSa) (x : MacsecPn) (key : Octets) (ec : Bool) (f : Sealed) : State :=
  let low := max x.next (pn + 1 - min (pn + 1) (macsecWindow s port))
  let s := setPn s port 0 a.an { x with next := low }
  let body := if ec then gcmCipher key (macsecIv (macsecSci s port) pn) f.body else f.body
  emit s (.macsecRx port (f.clear.take 12 ++ body))

/-- A frame whose ICV fails: a cut-through release has been made where the path and length allow it (R243). -/
def macsecFails (s : State) (port : Nat) (f : Sealed) : State :=
  let len := f.clear.length + f.body.length
  let e := macsecEngine s
  let s := macsecDiscard s
  if bitOf (objN s 0x7010 0) 2 && objN s 0x7011 0 ≤ len then record (countC s e 5) 0x6010 2 port len else s

/-- R251: a received MACsec frame is checked against its association, replay window and ICV. -/
def execMacsecFrameRx (port an pn : Nat) (ec : Bool) (frame : Sealed) (s : State) : Host.Outcome State Fault Refusal :=
  if port < 2 ∧ macsecOn s port ∧ lsfRuns s.power.dev then
    match rxSa s port an with
    | none => done (macsecDiscard s)
    | some a =>
      let x := pnOf s port 0 a
      if pn < x.next ∨ 2 ^ 32 ≤ pn ∨ (!ec && macsecStrict s port) then done (macsecDiscard s)
      else match macsecKey s port a 4 1 with
        | (s, none) => done s
        | (s, some key) =>
          if macsecVerifies key (macsecSci s port) pn ec frame then done (macsecAccept s port pn a x key ec frame)
          else done (macsecFails s port frame)
  else done s

/-- MACSEC_SA as it reads: the next PN in use of a transmit association, the lowest accepted of a receive one (R252). -/
def macsecSaNow (s : State) (port : Nat) : Octets :=
  ([0, 1].map (fun i =>
    let v := sliceOf (obj s 0x7041 (port + 1)) (8 * i) 8
    let a := saOf v 0
    let n := if a.tx then (pnOf s port 1 a).next else if a.rx then (pnOf s port 0 a).next else a.pn
    v.take 4 ++ beOctets 4 (min n 0xFFFFFFFF))).flatten

/-- A write of MACSEC_SA sets the PNs, a transmit one never below its persisted block end under an unchanged key (R252). -/
def macsecSaApply (s : State) (port : Nat) (v : Octets) : State :=
  let one := fun (s : State) (i : Nat) =>
    let a := saOf v i
    let old := pnOf s port 1 a
    let same := old.slotCounter = slotCounter s (a.handle % 64)
    let fresh : MacsecPn := { next := a.pn, blockEnd := 0, slotCounter := slotCounter s (a.handle % 64), warned := false }
    let s := if a.tx then
        setPn s port 1 a.an (if same then { old with next := max a.pn old.blockEnd } else fresh)
      else s
    if a.rx then setPn s port 0 a.an fresh else s
  [0, 1].foldl one (setObj s 0x7041 (port + 1) v)

/-- R252: what every start makes of the persisted blocks. -/
def macsecStart (s : State) : State :=
  let old := s.cipher.macsec
  let one := fun (s : State) (x : Nat × MacsecSa) =>
    match FMap.find old (pnKey x.1 1 x.2.an) with
    | some p =>
      if x.2.tx && p.slotCounter = slotCounter s (x.2.handle % 64) then
        setPn s x.1 1 x.2.an { p with next := max p.blockEnd x.2.pn, warned := false }
      else s
    | none => s
  ([0, 1].map (fun port => (macsecSas s port).map (fun a => (port, a)))).flatten.foldl one
    { s with cipher := { s.cipher with macsec := [] } }

end Sys2Proof.Machine
end

