-- ==== Sys2Proof/Machine/Wire.lean ====
section
/-! DEFINITION. What a frame is on a wired port, and the time gates of ETH0 and ETH1 (R178, R189, R190, R194, R198). -/

namespace Sys2Proof.Machine

/- Time gates of Ethernet (R198). -/

/-- Windows of a GATE_ETH list: duration in ns and class mask (Table 7-11). -/
def gateWindows (g : Octets) : List (Nat × Nat) :=
  (List.range (min 16 (fieldOf g 12 1))).map (fun i => (fieldOf g (16 + 8 * i) 4, fieldOf g (20 + 8 * i) 1))

/-- Time a class stays open from a position of a window list: none where it is closed there or the list ends first. -/
def openRun (c : Nat) : List (Nat × Nat) → Nat → Nat
  | [], _ => 0
  | (len, mask) :: l, x =>
    if len ≤ x then openRun c l (x - len)
    else if bitOf mask c then (len - x) + openRun c l 0
    else 0

/-- Windows without a class: with none, the class is always open. -/
def alwaysOpen (ws : List (Nat × Nat)) (c : Nat) : Bool := ws.all (fun w => bitOf w.2 c || w.1 = 0)

/-- A frame of a duration fits at a position of the cycle: its end lies before the first following closed window. -/
def fitsAt (ws : List (Nat × Nat)) (c x dur : Nat) : Bool := alwaysOpen ws c || dur < openRun c (ws ++ ws) x

/-- A frame of a duration fits some window of the cycle. -/
def fitsSome (ws : List (Nat × Nat)) (c dur : Nat) : Bool :=
  (List.range ws.length).any (fun i => fitsAt ws c (sumOf ((ws.take i).map (·.1))) dur)

/-- Line rate of an Ethernet port in b/s (log entry 8). -/
def lineRate (s : State) (port : Nat) : Nat :=
  if Config.value 6 [(port : Int), (s.power.startAt : Int)] = 0 then 1000000000 else 2500000000

/-- What the gate of a wired port says of a frame. -/
inductive GateResult where
  | open_ | wait | never
  deriving DecidableEq, Repr

/-- The gate of a wired port for a frame of counted length `lc` that would start now. -/
def gateResult (s : State) (port cls lc : Nat) : GateResult :=
  if 10 < port then .open_
  else
    let g := FMap.getD s.queues.gates (port + 8) []
    let cycle := fieldOf g 8 4
    if cycle = 0 then .open_
    else
      let ws := gateWindows g
      let x := (((domainTime s : Int) - (fieldOf g 0 8 : Int)) % (cycle : Int)).toNat
      let dur := ceilDiv (8 * lc * 1000000000) (lineRate s port)
      if fitsAt ws cls x dur then .open_ else if fitsSome ws cls dur then .wait else .never

/- Frames on the wire. -/

/-- Counted length of a wired frame (R194). -/
def wireLength (s : State) (port len : Nat) : Nat :=
  let ovh := objField s 0x5112 0 (2 * (port - 9)) 2
  if port ≤ 10 then max 64 (14 + len + 4) + (if macsecOn s (port - 9) then 32 else 0) + ovh else len + ovh

/-- The chip sends with the pair's source address: it is the active chip of a pair (R300, R301). -/
def pairSource (s : State) : Bool := s.power.dev = .active && pairIndex s != 0xFFFF

/-- Source address of an Ethernet port (R300). -/
def sourceMac (s : State) (port : Nat) : Octets :=
  if pairSource s then obj s 0x900A (port - 8) else sliceOf (obj s 0x1103 (port - 8)) 0 6

/-- An Ethernet frame: addresses, type and packet (R178). -/
def etherFrame (s : State) (port : Nat) (p : QPacket) : Octets :=
  padTo 6 p.destMac ++ sourceMac s port ++ beOctets 2 0x86DD ++ rewriteDscp s p.cls p.data

/-- The port can send now: a sett port that carries frames; an Ethernet port whose pair address, if it is used, passes the
gate of R301. -/
def portReady (s : State) (port : Nat) : Bool :=
  if port ≤ 10 then !pairSource s || s.power.txGate else portCarries s (port - 10)

/-- Send a frame whole; false where MACsec sends none (R251, R285, R288). -/
def wireOut (s : State) (port : Nat) (p : QPacket) : State × Bool :=
  if port ≤ 10 then
    if macsecOn s (port - 9) then macsecSend s (port - 9) (etherFrame s port p)
    else (emit s (.eth (port - 9) (padTo 60 (etherFrame s port p)) false), true)
  else
    (settOriginate s [port - 10] 0 true p.cls (beNat p.destMac) false 7 p.source (rewriteDscp s p.cls p.data), true)

/-- A packet may be cut through: its port's CUT_THROUGH is set and its path delivers at line rate (R190). -/
def mayCutThrough (s : State) (p : QPacket) : Bool :=
  let port := p.target % 16
  p.classQueue && 9 ≤ port && port ≤ 14 && objB s 0x5031 (port - 8) &&
    (p.cutThrough || (11 ≤ p.ingress && p.ingress ≤ 14 && port ≤ 10))

/-- A port is done with the frame it was sending. -/
def clearSending (s : State) (port : Nat) : State :=
  { s with queues := { s.queues with sending := FMap.del s.queues.sending port } }

/-- End a started cut-through frame bad: word 13, event 0x4020, its charge not returned (R190). -/
def endBad (s : State) (port k : Nat) (p : QPacket) (cause : Nat) : State :=
  let s := record (countQ s port 13) 0x4020 port cause p.length
  let s := removePacket (clearSending s port) k
  if port ≤ 10 then emit s (.eth (port - 9) (etherFrame s port p) true)
  else emit (countS s (port - 10) 3) (.settAbort (port - 10))

/-- The last word of a started frame has arrived: it ends well. -/
def endWell (s : State) (port k : Nat) (p : QPacket) : State :=
  removePacket (clearSending (countQ (wireOut s port p).1 port 1) port) k

end Sys2Proof.Machine
end

