-- ==== Sys2Proof/Machine/Admission.lean ====
section
/-! DEFINITION. Admission to the queues: the checks in order, push-out, cut-through, application queues, and the
preemptive downlink (R182 to R184, R188, R190, R362). -/

namespace Sys2Proof.Machine

/- The checks of R182. -/

/-- Step 2: a node queue whose context is FREE, or JOINING for a frame not of class 0. -/
def withoutContext (s : State) (p : QPacket) : Bool :=
  !p.classQueue && (match nodeAt s p.target with
    | none => true
    | some n => n.state = .free || (n.state = .joining && p.cls != 0))

/-- The newest frame of the largest class in a node queue, where that class is above `c` (step 4). -/
def pushOutVictim (s : State) (i c : Nat) : Option Nat :=
  match (nodeQueue s i).getLast? with
  | some k => if c < clsOf s k then some k else none
  | none => none

/-- Step 4: room in the node queue, made where it may be; none where the frame is refused. -/
def makeRoom (s : State) (p : QPacket) : Option State :=
  if p.classQueue || (nodeQueue s p.target).length < objN s 0x5011 0 then some s
  else match pushOutVictim s p.target p.cls with
    | some k => some (removePacket (countQ s (packetPort s p) 4) k)
    | none => none

/-- Packets of the application queues of a class, which count against BURST_LIMIT of port 15 (R362). -/
def appPackets (s : State) (c : Nat) : List Nat :=
  ((s.threads.queues.map (·.2)).flatten).filter (fun k => clsOf s k = c)

/-- Bytes that count against a wired port's burst limit of a class. -/
def burstBytes (s : State) (port c : Nat) : Nat :=
  queueBytes s (classQueue s port c ++ if port = 15 then appPackets s c else [])

/-- Step 5: word of the refusal of a wired class queue, none where it passes. -/
def burstRefusal (s : State) (p : QPacket) : Option Nat :=
  let port := p.target % 16
  if inDram p then none
  else if objField s 0x5030 (port - 8) (4 * p.cls) 4 < burstBytes s port p.cls + p.length then some 2
  else if burstFree s < burstBlocks p.length then some 3
  else none

/-- How an admission ends. -/
inductive Verdict where
  /-- Dropped or refused under a counter word; refused for lack of buffer or not. -/
  | out (word : Nat) (refused : Bool)
  | accept
  deriving DecidableEq, Repr

/-- Steps 3 to 6 (R182): the verdict with the state the checks leave. -/
def judgeBuffers (s : State) (p : QPacket) : Verdict × State :=
  let port := packetPort s p
  if expired s p then (.out 6 false, record s 0x4010 port p.cls 0)
  else match makeRoom s p with
    | none => (.out 2 true, s)
    | some s => match burstRefusal s p with
      | some w => (.out w true, record s 0x4001 port p.cls (burstFree s))
      | none =>
        if inDram p && !poolGrants s p.cls p.length then
          (.out 3 true, record s 0x4000 p.cls (classUse s p.cls / 1024) (freeBuffers s 256))
        else (.accept, s)

/-- Steps 1 to 6 (R182). -/
def judge (s : State) (p : QPacket) : Verdict × State :=
  if p.poison then (.out 5 false, s)
  else if withoutContext s p then (.out 7 false, s)
  else judgeBuffers s p

/-- What a refusal or drop means for the air frame it came in (R184, R244): a refused frame is NACKed and its counter
stays unused, a poisoned one is not acknowledged, another is taken as delivered. -/
def answerAir (s : State) (p : QPacket) (word : Nat) (refused : Bool) : State :=
  if 9 ≤ p.ingress then s
  else
    let i := localIndex p.source
    let forget := fun (s : State) => { s with link := { s.link with fcPending := FMap.del s.link.fcPending i } }
    if refused then
      let s := if s.link.acksDue.any (fun a => a.handle = p.source) then countQ s p.ingress 14 else s
      forget { s with link := { s.link with
        acksDue := s.link.acksDue.map (fun a => if a.handle = p.source then { a with nack := true } else a) } }
    else if word = 5 then
      forget { s with link := { s.link with acksDue := s.link.acksDue.filter (fun a => a.handle ≠ p.source) } }
    else settleFrame s i

/-- Take a packet out of the state before it is linked. -/
def dropUnlinked (s : State) (k : Nat) : State :=
  { s with queues := { s.queues with packets := FMap.del s.queues.packets k } }

/- Port 15 (R202, R362). -/

/-- UDP destination port of an IPv6 packet without extension headers. -/
def udpDest (data : Octets) : Option Nat :=
  if fieldOf data 0 1 / 16 = 6 && fieldOf data 6 1 = 17 then some (fieldOf data 42 2) else none

/-- Binding of APP_BIND for a port: queue number and TID. -/
def bindingFor (s : State) (data : Octets) : Option (Nat × Nat) :=
  match udpDest data with
  | some port =>
    ((List.range 64).find? (fun k => objField s 0xB010 0 (4 * k) 2 = port && port != 0)).map
      (fun k => (k, objField s 0xB010 0 (4 * k + 2) 1))
  | none => none

/-- A frame for CTL goes into its application queue with wake source 0, or to LSF at once. -/
def linkLocal15 (s : State) (k : Nat) (p : QPacket) : State :=
  let s := updPacket s k (fun q => { q with enqTime := domainTime s, linkedAt := s.now })
  let s := countQ s 15 0
  match bindingFor s p.data with
  | some (q, tid) =>
    let old := FMap.getD s.threads.queues q []
    let s := { s with threads := { s.threads with queues := FMap.put s.threads.queues q (old ++ [k]) } }
    if old.isEmpty then raiseSource s tid 0 else s
  | none => emit (dropUnlinked (countQ s 15 1) k) (.local p.data)

/-- Link an admitted packet (R182): a pool buffer for a frame of a DRAM queue. -/
def admitPacket (s : State) (k : Nat) (p : QPacket) : State :=
  if p.classQueue && p.target % 16 = 15 then linkLocal15 s k p
  else if inDram p then
    let b := bufferIndex s p.length
    linkPacket (updPacket (drewFree s) k (fun q => { q with buffer := some b })) k
  else linkPacket s k

/- Preemptive downlink (R188). -/

/-- A cell of the slot now under way at a band-sector that a late class-2 frame for a node may take. -/
def lateCell (s : State) (bs h : Nat) : Option LookEntry :=
  let b := bandOf bs
  ((lookFor s bs (asnNow s b)).filter (fun e =>
    e.cell.tx && e.cell.peer = h && slotStart s b e.asn + slotField s b 1 * 1000 < slotStart s b (e.asn + 1))).head?

/-- The cell has latched a frame of class 3 to 7, or no frame, and nothing has been commanded yet. -/
def displaces (s : State) (bs index : Nat) : Bool :=
  match (chainOf s bs).plan with
  | none => true
  | some p => p.kind = .frame && p.cell = some index && 3 ≤ p.cls && p.phase = .planned

/-- R188: a class-2 frame linked after the latch takes the cell toward its node. -/
def preempt (s : State) (k : Nat) : State :=
  match packetOf s k with
  | some p =>
    let h := handleOf s p.target
    let try_ := fun (found : Option (Nat × LookEntry)) bs =>
      match found with
      | some x => some x
      | none => (lateCell s bs h).bind (fun e =>
          let start := slotStart s (bandOf bs) e.asn + slotField s (bandOf bs) 1 * 1000
          if profileOf s bs = 2 && p.enqTime + 700000 ≤ start && start ≤ domainTime s + 2000000 && displaces s bs e.index
          then some (bs, e) else none)
    if p.classQueue || p.cls != 2 || 127 < p.length || !mayTransmit s then s
    else match allBandSectors.foldl try_ none with
      | some (bs, e) =>
        let free := dropPlan s bs
        let mode := resolvedMode free bs e.cell p
        let lc := airLength free p mode
        let (colour, free) := consult free (airPort bs) p lc
        if colour = .red then s
        else
          let c : Candidate := { entry := e, load := .packet k, cls := 2, green := colour = .green, lc := lc, mode := mode }
          latchNode (countQ free (airPort bs) 12) bs e.asn k p c
      | none => s
  | none => s

/- The commands. -/

/-- A follower's admission discards frames for ports 9 to 14 uncounted (R192). -/
def followerDrops (s : State) (p : QPacket) : Bool :=
  s.power.dev = .follower && p.classQueue && 9 ≤ p.target % 16 && p.target % 16 ≤ 14

/-- Admission of a packet whose LAST word has arrived (R182). -/
def admitWhole (s : State) (k : Nat) (p : QPacket) : State :=
  if followerDrops s p then dropUnlinked s k
  else match judge s p with
    | (.accept, s) =>
      let s := admitPacket s k p
      let s := if p.ingress < 9 then frameAdmitted s (localIndex p.source) else s
      preempt s k
    | (.out w refused, s) =>
      let s := dropUnlinked (countQ s (packetPort s p) w) k
      answerAir s p w refused

/-- R182: on a packet's LAST word the queue manager admits, links or refuses it; for a cut-through packet linked already, the
POISON of its LAST word drops it or ends it bad. -/
def execQueueAdmission (packet : Nat) (poison : Bool) (s : State) : Host.Outcome State Fault Refusal :=
  match packetOf s packet with
  | some p =>
    let p := { p with poison := p.poison || poison, complete := true }
    if linked s packet then
      if p.poison && p.started then done (endBad s (p.target % 16) packet p 1)
      else if p.poison then done (removePacket (countQ s (p.target % 16) 5) packet)
      else if p.started then done (endWell s (p.target % 16) packet p)
      else done (updPacket s packet (fun _ => p))
    else done (admitWhole (updPacket s packet (fun _ => p)) packet p)
  | none => done s

/-- R182: a cut-through packet is judged on its first word under steps 3 to 6 and linked at once. -/
def execCutThroughAdmission (packet : Nat) (s : State) : Host.Outcome State Fault Refusal :=
  match packetOf s packet with
  | some p =>
    if !mayCutThrough s p || linked s packet then done s
    else if followerDrops s p then done (dropUnlinked s packet)
    else match judgeBuffers s p with
      | (.accept, s) => done (linkPacket (updPacket s packet (fun q => { q with complete := false })) packet)
      | (.out w refused, s) => done (answerAir (dropUnlinked (countQ s (p.target % 16) w) packet) p w refused)
  | none => done s

end Sys2Proof.Machine
end

