-- ==== Sys2Proof/Machine/Image.lean ====
section
/-! DEFINITION. Elulpa images and image banks: what a bank holds, the format of an image, its signature, and whether a
bank verifies (R319, R320, R323, R328, R329). -/

namespace Sys2Proof.Machine

/-- Bank A (0) or B (1). -/
def bankAt (s : State) (k : Nat) : Bank := if k = 0 then s.image.bankA else s.image.bankB

/-- The bank that runs. -/
def runningBank (s : State) : Bank := bankAt s s.image.running

/-- Change a bank. -/
def updBank (s : State) (k : Nat) (f : Bank → Bank) : State :=
  if k = 0 then { s with image := { s.image with bankA := f s.image.bankA } }
  else { s with image := { s.image with bankB := f s.image.bankB } }

/-- Bytes 4 to 7 of the boot record (Table 12-4). -/
def bootOctets (s : State) : Octets :=
  [byte (s.image.runBank * 128 + bitNat s.image.trial * 64 + s.image.trialCount * 4),
    byte (s.image.bankA.state.code * 16 + s.image.bankB.state.code)] ++ beOctets 2 s.image.minSec

/-- The boot record in force as its 64 octets, with its CRC-32C (Table 12-4). -/
def bootRecord (s : State) : Octets :=
  let b := beOctets 4 s.image.bootSeq ++ bootOctets s ++ padTo 16 s.image.bankA.digest ++
    padTo 16 s.image.bankB.digest ++ zeros 20
  b ++ beOctets 4 (crc32c b)

/-- The boot record is written: SEQ is raised by 1, and the two records are written in turn (R323). -/
def writeBoot (s : State) : State :=
  let s := { s with image := { s.image with bootSeq := (s.image.bootSeq + 1) % 2 ^ 32 } }
  { s with image := { s.image with bootRecords := FMap.put s.image.bootRecords (s.image.bootSeq % 2) (bootRecord s) } }

/-- Set a bank's state in the boot record. -/
def setBankState (s : State) (k : Nat) (b : BankState) : State := writeBoot (updBank s k (fun x => { x with state := b }))

/-- The other bank. -/
def otherBank (k : Nat) : Nat := 1 - k

/-- Offset of the part of a TYPE in a bank: the system image, or the application image (R328). -/
def partBase (typ : Nat) : Nat := if typ = 2 then 0xA00000 else 0

/-- Largest image of a TYPE: 10 MiB or 2 MiB (R328). -/
def partMax (typ : Nat) : Nat := if typ = 2 then 0x200000 else 0xA00000

/-- One octet of a bank. -/
def bankOctet (b : Bank) (a : Nat) : Byte :=
  if b.factory && a < 0xA00000 then Config.factoryOctet a else b.mem.read a

/-- Octets of a part of a bank, from an offset in the part. -/
def bankRead (b : Bank) (typ off n : Nat) : Octets := (List.range n).map (fun i => bankOctet b (partBase typ + off + i))

/- The image header and segment table (Tables 12-7 and 12-8); `h` is what an image holds from its byte 0. -/

/-- An image's octets, read by offset and length. -/
abbrev Reader := Nat → Nat → Octets

/-- A number of the image. -/
def imgN (h : Reader) (off len : Nat) : Nat := beNat (h off len)

def imgType (h : Reader) : Nat := imgN h 4 1
def imgSegments (h : Reader) : Nat := imgN h 6 2
def imgLength (h : Reader) : Nat := imgN h 8 4
def imgVersion (h : Reader) : Nat := imgN h 12 4
def imgSecVersion (h : Reader) : Nat := imgN h 16 2
def imgCompat (h : Reader) : Nat := imgN h 18 2
def imgKeyId (h : Reader) : Nat := imgN h 22 1

/-- Entry of a segment. -/
def segEntry (h : Reader) (i : Nat) : Octets := h (64 + 24 * i) 24

/-- ENGINE codes of the segments. -/
def segEngines (h : Reader) : List Nat := (List.range (imgSegments h)).map (fun i => fieldOf (segEntry h i) 0 1)

/-- A segment starts at a multiple of 64 and lies inside the image. -/
def segInside (h : Reader) (i : Nat) : Bool :=
  let e := segEntry h i
  fieldOf e 4 4 % 64 = 0 && fieldOf e 4 4 + fieldOf e 8 4 ≤ imgLength h

/-- The segments and KEY_ID a TYPE must have (R329). -/
def imgRules (h : Reader) (typ : Nat) : Bool :=
  if typ = 2 then (segEngines h).all (· = 0x60) && imgKeyId h = 0xFF
  else [0x01, 0x02, 0x10, 0x20, 0x21, 0x30, 0x40].all (fun c => (segEngines h).count c = 1) &&
    (segEngines h).length = 7 && imgKeyId h ≤ 3

/-- MAGIC, TYPE, lengths and segments are those of an image of a TYPE (R320, R328, R329). -/
def imgFormat (h : Reader) (typ : Nat) : Bool :=
  imgN h 0 4 = 0x454C4931 && imgType h = typ && 1 ≤ imgSegments h && imgSegments h ≤ 32 &&
    64 + 24 * imgSegments h + 64 ≤ imgLength h && imgLength h ≤ partMax typ &&
    (List.range (imgSegments h)).all (segInside h) && imgRules h typ

/-- PRODUCT is that of the LM9640. -/
def imgProduct (h : Reader) : Bool := imgN h 20 2 = 0x9640

/-- The public key a KEY_ID names: a Wenram key that is not revoked, or OWNER_APP_KEY (R319, R329). -/
def imageKey (s : State) (keyId : Nat) : Option Octets :=
  if keyId ≤ 3 then (if s.image.revoked.toNat.testBit keyId then none else some (Config.wenramKey keyId))
  else if keyId = 0xFF ∧ objN s 0x8022 0 ≠ 0 then some (obj s 0x8022 0)
  else none

/-- The trailer of `len` octets verifies under a key (R328, R331). -/
def signatureOk (s : State) (h : Reader) (keyId len : Nat) : Bool :=
  match imageKey s keyId with
  | some k => ecdsaVerifies k (sha256 (h 0 (len - 64))) (h (len - 64) 64)
  | none => false

/- Banks (R320). -/

/-- A part of a bank. -/
def partReader (b : Bank) (typ : Nat) : Reader := bankRead b typ

/-- VERSION, SEC_VERSION, STATE_COMPAT of the system image in a bank. -/
def bankVersion (b : Bank) : Nat := if b.factory then Config.factoryVersion else imgVersion (partReader b 1)
def bankSecVersion (b : Bank) : Nat := if b.factory then Config.factorySecVersion else imgSecVersion (partReader b 1)
def bankCompat (b : Bank) : Nat := if b.factory then Config.factoryCompat else imgCompat (partReader b 1)

/-- IMAGE_LEN of a part; 0 where it holds no image of that TYPE. -/
def partLength (b : Bank) (typ : Nat) : Nat :=
  if typ = 1 ∧ b.factory then Config.factoryLength
  else if imgN (partReader b typ) 0 4 = 0x454C4931 then min (partMax typ) (imgLength (partReader b typ)) else 0

/-- SHA-256 of a part's image. -/
def partDigest (b : Bank) (typ : Nat) : Octets :=
  if typ = 1 ∧ b.factory then Config.factoryDigest else sha256 (bankRead b typ 0 (partLength b typ))

/-- Whether a part verifies: 0, or 1 format, 2 signature (R320, R329). The factory image does, but for a revoked key. -/
def partResult (s : State) (b : Bank) (typ : Nat) : Nat :=
  if typ = 1 ∧ b.factory then (if s.image.revoked.toNat.testBit Config.factoryKeyId then 2 else 0)
  else
    let h := partReader b typ
    if !(imgFormat h typ && imgProduct h) then 1
    else if !signatureOk s h (imgKeyId h) (imgLength h) then 2 else 0

/-- Why a bank does not verify, 0 where it does: 1 format, 2 signature, 3 SEC_VERSION (R320, Table 12-20). -/
def bankResult (s : State) (k : Nat) : Nat :=
  match partResult s (bankAt s k) 1 with
  | 0 => if bankSecVersion (bankAt s k) < s.image.minSec then 3 else 0
  | e => e

/-- The leading 8 octets of a segment's SHA-256 equal its SEG_DIGEST (Table 12-8). -/
def segDigestOk (h : Reader) (i : Nat) : Bool :=
  let e := segEntry h i
  (sha256 (h (fieldOf e 4 4) (fieldOf e 8 4))).take 8 = sliceOf e 16 8

/-- Every segment of the running system image passes its digest check in LOAD (Table 12-1). -/
def segmentsLoad (s : State) : Bool :=
  let b := bankAt s s.image.running
  b.factory || (List.range (imgSegments (partReader b 1))).all (segDigestOk (partReader b 1))

/- The application image (R330). -/

/-- A segment of an application image in the clear; none where its tag fails. -/
def appSegment (s : State) (h : Reader) (i : Nat) : Option Octets :=
  let e := segEntry h i
  let d := h (fieldOf e 4 4) (fieldOf e 8 4)
  if bitOf (fieldOf e 1 1) 0 then
    match updChild s (meshEui s) 2 with
    | some k =>
      let iv := d.take 12
      let ct := sliceOf d 12 (d.length - 28)
      if 28 ≤ d.length ∧ gcmTag k iv e ct = d.drop (d.length - 16) then some (gcmCipher k iv ct) else none
    | none => none
  else some d

/-- State of the application image of the running bank: 0 good, 1 absent, 2 signature, 3 tag (R330). -/
def appResult (s : State) : Nat :=
  let b := bankAt s s.image.running
  let h := partReader b 2
  if imgN h 0 4 ≠ 0x454C4931 then 1
  else if partResult s b 2 ≠ 0 ∨ !(List.range (imgSegments h)).all (segDigestOk h) then 2
  else if (List.range (imgSegments h)).any (fun i => (appSegment s h i).isNone) then 3 else 0

/-- The application segments in the clear, with their LOAD_ADDR. -/
def appSegments (s : State) : List (Nat × Octets) :=
  let h := partReader (bankAt s s.image.running) 2
  (List.range (imgSegments h)).filterMap (fun i => (appSegment s h i).map (fun d => (fieldOf (segEntry h i) 12 4, d)))

end Sys2Proof.Machine
end

