-- ==== Sys2Proof/Machine/Keys.lean ====
section
/-! DEFINITION. Key updates: their checks, the shadow half, the commit, the partner's acceptance; the seed's place (R255,
R259, R265 to R274). -/

namespace Sys2Proof.Machine

/-- Fields of a key update message (Table 10-7). -/
def kuCounter (m : Octets) : Nat := fieldOf m 8 4
def kuSlot (m : Octets) : Nat := fieldOf m 12 1 % 64
def kuUse (m : Octets) : Nat := fieldOf m 13 1 / 64
def kuSize (m : Octets) : Nat := fieldOf m 13 1 / 32 % 2
def kuErase (m : Octets) : Bool := bitOf (fieldOf m 13 1) 4
def kuParent (m : Octets) : Nat := fieldOf m 14 1
def kuWrapped (m : Octets) : Octets := sliceOf m 15 40

/-- The wrapped key proper: 24 or 40 octets. -/
def kuKey (m : Octets) : Octets := (kuWrapped m).take (if kuSize m = 1 then 40 else 24)

/-- Check 1: the form of Table 10-7. -/
def kuFormat (m : Octets) : Bool :=
  m.length = 71 && fieldOf m 12 1 < 64 && fieldOf m 13 1 % 16 = 0 && (kuParent m < 64 || kuParent m = 0x80) &&
    (if kuErase m then beNat (kuWrapped m) = 0 else kuSize m = 1 || beNat ((kuWrapped m).drop 24) = 0)

/-- Check 3: the roles of Table 10-1. -/
def kuSlotOk (m : Octets) : Bool :=
  let p := kuParent m
  match kuSlot m with
  | 0 => false
  | 1 => kuUse m = 3 && kuSize m = 1 && p = 0
  | 2 => kuUse m = 2 && kuSize m = 1 && (p = 0 || p = 2)
  | 3 => kuUse m = 1 && p = 0
  | n => if n ≤ 11 then kuUse m ≤ 1 && p = 0x80 else p = 2 || (12 ≤ p && p < 64)

/-- Check 4: the device state, the lifecycle and the caller's role. -/
def kuStateOk (s : State) (who : Caller) (m : Octets) : Bool :=
  let role := (callerRole s who).getD 0
  s.power.lifecycle != .retired &&
    (if kuSlot m ≤ 3 then
      s.power.dev = .maintenance && (role = 2 || (role = 3 && s.power.lifecycle = .factory))
    else s.power.dev != .zeroized && 1 ≤ rightsOf s role)

/-- The parent key in force, if it is wrap-only (check 6). -/
def kuParentKey (s : State) (m : Octets) : Option Octets :=
  if kuParent m = 0x80 then purposeKey s (meshEui s) 6
  else if slotUse s (kuParent m) = 2 then slotValue s (kuParent m) else none

/-- Check 7: op 9, the CMAC over the message and then the unwrap. -/
def kuAuthentic (key m : Octets) : Bool :=
  cmac key (m.take 55) = m.drop 55 && (kuErase m || (keyUnwrap key (kuKey m)).isSome)

/-- The status of an update at KM, 0 where it is accepted (Table 10-8). -/
def kuStatus (s : State) (who : Caller) (m : Octets) : Nat :=
  if !kuFormat m then 2
  else if s.keys.pending.has (kuSlot m) then 1
  else if m.take 8 ≠ Config.deviceEui then 3
  else if !kuSlotOk m then 4
  else if !kuStateOk s who m then 5
  else if kuCounter m ≤ max (slotCounter s (kuSlot m)) (FMap.getD s.keys.copies (kuSlot m) 0) then 6
  else match kuParentKey s m with
    | none => 7
    | some k => if kuAuthentic k m then 0 else 8

/-- KEY_UPDATE_STATUS. -/
def setKeyStatus (s : State) (st : Nat) : State := { s with keys := { s.keys with status := st } }

/-- Raise a word of KM_COUNTERS (Table 10-13). -/
def countK (s : State) (word : Nat) : State := count s 0x7130 0 word

/-- A refused update (R266). -/
def kuRefused (s : State) (m : Octets) (st : Nat) : State :=
  let s := if st = 1 then countK s 5 else s
  record (countK (setKeyStatus s st) 1) 0x6201 (kuSlot m) st (kuCounter m)

/-- The octets of a slot half (Table 10-4). -/
def halfOctets (kek : Octets) (m key : Octets) : Octets :=
  let b := [byte (kuSlot m * 4 + kuUse m), byte (kuSize m * 128), byte (kuParent m), byte 0] ++ beOctets 4 (kuCounter m) ++
    padTo 40 (keyWrap kek key)
  b ++ cmac (Config.integrityOf kek) b

/-- Step 1 of R267: the shadow half is written; an ERASE writes none. -/
def writeShadow (s : State) (m : Octets) : State :=
  match s.keys.kek, (kuParentKey s m).bind (fun k => keyUnwrap k (kuKey m)) with
  | some kek, some key =>
    if kuErase m then s
    else
      let at_ := 0x1000 + 128 * kuSlot m + 64 * (1 - halfInForce s (kuSlot m))
      { s with keys := { s.keys with partition := s.keys.partition.writeAll at_ (halfOctets kek m key) } }
  | _, _ => s

/-- The chip waits for its twin partner: declared and present (R270). -/
def partnerPresent (s : State) : Bool := hasPartner s && !s.twin.absent

/-- An accepted update: its shadow, its place among the pending ones, and its acceptance for the partner (R266, R267,
R270). -/
def kuAccept (s : State) (who : Caller) (m : Octets) : State :=
  let slot := kuSlot m
  let waits := partnerPresent s
  let p : KeyPending := {
    counter := kuCounter m, use := kuUse m, size := kuSize m, erase := kuErase m
    shadow := if kuErase m then halfInForce s slot else 1 - halfInForce s slot
    acceptedAt := s.now, vendor := callerRole s who = some 3, waiting := waits
    partner := FMap.find s.keys.partnerAccepts slot = some (kuCounter m) }
  let s := writeShadow s m
  let s := { s with keys := { s.keys with pending := FMap.put s.keys.pending slot p } }
  let s := if waits then setKeyStatus s 9 else s
  let s := if s.power.dev = .follower then
      { s with twin := { s.twin with keySlot := slot, keyCounter := kuCounter m } } else s
  journal s 0 (.keyAccept slot (kuCounter m))

/-- One update at KM. -/
def kuProcess (s : State) (who : Caller) (m : Octets) : State :=
  match kuStatus s who m with
  | 0 => kuAccept s who m
  | st => kuRefused s m st

/-- KM holds an update between its two steps, which is not one that waits for the partner (R266). -/
def kmBusy (s : State) : Bool := s.keys.pending.any (fun p => !p.2.waiting)

/-- KM goes on with the updates that wait, in arrival order (R266). -/
def kmNext : Nat → State → State
  | 0, s => s
  | n + 1, s =>
    if kmBusy s then s
    else match s.keys.waiting with
      | [] => s
      | (m, who) :: l => kmNext n (kuProcess { s with keys := { s.keys with waiting := l } } who m)

/-- An update arrives at KM: taken, held, or refused with BUSY (R266). -/
def kuArrive (s : State) (who : Caller) (m : Octets) : State :=
  if 4 ≤ s.keys.waiting.length then kuRefused s m 1
  else kmNext 5 { s with keys := { s.keys with waiting := s.keys.waiting ++ [(m, who)] } }

/-- R266: a key update message is written; its outcome is KEY_UPDATE_STATUS. -/
def execKeyUpdate (who : Caller) (message : Octets) (s : State) : Host.Outcome State Fault Refusal :=
  done (command s who 0x7100 0 message (fun _ => 0) (fun s => kuArrive s who message))

/-- The commit word of a pending update (Table 10-3). -/
def commitOctets (slot : Nat) (p : KeyPending) : Octets :=
  beOctets 8 (slot * 2 ^ 58 + p.shadow * 2 ^ 57 + bitNat p.erase * 2 ^ 56 + p.counter % 2 ^ 32)

/-- Sessions whose role key stands in a slot end (R393). -/
def endRoleSessions (s : State) (slot : Nat) : State :=
  ((s.sop.sessions.filter (fun p => p.2.method = 0 && p.2.slot = slot)).map (·.1)).foldl (fun s k => endSession s 6 k) s

/-- R274: a slot 1 commit in a Vendor session moves FACTORY to PROVISIONED. -/
def provision (s : State) (slot : Nat) (p : KeyPending) : State :=
  if slot = 1 ∧ p.vendor ∧ s.power.lifecycle = .factory then
    { s with power := { s.power with lifecycle := .provisioned } } else s

/-- Steps 2 and 3 of R267, with the journal copy of R268. -/
def kuCommit (s : State) (slot : Nat) (p : KeyPending) : State :=
  let s := { s with keys := { s.keys with
    partition := s.keys.partition.writeAll (0x100 + 8 * slot) (commitOctets slot p)
    copies := FMap.put s.keys.copies slot p.counter
    committedAt := FMap.put s.keys.committedAt slot (if timeAcquired s then domainTime s / 1000000000 % 2 ^ 32 else 0)
    failed := s.keys.failed.filter (· ≠ slot)
    pending := FMap.del s.keys.pending slot
    partnerAccepts := FMap.del s.keys.partnerAccepts slot
    status := 0 } }
  let s := dropRegisters s (fun h => h = slot)
  let s := if slot = 1 then fillOwn (flushCache s 1 0xFFFF (fun _ => true)) else s
  let s := record (countK s 0) 0x6200 slot p.counter (p.use * 64 + p.size * 32 + bitNat p.erase * 16)
  kmNext 5 (endRoleSessions (provision s slot p) slot)

/-- R267, R270: the commit word is written with VIN present; a waiting update needs the partner's acceptance, or its
absence. -/
def execKeyUpdateCommit (slot : Nat) (s : State) : Host.Outcome State Fault Refusal :=
  match FMap.find s.keys.pending slot with
  | some p =>
    if s.power.vin ∧ (p.waiting = false ∨ p.partner ∨ s.twin.absent) then done (kuCommit s slot p) else done s
  | none => done s

/-- R270: 60 s without the partner's acceptance the shadow is discarded. -/
def execKeyUpdatePartnerTimeout (slot : Nat) (s : State) : Host.Outcome State Fault Refusal :=
  match FMap.find s.keys.pending slot with
  | some p =>
    if p.waiting ∧ p.partner = false ∧ s.twin.absent = false ∧ p.acceptedAt + 60000000000 ≤ s.now then
      let s := { s with keys := { s.keys with pending := FMap.del s.keys.pending slot, status := 11 } }
      done (record (countK s 2) 0x6203 slot p.counter 0)
    else done s
  | none => done s

/-- The partner has accepted an update for a slot (R270). -/
def partnerAccepted (s : State) (slot counter : Nat) : State :=
  { s with keys := { s.keys with
    partnerAccepts := FMap.put s.keys.partnerAccepts slot counter
    pending := s.keys.pending.update slot (fun p => if p.counter = counter then { p with partner := true } else p) } }

/-- SEED_MODE 0 or 1; 1 only while VBAT is present (R259). -/
def seedCheck (v : Nat) (s : State) : Nat := require (v = 0 || (v = 1 && s.power.vbat)) stRange

/-- KM moves the seed, then erases its old place (R259). -/
def seedApply (v : Nat) (s : State) : State :=
  let seed := seedNow s
  let moved := if objN s 0x7103 0 = v then s
    else if v = 1 then { s with keys := { s.keys with aonSeed := seed, partition := s.keys.partition.clear 0 64 } }
    else { s with keys := { s.keys with aonSeed := [], partition := s.keys.partition.writeAll 0 seed } }
  setObjN moved 0x7103 0 1 v

/-- R259: a SEED_MODE write moves the KEK seed between MRAM and AON. -/
def execSeedModeWrite (who : Caller) (value : Nat) (s : State) : Host.Outcome State Fault Refusal :=
  done (command s who 0x7103 0 (beOctets 1 value) (seedCheck (value % 256)) (seedApply (value % 256)))

end Sys2Proof.Machine
end

