-- ==== Sys2Proof/Machine/Tamper.lean ====
section
/-! DEFINITION. The hedgehog: its samples, the zeroize command and the end of the overwrite (R275 to R279). -/

namespace Sys2Proof.Machine

/-- TAMP0 (0) or TAMP1 (1) is at its active level (TAMPER_CFG). -/
def tampActive (s : State) (pin : Nat) (level : Bool) : Bool := level = bitOf (objField s 0x7121 0 pin 1) 0

/-- The sources that are bad in a sample (Table 10-9): the supply glitch counts while VIN is present, and in DORMANT only
the sources active there. -/
def badSources (s : State) (x : TamperSample) : List Nat :=
  let awake := s.power.vin
  (if tampActive s 0 x.tamp0 then [0] else []) ++ (if tampActive s 1 x.tamp1 then [1] else []) ++
  (if x.shieldBad then [2] else []) ++ (if x.glitch && awake then [3] else []) ++
  (if x.oscillatorBad then [4] else []) ++ (if x.temperature < -55 || 165 < x.temperature then [5] else [])

/-- Consecutive samples a source needs (Table 10-9). -/
def samplesNeeded (s : State) (bit : Nat) : Nat :=
  if bit ≤ 1 then objField s 0x7121 0 2 1 else if bit = 2 then 2 else if bit = 3 then 1 else 4

/-- A source is acted on (TAMPER_ENABLE). -/
def tamperEnabled (s : State) (bit : Nat) : Bool := bitOf (objN s 0x7120 0) bit

/-- Take one sample into the counts of consecutive bad samples. -/
def countSample (s : State) (x : TamperSample) : State :=
  let bad := badSources s x
  let next := [0, 1, 2, 3, 4, 5].foldl (fun (m : FMap Nat) b =>
    FMap.putD m b (if bad.contains b then min 255 (FMap.getD s.keys.samples b 0 + 1) else 0) 0) []
  { s with keys := { s.keys with samples := next, tamp0 := x.tamp0, tamp1 := x.tamp1 } }

/-- Sources at alarm: enabled, and bad for as long as they need. -/
def alarmMask (s : State) : Nat :=
  [0, 1, 2, 3, 4, 5].foldl (fun m b =>
    if tamperEnabled s b && samplesNeeded s b ≤ FMap.getD s.keys.samples b 0 then withBit m b else m) 0

/-- One hedgehog sample; a source that comes to alarm raises the alarm (R275, R276, R278). -/
def hedgehogSample (s : State) (x : TamperSample) : State :=
  let s := countSample s x
  let new := alarmMask s
  let rises := new &&& (new ^^^ s.keys.atAlarm) != 0
  let s := { s with keys := { s.keys with atAlarm := new } }
  if rises then tamperAlarm s new else s

/-- R275: the hedgehog samples in every state in which AON has power. -/
def execHedgehogSample (sample : TamperSample) (s : State) : Host.Outcome State Fault Refusal :=
  if s.power.aonValid then done (hedgehogSample s sample) else done s

/-- The first write of 0xA5 arms ZEROIZE_CMD, a second within 10 s raises the command source (Table 10-9). -/
def zeroizeCmdApply (s : State) : State :=
  match s.keys.zeroizeArmed with
  | some t =>
    if s.now ≤ t + 10000000000 then
      let s := { s with keys := { s.keys with zeroizeArmed := none } }
      if tamperEnabled s 6 then tamperAlarm s 64 else s
    else { s with keys := { s.keys with zeroizeArmed := some s.now } }
  | none => { s with keys := { s.keys with zeroizeArmed := some s.now } }

/-- R275: ZEROIZE_CMD takes 0xA5 alone. -/
def execZeroizeCmd (who : Caller) (value : Nat) (s : State) : Host.Outcome State Fault Refusal :=
  done (command s who 0x7124 0 (beOctets 1 value) (fun _ => require (value % 256 = 0xA5) stRange) zeroizeCmdApply)

/-- R276: the overwrite is read back as zero, PROV_GEN advances, event 0x6301. -/
def execZeroizeOverwriteDone (s : State) : Host.Outcome State Fault Refusal :=
  match s.keys.overwrite with
  | some (t, cause) =>
    let gen := min 32 (s.keys.provGen + 1)
    let s := { s with keys := { s.keys with partition := [], provGen := gen, zeroizeFlag := false, overwrite := none } }
    done (record s 0x6301 gen ((s.now - t) / 1000) cause)
  | none => done s

end Sys2Proof.Machine
end

