-- ==== Sys2Proof/Machine/Boot.lean ====
section
/-! DEFINITION. BOOT: OWL's samples, KM's ROM stage, the check of the banks, the release of CC0, RECOVERY (R258, R259, R268,
R273, R278, R318 to R321, R323, R335, R337). -/

namespace Sys2Proof.Machine

/- KM's ROM stage. -/

/-- Why a slot that is not empty has no usable half: 1 tag, 2 counter, 3 unwrap; 0 where it is usable or empty (R258). -/
def slotFailure (s : State) (slot : Nat) : Nat :=
  if slot = 0 ∨ slotEmpty s slot ∨ (halfValue s slot).isSome then 0
  else match s.keys.kek with
    | none => 1
    | some kek =>
      let h := slotHalf s slot (halfInForce s slot)
      if bitsOf (fieldOf h 0 1) 7 2 ≠ slot ∨ fieldOf h 4 4 ≠ slotCounter s slot then 2
      else if cmac (Config.integrityOf kek) (h.take 48) ≠ h.drop 48 then 1 else 3

/-- Check one slot: a failed one is recorded, and a journal copy below its COUNTER is raised (R258, R268). -/
def checkSlot (s : State) (slot : Nat) : State :=
  let c := slotCounter s slot
  let s := { s with keys := { s.keys with
    copies := FMap.putD s.keys.copies slot (max c (FMap.getD s.keys.copies slot 0)) 0 } }
  match slotFailure s slot with
  | 0 => s
  | e => record { s with keys := { s.keys with failed := s.keys.failed ++ [slot] } } 0x6202 slot c e

/-- KM computes the KEK, derives slot 0 and checks every slot (R258, R259, R268, R273). -/
def kmBootStage (s : State) : State :=
  let s := { s with keys := { s.keys with
    kek := some (Config.kekOf Config.deviceKey (seedNow s)), prov := provKey s, failed := [] } }
  (List.range 64).foldl checkSlot s

/-- ZEROIZE_PENDING stands in the partition (Table 10-2). -/
def zeroizePending (s : State) : Bool := s.keys.partition.readAll 0x40 8 = List.replicate 8 (byte 0x5A)

/-- The first samples of OWL (Table 12-1): an alarm, a latched flag or ZEROIZE_PENDING lead to ZEROIZED, and so does the
lifecycle RETIRED (Table 1-11). -/
def bootSample (s : State) (x : TamperSample) : State :=
  let s := countSample s x
  let sources := alarmMask s
  let s := { s with
    keys := { s.keys with atAlarm := sources }
    image := { s.image with sampled := true, recSample := !s.power.recRx } }
  if sources ≠ 0 then tamperAlarm s sources
  else if s.keys.zeroizeFlag ∨ zeroizePending s then zeroizeRows (changeState s .zeroized 0x1B) 2
  else if s.power.lifecycle = .retired then changeState s .zeroized s.power.startCause
  else kmBootStage s

/-- R278: OWL samples the hedgehog, the zeroize flag, ZEROIZE_PENDING and the recovery request once the rails are up. -/
def execBootHedgehogSample (sample : TamperSample) (s : State) : Host.Outcome State Fault Refusal :=
  if s.power.dev = .boot ∧ s.power.rails ∧ !s.image.sampled then done (bootSample s sample) else done s

/- The banks (R320, R335). -/

/-- The chip enters RECOVERY: 1 neither bank verifies, 2 REC_RX, 3 the SPI request (R337). -/
def enterRecovery (s : State) (cause : Nat) : State :=
  let s := changeState s .recovery s.power.startCause
  { s with image := { s.image with recovery := some { cause := cause, frameAt := s.now } } }

/-- DRAM contents that a start without retention clears (Table 12-2). -/
def clearDram (s : State) : State :=
  { s with
    link := { s.link with nodes := [], resting := [] }
    sched := { s.sched with cells := [] }
    fwd := { s.fwd with host := [], stash := [], routes := [], nextHops := [] }
    fleet := { s.fleet with stages := [] }
    recorder := { s.recorder with
      archive := s.recorder.ring
      oldest := max s.recorder.oldest (match s.recorder.ring with
        | p :: _ => p.1
        | [] => s.recorder.nextSeq) }
    image := { s.image with buffer := [] } }

/-- CC0 is released with a bank that verifies: LOAD begins; DRAM counts as retained where R321 allows (R318, R321). -/
def releaseCc0 (s : State) (k : Nat) : State :=
  let d := partDigest (bankAt s k) 1
  let kept := s.image.retain && s.image.runDigest = d
  let onTrial := s.image.trial && k = s.image.runBank
  let s := if onTrial then writeBoot { s with image := { s.image with trialCount := s.image.trialCount + 1 } } else s
  let s := { s with
    image := { s.image with running := k, runDigest := d, retained := kept, nodesRetained := kept }
    time := { s.time with loadAt := s.now, reportDue := s.now } }
  changeState (if kept then s else clearDram s) .load s.power.startCause

/-- An event for the end of the next LOAD. -/
def noteBoot (s : State) (code a b c : Nat) : State :=
  { s with image := { s.image with bootEvents := s.image.bootEvents ++ [(code, a, b, c)] } }

/-- RUN_BANK is rolled back from a trial (Table 12-12). -/
def rollBack (s : State) : State :=
  let k := s.image.runBank
  let s := noteBoot s 0x8002 k (otherBank k) s.image.trialCount
  setBankState { s with image := { s.image with
    runBank := otherBank k, trial := false, trialCount := 0, rolledBack := true } } k .rejected

/-- A bank fails at this BOOT (event 0x8001). -/
def bankFails (s : State) (k reason : Nat) : State :=
  noteBoot { s with image := { s.image with bootFailed := FMap.put s.image.bootFailed k reason } } 0x8001 k reason 0

/-- One bank has been checked: it is released, the other is tried, or RECOVERY begins (Table 12-1, R335). -/
def bankChecked (s : State) : State :=
  let run := s.image.runBank
  let k := if s.image.bootFailed.has run then otherBank run else run
  let result := bankResult s k
  let onTrial := s.image.trial && k = run
  if onTrial && (s.image.trialCount = 3 || result != 0) then rollBack (if result = 0 then s else bankFails s k result)
  else if result = 0 then releaseCc0 s k
  else
    let last := s.image.rolledBack || s.image.bootFailed.has (otherBank k)
    let s := bankFails s k result
    if last then enterRecovery s 1 else s

/-- R320: the image verifier finishes with a bank; OWL takes the second recovery sample. -/
def execBankVerifyDone (s : State) : Host.Outcome State Fault Refusal :=
  if s.power.dev = .boot ∧ s.power.rails ∧ s.image.sampled then
    if s.image.spiRequest then done (enterRecovery s 3)
    else if s.image.recSample ∧ !s.power.recRx then done (enterRecovery s 2)
    else done (bankChecked s)
  else done s

end Sys2Proof.Machine
end

