-- ==== Sys2Proof/Machine/AppLife.lean ====
section
/-! DEFINITION. The life of threads and of the application: mailbox blocks, freeing and creating threads, and the start
of the application (R353, R354, R358, R363, R365). -/

namespace Sys2Proof.Machine

/-- Base of the application thread memory (Table 13-4). -/
def appBase : Nat := 0x80000000

/-- End of the application thread memory (Table 13-4). -/
def appTop : Nat := 0xA0000000

/-- Whether octets lie in application thread memory (R358). -/
def inWindow (a n : Nat) : Bool := appBase ≤ a && a + n ≤ appTop

/-- Octets of application thread memory. -/
def appRead (s : State) (a n : Nat) : Octets := s.threads.memory.readAll a n

/-- Write octets that lie in application thread memory; others go nowhere. -/
def appWrite (s : State) (a : Nat) (v : Octets) : State :=
  if inWindow a v.length then { s with threads := { s.threads with memory := s.threads.memory.writeAll a v } } else s

/- Mailbox requests (R363, Table 13-7). -/

/-- Write STATUS of a request block. -/
def mailStatus (s : State) (addr st : Nat) : State := appWrite s (addr + 2) (beOctets 2 st)

/-- Output octets go to OUT_ADDR as far as OUT_LEN has room, and OUT_LEN becomes their number. -/
def mailOutput (s : State) (addr : Nat) (v : Octets) : State :=
  let v := v.take (beNat (appRead s (addr + 32) 4))
  appWrite (appWrite s (beNat (appRead s (addr + 24) 8)) v) (addr + 32) (beOctets 4 v.length)

/-- The requests a thread has outstanding. -/
def mailOf (s : State) (tid : Nat) : FMap MailRequest := s.threads.mail.keep (fun _ m => m.tid = tid)

/-- The outstanding requests of a thread end with ABORTED. -/
def abortMail (s : State) (tid : Nat) : State :=
  let s := (mailOf s tid).foldl (fun s (p : Nat × MailRequest) => mailStatus s p.2.addr 0xFFFD) s
  { s with threads := { s.threads with mail := s.threads.mail.keep (fun _ m => m.tid != tid) } }

/-- Requests of a thread that ends by itself complete without raising anything: they lose their thread. -/
def orphanMail (s : State) (tid : Nat) : State :=
  { s with threads := { s.threads with
      mail := s.threads.mail.mapVals (fun _ m => if m.tid = tid then { m with tid := 256 } else m) } }

/- Threads. -/

/-- The core that runs a thread. -/
def coreOf (s : State) (tid : Nat) : Option Nat := schedCores.find? (fun c => runningOn s c = some tid)

/-- Take a thread off its core, its list and its slot, whatever its state; `f` is what becomes of it, and its core takes
the next thread (Table 13-2). -/
def stopThread (s : State) (tid kind : Nat) (f : State → State) : State :=
  match coreOf s tid with
  | some c => takeNext (f (leaveCore s c)) c kind tid
  | none => refillSlots (f (unlist s tid))

/-- A TID becomes FREE. -/
def freeThread (s : State) (tid : Nat) : State :=
  { s with threads := { s.threads with threads := FMap.del s.threads.threads tid } }

/-- Kill a thread (Table 13-2). -/
def killThread (s : State) (tid : Nat) : State := stopThread (abortMail s tid) tid 0 (fun s => freeThread s tid)

/-- A new thread at the tail of its priority list (Table 13-2). -/
def addThread (s : State) (tid : Nat) (t : Thread) : State :=
  let s := accountAll s
  let s := { s with threads := { s.threads with threads := FMap.put s.threads.threads tid t } }
  settle (readyTail s tid)

/-- Affinity bits of byte 1 [7:5] of the thread control word, as cores 1 to 3. -/
def affinityOf (v : Nat) : List Nat := schedCores.filter (fun c => bitOf v (c + 4))

/-- Create a thread from a block of Table 13-6; its TID, none where no TID is free or a range is left (R352, R353). -/
def createThread (s : State) (lsf : Bool) (block : Octets) : State × Option Nat :=
  let prio := fieldOf block 24 1
  let aff := affinityOf (fieldOf block 25 1)
  let free := if lsf then s.threads.threads.lowestFree 0 64 else s.threads.threads.lowestFree 64 192
  if aff.isEmpty || prio < (if lsf then 0 else 8) || (if lsf then 7 else 31) < prio then (s, none)
  else match free with
    | some tid =>
      let t : Thread := { prio := prio, aff := aff, lsf := lsf, slice := fieldOf block 26 1, entry := fieldOf block 0 8,
                          stack := fieldOf block 8 8, argument := fieldOf block 16 8 }
      (addThread s tid t, some tid)
    | none => (s, none)

/- The application (R365). -/

/-- Every application thread is killed and the application memory cleared (R365). -/
def endApplication (s : State) : State :=
  let s := ((s.threads.threads.filter (fun p => !p.2.lsf)).map (·.1)).foldl killThread s
  { s with threads := { s.threads with memory := [], appRunning := false } }

/-- CC0 verifies the application image of the running bank, loads its segments and creates TID 64 from the first, or
records event 0x8005 (R330, R365). -/
def loadApplication (s : State) (cause : Nat) : State :=
  let r := appResult s
  let s := { s with image := { s.image with app := r } }
  match r, appSegments s with
  | 0, (entry, octets) :: l =>
    let s := ((entry, octets) :: l).foldl (fun s (x : Nat × Octets) => appWrite s x.1 x.2) s
    let s := { s with threads := { s.threads with appRunning := true, appStarts := (s.threads.appStarts + 1) % 2 ^ 32 } }
    let version := imgVersion (partReader (bankAt s s.image.running) 2)
    addThread (record s 0x0051 cause version 0) 64 { prio := 16, entry := entry, stack := appTop }
  | _, _ => record s 0x8005 s.image.running r 0

/-- The application starts anew: cause 1 LOAD, 2 APP_RESTART, 3 resynchronisation (Table 13-11). -/
def startApplication (s : State) (cause : Nat) : State := loadApplication (endApplication s) cause

end Sys2Proof.Machine
end

