-- ==== Sys2Proof/Machine/Copies.lean ====
section
/-! DEFINITION. The configuration copies: their layout, their two CMACs and the writing of the locked section (R324,
R325). -/

namespace Sys2Proof.Machine

/-- One object record of a copy (Table 12-5). -/
def cfgRecord (key : Nat) (v : Octets) : Octets :=
  padTo ((6 + v.length + 3) / 4 * 4) (beOctets 2 (key / 256) ++ [byte (key % 256), byte 0] ++ beOctets 2 v.length ++ v)

/-- RECORDS of a copy. -/
def cfgRecords (m : FMap Octets) : Octets := (m.map (fun p => cfgRecord p.1 p.2)).flatten

/-- Octets 64 to 4,159 of a copy. -/
def lockedOctets (c : CfgCopy) : Octets := padTo 4096 (padTo 556 c.profile ++ [byte (bitNat c.locked)])

/-- LOCK_CMAC of a copy: over bytes 12 to 15 and 64 to 4,159. -/
def lockCmacOf (c : CfgCopy) : Octets := cmac configKey (beOctets 4 c.regionCounter ++ lockedOctets c)

/-- Octets 0 to 31 of a copy. -/
def cfgHead (c : CfgCopy) : Octets :=
  beOctets 4 0x4C434647 ++ beOctets 4 c.generation ++ beOctets 4 (cfgRecords c.records).length ++ beOctets 4 c.regionCounter ++
    padTo 16 c.lockCmac

/-- CMAC of a copy: over bytes 0 to 31 and 64 to 4,159 + REC_LEN. -/
def cfgCmacOf (c : CfgCopy) : Octets := cmac configKey (cfgHead c ++ lockedOctets c ++ cfgRecords c.records)

/-- The copy takes part in the resolution of the records. -/
def cfgValid (c : CfgCopy) : Bool := c.cmac.length = 16 && c.cmac = cfgCmacOf c

/-- The copy takes part in the resolution of the locked section. -/
def lockValid (c : CfgCopy) : Bool := c.lockCmac.length = 16 && c.lockCmac = lockCmacOf c

/-- A copy with its CMAC computed. -/
def sealCopy (c : CfgCopy) : CfgCopy := { c with cmac := cfgCmacOf c }

/-- A copy with both CMACs computed. -/
def sealLocked (c : CfgCopy) : CfgCopy :=
  let c := { c with lockCmac := lockCmacOf c }
  if c.cmac.isEmpty then c else sealCopy c

/-- A copy that holds nothing. -/
def blankCopy : CfgCopy :=
  { generation := 0, regionCounter := 0, profile := [], locked := false, records := [], lockCmac := [], cmac := [] }

/-- Copy A, B or C, keyed 1 to 3. -/
def cfgCopy (s : State) (k : Nat) : CfgCopy := FMap.getD s.image.copies k blankCopy

/-- Write the locked section in force into the three copies (R325); it counts as resolved (R326). A copy whose records
verify keeps verifying; one that never verified still does not. -/
def writeLocked (s : State) : State :=
  let put := fun (m : FMap CfgCopy) k =>
    let c := cfgCopy s k
    let c := { c with
      regionCounter := objN s 0x2303 0, profile := regionProfile s, locked := objB s 0x2304 0,
      cmac := if cfgValid c then c.cmac else [] }
    FMap.put m k (sealLocked c)
  { s with image := { s.image with copies := [1, 2, 3].foldl put s.image.copies, lockedOutcome := 0 } }

end Sys2Proof.Machine
end

