-- ==== Sys2Proof/Machine/Crossing.lean ====
section
/-! DEFINITION. The crossing FIFOs and memory errors (R15 to R21, R312, R314, R452). -/

namespace Sys2Proof.Machine

/-- Parity of the ones in a number of `n` bits: true when their count is odd. -/
def oddOnes (n v : Nat) : Bool := (List.range n).foldl (fun p i => p != v.testBit i) false

/-- SBPAR of a word's sideband: even parity over byte 64 and byte 65 bits [6:0] (Table 1-9). -/
def sideParity (b64 valid : Nat) : Nat := bitNat (oddOnes 15 (b64 % 256 * 128 + valid % 128))

/-- DPAR of 64 data octets: bit n covers octets 8n to 8n + 7 (Table 1-9). -/
def dataParity (data : Octets) : Nat :=
  (List.range 8).foldl (fun d n => if oddOnes 64 (fieldOf data (8 * n) 8) then d + 2 ^ n else d) 0

/-- A read word of 68 octets (Table 1-9). -/
def fifoWord (data : Octets) (first last poison : Bool) : Octets :=
  let b64 := bitNat first * 128 + bitNat last * 64 + bitNat poison * 32
  let valid := max 1 (min 64 data.length)
  let full := (padTo 64 data).take 64
  full ++ [byte b64, byte (sideParity b64 valid * 128 + valid), byte (dataParity full), byte 0]

/-- FIRST, LAST and POISON of a word. -/
def wordFirst (w : Octets) : Bool := bitOf (fieldOf w 64 1) 7
def wordLast (w : Octets) : Bool := bitOf (fieldOf w 64 1) 6
def wordPoison (w : Octets) : Bool := bitOf (fieldOf w 64 1) 5

/-- SBPAR checks (R18). -/
def sideGood (w : Octets) : Bool :=
  fieldOf w 65 1 / 128 = sideParity (fieldOf w 64 1) (fieldOf w 65 1)

/-- DPAR checks (R18). -/
def dataGood (w : Octets) : Bool := fieldOf w 66 1 = dataParity (w.take 64)

/-- A word with POISON set, and LAST where asked; its sideband parity follows. -/
def poisonWord (w : Octets) (last : Bool) : Octets :=
  let b := withBit (fieldOf w 64 1) 5
  let b := if last then withBit b 6 else b
  let v := fieldOf w 65 1 % 128
  w.take 64 ++ [byte b, byte (sideParity b v * 128 + v)] ++ w.drop 66

/-- Change a crossing FIFO. -/
def updFifo (s : State) (n : Nat) (f : Fifo → Fifo) : State :=
  { s with fifos := FMap.putD s.fifos n (f (FMap.getD s.fifos n {})) {} }

/-- A crossing FIFO. -/
def fifoOf (s : State) (n : Nat) : Fifo := FMap.getD s.fifos n {}

/-- A packet is in progress on the write side. -/
def Fifo.writing (f : Fifo) : Bool := !f.packing.isEmpty || !f.atStart

/-- The LAST and POISON word that closes a packet; its data are left open (R20, R21). -/
def closingWord (s : State) : Octets := fifoWord (beOctets 64 (freeNow s)) false true true

/-- R21: a sample FIFO would overflow: the lane being fed gets a poisoned word, its frame is lost, it is released. -/
def sampleOverflow (s : State) (n lane : Nat) : State :=
  let s := emit (drewFree s) (.fifo n (closingWord s))
  let s := record (countRx s (n + 1) 9) 0x0022 n lane 0
  let s := updFifo s n (fun f => { f with packing := [], atStart := true, dropToLast := f.writing })
  if (laneOf s lane).state.holds then releaseLane s lane else s

/-- Pack a unit into the word under construction and store the word when it is full or ends its packet (R17). -/
def packUnit (f : Fifo) (unit : Octets) (last poison : Bool) : Fifo :=
  let data := f.packing ++ unit.take 16
  let bad := f.poisoned || poison
  if last || 64 ≤ data.length then
    { f with
      words := f.words ++ [fifoWord data f.atStart last bad], packing := [], atStart := last,
      poisoned := if last then false else bad, stalled := false }
  else { f with packing := data, poisoned := bad, stalled := false }

/-- R17: a writer delivers a unit of up to 16 octets: packed, stalled on a full FIFO, or discarded by a flush. -/
def execFifoWriteUnit (fifo lane : Nat) (unit : Octets) (last poison : Bool) (s : State) :
    Host.Outcome State Fault Refusal :=
  let f := fifoOf s fifo
  if 64 ≤ fifo then done s
  else if f.dropToLast then
    done (if last then updFifo s fifo (fun f => { f with dropToLast := false, atStart := true, poisoned := false }) else s)
  else if 64 ≤ f.words.length then
    if fifo < 9 then done (sampleOverflow s fifo lane) else done (updFifo s fifo (fun f => { f with stalled := true }))
  else done (updFifo s fifo (fun f => packUnit f unit last poison))

/-- Flip the named bits (8 x octet + bit) of a stored word. -/
def flipBits (w : Octets) (flipped : List Nat) : Octets :=
  (w.zip (List.range w.length)).map (fun p =>
    flipped.foldl (fun b i => if i / 8 = p.2 then b ^^^ byte (2 ^ (i % 8)) else b) p.1)

/-- The flush at a packet boundary: queued packets go, the rest of one in progress is discarded as it comes (R20). -/
def flushNow (s : State) (n : Nat) : State :=
  updFifo s n (fun f =>
    { f with words := [], packing := [], atStart := true, poisoned := false, stalled := false, skipping := false,
             midPacket := false, dropToLast := f.dropToLast || f.writing, flushAt := none, discarded := 0 })

/-- Deliver a word; the delivery of a LAST completes a flush that waits for it (R18, R20). -/
def deliver (s : State) (n : Nat) (w : Octets) : State :=
  let s := emit s (.fifo n w)
  let s := updFifo s n (fun f => { f with midPacket := !wordLast w })
  if wordLast w && (fifoOf s n).flushAt.isSome then flushNow s n else s

/-- R18: the read side checks and delivers the oldest word, poisons it, or discards it up to the next FIRST. -/
def execFifoReadWord (fifo : Nat) (flipped : List Nat) (s : State) : Host.Outcome State Fault Refusal :=
  match (fifoOf s fifo).words with
  | [] => done s
  | w0 :: rest =>
    let w := flipBits w0 flipped
    let f := fifoOf s fifo
    let s := updFifo s fifo (fun f => { f with words := rest, stalled := false })
    if f.skipping && !(sideGood w && wordFirst w) then
      done (updFifo s fifo (fun f => { f with discarded := f.discarded + 1 }))
    else
      let s := if f.skipping then
          updFifo (record s 0x0020 fifo 1 f.discarded) fifo (fun f => { f with skipping := false, discarded := 0 })
        else s
      if !sideGood w then
        let s := updFifo s fifo (fun f => { f with skipping := true, discarded := 0 })
        done (deliver s fifo (poisonWord w true))
      else if !dataGood w then done (deliver (record s 0x0020 fifo 0 0) fifo (poisonWord w false))
      else done (deliver s fifo w)

/-- R20: a flush request takes effect at the next packet boundary, now if no packet has begun to be read. -/
def execFifoFlushRequest (fifo : Nat) (s : State) : Host.Outcome State Fault Refusal :=
  if 64 ≤ fifo then done s
  else if (fifoOf s fifo).midPacket then
    done (updFifo s fifo (fun f => { f with flushAt := some (f.flushAt.getD s.now) }))
  else done (flushNow s fifo)

/-- R20: no boundary within 64 us of the request; a LAST and POISON word closes the packet and the flush completes. -/
def execFifoFlushTimeout (fifo : Nat) (s : State) : Host.Outcome State Fault Refusal :=
  match (fifoOf s fifo).flushAt with
  | some t =>
    if t + 64000 ≤ s.now then
      let lost := (fifoOf s fifo).words.length
      let s := flushNow (emit (drewFree s) (.fifo fifo (closingWord s))) fifo
      done (record s 0x0021 fifo lost 0)
    else done s
  | none => done s

/-- A corrected error is counted; more than ECC_RATE_LIMIT of one memory within 1 s is fatal-to-role (R15, R312). -/
def correctedError (s : State) (memory : Nat) : State :=
  let recent := s.now :: (FMap.getD s.twin.eccTimes memory []).filter (fun t => s.now < t + 1000000000)
  let s := { s with
    power := { s.power with corrected := FMap.put s.power.corrected memory (FMap.getD s.power.corrected memory 0 + 1) }
    twin := { s.twin with eccTimes := FMap.put s.twin.eccTimes memory recent } }
  if objN s 0x9015 0 < recent.length then fatalToRole s 3 (memory != 13) else s

/-- Poison a packet of the pool (R15). -/
def poisonPacket (s : State) (k : Nat) : State := updPacket s k (fun p => { p with poison := true })

/-- R15: a memory error is counted if corrected; otherwise it poisons a packet, refetches an L1 line, or is
fatal-to-role. Memories 0 to 12 are the rows of Table 1-4, 13 is DRAM. -/
def execMemoryError (memory : Nat) (uncorrectable : Bool) (place : MemoryPlace) (s : State) :
    Host.Outcome State Fault Refusal :=
  if !uncorrectable then done (correctedError s memory)
  else match place with
    | .packetPool k => done (poisonPacket s k)
    | .fifoWord n => done (updFifo s n (fun f => match f.words with
        | [] => { f with poisoned := f.writing || f.poisoned }
        | w :: rest => { f with words := poisonWord w false :: rest }))
    | .l1Line => done s
    | .elsewhere => done (fatalToRole s 3 (memory != 13))

end Sys2Proof.Machine
end

