-- ==== Sys2Proof/Machine/Tuner.lean ====
section
/-! DEFINITION. The aerial tuners (R101, R102, Table 4-4). -/

namespace Sys2Proof.Machine

/-- Raise a word of TX_COUNTERS (Table 4-12). -/
def countTx (s : State) (bs word : Nat) : State := count s 0x2310 bs word

/-- Tuner code of a port now: its own once it has transmitted, TUNER_RX_DEFAULT before (R101). -/
def tunerCode (s : State) (p : Nat) : Nat := (portOf s p).code.getD (objN s 0x2214 p % 4096)

/-- DEGRADED bit 2: a port is derated or disabled, or a transmitter is suspended on its mask (Tables 1-12 and 4-4, R75). -/
def portCause (s : State) : State :=
  setCause s 2 (s.front.ports.any (fun p => p.2.state = .derated || p.2.state = .disabled) || !s.modem.suspended.isEmpty)

/-- The port a band-sector transmits from, 0xFF where both are DISABLED (R102). -/
def portCode (s : State) (bs : Nat) : Nat :=
  if (portOf s bs).state = .disabled && (portOf s (bs + 16)).state = .disabled then 0xFF else portNow s bs

/-- A port becomes DERATED (Table 4-4). -/
def derate (s : State) (p vswr cause : Nat) : State :=
  let s := updPortState s p (fun x => { x with state := .derated, above4 := 0, below3 := 0 })
  portCause (record s 0x1231 p vswr cause)

/-- A port becomes DISABLED and its transmitter leaves it (Table 4-4, R102). -/
def disablePort (s : State) (p vswr : Nat) : State :=
  let bs := portSector p
  let s := updPortState s p (fun x => { x with state := .disabled })
  let s := record s 0x1232 p vswr (portCode s bs)
  refreshService (portCause s) bs

/-- One more consecutive transmission above 4:1. -/
def mismatchCount (s : State) (p vswr : Nat) : State :=
  let n := (portOf s p).above4 + 1
  let s := updPortState s p (fun x => { x with above4 := n, below3 := 0 })
  match (portOf s p).state with
  | .derated => if 16 ≤ n then disablePort s p vswr else s
  | .disabled => s
  | _ => if 4 ≤ n then derate s p vswr 1 else s

/-- Events of a transmission at or below 4:1, at most one an hour (Table 4-4). -/
def warnPort (s : State) (p vswr : Nat) : State :=
  let due : Bool := match (portOf s p).warnAt with
    | some t => t + 3600000000000 ≤ s.now
    | none => true
  let s := if due then record (updPortState s p (fun x => { x with warnAt := some s.now })) 0x1230 p vswr (tunerCode s p) else s
  updPortState s p (fun x => { x with state := .warn })

/-- The next tuner code: one step toward best match, a search the spec does not state (log entry 8). -/
def steppedCode (s : State) (p vswr : Nat) : Nat := (Config.value 7 [(tunerCode s p : Int), (vswr : Int)] % 4096).toNat

/-- Table 4-4 at the end of a transmission from a port, VSWR in 0.01. -/
def measurePort (s : State) (p vswr : Nat) : State :=
  let s := updPortState s p (fun x => { x with vswr := vswr, code := some (tunerCode s p) })
  if 400 < vswr then mismatchCount s p vswr
  else
    let s := updPortState s p (fun x => { x with above4 := 0 })
    match (portOf s p).state with
    | .derated =>
      let n := if vswr ≤ 300 then (portOf s p).below3 + 1 else 0
      if 64 ≤ n then portCause (updPortState s p (fun x => { x with state := .normal, below3 := 0 }))
      else updPortState s p (fun x => { x with below3 := n })
    | .disabled => s
    | state =>
      let s := if vswr ≤ 250 then updPortState s p (fun x => { x with state := .normal })
        else if state = .normal then warnPort s p vswr else s
      updPortState s p (fun x => { x with code := some (steppedCode s p vswr) })

/-- Reflected power above 8:1 during a frame: the port is derated at once, the frame counts above 4:1 (Table 4-4). -/
def tripPort (s : State) (p vswr : Nat) : State :=
  let run := if (portOf s p).state = .derated then (portOf s p).above4 + 1 else 0
  let s := updPortState (derate s p vswr 2) p (fun x => { x with vswr := vswr, above4 := run })
  if 16 ≤ run then disablePort s p vswr else s

/-- DISABLED to DERATED by command (Table 4-4). -/
def restorePort (p : Nat) (s : State) : State :=
  if (portOf s p).state = .disabled then
    let s := updPortState s p (fun x => { x with state := .derated, above4 := 0, below3 := 0 })
    refreshService (portCause (record s 0x1233 p 0 0)) (portSector p)
  else s

/-- R101: the command moves a DISABLED port to DERATED. -/
def execTunerRestore (who : Caller) (port : Nat) (s : State) : Host.Outcome State Fault Refusal :=
  done (command s who 0x2213 port [byte 0] (fun _ => 0) (restorePort port))

end Sys2Proof.Machine
end

