-- ==== Sys2Proof/Machine/Calibrate.lean ====
section
/-! DEFINITION. The calibrations of the transmit chains (R94, R95, Table 4-2). -/

namespace Sys2Proof.Machine

/-- Duration of a calibration in us (Table 4-2). -/
def calDuration (k : Nat) : Nat := if k = 1 then 40 else if k = 2 then 32 else 24

/-- RF die temperature, 0.1 degree C, which the temperature triggers follow. -/
def rfTemp (s : State) : Int := listGet s.measure.temps 1 0

/-- Instant (ns) at which a calibration fell due: scheduled, or CAL_PERIOD after its last run or the end of the start
(Table 4-2). -/
def calDueAt (s : State) (bs k : Nat) : Option Nat :=
  let c := chainOf s bs
  let periodic := (match FMap.find c.calLast k with | some (t, _) => t | none => s.power.endOfStart) +
    objN s 0x2220 0 * 1000000000
  match FMap.find c.calDue k with
  | some t => some (min t periodic)
  | none => if periodic ≤ s.now then some periodic else none

/-- Make a calibration due now. -/
def scheduleCal (s : State) (bs k : Nat) : State :=
  updChain s bs (fun c => { c with calDue := if c.calDue.has k then c.calDue else FMap.put c.calDue k s.now })

/-- A temperature change of CAL_TEMP_STEP makes calibrations 1 and 2 due (Table 4-2). -/
def calTempDue (s : State) (bs : Nat) : State :=
  let far : Nat → Bool := fun k => match FMap.find (chainOf s bs).calLast k with
    | some (_, t) => objN s 0x2221 0 * 10 ≤ (rfTemp s - t).natAbs
    | none => false
  [1, 2].foldl (fun s k => if far k then scheduleCal s bs k else s) s

/-- A frame that requests an acknowledgement has passed its PHR check on the band-sector and the acknowledgement is still
pending; what a lane in PAYLOAD asks for is not known before its end, so it counts (R94). -/
def ackPending (s : State) (bs : Nat) : Bool :=
  s.rx.lanes.any (fun p => p.2.bandSector = bs && p.2.state = .payload) ||
    s.link.acksDue.any (fun a => a.bandSector = bs) ||
    ((chainOf s bs).plan.map (·.kind)) = some .ack

/-- The instant meets the conditions of R94. -/
def calMayStart (s : State) (bs : Nat) : Bool :=
  let c := chainOf s bs
  c.calRun.isNone && !c.settling && !ackPending s bs &&
    (match c.plan with
      | some p => (p.phase = .planned && s.now + 200000 ≤ p.startAt) || p.phase = .ended
      | none => true)

/-- R94: a due calibration starts at an instant that meets its conditions. -/
def execCalibrationStart (bandSector calibration : Nat) (s : State) : Host.Outcome State Fault Refusal :=
  if allBandSectors.contains bandSector ∧ 1 ≤ calibration ∧ calibration ≤ 3 ∧ s.power.dev = .active ∧
      (calDueAt s bandSector calibration).isSome ∧ calMayStart s bandSector then
    done (updChain s bandSector (fun c => { c with
      calRun := some (calibration, s.now + calDuration calibration * 1000)
      skipNext := if c.skipNext = some calibration then none else c.skipNext }))
  else done s

/-- R94: the calibration that runs completes after its duration. -/
def execCalibrationDone (bandSector : Nat) (s : State) : Host.Outcome State Fault Refusal :=
  match (chainOf s bandSector).calRun with
  | some (k, t) =>
    if t ≤ s.now then
      done (updChain s bandSector (fun c => { c with
        calRun := none, calDue := FMap.del c.calDue k, calLast := FMap.put c.calLast k (s.now, rfTemp s) }))
    else done s
  | none => done s

/-- Skip a chain's cell under R92: its outcome, its counter, its reservation, REQ and PRI. -/
def skipTx (s : State) (bs word code : Nat) : State :=
  match (chainOf s bs).plan with
  | some p => dropPlan (countTx (addOutcome s (p.cell.getD 0) bs code 0) bs word) bs
  | none => s

/-- Skip the planned frame for a calibration (R95). -/
def skipForCal (s : State) (bs k : Nat) : State :=
  let waited := (s.now - (calDueAt s bs k).getD s.now) / 1000000000
  skipTx (record s 0x1201 bs k waited) bs 3 2

/-- A plan is a frame that has not begun its ramp. -/
def frameAhead (p : TxPlan) : Bool :=
  p.kind = .frame && (p.phase = .planned || p.phase = .retuned || p.phase = .commanded || p.phase = .ready ||
    p.phase = .sampled)

/-- R95: a calibration that has waited CAL_MAX_WAIT makes room by skipping the chain's next transmit cell. -/
def execCalMaxWaitExpiry (bandSector calibration : Nat) (s : State) : Host.Outcome State Fault Refusal :=
  match calDueAt s bandSector calibration with
  | some t =>
    let c := chainOf s bandSector
    if 1 ≤ calibration ∧ calibration ≤ 3 ∧ t + objN s 0x2222 0 * 1000000000 ≤ s.now ∧ c.calRun.isNone then
      if (c.plan.map frameAhead) = some true then done (skipForCal s bandSector calibration)
      else done (updChain s bandSector (fun c => { c with skipNext := some calibration }))
    else done s
  | none => done s

end Sys2Proof.Machine
end

