-- ==== Sys2Proof/Machine/Duty.lean ====
section
/-! DEFINITION. Duty accounts and dwell: use, ceilings, reservation, settlement, persistence (R112, R114 to R118). -/

namespace Sys2Proof.Machine

/-- Current second of domain time, which the buckets count in (R115). -/
def dutySecondNow (s : State) : Nat := domainTime s / 1000000000

/-- Account subindex of a band's sub-band (R119). -/
def accountOf (b sub : Nat) : Nat := 8 * b + sub + 1

/-- A duty account. -/
def dutyOf (s : State) (a : Nat) : DutyAccount := FMap.getD s.front.duty a {}

/-- Change a duty account. -/
def updDuty (s : State) (a : Nat) (f : DutyAccount → DutyAccount) : State :=
  { s with front := { s.front with duty := FMap.putD s.front.duty a (f (dutyOf s a)) {} } }

/-- Sum of the buckets of a rolling window of `n` seconds. -/
def windowSum (second n : Nat) (m : FMap Nat) : Nat := sumOf ((m.filter (fun p => second < p.1 + n)).map (·.2))

/-- U of an account in us, reservations counted (R115, R116). -/
def dutyUse (s : State) (a : Nat) : Nat := windowSum (dutySecondNow s) 3600 (dutyOf s a).buckets + (dutyOf s a).reserved

/-- DUTY_US of an account; 0 where the profile has no such sub-band (Table 4-8). -/
def dutyLimit (s : State) (a : Nat) : Nat :=
  let block := blockOf s ((a - 1) / 8)
  if (a - 1) % 8 < subBands block then fieldOf (subBand block ((a - 1) % 8)) 6 4 else 0

/-- R_k of an account (R116). -/
def dutyReserve (s : State) (limit k : Nat) : Nat := limit * objField s 0x4800 0 (2 * k) 2 / 1000

/-- C_c of an account (R116). -/
def classCeiling (s : State) (limit cls : Nat) : Nat :=
  limit - sumOf ((List.range (min cls 3)).map (dutyReserve s limit))

/-- The check of R116 for a transmission of a class and on-time. -/
def dutyAllows (s : State) (a cls onTime : Nat) : Bool :=
  let limit := dutyLimit s a
  limit = 0xFFFFFFFF || dutyUse s a + onTime ≤ classCeiling s limit cls

/-- Reserve an on-time (R116). -/
def reserveDuty (s : State) (a onTime : Nat) : State := updDuty s a (fun x => { x with reserved := x.reserved + onTime })

/-- Record a failed duty check, once per coalescing window of the event (R116). -/
def dutyFailed (s : State) (a cls : Nat) : State := record s 0x1300 a (min cls 3) (dutyUse s a / 1000)

/-- Add an amount to the bucket of a second. -/
def addBucket (m : FMap Nat) (second n : Nat) : FMap Nat := FMap.put m second (FMap.getD m second 0 + n)

/-- Replace a reservation by the actual on-time (R116). -/
def settleDuty (s : State) (a reserved onTime : Nat) : State :=
  updDuty s a (fun x => { buckets := addBucket x.buckets (dutySecondNow s) onTime, reserved := x.reserved - reserved })

/- Dwell (R114). -/

/-- Key of a channel's dwell window: band code and lowest bin. -/
def dwellKey (b firstBin : Nat) : Nat := 65536 * b + firstBin

/-- Rolling 20 s on-time of a channel, us. -/
def dwellUse (s : State) (b firstBin : Nat) : Nat := windowSum (dutySecondNow s) 20 (FMap.getD s.front.dwell (dwellKey b firstBin) [])

/-- Dwell is kept in a sub-band of access 3 (R114). -/
def dwellKept (s : State) (b mode firstBin : Nat) : Bool := subBandAccess (blockOf s b) (channelSubBand s b mode firstBin) = 3

/-- A transmission would not bring its channel above DWELL_MS (R114). -/
def dwellAllows (s : State) (b mode firstBin onTime : Nat) : Bool :=
  let most := fieldOf (blockOf s b) 60 2
  !dwellKept s b mode firstBin || !hoppingClass (blockOf s b) mode || most = 0 ||
    dwellUse s b firstBin + onTime ≤ most * 1000

/-- Add a transmission to its channel's window. -/
def addDwell (s : State) (b mode firstBin onTime : Nat) : State :=
  if dwellKept s b mode firstBin then
    let m := FMap.getD s.front.dwell (dwellKey b firstBin) []
    { s with front := { s.front with
        dwell := FMap.put s.front.dwell (dwellKey b firstBin) (addBucket m (dutySecondNow s) onTime) } }
  else s

/-- DWELL_MAX in ms (R114). -/
def dwellMax (s : State) : Nat :=
  min 0xFFFF ((s.front.dwell.map (fun p => windowSum (dutySecondNow s) 20 p.2 / 1000)).foldl max 0)

/- Persistence (R118). -/

/-- Per-minute sums of an account's buckets in the window. -/
def minuteSums (second : Nat) (m : FMap Nat) : FMap Nat :=
  (m.filter (fun (p : Nat × Nat) => second < p.1 + 3600)).foldl (fun (x : FMap Nat) (p : Nat × Nat) => addBucket x (p.1 / 60) p.2) []

/-- Buckets restored from per-minute sums, with the minutes since the last write charged at their highest (R118). -/
def restoredBuckets (second last : Nat) (m : FMap Nat) : FMap Nat :=
  let most := (m.map (·.2)).foldl max 0
  let from_ := max last ((second - 3600) / 60)
  let own : FMap Nat := m.foldl (fun (x : FMap Nat) (p : Nat × Nat) => addBucket x (60 * p.1 + 59) p.2) []
  let gap : FMap Nat := (List.range (second / 60 + 1 - from_)).foldl (fun x i => addBucket x (60 * (from_ + i) + 59) most) own
  (if most = 0 then own else gap).filter (fun (p : Nat × Nat) => second < p.1 + 3600)

/-- Rebuild the accounts once domain time is acquired after a start (R118). -/
def restoreDuty (s : State) : State :=
  if s.front.dutyRestored || !timeAcquired s then s
  else
    let second := dutySecondNow s
    let s := match s.front.minuteLast with
      | some last => (s.front.minutes.foldl (fun (s : State) (p : Nat × FMap Nat) => updDuty s p.1 (fun x =>
          { x with buckets := restoredBuckets second last p.2 })) s)
      | none => s
    { s with front := { s.front with dutyRestored := true } }

/-- R115: a second of domain time begins: the accounts roll to its bucket. -/
def execDutyBucketTick (s : State) : Host.Outcome State Fault Refusal :=
  let s := restoreDuty s
  let second := dutySecondNow s
  done { s with front := { s.front with
    dutySecond := second
    duty := (s.front.duty.mapVals (fun _ (x : DutyAccount) =>
      { x with buckets := x.buckets.filter (fun p => second < p.1 + 3600) })).filter (fun p => decide (p.2 ≠ {})) } }

/-- R114: a second of domain time begins: the dwell windows roll. -/
def execDwellBucketTick (s : State) : Host.Outcome State Fault Refusal :=
  let second := dutySecondNow s
  done { s with front := { s.front with
    dwell := (s.front.dwell.mapVals (fun _ x => x.filter (fun p => second < p.1 + 20))).filter (fun p => !p.2.isEmpty) } }

/-- R118: the per-minute sums of every account are written to the persistent journal area, once a minute. -/
def execDutyMinutePersist (s : State) : Host.Outcome State Fault Refusal :=
  let s := restoreDuty s
  let second := dutySecondNow s
  if s.front.dutyRestored ∧ s.front.minuteLast ≠ some (second / 60) then
    done { s with front := { s.front with
      minutes := s.front.duty.mapVals (fun _ x => minuteSums second x.buckets), minuteLast := some (second / 60) } }
  else done s

/- A change of the sub-bands (R112). -/

/-- Two sub-band entries share a bin. -/
def subBandsMeet (x y : Octets) : Bool := fieldOf x 0 2 ≤ fieldOf y 2 2 && fieldOf y 0 2 ≤ fieldOf x 2 2

/-- Sum of bucket maps. -/
def sumBuckets (l : List (FMap Nat)) : FMap Nat := l.foldl (fun x m => m.foldl (fun x p => addBucket x p.1 p.2) x) []

/-- Accounts of a band after its sub-bands change from one block to another (R112). -/
def carryDuty (s : State) (b : Nat) (old new : Octets) : State :=
  if sliceOf old 63 1 = sliceOf new 63 1 && sliceOf old 84 96 = sliceOf new 84 96 then s
  else
    let buckets := fun i => sumBuckets (((List.range (subBands old)).filter (fun j =>
      subBandsMeet (subBand new i) (subBand old j))).map (fun j => (dutyOf s (accountOf b j)).buckets))
    (List.range 8).foldl (fun t i => updDuty t (accountOf b i) (fun _ =>
      if i < subBands new then { buckets := buckets i, reserved := (dutyOf s (accountOf b i)).reserved } else {})) s

end Sys2Proof.Machine
end

