-- ==== Sys2Proof/Machine/Region.lean ====
section
/-! DEFINITION. The region profile: the ROM base profiles, the tightening rules, commissioning and re-commissioning
(R108 to R112). -/

namespace Sys2Proof.Machine

/- The ROM base profiles (Table 4-9 and the list below it). -/

/-- A sub-band of a base profile: first bin, last bin, EIRP limit, DUTY_US, access. -/
abbrev BaseSub := Nat × Nat × Nat × Nat × Nat

/-- A sub-band entry (Table 4-8). -/
def baseEntry (x : BaseSub) : Octets :=
  beOctets 2 x.1 ++ beOctets 2 x.2.1 ++ beOctets 2 x.2.2.1 ++ beOctets 4 x.2.2.2.1 ++ [byte x.2.2.2.2, byte 0]

/-- CHANNEL_MASK that permits exactly the bins of the sub-bands. -/
def baseMask (l : List BaseSub) : Octets :=
  (List.range 52).map (fun j => byte (sumOf ((List.range 8).map (fun i =>
    if l.any (fun x => x.1 ≤ 8 * j + i && 8 * j + i ≤ x.2.1) then 2 ^ i else 0))))

/-- A band block of a base profile (Table 4-6): access, LBT_LISTEN, LBT_THRESH, LBT_PREF, DWELL_MS, MIN_HOP, sub-bands,
MODES, HOP_CLASS. -/
def baseBlock (access listen : Nat) (thresh : Int) (pref dwell minHop : Nat) (subs : List BaseSub) (modes : List Nat)
    (hop : Nat) : Octets :=
  baseMask subs ++ [byte access, byte 0] ++ beOctets 2 listen ++ beOctets 2 (ofSigned 16 thresh) ++ beOctets 2 pref ++
    beOctets 2 dwell ++ [byte minHop, byte subs.length] ++ padTo 16 (octetsOf modes) ++ beOctets 2 hop ++ zeros 2 ++
    padTo 96 (subs.map baseEntry).flatten

/-- MODES of a band in every base profile. -/
def baseModes : Nat → List Nat
  | 0 => [0x01, 0x02, 0x03]
  | 1 => [0x11, 0x12, 0x40, 0x50, 0x60, 0x70, 0x80]
  | _ => [0x20, 0x40, 0x50, 0x60, 0x70, 0x80]

/-- No limit of duty, no scaling of the threshold. -/
def noDuty : Nat := 0xFFFFFFFF
def noPref : Nat := 0x8000

/-- A profile's header (Table 4-5). -/
def baseHeader (id bands f n : Nat) : Octets := beOctets 2 id ++ [byte 0, byte bands] ++ beOctets 4 f ++ beOctets 2 n ++ zeros 6

/-- EU1 and EU2 (Table 4-9). -/
def euProfile (id : Nat) : Octets :=
  let two := id = 0x0102
  let duty := if two then 100000000 else 36000000
  let a := if two then 1 else 0
  baseHeader id 7 863100000 65 ++
  baseBlock 0 160 (-312) noPref 0 0 [(0, 5, 116, 360000000, 0), (7, 14, 48, 3600000, 0)] (baseModes 0) 0 ++
  baseBlock 0 160 (-312) noPref 0 0
    [(10, 24, 64, duty, a), (25, 27, 64, duty, a), (29, 30, 64, 3600000, 0), (32, 32, 116, 360000000, 0),
      (34, 34, 64, duty, a), (35, 62, 64, 36000000, 0)] (baseModes 1) 0 ++
  baseBlock 2 18 (-280) 80 0 0 [(0, 415, 80, noDuty, 2)] (baseModes 2) 0

/-- US1 (Table 4-9). -/
def usProfile : Octets :=
  baseHeader 0x0201 6 902200000 129 ++ zeros 180 ++
  baseBlock 3 0 0 noPref 400 50 [(0, 128, 144, noDuty, 3)] (baseModes 1) 0x33 ++
  baseBlock 3 0 0 noPref 400 15 [(0, 415, 144, noDuty, 3)] (baseModes 2) 0x18

/-- JP1 (Table 4-9). -/
def jpProfile : Octets :=
  baseHeader 0x0301 2 920600000 38 ++ zeros 180 ++
  baseBlock 4 128 (-292) noPref 0 0 [(0, 14, 64, 360000000, 4), (15, 37, 64, 360000000, 4)] (baseModes 1) 0 ++ zeros 180

/-- The ROM base profile of a PROFILE_ID (Table 4-5). -/
def baseProfile (id : Nat) : Option Octets :=
  match id with
  | 0x0101 => some (euProfile id)
  | 0x0102 => some (euProfile id)
  | 0x0201 => some usProfile
  | 0x0301 => some jpProfile
  | _ => none

/- The tightening rules (Table 4-7). -/

/-- Bins of a band under a record. -/
def recordBins (r : Octets) (b : Nat) : Nat := if b = 0 then 33 else if b = 1 then fieldOf r 8 2 else 416

/-- HOP_CLASS keeps every mode that is hopping-class in the base. -/
def hopKept (x y : Octets) : Bool := (profileModes x).all (fun m => !hoppingClass y m || hoppingClass x m)

/-- Access of a written sub-band against the base sub-band that holds it. -/
def accessKept (id b a base : Nat) : Bool := a = base || (id = 0x0101 && b != 2 && a = 1 && base = 0)

/-- One written sub-band against the base block. -/
def subBandTight (id b : Nat) (x y : Octets) (i : Nat) : Bool :=
  let w := subBand x i
  let hits := (List.range (subBands y)).filter (fun j => subBandsMeet w (subBand y j))
  fieldOf w 0 2 ≤ fieldOf w 2 2 &&
  hits.any (fun j => fieldOf (subBand y j) 0 2 ≤ fieldOf w 0 2 && fieldOf w 2 2 ≤ fieldOf (subBand y j) 2 2 &&
    accessKept id b (subBandAccess x i) (subBandAccess y j)) &&
  hits.all (fun j => toSigned 16 (fieldOf w 4 2) ≤ toSigned 16 (fieldOf (subBand y j) 4 2) &&
    fieldOf w 6 4 ≤ fieldOf (subBand y j) 6 4)

/-- One band block against the base block. -/
def blockTight (id b : Nat) (x y : Octets) (bins : Nat) : Bool :=
  1 ≤ fieldOf x 63 1 && fieldOf x 63 1 ≤ 8 && fieldOf x 52 1 ≤ 4 &&
  (List.range 416).all (fun k => !binPermitted x k || (binPermitted y k && k < bins)) &&
  (profileModes x).all (profileModes y).contains && hopKept x y &&
  (fieldOf y 60 2 = 0 || (fieldOf x 60 2 != 0 && fieldOf x 60 2 ≤ fieldOf y 60 2)) &&
  toSigned 16 (fieldOf x 56 2) ≤ toSigned 16 (fieldOf y 56 2) && fieldOf y 54 2 ≤ fieldOf x 54 2 &&
  fieldOf y 62 1 ≤ fieldOf x 62 1 &&
  (fieldOf x 58 2 = noPref || toSigned 16 (fieldOf x 58 2) ≤ toSigned 16 (fieldOf y 58 2)) &&
  (List.range (fieldOf x 63 1)).all (subBandTight id b x y)

/-- A record names a base profile and no field is looser than it (R108, Table 4-7); a band not enabled is not looked at. -/
def profileTight (r : Octets) : Bool :=
  match baseProfile (fieldOf r 0 2) with
  | some base =>
    let bands := fieldOf r 3 1 % 8
    (List.range 3).all (fun b => !bitOf bands b || (bitOf (fieldOf base 3 1) b &&
      blockTight (fieldOf r 0 2) b (bandBlock r b) (bandBlock base b) (recordBins base b))) &&
    sliceOf r 4 6 = sliceOf base 4 6
  | none => false

/- The commands. -/

/-- Only an Installer session may. -/
def installer (s : State) (who : Caller) : Nat := require (2 ≤ (callerRights s who).getD 0) stRights

/-- Status of a write of REGION_PROFILE after the common checks (R108). -/
def profileStatus (r : Octets) (s : State) : Nat :=
  firstOf [
    require (s.power.lifecycle != .factory) stState,
    require (s.power.lifecycle = .provisioned && !objB s 0x2304 0) stLocked,
    require (profileTight r) stRange]

/-- Put a region profile in force: its duty accounts follow (R112), listen sets are built anew (R36). -/
def putProfile (s : State) (r : Octets) : State :=
  let old := regionProfile s
  let s := (List.range 3).foldl (fun s b => carryDuty s b (bandBlock old b) (bandBlock r b)) s
  allBandSectors.foldl rebuildListen (setObj s 0x2300 0 r)

/-- R108: a write of the region profile. -/
def execRegionProfileWrite (who : Caller) (record_ : Octets) (s : State) : Host.Outcome State Fault Refusal :=
  done (command s who 0x2300 0 record_ (profileStatus record_) (fun s => putProfile s record_))

/-- Status of a commissioning command after the common checks (R110, Table 1-13). -/
def commissionStatus (who : Caller) (value : Nat) (s : State) : Nat :=
  firstOf [
    installer s who,
    require (s.power.dev = .maintenance && s.power.lifecycle != .factory) stState,
    require (s.power.lifecycle = .provisioned && !objB s 0x2304 0) stLocked,
    require (value = 0x5A) stRange,
    require ((baseProfile (objField s 0x2300 0 0 2)).isSome) stState]

/-- The commissioning fuse: only PROVISIONED moves to FIELD (Table 1-13). -/
def commissioned : Lifecycle → Lifecycle
  | .provisioned => .field
  | l => l

/-- R110: the profile is locked and the lifecycle moves to FIELD. -/
def commissionApply (s : State) : State :=
  let s := setObjN s 0x2304 0 1 1
  writeLocked { s with power := { s.power with lifecycle := commissioned s.power.lifecycle } }

/-- R110: the commissioning command. -/
def execRegionCommission (who : Caller) (value : Nat) (s : State) : Host.Outcome State Fault Refusal :=
  done (command s who 0x2301 0 (beOctets 1 value) (commissionStatus who (value % 256)) commissionApply)

/-- The condition of R111 a message fails, as event 0x1311 codes it; 0 where it meets all. -/
def recommissionFailure (s : State) (m : Octets) : Nat :=
  let profile := sliceOf m 12 556
  if m.take 8 ≠ Config.deviceEui then 1
  else if fieldOf m 8 4 ≤ objN s 0x2303 0 then 2
  else if !ecdsaVerifies Config.wenramRegionKey (sha256 (m.take 568)) (sliceOf m 568 64) then 3
  else if !profileTight profile then 4 else 0

/-- Status of a re-commissioning write before its message is looked at (R111). -/
def recommissionStatus (who : Caller) (s : State) : Nat :=
  firstOf [installer s who, require (s.power.dev = .maintenance && s.power.lifecycle = .field) stState]

/-- An accepted message replaces and relocks the profile (R111). -/
def recommissionApply (m : Octets) (s : State) : State :=
  let s := putProfile s (sliceOf m 12 556)
  let s := setObjN (setObj s 0x2303 0 (sliceOf m 8 4)) 0x2304 0 1 1
  record (writeLocked s) 0x1311 0 (fieldOf m 8 4) (fieldOf m 12 2)

/-- Rule of a re-commissioning write: RANGE where the message fails a condition. -/
def recommissionRule (who : Caller) (m : Octets) (s : State) : Nat :=
  firstOf [recommissionStatus who s, require (recommissionFailure s m = 0) stRange]

/-- Event 0x1311 of a message that fails (R111). -/
def recommissionNote (who : Caller) (m : Octets) (s : State) : State :=
  if writeStatus s who 0x2302 0 m = 0 ∧ recommissionStatus who s = 0 ∧ recommissionFailure s m ≠ 0 then
    record s 0x1311 (recommissionFailure s m) (fieldOf m 8 4) (fieldOf m 12 2)
  else s

/-- R111: a re-commissioning message. -/
def execRegionRecommission (who : Caller) (message : Octets) (s : State) : Host.Outcome State Fault Refusal :=
  done (command (recommissionNote who message s) who 0x2302 0 message (recommissionRule who message)
    (recommissionApply message))

end Sys2Proof.Machine
end

