-- ==== Sys2Proof/Machine/FrontEnd.lean ====
section
/-! DEFINITION. The transmit sequence of Table 4-1 (R91 to R93, R96 to R105, R113 to R116). -/

namespace Sys2Proof.Machine

/-- Change a chain's plan. -/
def updPlan (s : State) (bs : Nat) (f : TxPlan → TxPlan) : State :=
  updChain s bs (fun c => { c with plan := c.plan.map f })

/-- A plan stands at a phase and the instant `before` ns ahead of its start has come; a follower's plans only follow the
journal (R305). -/
def planDue (s : State) (p : TxPlan) (phase : TxPhase) (before : Nat) : Bool :=
  p.phase = phase && p.startAt ≤ s.now + before && s.power.dev != .follower

/-- Sub-band of a plan's channel. -/
def planSub (s : State) (bs : Nat) (p : TxPlan) : Nat := channelSubBand s (bandOf bs) p.mode p.firstBin

/-- Power the plan's peer requests (R97). -/
def planRequested (s : State) (p : TxPlan) : Option Nat := (p.peer.bind (nodeOf s)).map (·.txPower)

/-- R91: the retune command goes out, or the cell is skipped: out of service (R141) or for a calibration (R95). -/
def execTxRetune (bandSector : Nat) (s : State) : Host.Outcome State Fault Refusal :=
  let c := chainOf s bandSector
  match c.plan with
  | some p =>
    if planDue s p .planned 160000 then
      if serviceState s bandSector ≠ 0 then
        done (dropPlan (addOutcome (count s 0x4150 bandSector 5) (p.cell.getD 0) bandSector 9 0) bandSector)
      else match c.skipNext, p.kind with
        | some k, .frame => done (skipForCal s bandSector k)
        | _, _ => done (updChain s bandSector (fun c => { c with
            settling := true, locked := false, plan := some { p with phase := .retuned, port := portNow s bandSector } }))
    else done s
  | none => done s

/-- The ceiling lies below the power range: word 7, and event 0x1312 once per port and sub-band (R97). -/
def lowCeiling (s : State) (bs : Nat) (p : TxPlan) : State :=
  let sub := planSub s bs p
  let s := if (portOf s p.port).lowReported.contains sub then s
    else record (updPortState s p.port (fun x => { x with lowReported := sub :: x.lowReported })) 0x1312 p.port sub
      (argOf (ceiling s p.port sub))
  skipTx s bs 7 6

/-- The checks and the reservation at −100 us: power range, dwell, duty (R97, R114, R116). -/
def commandPlan (s : State) (bs : Nat) (p : TxPlan) : State :=
  let b := bandOf bs
  let sub := planSub s bs p
  let target := targetPower s p.port sub (planRequested s p)
  let a := accountOf b sub
  let setting := txSetting s bs p.port sub target
  let carried := match setting with | some (own, none) => own | _ => target
  if setting.isNone then lowCeiling s bs p
  else if !dwellAllows s b p.mode p.firstBin p.onTime then skipTx s bs 11 5
  else if !dutyAllows s a p.cls p.onTime then skipTx (dutyFailed s a p.cls) bs (if p.kind = .ack then 8 else 7) 6
  else
    let s := reserveDuty s a p.onTime
    let s := updPlan s bs (fun p => { p with phase := .commanded, target := carried, account := a, reserved := p.onTime })
    raiseReq s bs p.cls

/-- R91, R92: the transmit command. -/
def execTxCommand (bandSector : Nat) (s : State) : Host.Outcome State Fault Refusal :=
  let s := restoreDuty s
  match (chainOf s bandSector).plan with
  | some p => if planDue s p .retuned 100000 then done (commandPlan s bandSector p) else done s
  | none => done s

/-- R92: the lock deadline: the held command proceeds, or the cell is skipped and a calibration scheduled (R93). -/
def execLockDeadline (bandSector : Nat) (locked : Bool) (microsShort : Nat) (s : State) :
    Host.Outcome State Fault Refusal :=
  match (chainOf s bandSector).plan with
  | some p =>
    if planDue s p .commanded 50000 then
      let s := updChain s bandSector (fun c => { c with settling := false, locked := locked })
      if locked then done (updPlan s bandSector (fun p => { p with phase := .ready }))
      else
        let asn := asnAt s (bandOf bandSector) (p.startAt + domainTime s - s.now)
        let s := record s 0x1200 bandSector (asn % 2 ^ 32) microsShort
        done (skipTx (scheduleCal s bandSector 1) bandSector 2 1)
    else done s
  | none => done s

/-- R98: EN rises; BYP and GSEL take the levels of the entry for the target, while TXON is low. -/
def execXpaEnRise (bandSector : Nat) (s : State) : Host.Outcome State Fault Refusal :=
  match (chainOf s bandSector).plan with
  | some p =>
    if planDue s p .ready 38000 && xpaOn s bandSector && !(chainOf s bandSector).xpaTxon then
      let e := xpaChoice s bandSector p.target
      done (updChain s bandSector (fun c => { c with
        xpaEn := true, xpaByp := (e.map (·.byp)).getD c.xpaByp, xpaGsel := (e.map (·.gsel)).getD c.xpaGsel }))
    else done s
  | none => done s

/-- Whole part of 40 log10 (B / 1 MHz), toward minus infinity, for a span of `n` bins of a band: a power in 0.25 dB
exceeds the exact value if and only if it exceeds this one (R113). -/
def bandwidthTerm (b n : Nat) : Int :=
  if b = 0 then -77
  else match n with
    | 1 => -28 | 2 => -16 | 4 => -4 | 6 => 3 | _ => 13

/-- Another sector of the band transmits on the channel (R113). -/
def ownOnChannel (s : State) (bs : Nat) (p : TxPlan) : Bool :=
  allBandSectors.any (fun x => x != bs && bandOf x = bandOf bs && match (chainOf s x).plan with
    | some q => q.phase = .onAir && spansMeet p.firstBin (spanOf p.mode) q.firstBin (spanOf q.mode)
    | none => false)

/-- The channel is busy (R113). -/
def channelBusy (s : State) (bs : Nat) (p : TxPlan) (power : Int) : Bool :=
  let b := bandOf bs
  let block := blockOf s b
  let pref := fieldOf block 58 2
  let eirp := p.target + portGain s p.port - portLoss s p.port
  let scale := if pref = noPref then 0 else max 0 (toSigned 16 pref - eirp)
  ownOnChannel s bs p || toSigned 16 (fieldOf block 56 2) + bandwidthTerm b (spanOf p.mode) + scale < power

/-- LBT applies to a plan: access 1, 2 or 4, and no acknowledgement (R113). -/
def lbtApplies (s : State) (bs : Nat) (p : TxPlan) : Bool :=
  let a := subBandAccess (blockOf s (bandOf bs)) (planSub s bs p)
  p.kind != .ack && (a = 1 || a = 2 || a = 4)

/-- R104, R113: GNT and the channel power are sampled. -/
def execGntLbtSample (bandSector : Nat) (granted : Bool) (channelPower : Int) (s : State) :
    Host.Outcome State Fault Refusal :=
  match (chainOf s bandSector).plan with
  | some p =>
    if planDue s p .ready 20000 then
      match coexChannel s bandSector, granted with
      | some ch, false =>
        done (skipTx (record s 0x1240 ch bandSector p.cls) bandSector (if p.kind = .ack then 5 else 4) 3)
      | _, _ =>
        if lbtApplies s bandSector p && channelBusy s bandSector p channelPower then
          let marked := (markBit bandSector).any (fun i => s.rx.desense.toNat.testBit i)
          let s := if marked then countTx s bandSector 10 else s
          done (skipTx s bandSector 9 4)
        else done (updPlan s bandSector (fun p => { p with phase := .sampled }))
    else done s
  | none => done s

/-- R98: TXON rises. -/
def execXpaTxonRise (bandSector : Nat) (s : State) : Host.Outcome State Fault Refusal :=
  match (chainOf s bandSector).plan with
  | some p =>
    if planDue s p .sampled 18000 && xpaOn s bandSector then
      done (updChain s bandSector (fun c => { c with xpaTxon := true, plan := some { p with phase := .txon } }))
    else done s
  | none => done s

/-- The frame goes on the air: blanking, desense marks, its lanes aborted, its use of the cell counted (R56, R57, R91). -/
def rampUp (s : State) (bs : Nat) (p : TxPlan) : State :=
  let s := updPlan s bs (fun p => { p with phase := .onAir, rampAt := s.now })
  let s := setBlanked s (bs :: s.rx.blanked.filter (· ≠ bs))
  let s := abortOwnTx s bs p.cls
  let s := if p.kind = .frame then noteSending s bs p else s
  emit s (.air bs p.startAt p.target p.octets)

/-- R56, R91: the PA ramps up, for a frame that is secured and whose checks have passed. -/
def execPaRampUp (bandSector : Nat) (s : State) : Host.Outcome State Fault Refusal :=
  match (chainOf s bandSector).plan with
  | some p =>
    let from_ : TxPhase := if xpaOn s bandSector then .txon else .sampled
    if planDue s p from_ 10000 && p.secured && mayTransmit s then done (rampUp s bandSector p) else done s
  | none => done s

/-- Key of a stored power correction: mode family and group of 16 bins (R96). -/
def correctionKey (p : TxPlan) : Nat :=
  (match familyOf p.mode with | .fsk => 0 | .oqpsk => 65536 | .ofdm => 131072 | .bl => 196608) + p.firstBin / 16

/-- The closed loop of R96 at 40 us. -/
def loopCorrect (s : State) (bs : Nat) (p : TxPlan) (forward : Int) : State :=
  let e := p.target - forward
  let step := max (-12) (min 12 e)
  let s := if 1 < e.natAbs then
      updPortState s p.port (fun x => { x with
        corrections := FMap.put x.corrections (correctionKey p) (FMap.getD x.corrections (correctionKey p) 0 + step) })
    else s
  if 12 < e.natAbs then record (countTx s bs 13) 0x1210 p.port (argOf e) p.mode else s

/-- Module output power that a DET voltage stands for; a slope of 0 gives none (R100, log entry 8). -/
def detPower (e : XpaEntry) (mv : Nat) : Int :=
  if e.detSlope = 0 then Config.value 8 [(mv : Int), (e.detRef : Int)]
  else e.most + ((mv : Int) - (e.detRef : Int)) * 400 / (e.detSlope : Int)

/-- R100: DET against the target, reported at most once a minute per group. -/
def detCheck (s : State) (bs : Nat) (p : TxPlan) (mv : Nat) : State :=
  let s := updChain s bs (fun c => { c with det := mv })
  match xpaChoice s bs p.target with
  | some e =>
    let due : Bool := match (chainOf s bs).detEventAt with
      | some t => t + 60000000000 ≤ s.now
      | none => true
    let measured := detPower e mv
    if objN s 0x2232 (sectorOf bs + 1) < (measured - p.target).natAbs && due then
      record (updChain s bs (fun c => { c with detEventAt := some s.now })) 0x1220 (sectorOf bs) (argOf p.target) (argOf measured)
    else s
  | none => s

/-- R96, R100: the measurement of the first 32 us acts at 40 us. -/
def execPowerLoopCorrection (bandSector : Nat) (forwardPower : Int) (detMillivolts : Nat) (s : State) :
    Host.Outcome State Fault Refusal :=
  match (chainOf s bandSector).plan with
  | some p =>
    if p.phase = .onAir ∧ p.startAt + 40000 ≤ s.now ∧ p.cut = false then
      if xpaOn s bandSector then done (detCheck s bandSector p detMillivolts) else done (loopCorrect s bandSector p forwardPower)
    else done s
  | none => done s

/-- Actual on-time of a plan in us: its planned one, or up to the end of the ramp-down where it was cut (R115). -/
def actualOnTime (s : State) (bs : Nat) (p : TxPlan) : Nat :=
  if p.cut then min p.onTime (ceilDiv (((chainOf s bs).txonFell.getD s.now) + 10000 - p.rampAt) 1000) else p.onTime

/-- A frame that asks for no acknowledgement is complete, or lost, at its end. -/
def finishPlan (s : State) (bs : Nat) (p : TxPlan) : State :=
  let s := endPlan s bs
  match p.queue, p.packet with
  | some i, some _ => resetBackoff (frameGone s i p) i
  | _, some k => removePacket s k
  | _, _ => s

/-- REQ and PRI are held through the acknowledgement wait (R104). -/
def holdsReq (s : State) (bs : Nat) : Bool := match coexChannel s bs with
  | some ch => bitOf (objN s 0x2241 (ch + 1)) 3
  | none => false

/-- What follows the end of a transmission of each kind: the acknowledgement wait, the retry of a cut frame, or nothing. -/
def afterFrame (s : State) (bs : Nat) (p : TxPlan) : State :=
  match p.kind with
  | .frame =>
    if p.ackRequested then
      if p.cut then unackedPlan s bs p
      else
        let s := if holdsReq s bs then s else dropReq s bs
        updPlan s bs (fun p => { p with phase := .ended })
    else finishPlan s bs p
  | _ => endPlan s bs

/-- The PA has ramped down: marks end, duty is settled, the tuner steps (R91, R101, R114 to R116). -/
def rampDown (s : State) (bs : Nat) (p : TxPlan) (vswr : Nat) : State :=
  let on := actualOnTime s bs p
  let s := addDwell (settleDuty s p.account p.reserved on) (bandOf bs) p.mode p.firstBin on
  let s := setBlanked s (s.rx.blanked.filter (· ≠ bs))
  let s := updChain s bs (fun c => { c with
    xpaTxon := false, txonFell := if xpaOn s bs then some (c.txonFell.getD s.now) else none })
  let s := addOutcome s (p.cell.getD 0) bs (if p.cut then 10 else 0) on
  let s := if p.cut then s else countTx s bs (if p.kind = .ack then 1 else 0)
  let s := if p.cut && 800 < vswr then s else measurePort s p.port vswr
  afterFrame s bs p

/-- R91: the frame ends, or has been cut, and the PA ramps down. -/
def execFrameEndRampDown (bandSector vswr : Nat) (s : State) : Host.Outcome State Fault Refusal :=
  match (chainOf s bandSector).plan with
  | some p =>
    if p.phase = .onAir ∧ (p.cut = true ∨ planEnd p ≤ s.now) then done (rampDown s bandSector p vswr)
    else if p.phase = .txon ∧ p.cut = true then done (dropPlan s bandSector)
    else done s
  | none => done s

/-- R91: EN falls 20 us after TXON, unless the next TXON is due within 100 us. -/
def execXpaEnFall (bandSector : Nat) (s : State) : Host.Outcome State Fault Refusal :=
  let c := chainOf s bandSector
  match c.txonFell with
  | some t =>
    let soon : Bool := match c.plan with
      | some p => p.phase != .ended && p.startAt ≤ t + 118000
      | none => false
    if t + 20000 ≤ s.now ∧ soon = false ∧ c.xpaTxon = false then
      done (updChain s bandSector (fun c => { c with xpaEn := false, txonFell := none }))
    else done s
  | none => done s

/-- R101: reflected power above 8:1 during a frame cuts it and derates the port. -/
def execReflectedPowerTrip (bandSector vswr : Nat) (s : State) : Host.Outcome State Fault Refusal :=
  match (chainOf s bandSector).plan with
  | some p =>
    if p.phase = .onAir ∧ p.cut = false ∧ 800 < vswr ∧ (portOf s p.port).state ≠ .disabled then
      done (tripPort (countTx (cutChain s bandSector) bandSector 12) p.port vswr)
    else done s
  | none => done s

/-- R93: loss of lock schedules a calibration, and cuts a frame that is being transmitted. -/
def execSynthLossOfLock (bandSector : Nat) (s : State) : Host.Outcome State Fault Refusal :=
  let s := updChain s bandSector (fun c => { c with locked := false })
  let s := scheduleCal s bandSector 1
  match (chainOf s bandSector).plan with
  | some p => if p.phase = .onAir then done (cutChain s bandSector) else done s
  | none => done s

/-- One band-sector of a channel whose GNT is withdrawn (R105). -/
def gntLost (ch : Nat) (s : State) (bs : Nat) : State :=
  match (chainOf s bs).plan with
  | some p =>
    if p.phase = .onAir && !p.cut && coexChannel s bs = some ch then
      let abort := bitOf (objN s 0x2241 (ch + 1)) 4
      let s := record (countTx s bs 6) 0x1241 ch bs (bitNat abort)
      if abort then cutChain s bs else s
    else s
  | none => s

/-- R105: GNT of a channel is withdrawn. -/
def execGntWithdrawn (coex : Nat) (s : State) : Host.Outcome State Fault Refusal :=
  done (allBandSectors.foldl (gntLost coex) s)

/-- R119: the command clears all TX_COUNTERS. -/
def execTxCountersClear (who : Caller) (s : State) : Host.Outcome State Fault Refusal :=
  done (command s who 0x2311 0 [byte 0] (fun _ => 0) (fun s => clearCounters s 0x2310))

end Sys2Proof.Machine
end

