-- ==== Sys2Proof/Machine/Joins.lean ====
section
/-! DEFINITION. Joins and departures of nodes (R165 to R169, R174, R175). -/

namespace Sys2Proof.Machine

/-- The host table holds a source, or is about to (R167). -/
def sourceKnown (s : State) (key : Octets) : Bool :=
  (findKey s key).isSome || s.fwd.learnQ.any (fun r => r.key = key) ||
    s.fwd.steps.any (fun t => match t with
      | .insert e _ => e.key = key
      | .write _ e => e.key = key
      | _ => false)

/-- R167: the source of a join is learned under the rate limit, unless it is known. -/
def learnJoin (s : State) (bs : Nat) (eui : Octets) : State :=
  let key := meshAddress s eui
  if sourceKnown s key || !objB s 0x6030 0 then s
  else learnRequest s bs { key := key, kind := 0, port := 0, learnBs := bs, handle := 0xFFFFFFFF }

/-- Write a handle into the entry of a key, wherever it stands. -/
def nameEntry (s : State) (key : Octets) (h : Nat) : State :=
  let name := fun (e : HostEntry) => if e.key = key then { e with handle := h } else e
  { s with fwd := { s.fwd with
      host := s.fwd.host.mapVals (fun _ e => name e), stash := s.fwd.stash.mapVals (fun _ e => name e)
      learnQ := s.fwd.learnQ.map (fun r => if r.key = key then { r with handle := h } else r)
      steps := s.fwd.steps.map (fun t => match t with
        | .insert e r => .insert (name e) r
        | .write l e => .write l (name e)
        | t => t) } }

/-- Remove what has been learned of a source (R167). -/
def forgetSource (s : State) (key : Octets) : State :=
  queueStep { s with fwd := { s.fwd with learnQ := s.fwd.learnQ.filter (fun r => r.key ≠ key) } } (.remove key false)

/-- The lowest local index that is free and rested (R3, R5). -/
def freeIndex (s : State) : Option Nat := go 131072 0
where
  /-- Search from an index. -/
  go : Nat → Nat → Option Nat
    | 0, _ => none
    | n + 1, i => if (nodeAt s i).isNone && restingDone s i then some i else go n (i + 1)

/-- Fields of a Join Request (Table 6-8). -/
def joinPrev (r : JoinRequest) : Nat := fieldOf r.content 2 2
def joinLastFc (r : JoinRequest) : Nat := fieldOf r.content 4 4

/-- A new CHALLENGE from the TRNG, journaled in a pair (R305). -/
def drawChallenge (s : State) : Octets × State :=
  let (w, s) := drawWords s 2 2
  ((w.map (beOctets 4)).flatten, s)

/-- A context enters JOINING for a request. -/
def enterJoining (s : State) (r : JoinRequest) (n : Node) (challenge : Octets) : Node :=
  let b1 := fieldOf r.content 1 1
  { n with
    state := .joining, relay := bitOf b1 7, mains := bitOf b1 6, fec := bitOf b1 5, mode := fieldOf r.content 8 1
    rxFc := r.counter, prevChip := joinPrev r, challenge := challenge, joiningAt := s.now, heardBs := r.bandSector
    heardAt := s.now, lastHeard := r.asn, joinBs := r.bandSector, joinSeq := r.hopSeq }

/-- The join waits for the host under JOIN_POLICY 1; otherwise its Join Response is due (Table 6-7). -/
def holdOrAnswer (s : State) (i : Nat) (eui : Octets) : State :=
  if objN s 0x4211 0 = 1 then
    record (updNode s i (fun n => { n with held := true })) 0x3106 (handleOf s i) (fieldOf eui 0 4) (fieldOf eui 4 4)
  else answerJoin s i 0

/-- Row 1 of Table 6-7: a context for a new node; how the power it requests is set is left open (log entry 26). -/
def newJoin (s : State) (r : JoinRequest) (i : Nat) : State :=
  let (challenge, s) := drawChallenge s
  let fc := blockLimit (joinLastFc r)
  let n : Node := { eui := r.eui, homeEui := r.homeEui, txFc := fc, txFcLimit := fc, nextHop := handleOf s i, be := minBe s
                    txPower := freeNow s % 256 }
  let s := drewFree s
  let s := { s with link := { s.link with
    nodes := FMap.put s.link.nodes i (enterJoining s r n challenge), resting := FMap.del s.link.resting i } }
  holdOrAnswer (nameEntry s (meshAddress s r.eui) (handleOf s i)) i r.eui

/-- A JOINED node joins again: its index stays, TX_FC never falls (Table 6-7). -/
def rejoin (s : State) (r : JoinRequest) (i : Nat) : State :=
  let (challenge, s) := drawChallenge s
  let fc := blockLimit (joinLastFc r)
  let s := updNode s i (fun n =>
    { enterJoining s r n challenge with txFc := max n.txFc fc, txFcLimit := max n.txFcLimit fc, homeEui := r.homeEui })
  answerJoin s i 0

/-- R165: a verified Join Request, by the state of its source's context. -/
def joinProcess (s : State) (r : JoinRequest) : State :=
  let s := countL s r.bandSector 15
  match nodeByEui s r.eui with
  | some (i, n) =>
    if r.counter ≤ n.rxFc then s
    else match n.state with
      | .joining =>
        let s := updNode s i (fun n => { n with rxFc := r.counter, heardBs := r.bandSector })
        if n.held then s else answerJoin s i 0
      | .joined => rejoin s r i
      | _ => s
  | none =>
    if !objB s 0x4210 0 then countL s r.bandSector 17
    else
      let s := learnJoin s r.bandSector r.eui
      if !sourceKnown s (meshAddress s r.eui) then countL s r.bandSector 17
      else match freeIndex s with
        | some i => newJoin s r i
        | none => answerWithout (countL s r.bandSector 17) r.bandSector r.eui r.homeEui (blockLimit (joinLastFc r)) 1 r.hopSeq

/-- R165: a Join Request in mode 3 whose MIC is valid. -/
def execJoinRequestRx (r : JoinRequest) (s : State) : Host.Outcome State Fault Refusal :=
  if handlesAir s ∧ r.content.length = 9 ∧ fieldOf r.content 0 1 = 0x20 then done (joinProcess s r) else done s

/-- Node Moved goes to the node's previous chip now, and again with the next two Announcements (R171). -/
def oweMoved (s : State) (prev : Nat) (eui : Octets) (h t : Nat) : State :=
  if prev = 0xFFFF then s
  else
    let x := (prev, eui ++ beOctets 4 h ++ beOctets 4 t, 2)
    sendMoved { s with link := { s.link with moved := s.link.moved ++ [x] } } x

/-- R165: the Join Confirm matches: the node is JOINED. -/
def confirmJoin (s : State) (i counter : Nat) (capability : Octets) (n : Node) : State :=
  let h := handleOf s i
  let t := domainTime s / 1000000000 % 2 ^ 32
  let capOk := capability.length = 2 && fieldOf capability 0 1 = 3
  let s := oweMoved s n.prevChip n.eui h t
  let s := updNode s i (fun n => { n with
    state := .joined, rxFc := counter, prevChip := 0xFFFF, challenge := [], joinTime := t, heardAt := s.now, capDue := true
    blCap := n.blCap || capOk, cap := if capOk then fieldOf capability 1 1 else n.cap
    updates := n.updates ++ hoppingContents s (bandOf n.joinBs) n.joinSeq
    sequences := (16 * bandOf n.joinBs + n.joinSeq) :: n.sequences })
  let s := joinCampaigns (queueStep s (.confirm (meshAddress s n.eui) false)) i n.eui
  record (countL s (max 1 n.joinBs) 16) 0x3100 h n.joinBs n.prevChip

/-- R165: a Join Confirm that matches moves the node to JOINED; one that does not is discarded. -/
def execJoinConfirmRx (eui : Octets) (counter : Nat) (content capability : Octets) (s : State) :
    Host.Outcome State Fault Refusal :=
  match nodeByEui s eui with
  | some (i, n) =>
    if handlesAir s ∧ n.state = .joining ∧ !n.held ∧ n.rxFc < counter ∧ content = byte 0x22 :: n.challenge then
      done (confirmJoin s i counter capability n)
    else done s
  | none => done s

/-- R165: JOIN_CONFIRM_WINDOW elapses; the context is freed and event 0x3102 recorded. -/
def execJoinConfirmTimeout (handle : Nat) (s : State) : Host.Outcome State Fault Refusal :=
  match nodeOf s handle with
  | some n =>
    if n.state = .joining ∧ n.joiningAt + objN s 0x4212 0 * 1000000000 ≤ s.now then
      let s := countL s (max 1 n.joinBs) 18
      done (record (departureActions s (localIndex handle) 2) 0x3102 handle 0 0)
    else done s
  | none => done s

/-- The host's rule of JOIN_APPROVE: a held join of the chip, 0 or 1. -/
def joinApproveCheck (handle approve : Nat) (s : State) : Nat :=
  firstOf [require (handleOk handle && approve ≤ 1) stRange,
    match nodeOf s handle with
    | some n => require (n.state = .joining && n.held) stState
    | none => stRange]

/-- JOIN_APPROVE: approved joins are answered; a refused one is answered with STATUS 2 and its context freed (R165). -/
def joinApproveApply (handle approve : Nat) (s : State) : State :=
  let i := localIndex handle
  match nodeAt s i with
  | some n =>
    if approve = 1 then answerJoin (updNode s i (fun n => { n with held := false })) i 0
    else
      let bs := max 1 n.joinBs
      let s := answerWithout (countL s bs 17) bs n.eui n.homeEui n.txFc 2 n.joinSeq
      freeNode (forgetSource s (meshAddress s n.eui)) i
  | none => s

/-- R165: the host approves or refuses a held join. -/
def execJoinApprove (who : Caller) (handle approve : Nat) (s : State) : Host.Outcome State Fault Refusal :=
  done (command s who 0x4213 0 (beOctets 4 handle ++ beOctets 1 approve) (joinApproveCheck handle approve)
    (joinApproveApply handle approve))

/-- R165: a valid Departure IE from a JOINED node is acknowledged, then the departure actions run. -/
def departureFrom (s : State) (i counter cause : Nat) (n : Node) : State :=
  let own := s.link.acksDue.filter (fun a => localIndex a.handle = i)
  let s := { s with link := { s.link with
    acksDue := s.link.acksDue.filter (fun a => localIndex a.handle ≠ i), fcPending := FMap.del s.link.fcPending i } }
  let s := updNode s i (fun m => { m with rxFc := max n.rxFc counter })
  departureActions (own.foldl decideAck s) i cause

/-- R165: a Departure IE whose MIC and counter are valid. -/
def execDepartureIeRx (handle counter cause : Nat) (s : State) : Host.Outcome State Fault Refusal :=
  match nodeOf s handle with
  | some n =>
    if handlesAir s ∧ n.state = .joined ∧ n.rxFc ≤ counter then
      done (departureFrom s (localIndex handle) counter cause n)
    else done s
  | none => done s

/-- R165: no authenticated frame for NODE_TIMEOUT: the departure actions, cause 2. -/
def execNodeTimeoutExpiry (handle : Nat) (s : State) : Host.Outcome State Fault Refusal :=
  match nodeOf s handle with
  | some n =>
    if n.state = .joined ∧ n.heardAt + objN s 0x4214 0 * 1000000000 ≤ s.now ∧ handlesAir s then
      done (departureActions s (localIndex handle) 2)
    else done s
  | none => done s

/-- The host's rule of NODE_DEPART: a JOINED node of the chip. -/
def nodeDepartCheck (handle : Nat) (s : State) : Nat :=
  match nodeOf s handle with
  | some n => require (n.state = .joined) stState
  | none => stRange

/-- NODE_DEPART: a Departure IE, cause 1, is queued at class 0 and the node is DEPARTING (R165). -/
def nodeDepartApply (handle : Nat) (s : State) : State :=
  let i := localIndex handle
  queueToNode (updNode s i (fun n => { n with state := .departing })) i 0 true (departureBody s 1)

/-- R165: the command queues a Departure IE and moves the node to DEPARTING. -/
def execNodeDepart (who : Caller) (handle : Nat) (s : State) : Host.Outcome State Fault Refusal :=
  done (command s who 0x4215 0 (beOctets 4 handle) (nodeDepartCheck handle) (nodeDepartApply handle))

/-- A latency cell names the node (Table 6-13, LATENCY). -/
def latencyNamed (s : State) (h : Nat) : Bool := s.sched.cells.any (fun p => p.2.valid && p.2.kind = 2 && p.2.peer = h)

/-- The 64 octets of a node context (Table 6-13); a FREE context is all zero. -/
def nodeOctets (s : State) (i : Nat) : Octets :=
  match nodeAt s i with
  | some n =>
    let be := min n.be 15
    padTo 8 n.eui ++
    [byte (n.state.code * 32 + bitNat n.relay * 16 + bitNat n.mains * 8 + bitNat n.fec * 4 + bitNat n.blCap * 2 +
        bitNat (latencyNamed s (handleOf s i))), byte n.cap, byte n.mode, byte n.txPower] ++ padTo 8 n.homeEui ++
    beOctets 4 n.rxFc ++ beOctets 4 n.txFc ++ beOctets 4 n.txFcLimit ++
    [byte n.dsnTx, byte n.dsnRx, byte n.backoff, byte (be * 16 + n.heardBs)] ++ beOctets 5 n.lastHeard ++
    [byte (n.retries * 8)] ++ beOctets 2 n.etx ++ beOctets 2 (ofSigned 16 n.rssi) ++ beOctets 2 n.prevChip ++
    beOctets 4 n.nextHop ++ beOctets 4 n.joinTime ++ padTo 8 n.challenge
  | none => zeros 64

/-- A caller's NODE_CURSOR: the named node's context is latched into NODE_VIEW (R174). -/
def nodeCursorApply (who : Caller) (handle : Nat) (s : State) : State :=
  let view := if handleOk handle && chipOf handle = ownIndex s then nodeOctets s (localIndex handle) else zeros 64
  setWindow (setCursor s who 0x4220 (beOctets 4 handle)) who 0x4221 view

/-- NODE_LOOKUP sets NODE_CURSOR to the node's handle, all ones where the EUI-64 is unknown (R175). -/
def nodeLookupApply (who : Caller) (eui : Octets) (s : State) : State :=
  nodeCursorApply who (match nodeByEui s eui with | some (i, _) => handleOf s i | none => 0xFFFFFFFF) s

/-- R175: the command looks up an EUI-64. -/
def execNodeLookup (who : Caller) (eui : Octets) (s : State) : Host.Outcome State Fault Refusal :=
  done (command s who 0x4222 0 eui (fun _ => 0) (nodeLookupApply who eui))

end Sys2Proof.Machine
end

