-- ==== Sys2Proof/Machine/JournalCode.lean ====
section
/-! DEFINITION. Journal records as octets, and the digest of a pass (R306, R308). -/

namespace Sys2Proof.Machine

/-- KIND of a record (Table 11-6). -/
def bodyKind : JournalBody → Nat
  | .airRx _ _ => 1
  | .wiredRx _ _ => 2
  | .sopWrite _ _ _ _ _ => 3
  | .timeEvent _ _ _ _ _ _ => 4
  | .trng _ _ => 5
  | .cellOutcome _ => 6
  | .fcBlock _ _ => 7
  | .reading _ _ => 8
  | .threadOut _ _ => 9
  | .slotEnd _ => 10
  | .digest _ _ => 11
  | .swap _ => 12
  | .keyAccept _ _ => 13

/-- Queue port of Table 7-2 of a packet's ingress. -/
def portOfIngress : Ingress → Nat
  | .air bs => bs - 1
  | .eth p => 9 + p
  | .sett p => p
  | .ctl => 15

/-- Body of a record (Table 11-6). -/
def bodyOctets : JournalBody → Octets
  | .airRx o f => o ++ f.sealedBody.clear ++ f.sealedBody.body ++ f.sealedBody.tag
  | .wiredRx o p => [byte (portOfIngress p.ingress), byte p.cls, byte 0, byte 0] ++ o
  | .sopWrite t r i sub v => [byte t, byte r] ++ beOctets 2 i ++ [byte sub, byte 0] ++ beOctets 2 v.length ++ v
  | .timeEvent e t miss m off corr =>
    [byte e, byte t, byte (bitNat miss), byte m] ++ beOctets 8 (ofSigned 64 off) ++ beOctets 4 (ofSigned 32 corr)
  | .trng c w => [byte c, byte w.length, byte 0, byte 0] ++ (w.map (beOctets 4)).flatten
  | .cellOutcome l =>
    (l.map (fun x => beOctets 4 x.1 ++ [byte x.2.1, byte x.2.2.1, byte 0, byte 0] ++ beOctets 4 x.2.2.2)).flatten
  | .fcBlock h n => beOctets 4 h ++ beOctets 4 n
  | .reading src v => [byte src] ++ zeros 7 ++ beOctets 8 v
  | .threadOut w o => [byte (1 + bitNat w), byte 0, byte 0, byte 0] ++ o
  | .slotEnd n => beOctets 4 n
  | .digest k l => beOctets 4 k ++ padTo 16 l
  | .swap a => beOctets 5 a ++ zeros 3
  | .keyAccept slot c => [byte slot, byte 0, byte 0, byte 0] ++ beOctets 4 c

/-- A record: the header of Table 11-8 and the body, padded to a multiple of 8 octets. -/
def recordOctets (r : JournalRecord) : Octets :=
  let b := bodyOctets r.body
  [byte (bodyKind r.body), byte r.flags] ++ beOctets 2 b.length ++ beOctets 4 r.jseq ++ beOctets 5 r.asn ++ zeros 3 ++
    beOctets 8 r.time ++ padTo ((b.length + 7) / 8 * 8) b

/-- Octets of a list of records. -/
def recordsOctets (l : List JournalRecord) : Octets := (l.map recordOctets).flatten

/-- Octets a list of records takes in the journal region. -/
def recordsSize (l : List JournalRecord) : Nat := sumOf (l.map (fun r => (recordOctets r).length))

/-- As many records from the front as fit a JOURNAL payload of 8,192 octets with its prefix (R306). -/
def frameful : Nat → List JournalRecord → List JournalRecord
  | _, [] => []
  | room, r :: l => if (recordOctets r).length ≤ room then r :: frameful (room - (recordOctets r).length) l else []

/- The digest (R308). -/

/-- Packets that stand in node queues, and in air class queues. -/
def nodeFrames (s : State) : List Nat := (s.queues.nodeQ.map (·.2)).flatten
def airFrames (s : State) : List Nat := ((s.queues.classQ.filter (fun p => p.1 < 72)).map (·.2)).flatten

/-- Octets of packets. -/
def bytesOf (s : State) (l : List Nat) : Nat := sumOf (l.map (fun k => ((packetOf s k).map (·.length)).getD 0))

/-- S_k (Table 11-9). -/
def digestSummary (s : State) : Octets :=
  let nodes := s.link.nodes.map (·.2)
  let maps := s.modem.links.filter (fun p => p.2.cur.isSome || p.2.userCur.isSome)
  beOctets 4 (nodes.filter (fun n => n.state = .joined)).length ++
    beOctets 4 (nodeFrames s).length ++ beOctets 4 (airFrames s).length ++
    beOctets 4 (s.fwd.host.length + s.fwd.stash.length - bitNat s.fwd.transit.isSome) ++
    beOctets 4 s.fwd.routes.length ++ beOctets 4 (s.sched.cells.filter (fun p => p.2.valid)).length ++
    beOctets 4 (sumOf (nodes.map (·.txFcLimit))) ++ beOctets 4 (sumOf (nodes.map (·.rxFc))) ++
    beOctets 4 (sumOf (s.front.duty.map (fun p => dutyUse s p.1))) ++ beOctets 4 maps.length ++
    beOctets 8 (bytesOf s (nodeFrames s) + bytesOf s (airFrames s)) ++ beOctets 4 s.link.netFcLimit ++ zeros 12

/-- D_k = SHA-256(D_(k-1) || H_k || S_k). -/
def nextDigest (s : State) : Octets :=
  sha256 (s.twin.digest ++ sha256 (recordsOctets s.twin.passRecords) ++ digestSummary s)

/-- D_0 after a resynchronisation: the SHA-256 of the 5-octet snapshot ASN. -/
def digestZero (asn : Nat) : Octets := sha256 (beOctets 5 asn)

/-- A digest pass begins, with the records that already belong to it. -/
def beginPass (s : State) (pass : Nat) (digest : Octets) (records : List JournalRecord) : State :=
  { s with twin := { s.twin with pass := pass, digest := digest, passRecords := records } }

end Sys2Proof.Machine
end

