-- ==== Sys2Proof/Machine/Mask.lean ====
section
/-! DEFINITION. The spectral-mask filter: its selection, its check, the hourly capture (R74, R75). -/

namespace Sys2Proof.Machine

/-- Default TX_MASK_SET of a band, from the region profile (R74). -/
def defaultMaskSet (s : State) (b : Nat) : Nat := fieldOf (blockOf s b) 53 1

/-- TX_MASK_SET of a band. -/
def maskSet (s : State) (b : Nat) : Nat :=
  match FMap.find s.vals (objKey 0x3020 (b + 1)) with
  | some v => beNat v
  | none => defaultMaskSet s b

/-- Octets as numbers. -/
def numbersOf (l : Octets) : List Int := l.map (fun o => (o.toNat : Int))

/-- Worst margin in 0.25 dB of the enabled modes of a band to TX_MASK_POINTS through a filter: band, set, taps, modes,
points; the ROM sets and the spectra are not stated (R74, log entry 8). -/
def maskMargin (s : State) (b set : Nat) (taps : Octets) : Int :=
  Config.value 2 ([(b : Int), (set : Int)] ++ numbersOf taps ++
    (profileModes (blockOf s b)).map Int.ofNat ++
    numbersOf (Config.maskPoints (fieldOf (regionProfile s) 0 2) b))

/-- Status of a write of TX_MASK_SET or TX_MASK_COEF after the common checks: no point exceeded or within 1 dB of it
(R74). -/
def maskStatus (b : Nat) (coef : Bool) (v : Octets) (s : State) : Nat :=
  let set := if coef then maskSet s b else beNat v
  let taps := if coef then v else obj s 0x3021 (b + 1)
  require (set ≤ 7 && 4 ≤ maskMargin s b set taps) stRange

/-- An accepted write lifts the suspension of the band's sectors (R75). -/
def liftMask (s : State) (b : Nat) : State :=
  let s := { s with modem := { s.modem with
    suspended := s.modem.suspended.filter (fun x => bandOf x != b)
    defaultFails := s.modem.defaultFails.keep (fun x _ => bandOf x != b) } }
  let s := (bandSectors b).foldl (fun s x => setObjN s 0x3023 x 1 0) s
  (bandSectors b).foldl refreshService (portCause s)

/-- A write of TX_MASK_SET or TX_MASK_COEF. -/
def maskApply (b : Nat) (coef : Bool) (v : Octets) (s : State) : State :=
  liftMask (if coef then setObj s 0x3021 (b + 1) v
    else { s with vals := FMap.put s.vals (objKey 0x3020 (b + 1)) v }) b

/-- R74: a write of the mask set or its coefficients. -/
def execTxMaskWrite (who : Caller) (band : Band) (coefWrite : Bool) (value : Octets) (s : State) :
    Host.Outcome State Fault Refusal :=
  let b := bandCode band
  done (command s who (if coefWrite then 0x3021 else 0x3020) (b + 1) value (maskStatus b coefWrite value)
    (maskApply b coefWrite value))

/-- A band-sector's transmitter is suspended (R75). -/
def maskSuspend (s : State) (bs set : Nat) : State :=
  let s := { s with modem := { s.modem with
    defaultFails := FMap.del s.modem.defaultFails bs, suspended := bs :: s.modem.suspended.filter (· ≠ bs) } }
  refreshService (portCause (record (setObjN s 0x3023 bs 1 2) 0x2011 bs set 0)) bs

/-- A failed capture: the band reverts to the default set; the default set failing twice running suspends the sector's
transmitter (R75). -/
def maskFailed (s : State) (bs : Nat) (worst : Int) : State :=
  let b := bandOf bs
  let set := maskSet s b
  if objN s 0x3023 bs = 0 then
    let s := { s with vals := FMap.del s.vals (objKey 0x3020 (b + 1)) }
    record (setObjN s 0x3023 bs 1 1) 0x2010 bs set (argOf worst)
  else
    let n := FMap.getD s.modem.defaultFails bs 0 + 1
    let s := record s 0x2010 bs set (argOf worst)
    if n < 2 then { s with modem := { s.modem with defaultFails := FMap.put s.modem.defaultFails bs n } }
    else
      maskSuspend s bs set

/-- R75: a capture of a band-sector's transmission; `worstExcess` is in 0.25 dB. -/
def execMaskCapture (bandSector : Nat) (worstExcess : Int) (s : State) : Host.Outcome State Fault Refusal :=
  if allBandSectors.contains bandSector ∧ s.power.dev = .active ∧ s.modem.suspended.contains bandSector = false then
    if 0 < worstExcess then done (maskFailed s bandSector worstExcess)
    else done { s with modem := { s.modem with defaultFails := FMap.del s.modem.defaultFails bandSector } }
  else done s

end Sys2Proof.Machine
end

