-- ==== Sys2Proof/Machine/Sett.lean ====
section
/-! DEFINITION. The sett ports, transit, the den census, the ring and its master, link delays and MARK blocks
(R281 to R298, R316). -/

namespace Sys2Proof.Machine

/-- State of a sett port. -/
def settPort (s : State) (p : Nat) : SettPort := FMap.getD s.sett.ports p {}

/-- The SET island forwards: in LOAD after the bypass is released, in MAINTENANCE, ACTIVE and FOLLOWER (R289). -/
def settForwards (s : State) : Bool := lsfRuns s.power.dev && !s.power.bypassOn

/-- A port goes down: counted and recorded; the frame it received and those passing through are lost (R282, R283). -/
def portDown (s : State) (p : Nat) : State :=
  if (settPort s p).state = .up then
    let s := updPort s p (fun x => { x with state := .down, downs := x.downs + 1, transit := [], request := none })
    record (countS s p 9) 0x7010 p 0 0
  else updPort s p (fun x => { x with state := .down })

/-- R282: both lanes of an enabled port hold block lock and ALIGN. -/
def execSettPortUp (port : Nat) (s : State) : Host.Outcome State Fault Refusal :=
  if 1 ≤ port ∧ port ≤ 4 ∧ lsfRuns s.power.dev ∧ bitOf (objN s 0x9010 port) 0 ∧ (settPort s port).state ≠ .up then
    done (record (updPort s port (fun x => { x with state := .up })) 0x7010 port 2 0)
  else done s

/-- R282: invalid sync headers or loss of signal. -/
def execSettPortDown (port : Nat) (s : State) : Host.Outcome State Fault Refusal :=
  if 1 ≤ port ∧ port ≤ 4 then done (portDown s port) else done s

/-- R297: the bypass opens in one step; both links go down and train to the chip. -/
def execBypassRelease (s : State) : Host.Outcome State Fault Refusal :=
  if s.power.dev = .load ∧ s.power.bypassOn then
    let s := { s with power := { s.power with bypassOn := false } }
    done (portDown (portDown s 1) 2)
  else done s

/-- R283: an ABORT block: the frame in progress is discarded. -/
def execSettAbortRx (port : Nat) (s : State) : Host.Outcome State Fault Refusal :=
  if 1 ≤ port ∧ port ≤ 4 ∧ portCarries s port then done (countS s port 4) else done s

/- Frames of EAST, WEST and SPUR (R285, R287). -/

/-- MESH_EUI that ORIG_CHIP gives in its census; a CENSUS frame carries its own (R285). -/
def originEui (s : State) (f : SettFrame) : Option Octets :=
  if f.typ = 2 then some (sliceOf f.payload 8 8)
  else if f.origChip = chipIndex s then some (meshEui s)
  else (FMap.find s.sett.members f.origChip).map (fun m => m.census.meshEui)

/-- The frame is for the chip (R287). -/
def settForMe (s : State) (f : SettFrame) : Bool :=
  f.bcast || f.destChip = chipIndex s ||
    (s.power.dev = .active && pairIndex s ≠ 0xFFFF && f.destChip = pairIndex s)

/-- The frame is passed on (R287). -/
def settPassed (s : State) (f : SettFrame) : Bool := !settForMe s f || (f.bcast && f.origChip ≠ chipIndex s)

/-- A chip hangs on SPUR: it is heard there. -/
def onSpur (s : State) (chip : Nat) : Bool := match memberFor s chip with
  | some m => m.hops.has 4
  | none => false

/-- Ports a frame that arrived on `port` leaves by (R287). -/
def settExits (s : State) (port : Nat) (f : SettFrame) : List Nat :=
  if port = 4 then
    if f.bcast then [1, 2] else [(ringPort s f.destChip).getD 11 - 10]
  else (3 - port) :: (if f.bcast || onSpur s f.destChip then [4] else [])

/-- Octets of a frame on the link. -/
def settSize (f : SettFrame) : Nat := 40 + f.payload.length

/-- A frame enters the transit buffer of an egress port, or is discarded whole and counted (R287). -/
def settTransit (f : SettFrame) (s : State) (p : Nat) : State :=
  if portCarries s p then
    let held := sumOf ((settPort s p).transit.map settSize)
    if 16384 < held + settSize f then countS s p 7
    else updPort s p (fun x => { x with transit := x.transit ++ [{ f with ttl := f.ttl - 1 }] })
  else s

/-- Pass a frame on (R287). -/
def settPass (s : State) (port : Nat) (f : SettFrame) : State :=
  if !settPassed s f then s
  else if f.ttl = 0 then (if settForMe s f then s else countS s port 6)
  else (settExits s port f).foldl (settTransit f) s

/-- Take a frame: without a key it is discarded, with a bad tag it is counted in CE_COUNTERS word 2 (R285). -/
def settTake (s : State) (port : Nat) (f : SettFrame) : State :=
  if !settForMe s f then s
  else match (originEui s f).bind (fun e => purposeKey s e 5) with
    | none => s
    | some key =>
      if settVerifies key f then emit (countS s port 1) (.settRx port { f with payload := settPayload key f, enc := false })
      else count s 0x7050 0 2

/-- R287: a sett frame is verified and taken, passed on or dropped. Types 3 to 6 have commands of their own. -/
def execSettFrameRx (port : Nat) (f : SettFrame) (s : State) : Host.Outcome State Fault Refusal :=
  if 1 ≤ port ∧ port ≤ 4 ∧ lsfRuns s.power.dev ∧ portCarries s port then
    if 7 ≤ f.typ then done (countS s port 5)
    else if f.typ ≤ 2 ∧ port ≠ 3 then done (settPass (settTake s port f) port f)
    else done s
  else done s

/- The census (R289 to R292). -/

/-- The chip's own census (Table 11-4). -/
def ownCensus (s : State) : Census :=
  { deviceEui := Config.deviceEui, meshEui := meshEui s, chipIndex := chipIndex s % 4096, pairIndex := pairIndex s
    role := peerRole s, timeState := s.time.mode.code, master := s.sett.master.getD 0xFFFF, closed := s.sett.closed
    censusNo := s.sett.censusNo }

/-- A census as its 32 octets (Table 11-4). -/
def censusOctets (c : Census) : Octets :=
  padTo 8 c.deviceEui ++ padTo 8 c.meshEui ++ beOctets 2 c.chipIndex ++ beOctets 2 c.pairIndex ++
    [byte c.role, byte c.timeState] ++ beOctets 2 c.master ++ [byte (bitNat c.closed * 128)] ++ zeros 3 ++
    beOctets 4 c.censusNo

/-- The lowest CHIP_INDEX among the chip and its members of ROLE 0 or 1 whose time is acquired (R292). -/
def ringElection (s : State) : Option Nat :=
  let own := if peerRole s ≤ 1 && timeAcquired s then [chipIndex s] else []
  let l := own ++ (s.sett.members.filter (fun p => p.2.census.role ≤ 1 && p.2.census.timeState != 0)).map (·.1)
  l.foldl (fun m k => match m with | some x => some (min x k) | none => some k) none

/-- Hold the election, recording a change of master (R292). -/
def elect (s : State) : State :=
  let new := ringElection s
  if new = s.sett.master then s
  else record { s with sett := { s.sett with master := new } } 0x7015 (s.sett.master.getD 0xFFFF) (new.getD 0xFFFF) 0

/-- The ring closes or opens (R291). -/
def setRing (s : State) (closed : Bool) : State :=
  if closed = s.sett.closed then s
  else record { s with sett := { s.sett with closed := closed } } 0x7011 (bitNat closed) s.sett.members.length 0

/-- A census older than its third miss: 10 ms expected, 5 ms of margin, two more of 10 ms (R290). -/
def censusStale (s : State) (t : Nat) : Bool := t + 35000000 ≤ s.now

/-- Forget the hops of ports where a member is heard no more, and open the ring whose census returns no more (R291). -/
def refreshRing (s : State) : State :=
  let s := { s with sett := { s.sett with members := s.sett.members.mapVals (fun _ m => { m with
    hops := m.hops.keep (fun p _ => !censusStale s (FMap.getD m.heard p 0)) }) } }
  match s.sett.returnedAt with
  | some t => if censusStale s t then setRing { s with sett := { s.sett with returnedAt := none } } false else s
  | none => s

/-- R289: the census goes out on EAST, WEST and SPUR every 10 ms. -/
def execCensusTx (s : State) : Host.Outcome State Fault Refusal :=
  let due : Bool := match s.sett.censusAt with
    | some t => decide (t + 10000000 ≤ s.now)
    | none => true
  if settForwards s ∧ due then
    let s := elect (refreshRing s)
    let s := settOriginate s [1, 2, 4] 2 false 0 0 true 7 0xFFFFFFFF (censusOctets (ownCensus s))
    done { s with sett := { s.sett with censusNo := (s.sett.censusNo + 1) % 2 ^ 32, censusAt := some s.now } }
  else done s

/-- The neighbour declared in DEN_CFG for a ring port (Table 11-13). -/
def declaredNeighbour (s : State) (p : Nat) : Nat := objField s 0x9003 0 (if p = 1 then 1 else 3) 2

/-- A census at hops 1 on a ring port whose chip is not the declared neighbour, at each change (R316). -/
def checkNeighbour (s : State) (p hops : Nat) (c : Census) : State :=
  if hops ≠ 1 ∨ (p ≠ 1 ∧ p ≠ 2) then s
  else
    let want := declaredNeighbour s p
    if want = 0xFFFF ∨ want = c.chipIndex then updPort s p (fun x => { x with differs := [] })
    else if (settPort s p).differs = c.deviceEui then s
    else record (updPort s p (fun x => { x with differs := c.deviceEui })) 0x7020 p want c.chipIndex

/-- Store a member. -/
def setMember (s : State) (m : Member) : State :=
  { s with sett := { s.sett with members := FMap.put s.sett.members m.census.chipIndex m } }

/-- A census of another chip (R290). -/
def censusOther (s : State) (p hops : Nat) (c : Census) : State :=
  match FMap.find s.sett.members c.chipIndex with
  | some m =>
    if m.census.deviceEui ≠ c.deviceEui then
      record s 0x7014 c.chipIndex (fieldOf m.census.deviceEui 4 4) (fieldOf c.deviceEui 4 4)
    else
      let s := setMember s { census := c, hops := FMap.put m.hops p hops, heard := FMap.put m.heard p s.now
                             heardAt := s.now, misses := 0, frames := m.frames + 1 }
      elect (checkNeighbour (refreshRing s) p hops c)
  | none =>
    if 7 ≤ s.sett.members.length then record s 0x7016 c.chipIndex 0 0
    else
      let s := setMember s { census := c, hops := [(p, hops)], heard := [(p, s.now)], heardAt := s.now, misses := 0
                             frames := 1 }
      elect (checkNeighbour (record s 0x7012 c.chipIndex c.role hops) p hops c)

/-- The chip's own census returns on a ring port: the ring is closed (R291). -/
def censusOwn (s : State) (p : Nat) : State :=
  if p = 1 ∨ p = 2 then setRing { s with sett := { s.sett with returnedAt := some s.now } } true else s

/-- R290: a verified census. -/
def execCensusRx (port hops : Nat) (c : Census) (s : State) : Host.Outcome State Fault Refusal :=
  if settForwards s ∧ (port = 1 ∨ port = 2 ∨ port = 4) then
    if c.chipIndex = chipIndex s then
      if c.deviceEui = Config.deviceEui then done (censusOwn s port)
      else done (record s 0x7014 c.chipIndex (fieldOf Config.deviceEui 4 4) (fieldOf c.deviceEui 4 4))
    else done (censusOther s port hops c)
  else done s

/-- Locations of the TYPE 1 entries whose HANDLE names a chip (R290). -/
def chipEntries (s : State) (chip : Nat) : List Nat :=
  let names := fun (e : HostEntry) => e.kind = 1 && chipOf e.handle = chip
  (s.fwd.host.filter (fun p => names p.2)).map (·.1) ++ (s.fwd.stash.filter (fun p => names p.2)).map (fun p => stashLoc p.1)

/-- A member is lost: its TYPE 1 entries go, and a master is elected (R290, R292). -/
def loseMember (s : State) (chip : Nat) (m : Member) : State :=
  let s := record { s with sett := { s.sett with members := FMap.del s.sett.members chip } } 0x7013 chip m.frames 0
  elect ((chipEntries s chip).foldl removeAt s)

/-- R290: the census of a member misses; the third miss loses it. -/
def execCensusMiss (chip : Nat) (s : State) : Host.Outcome State Fault Refusal :=
  match FMap.find s.sett.members chip with
  | some m =>
    if m.heardAt + 15000000 + 10000000 * m.misses ≤ s.now then
      if m.misses + 1 < 3 then done (setMember s { m with misses := m.misses + 1 })
      else done (refreshRing (loseMember s chip m))
    else done s
  | none => done s

/- Link delay (R293) and the pair declaration (R299). -/

/-- Domain time in 1/16 ns. -/
def stamp (s : State) : Nat := domainTime s * 16

/-- The chip's own pair declaration, carried on TWIN (R299). -/
def ownDeclaration (s : State) (p : Nat) : Option Declaration :=
  if p = 3 ∧ hasPartner s then
    some { deviceEui := Config.deviceEui, pairEui := sliceOf (obj s 0x9001 0) 0 8, pairIndex := pairIndex s, meshEui := meshEui s
           imageDigest := partDigest (runningBank s) 1, stateCompat := bankCompat (runningBank s) }
  else none

/-- Send a LINK frame, secured like every sett frame (R285, R293). -/
def sendLink (s : State) (p : Nat) (m : LinkMessage) : State :=
  if portCarries s p && (setKey s).isSome then
    useSender (emit (countS (reserveSender s) p 0) (.link p m (ownDeclaration s p)))
  else s

/-- R293: once per second a port sends a delay request. -/
def execLinkDelayRequest (port : Nat) (s : State) : Host.Outcome State Fault Refusal :=
  let waiting : Bool := match (settPort s port).request with
    | some t => decide (stamp s < t + 16000000000)
    | none => false
  if 1 ≤ port ∧ port ≤ 4 ∧ lsfRuns s.power.dev ∧ portCarries s port ∧ !waiting then
    let t1 := stamp s
    done (sendLink (updPort s port (fun x => { x with request := some t1 })) port (.request t1 0))
  else done s

/-- A response gives a value of d; the delay is the mean of the last eight (R293). -/
def noteDelay (s : State) (p t1 t2 t3 t4 : Nat) : State :=
  if (settPort s p).request = some t1 then
    let d := (((t4 : Int) - t1) - ((t3 : Int) - t2)) / 2
    updPort s p (fun x => { x with delays := (d :: x.delays).take 8, request := none })
  else s

/-- Link delay of a port in 1/16 ns (R293). -/
def linkDelay (s : State) (p : Nat) : Int :=
  let l := (settPort s p).delays
  if l.isEmpty then 0 else (l.foldl (· + ·) 0) / (l.length : Int)

/-- The partner runs a system image of the chip's own STATE_COMPAT, as far as it has declared one (R336). -/
def compatAgrees (s : State) : Bool := match s.twin.partner with
  | some d => d.stateCompat = bankCompat (runningBank s)
  | none => true

/-- The partner's declaration is compared with the chip's own (R299, R336). -/
def noteDeclaration (s : State) (d : Declaration) : State :=
  let agrees := d.deviceEui = obj s 0x9002 0 && d.pairEui = sliceOf (obj s 0x9001 0) 0 8 && d.pairIndex = pairIndex s
  let fresh := s.twin.partner ≠ some d
  let s := { s with twin := { s.twin with partner := some d, mismatch := !agrees } }
  if (!agrees || !compatAgrees s) && fresh then record s 0x7000 (pairIndex s) d.pairIndex 0 else s

/-- R293: a LINK request is answered, or a response gives the delay; on TWIN the declarations are compared (R299). -/
def execLinkFrameRx (port : Nat) (m : LinkMessage) (declaration : Option Declaration) (s : State) :
    Host.Outcome State Fault Refusal :=
  if 1 ≤ port ∧ port ≤ 4 ∧ lsfRuns s.power.dev ∧ portCarries s port then
    let s := match declaration with
      | some d => if port = 3 ∧ hasPartner s then noteDeclaration s d else s
      | none => s
    match m with
    | .request t1 t2 => done (sendLink s port (.response t1 t2 (stamp s) 0))
    | .response t1 t2 t3 t4 => done (noteDelay s port t1 t2 t3 t4)
  else done s

/- MARK blocks (R294, R308). -/

/-- MARK_NO of now (R294). -/
def markNow (s : State) : Nat := domainTime s / 100000000 % 2 ^ 32

/-- HOPS of the chip's marks (R294). -/
def ownHops (s : State) : Nat :=
  if ringMaster s then 0
  else match s.time.active with
    | some i => if (sourceCfg s i).typ = 2 then min 0xFF (s.sett.markHops + 1) else 0xFF
    | none => 0xFF

/-- Ports that carry the chip's marks: the ring and SPUR, and TWIN from the active chip of a pair (R294, R308). -/
def markPorts (s : State) : List Nat := [1, 2, 4] ++ (if s.power.dev = .active && hasPartner s then [3] else [])

/-- R294: a MARK at each multiple of 100 ms of domain time. -/
def execMarkTx (s : State) : Host.Outcome State Fault Refusal :=
  let n := markNow s
  if timeAcquired s ∧ settForwards s ∧ s.sett.markSent ≠ some n then
    let s := { s with sett := { s.sett with markSent := some n } }
    done (((markPorts s).filter (portCarries s)).foldl
      (fun s p => emit s (.settMark p (ownHops s) (s.sett.master.getD 0xFFFF) n)) s)
  else done s

/-- Domain time a mark implies now: MARK_NO x 100 ms extended with the upper bits of domain time, plus the time since the
event instant, which is the arrival (1/16 ns of domain time) less the link delay (R294). -/
def markImplied (s : State) (p markNo arrival : Nat) : Int :=
  let epoch := domainTime s / 100000000 / 2 ^ 32 * 2 ^ 32
  let event := ((arrival : Int) - linkDelay s p) / 16
  ((epoch + markNo) * 100000000 : Nat) + ((domainTime s : Int) - event)

/-- One mark comes before another of the same number: fewer hops, EAST on a tie (R294). -/
def markBetter (hops port : Nat) (taken : Nat × Nat × Nat) : Bool :=
  hops < taken.2.1 || (hops = taken.2.1 && port = 1 && taken.2.2 ≠ 1)

/-- A SETT entry takes a mark: an event, or a better mark of the same number in place of the one taken (R294). -/
def takeMark (s : State) (i p hops markNo : Nat) (implied : Int) : State :=
  let taken := { s with sett := { s.sett with markHops := hops, markTaken := some (markNo, hops, p) } }
  match s.sett.markTaken with
  | some t =>
    if t.1 = markNo then
      if markBetter hops p t then
        let off := implied - domainTime s
        let s := updEntry taken i (fun e => { e with offset := off })
        if s.time.mode = .locked ∧ s.time.active = some i ∧ selectsTime s then startSlew s off else s
      else s
    else timeEvent taken i implied true 0
  | none => timeEvent taken i implied true 0

/-- The enabled SETT entry of TIME_SOURCES. -/
def settEntry (s : State) : Option Nat :=
  [0, 1, 2, 3].find? (fun i => (sourceCfg s i).enable && (sourceCfg s i).typ = 2)

/-- R294: a received mark: on TWIN it steers a follower (R308), on the other ports it is an event of the SETT entry. -/
def execMarkRx (port hops master markNo arrival : Nat) (s : State) : Host.Outcome State Fault Refusal :=
  if 1 ≤ port ∧ port ≤ 4 ∧ lsfRuns s.power.dev ∧ portCarries s port then
    let implied := markImplied s port markNo arrival
    let s := updPort s port (fun x => { x with mark := some (hops, master, markNo, s.now) })
    if port = 3 then
      done (if s.power.dev = .follower ∧ hasPartner s then startSlew s (implied - domainTime s) else s)
    else match settEntry s with
      | some i =>
        done (if s.sett.master = some master ∧ hops < 0xFF then takeMark s i port hops markNo implied else s)
      | none => done s
  else done s

/-- R317: the command clears all SETT_COUNTERS. -/
def execSettCountersClear (who : Caller) (s : State) : Host.Outcome State Fault Refusal :=
  done (command s who 0x9021 0 [byte 0] (fun _ => 0) (fun s => clearCounters s 0x9020))

end Sys2Proof.Machine
end

