-- ==== Sys2Proof/Machine/SopFrame.lean ====
section
/-! DEFINITION. SOP frames out: the header, the tag, the stored response, and each transport's way out (R379, R381, R391,
R396 to R399). -/

namespace Sys2Proof.Machine

/-- The CAN FD data length that holds `n` octets. -/
def canLength (n : Nat) : Nat :=
  if n ≤ 8 then n else ([12, 16, 20, 24, 32, 48].find? (fun k => decide (n ≤ k))).getD 64

/-- The CAN frames' data of a SOP frame: the transport header, up to 63 octets, the last padded (R396). -/
def canFragments : Nat → Nat → Octets → List Octets
  | 0, _, _ => []
  | n + 1, k, l =>
    let last : Bool := decide (l.length ≤ 63)
    let head := bitNat (k = 0) * 128 + bitNat last * 64 + k % 64
    let d := byte head :: l.take 63
    if last then [padTo (canLength d.length) d] else d :: canFragments n (k + 1) (l.drop 63)

/-- Identifier of a frame from the chip (Table 14-9). -/
def canId (s : State) (bus host prio : Nat) : Nat :=
  prio * 2 ^ 26 + 2 ^ 25 + fieldOf (FMap.getD s.sop.canCfg bus []) 0 1 % 128 * 2 ^ 18 + host % 128 * 2 ^ 11

/-- A SOP frame leaves on a CAN bus; none while the transmitter is held off (R396, R443). -/
def canOut (s : State) (bus host prio : Nat) (f : Octets) : State :=
  if s.sop.canHeld.contains bus then s
  else (canFragments (f.length / 63 + 1) 0 f).foldl (fun s d => emit s (.can bus (canId s bus host prio) d)) s

/-- MSI vector `v` of MB0, unless masked (R398). -/
def msi (s : State) (v : Nat) : State := if bitOf s.sop.irqMask v then s else emit s (.msi v)

/-- A response enters C2H_BUF, or the queue of 8 behind it; vector 0 tells that one is ready (R398). -/
def mbPut (s : State) (f : Octets) : State :=
  if 9 ≤ s.sop.mbOut.length then s
  else
    let first := s.sop.mbOut.isEmpty
    let s := { s with sop := { s.sop with mbOut := s.sop.mbOut ++ [f] } }
    if first then msi s 0 else s

/-- A response leaves by its endpoint's transport (R395 to R399). -/
def sopOut (s : State) (e : Endpoint) (f : Octets) : State :=
  if e.transport ≤ 1 then
    let host := fieldOf e.address 0 1 % 128
    canOut s e.transport host (FMap.getD s.sop.canPrio (128 * e.transport + host) 0) f
  else if e.transport = 5 then mbPut s f
  else if e.transport = 6 then { s with sop := { s.sop with spiOut := s.sop.spiOut ++ [f] } }
  else
    let from_ := ((s.sop.udpLocal.find? (fun p => p.1 = e)).map (·.2)).getD (zeros 16, objField s 0x1102 0 0 2)
    emit s (.sop e from_.1 from_.2 f)

/-- The SOP header of a frame from the chip (Table 14-4). -/
def sopHeader (notify tagged : Bool) (op sid seq len : Nat) : Octets :=
  [byte (16 + 8 + bitNat notify * 4 + bitNat tagged), byte op, byte sid, byte 0] ++ beOctets 4 seq ++ beOctets 2 len ++ zeros 2

/-- A frame of a session: tagged where it was opened with METHOD 0 (R379, R380). -/
def sopFrame (x : Option Session) (notify : Bool) (op sid seq : Nat) (body : Octets) : Octets :=
  match x with
  | some x =>
    if x.method = 0 && !x.half then
      let f := sopHeader notify true op sid seq body.length ++ body
      f ++ (cmac x.key f).take 8
    else sopHeader notify false op sid seq body.length ++ body
  | none => sopHeader notify false op sid seq body.length ++ body

/-- Raise a word of SOP_COUNTERS of a transport (Table 14-12). -/
def countSop (s : State) (transport word : Nat) : State := count s 0x1120 (transport + 1) word

/-- Change a session. -/
def updSession (s : State) (sid : Nat) (f : Session → Session) : State :=
  { s with sop := { s.sop with sessions := s.sop.sessions.update sid f } }

/-- SID and endpoint of a caller; none for a thread. -/
def callerEnd (s : State) : Caller → Option (Nat × Endpoint)
  | .session sid => (FMap.find s.sop.sessions sid).map (fun x => (sid, x.endpoint))
  | .endpoint e => some (0, e)
  | .mailbox _ => none

/-- The journal receipt a response waits for: records taken in since `from_`, on an active chip with a present partner
(R307, R378). -/
def receiptDue (s : State) (from_ : Nat) : Option Nat :=
  if journals s && !s.twin.lagging && from_ < s.twin.nextJseq then some (s.twin.nextJseq - 1) else none

/-- Send a response frame, or hold it until its receipt (R307). -/
def answerFrame (s : State) (from_ : Nat) (e : Endpoint) (f : Octets) : State :=
  match receiptDue s from_ with
  | some n => { s with twin := { s.twin with heldAnswers := s.twin.heldAnswers ++ [(n, e, f)] } }
  | none => sopOut s e f

/-- The response to a request: STATUS, ITEM and, where OK, the rest of the body; it becomes the session's stored
response (R381, R383). `from_` is the journal's next JSEQ when the request began. -/
def respondFrom (s : State) (from_ : Nat) (who : Caller) (op seq status item : Nat) (rest : Octets) : State :=
  match callerEnd s who with
  | some (sid, e) =>
    let body := [byte status, byte item] ++ (if status = 0 then rest else [])
    let f := sopFrame (FMap.find s.sop.sessions sid) false op sid seq body
    let s := if status = 0 then s else countSop s e.transport 1
    let s := if sid = 0 then s else updSession s sid (fun x => { x with response := some f })
    answerFrame s from_ e f
  | none => s

/-- A response that waits for no receipt. -/
def respond (s : State) (who : Caller) (op seq status item : Nat) (rest : Octets) : State :=
  respondFrom s s.twin.nextJseq who op seq status item rest

end Sys2Proof.Machine
end

