-- ==== Sys2Proof/Machine/Tables.lean ====
section
/-! DEFINITION. The commands of the forwarding tables: the pipeline, learning, RPL, the update port, the shadow check and
the command register (R201 to R233). -/

namespace Sys2Proof.Machine

/-- The chip takes packets into its pipeline itself: not as a follower, which takes only the journal (R305). -/
def takesPackets (s : State) : Bool := s.power.dev = .active || s.power.dev = .maintenance

/-- One packet passes the pipeline; an air frame that enters no queue settles its counter (R159). -/
def takePacket (s : State) (p : Packet) : State :=
  let t := pipeline s p
  match p.ingress with
  | .air _ => if t.queues.nextPacket = s.queues.nextPacket then settleFrame t (localIndex p.sourceHandle) else t
  | _ => t

/-- A follower forwards a packet of the journal, and keeps it for a takeover (R305, R309). -/
def shadowPacket (s : State) (p : Packet) : State :=
  takePacket { s with twin := { s.twin with afterSlotEnd := s.twin.afterSlotEnd ++ [p] } } p

/-- R201: a packet passes the forwarding pipeline; wired packets are journaled as TBL consumes them (Table 11-6). A
follower takes the packets of journaled air frames, and its wired packets from the journal alone (R305). -/
def execForwardPacket (p : Packet) (s : State) : Host.Outcome State Fault Refusal :=
  if takesPackets s then
    let s := match p.ingress with
      | .eth _ => journal s (bitNat p.poison) (.wiredRx p.data p)
      | .sett port => if port = 13 then s else journal s (bitNat p.poison) (.wiredRx p.data p)
      | _ => s
    done (takePacket s p)
  else match p.ingress with
    | .air _ => done (if shadows s then shadowPacket s p else s)
    | _ => done s

/-- R207: REASM_TIMEOUT after the first fragment, the datagram is dropped. -/
def execReassemblyTimeout (source tag size : Nat) (s : State) : Host.Outcome State Fault Refusal :=
  let key := reasmKey source tag size
  match FMap.find s.fwd.reasm key with
  | some c => if c.startedAt + objN s 0x6002 0 * 1000000000 ≤ s.now then done (dropReasm s key source) else done s
  | none => done s

/-- R215: the oldest learning request is inserted as a LEARNED entry, or refused with FULL. -/
def execLearnInsert (s : State) : Host.Outcome State Fault Refusal :=
  match s.fwd.learnQ with
  | [] => done s
  | r :: rest =>
    let s := { s with fwd := { s.fwd with learnQ := rest } }
    if (findKey s r.key).isSome then done s
    else done (startInsert s
      { key := r.key, kind := r.kind, port := r.port, learnBs := r.learnBs, handle := r.handle } false)

/-- R210: a verified DAO sets NEXT_HOP of its target, an own node. -/
def execDaoRx (target parent sender : Nat) (noPath : Bool) (s : State) : Host.Outcome State Fault Refusal :=
  let joined := fun h => match nodeOf s h with
    | some n => n.state = .joined
    | none => false
  let storing := objN s 0x6010 0 = 0
  let via := if noPath then target else if storing then sender else parent
  if !joined sender || (!storing && !noPath && !joined parent) then done (countF s 14)
  else if (nodeOf s target).isSome then done (updNode s (localIndex target) (fun n => { n with nextHop := via }))
  else done s

/-- DIO body: instance, version, rank of the root, grounded and mode of operation, DODAGID (R209, RFC 6550). -/
def dioBody (s : State) : Octets :=
  [byte (objN s 0x6011 0), byte 240] ++ beOctets 2 256 ++ [byte (128 + (if objN s 0x6010 0 = 0 then 2 else 1) * 8)] ++
    zeros 3 ++ ownAddress s

/-- An ICMPv6 message LSF sends in class 0. -/
def rplPacket (s : State) (dst : Octets) (code : Nat) (body : Octets) (airClass : Option Nat) : Packet :=
  let sum := icmpChecksum (ownAddress s) dst ([byte 155, byte code, byte 0, byte 0] ++ body)
  let msg := [byte 155, byte code] ++ beOctets 2 sum ++ body
  { ingress := .ctl, src := ownAddress s, dst := dst, macEui := [], sourceHandle := 0xFFFFFFFF, hopLimit := 255, dscp := 48
    cls := 0, dispatchOk := true, fragment := none, ackRequested := airClass.isNone, cutThrough := false, poison := false
    airClass := airClass, mode := 0
    data := beOctets 4 0x60000000 ++ beOctets 2 msg.length ++ [byte 58, byte 255] ++ ownAddress s ++ dst ++ msg }

/-- R209: LSF answers a DIS with a DIO to its source. -/
def execDisRx (source : Octets) (s : State) : Host.Outcome State Fault Refusal :=
  if handlesAir s then done (forward s (rplPacket s source 1 (dioBody s) none)) else done s

/-- All RPL nodes, the multicast group of a DIO (RFC 6550). -/
def allRplNodes : Octets := [byte 0xFF, byte 2] ++ zeros 13 ++ [byte 0x1A]

/-- Trickle interval in ns after `k` doublings (R209). -/
def trickleNs (s : State) (k : Nat) : Nat := 2 ^ (objField s 0x6012 0 0 1 + k) * 1000000

/-- R209: the Trickle timer sends a DIO on every enabled band-sector unless enough consistent ones were heard. -/
def execDioTrickleTimer (s : State) : Host.Outcome State Fault Refusal :=
  if handlesAir s ∧ s.fwd.trickleDue ≤ s.now then
    let k := objField s 0x6012 0 2 1
    let quiet := k != 0 && k ≤ s.fwd.trickleHeard
    let s := if quiet then s
      else (allBandSectors.filter (fun bs => bandEnabled s (bandOf bs))).foldl (fun s bs =>
        forward s (rplPacket s allRplNodes 1 (dioBody s) (some bs))) s
    let step := min (s.fwd.trickleStep + 1) (objField s 0x6012 0 1 1)
    done { s with fwd := { s.fwd with
      trickleStep := step, trickleDue := s.now + trickleNs s step, trickleHeard := 0 } }
  else done s

/-- The position in the sweep pass has reached a bucket (R221). -/
def sweepReached (s : State) (bucket : Nat) : Bool :=
  let period := max 1 (objN s 0x6032 0) * 1000000000
  bucket * period ≤ (domainTime s - objN s 0x4001 0) % period * 65536

/-- R221: the sweeper visits its next bucket when the pass reaches it. -/
def execSweepVisit (bucket : Nat) (s : State) : Host.Outcome State Fault Refusal :=
  if bucket = s.fwd.sweepNext ∧ bucket < 65536 ∧ sweepReached s bucket then
    let s := if s.fwd.steps.isEmpty then sweepBucket s bucket else queueStep s (.sweep bucket)
    if bucket = 65535 then
      done { s with fwd := { s.fwd with sweepNext := 0, sweepLast := s.fwd.sweepRemoved, sweepRemoved := 0 } }
    else done { s with fwd := { s.fwd with sweepNext := bucket + 1 } }
  else done s

/-- R222: an even cycle applies the pending hits of one bucket; 65,536 names the stash. -/
def execUpdatePortHitCycle (bucket : Nat) (s : State) : Host.Outcome State Fault Refusal := done (applyHits s bucket)

/-- R222: an odd cycle applies one structural step, unless more than 192 hits are pending. -/
def execUpdatePortStructuralCycle (s : State) : Host.Outcome State Fault Refusal :=
  if 192 < s.fwd.pendingHits.length then done s
  else match s.fwd.steps with
    | [] => done s
    | t :: rest => done (runStep { s with fwd := { s.fwd with steps := rest } } t)

/-- CC0's own result of a sampled lookup: location of a host key, next-hop index of a trie lookup (R227). -/
def shadowResult (s : State) (trie : Bool) (key : Octets) : Option Nat :=
  if trie then (trieLookup s key).map (·.2) else findKey s key

/-- R227: a sampled lookup is compared; a mismatch is counted, recorded and repaired, a second within 60 s fatal. -/
def execShadowCheck (trie : Bool) (key : Octets) (result : Option Nat) (s : State) : Host.Outcome State Fault Refusal :=
  if objN s 0x6050 0 = 0 ∨ shadowResult s trie key = result then done s
  else
    let place := if trie then ((trieLookup s key).map (fun r => stageOf r.1)).getD 0 else bucket1 key
    let again : Bool := match s.fwd.mismatchAt with
      | some t => decide (s.now ≤ t + 60000000000)
      | none => false
    let s := record (countF s 11) 0x5030 (bitNat trie) (fieldOf key 12 4) place
    let s := { s with fwd := { s.fwd with mismatchAt := some s.now, lookups := 0 } }
    done (if again then fatalToRole s else s)

/- The command register (R229 to R232). -/

/-- A command of the register runs. -/
def tableBusy (s : State) : Bool := objN s 0x6024 0 = 1

/-- The check of a TABLE_CMD write's own rule (R229). -/
def tableFree (s : State) : Nat := require (!tableBusy s) stBusy

/-- TABLE_KEY. -/
def tableKey (s : State) : Octets := obj s 0x6021 0

/-- TABLE_LOC. -/
def tableLoc (s : State) : Nat := objN s 0x6023 0

/-- The entry TABLE_DATA holds for TABLE_KEY: bytes 16 to 31 of Table 8-3, HIT, AGE and PASS ignored. -/
def dataEntry (s : State) : HostEntry :=
  let d := obj s 0x6022 0
  let b := fieldOf d 16 1
  { key := tableKey s, confirmed := bitOf b 6, noAge := bitOf b 5, kind := b % 4, port := fieldOf d 17 1 / 16
    learnBs := fieldOf d 17 1 % 16, handle := fieldOf d 18 4, destMac := sliceOf d 22 6, learnTime := fieldOf d 28 4 }

/-- Field limits of an entry (Table 8-3). -/
def entryOk (e : HostEntry) : Bool :=
  (match e.kind with
    | 1 => 11 ≤ e.port && e.port ≤ 14
    | 2 => e.port = 9 || e.port = 10
    | _ => e.port = 0) && e.learnBs ≤ 10

/-- The 32 octets of an entry (Table 8-3). -/
def entryOctets (e : HostEntry) : Octets :=
  padTo 16 e.key ++ [byte (128 + bitNat e.confirmed * 64 + bitNat e.noAge * 32 + bitNat e.hit * 16 + bitNat e.age * 8 +
    bitNat e.pass * 4 + e.kind), byte (e.port * 16 + e.learnBs)] ++ beOctets 4 e.handle ++ padTo 6 e.destMac ++
    beOctets 4 e.learnTime

/-- The register ends at once with a status. -/
def tableStatusNow (s : State) (status : Nat) : State := setObjN s 0x6024 0 1 status

/-- The register ends at once with TABLE_DATA set. -/
def tableDataNow (s : State) (data : Octets) : State := tableStatusNow (setObj s 0x6022 0 (padTo 32 data)) 0

/-- The register is busy until its step ends. -/
def tableRuns (s : State) : State := tableStatusNow s 1

/-- TABLE_CMD 1, INSERT. -/
def tableInsertApply (s : State) : State :=
  if entryOk (dataEntry s) then startInsert (tableRuns s) (dataEntry s) true else tableStatusNow s 6

/-- TABLE_CMD 2, UPDATE. -/
def tableUpdateApply (s : State) : State :=
  if entryOk (dataEntry s) then queueStep (tableRuns s) (.replace (tableKey s) (dataEntry s) true)
  else tableStatusNow s 6

/-- TABLE_CMD 3, DELETE. -/
def tableDeleteApply (s : State) : State := queueStep (tableRuns s) (.remove (tableKey s) true)

/-- An entry's snapshot, after the pending hits on it (R223). -/
def snapshotAt (s : State) (loc : Nat) : Octets :=
  match entryAt s loc with
  | some e => entryOctets { e with hit := e.hit || s.fwd.pendingHits.contains loc }
  | none => []

/-- TABLE_CMD 4, READ_KEY. -/
def tableReadKeyApply (s : State) : State :=
  match findKey s (tableKey s) with
  | some l => setObjN (tableDataNow s (snapshotAt s l)) 0x6023 0 4 l
  | none => tableStatusNow s 2

/-- A location is well formed (R230). -/
def locOk (l : Nat) : Bool := l < 262144 || (2 ^ 31 ≤ l && l < 2 ^ 31 + 64)

/-- The entry at a location is the source copy of a move, with its destination. -/
def movingFrom (s : State) (loc : Nat) : Option Nat :=
  match s.fwd.transit with
  | some (a, b) => if a = loc then some b else none
  | none => none

/-- READ_LOC ends with MOVED: the location after the move, and the entry (R232). -/
def tableMoved (s : State) (loc : Nat) : State :=
  tableStatusNow (setObjN (setObj s 0x6022 0 (snapshotAt s loc)) 0x6023 0 4 loc) 5

/-- TABLE_CMD 5, READ_LOC (R232). -/
def tableReadLocApply (s : State) : State :=
  let l := tableLoc s
  let key := tableKey s
  if !locOk l then tableStatusNow s 6
  else if key = zeros 16 then
    match movingFrom s l, entryAt s l with
    | some d, _ => tableMoved s d
    | none, some _ => tableDataNow s (snapshotAt s l)
    | none, none => tableStatusNow s 2
  else if keyAt s l = key ∧ (movingFrom s l).isNone then tableDataNow s (snapshotAt s l)
  else match findKey s key with
    | some m => tableMoved s ((movingFrom s m).getD m)
    | none => tableStatusNow s 2

/-- TABLE_CMD 6, CONFIRM (R219). -/
def tableConfirmApply (s : State) : State := queueStep (tableRuns s) (.confirm (tableKey s) true)

/-- PLEN of TABLE_DATA, and the upper 64 bits of TABLE_KEY. -/
def routeLen (s : State) : Nat := fieldOf (obj s 0x6022 0) 0 1
def routeUpper (s : State) : Nat := upper64 (tableKey s)

/-- Operands of a route command in range (R224, R229). -/
def routeOk (s : State) : Bool := 1 ≤ routeLen s && routeLen s ≤ 64 && prefixClean (routeUpper s) (routeLen s)

/-- The key of the route the operands name. -/
def routeNamed (s : State) : Nat := routeKey (routeUpper s) (routeLen s)

/-- TABLE_CMD 8, ROUTE_ADD (R224, R225, Table 8-9). -/
def routeAddApply (s : State) : State :=
  let nh := fieldOf (obj s 0x6022 0) 2 2
  let new := FMap.put s.fwd.routes (routeNamed s) nh
  if !routeOk s || 4096 ≤ nh then tableStatusNow s 6
  else if !FMap.has s.fwd.routes (routeNamed s) && 65536 ≤ s.fwd.routes.length then tableStatusNow s 4
  else if !trieFits new then tableStatusNow s 7
  else tableStatusNow { s with fwd := { s.fwd with routes := new } } 0

/-- TABLE_CMD 9, ROUTE_DEL (R225). -/
def routeDelApply (s : State) : State :=
  if !routeOk s then tableStatusNow s 6
  else if FMap.has s.fwd.routes (routeNamed s) then
    tableStatusNow { s with fwd := { s.fwd with routes := FMap.del s.fwd.routes (routeNamed s) } } 0
  else tableStatusNow s 2

/-- TABLE_DATA with PLEN and NH_IDX in place. -/
def routeData (len nh : Nat) : Octets := [byte len, byte 0] ++ beOctets 2 nh

/-- TABLE_CMD 10, ROUTE_READ. -/
def routeReadApply (s : State) : State :=
  if !routeOk s then tableStatusNow s 6
  else match FMap.find s.fwd.routes (routeNamed s) with
    | some nh => tableDataNow s (routeData (routeLen s) nh)
    | none => tableStatusNow s 2

/-- TABLE_CMD 11, ROUTE_LOOKUP. -/
def routeLookupApply (s : State) : State :=
  match trieLookup s (tableKey s) with
  | some (len, nh) => tableDataNow s (routeData len nh)
  | none => tableStatusNow s 2

/-- The next-hop entry TABLE_DATA holds, REFS ignored (Table 8-7). -/
def dataNextHop (s : State) : NextHop :=
  let d := obj s 0x6022 0
  { valid := bitOf (fieldOf d 0 1) 7, port := fieldOf d 0 1 % 16, destMac := sliceOf d 2 6, chipIndex := fieldOf d 8 2 % 4096 }

/-- TABLE_CMD 12, NH_WRITE (R226). -/
def nhWriteApply (s : State) : State :=
  let i := tableLoc s
  let n := dataNextHop s
  if 4096 ≤ i ∨ (n.valid ∧ (n.port < 9 ∨ 14 < n.port)) then tableStatusNow s 6
  else if !n.valid && (nextHopAt s i).valid && 0 < nhRefs s i then tableStatusNow s 9
  else tableStatusNow { s with fwd := { s.fwd with nextHops := FMap.putD s.fwd.nextHops i n {} } } 0

/-- The 16 octets of a next-hop entry (Table 8-7). -/
def nhOctets (s : State) (i : Nat) : Octets :=
  let n := nextHopAt s i
  [byte (bitNat n.valid * 128 + n.port), byte 0] ++ padTo 6 n.destMac ++ beOctets 2 n.chipIndex ++
    beOctets 2 (nhRefs s i) ++ zeros 4

/-- TABLE_CMD 13, NH_READ. -/
def nhReadApply (s : State) : State :=
  if 4096 ≤ tableLoc s then tableStatusNow s 6
  else tableStatusNow (setObj s 0x6022 0 (nhOctets s (tableLoc s) ++ (obj s 0x6022 0).drop 16)) 0

/-- A TABLE_CMD write of a code. -/
def tableCommand (s : State) (who : Caller) (code : Nat) (act : State → State) : State :=
  command s who 0x6020 0 [byte code] tableFree act

/-- R229: TABLE_CMD 1. -/
def execTableInsert (who : Caller) (s : State) : Host.Outcome State Fault Refusal :=
  done (tableCommand s who 1 tableInsertApply)

/-- R229: TABLE_CMD 2. -/
def execTableUpdate (who : Caller) (s : State) : Host.Outcome State Fault Refusal :=
  done (tableCommand s who 2 tableUpdateApply)

/-- R229: TABLE_CMD 3. -/
def execTableDelete (who : Caller) (s : State) : Host.Outcome State Fault Refusal :=
  done (tableCommand s who 3 tableDeleteApply)

/-- R223: TABLE_CMD 4. -/
def execTableReadKey (who : Caller) (s : State) : Host.Outcome State Fault Refusal :=
  done (tableCommand s who 4 tableReadKeyApply)

/-- R232: TABLE_CMD 5. -/
def execTableReadLoc (who : Caller) (s : State) : Host.Outcome State Fault Refusal :=
  done (tableCommand s who 5 tableReadLocApply)

/-- R219: TABLE_CMD 6. -/
def execTableConfirm (who : Caller) (s : State) : Host.Outcome State Fault Refusal :=
  done (tableCommand s who 6 tableConfirmApply)

/-- R225: TABLE_CMD 8. -/
def execRouteAdd (who : Caller) (s : State) : Host.Outcome State Fault Refusal :=
  done (tableCommand s who 8 routeAddApply)

/-- R225: TABLE_CMD 9. -/
def execRouteDel (who : Caller) (s : State) : Host.Outcome State Fault Refusal :=
  done (tableCommand s who 9 routeDelApply)

/-- R229: TABLE_CMD 10. -/
def execRouteRead (who : Caller) (s : State) : Host.Outcome State Fault Refusal :=
  done (tableCommand s who 10 routeReadApply)

/-- R229: TABLE_CMD 11. -/
def execRouteLookup (who : Caller) (s : State) : Host.Outcome State Fault Refusal :=
  done (tableCommand s who 11 routeLookupApply)

/-- R226: TABLE_CMD 12. -/
def execNhWrite (who : Caller) (s : State) : Host.Outcome State Fault Refusal :=
  done (tableCommand s who 12 nhWriteApply)

/-- R229: TABLE_CMD 13. -/
def execNhRead (who : Caller) (s : State) : Host.Outcome State Fault Refusal :=
  done (tableCommand s who 13 nhReadApply)

/-- R233: the command clears all FWD_COUNTERS. -/
def execFwdCountersClear (who : Caller) (s : State) : Host.Outcome State Fault Refusal :=
  done (command s who 0x6061 0 [byte 0] (fun _ => 0) (fun s => clearCounters s 0x6060))

/-- R217: Neighbor Discovery leads LSF to write or update the TYPE 2 entry of a wired neighbour. -/
def execNeighborDiscoveryRx (address mac : Octets) (port : Nat) (s : State) : Host.Outcome State Fault Refusal :=
  if (port = 9 ∨ port = 10) ∧ address.length = 16 ∧ lsfRuns s.power.dev then
    let e : HostEntry := { key := address, confirmed := true, kind := 2, port := port, destMac := mac }
    done (if (findKey s address).isSome then queueStep s (.replace address e false) else startInsert s e false)
  else done s

end Sys2Proof.Machine
end

