-- ==== Sys2Proof/Machine/TwinPair.lean ====
section
/-! DEFINITION. The twin pair: the claim interlock, takeover, the snapshot, journal frames out, the digest, role swaps,
sequencer restarts, the scrub and the RF loopback (R299 to R314). -/

namespace Sys2Proof.Machine

/-- Change the pair's state. -/
def updTwin (s : State) (f : Twin → Twin) : State := { s with twin := f s.twin }

/- Readiness (R307). -/

/-- Lag of the follower in slots: how far its last completed slot lies behind the running one (R307). -/
def lagSlots (s : State) : Nat := refAsn s - s.twin.completedAsn

/-- The chip, as follower, is ready (R307, R336). -/
def ownReady (s : State) : Bool :=
  shadows s && compatAgrees s && portCarries s 3 && s.twin.agreed && !s.twin.awaitFirst && timeAcquired s && lagSlots s ≤ 2

/-- The partner is a ready follower, as its last JACK said (R306, R307). -/
def partnerReady (s : State) : Bool := hasPartner s && !s.twin.absent && !s.twin.lagging && s.twin.ready

/- Becoming active or follower (R300 to R302). -/

/-- A Neighbor Advertisement with Override for one of the pair's addresses (R300, RFC 4861). -/
def advertisement (s : State) (port : Nat) (addr : Octets) : Octets :=
  let dst := octetsOf [0xFF, 2] ++ zeros 13 ++ [byte 1]
  let tail := beOctets 4 0x20000000 ++ addr ++ [byte 2, byte 1] ++ padTo 6 (sourceMac s port)
  let sum := icmpChecksum addr dst ([byte 136, byte 0, byte 0, byte 0] ++ tail)
  let msg := [byte 136, byte 0] ++ beOctets 2 sum ++ tail
  beOctets 4 0x60000000 ++ beOctets 2 msg.length ++ [byte 58, byte 255] ++ addr ++ dst ++ msg

/-- IPv6 addresses of the pair: its mesh address and its link-local address. -/
def pairAddresses (s : State) : List Octets := [ownAddress s, octetsOf [0xFE, 0x80] ++ zeros 6 ++ iidOf (meshEui s)]

/-- Send the advertisements of R300 on the Ethernet ports of PEER_PORTS. -/
def advertise (s : State) : State :=
  if !hasPartner s then s
  else
    let ports := ([0, 1].filter (fun p => bitOf (objN s 0x4230 0) p)).map (· + 9)
    ports.foldl (fun s p => (pairAddresses s).foldl (fun s a =>
      newPacket s { packetFor s true p 0 false (advertisement s p a) with
        destMac := groupMac (octetsOf [0xFF, 2] ++ zeros 13 ++ [byte 1]) }) s) s

/-- Assert the claim and become ACTIVE (R301, R302). A chip without a partner ignores TWIN_CLAIM_IN. -/
def becomeActive (s : State) (cause : Nat) : State :=
  let s := { s with
    power := { s.power with claimOut := true, txGate := !(hasPartner s && s.power.claimIn) }
    twin := { s.twin with
      claim := .claimed, backoffDue := none, claimAsn := none, roleAt := s.now, swapSince := none, swapAsn := none
      swapReady := false, ready := false, kept := [], sendFrom := s.twin.nextJseq, fillAt := none, slotRecords := 0
      outcomes := [], lagging := false, fromS0 := false, snapshot := none } }
  let s := if s.power.dev = .active then s else changeState s .active cause
  let s := if hasPartner s && s.twin.absent then setCause s 6 true else s
  advertise (allBandSectors.foldl rebuildListen s)

/-- Begin a contention: the backoff delay of R302; none while an interlock fault lasts on the chip that is not preferred. -/
def startContend (s : State) : State :=
  if s.twin.interlock && !s.power.rolePref then s
  else updTwin s (fun t => { t with
    claim := .contend, claimAsn := none, backoffDue := some (s.now + (if s.power.rolePref then 5000000 else 25000000)) })

/-- The follower stops applying records and requests a snapshot (R306, R308, R311). -/
def resync (s : State) : State :=
  let s := updTwin s (fun t => { t with
    stopped := true, ready := false, awaitFirst := false, snapWanted := true, snapshot := some (0, s.now, 0), chunks := [] })
  if portCarries s 3 then emit s .snapshotRequest else s

/-- Become FOLLOWER and request a snapshot (Table 11-5). -/
def becomeFollower (s : State) : State :=
  let s := changeState (releaseClaim s) .follower 0x15
  let s := updTwin s (fun t => { t with
    roleAt := s.now, absent := true, misses := 0, heardAt := s.now, kept := [], swapSince := none, swapAsn := none
    swapReady := false, digestDue := none, trngWords := [], afterSlotEnd := [] })
  resync (allBandSectors.foldl rebuildListen s)

/- Takeover (R309). -/

/-- Step 2: a latched frame without an outcome is charged its planned on-time, and counts as unacknowledged. -/
def chargeUnconfirmed (s : State) (bs : Nat) : State :=
  match (chainOf s bs).plan with
  | some p =>
    let s := addDwell (settleDuty s (accountOf (bandOf bs) (planSub s bs p)) 0 p.onTime) (bandOf bs) p.mode p.firstBin p.onTime
    if p.ackRequested && p.peer.isSome then unackedPlan s bs p else finishPlan s bs p
  | none => s

/-- Step 5: the wired class queues start empty (R192). -/
def emptyWired (s : State) : State :=
  (((s.queues.classQ.filter (fun p => 72 ≤ p.1 && p.1 < 120)).map (·.2)).flatten).foldl removePacket s

/-- Step 3: a packet whose forwarding result is a wired port is sent again. -/
def sendAgain (s : State) (p : Packet) : State :=
  match resolve s p with
  | (.wired port mac, _) =>
    if p.hopLimit ≤ 1 then s
    else
      let cls := packetClass s p
      enqueue s p true port cls mac (rewriteDscp s cls (withoutRpl (lowerHop p).data)) false
  | _ => s

/-- R163 is owed to every node and to NET_FC, at the first use of the counter. -/
def oweRaises (s : State) : State := updTwin s (fun t => { t with raiseDue := s.link.nodes.map (·.1) ++ [0xFFFFFFFF] })

/-- A ready follower takes the role over (R309). -/
def takeover (s : State) (cause : Nat) : State :=
  let missing := refAsn s - 1 - s.twin.completedAsn
  let after := s.twin.applied - s.twin.slotEndJseq
  let again := s.twin.afterSlotEnd
  let s := oweRaises (emptyWired (allBandSectors.foldl chargeUnconfirmed s))
  let s := updTwin s (fun t => { t with
    nextJseq := t.applied + 1, received := t.applied, absent := t.absent || cause != 0x18, afterSlotEnd := [] })
  let s := { s with link := { s.link with acksDue := [] } }
  let s := becomeActive s cause
  let s := again.foldl sendAgain s
  record (setCause s 6 true) 0x7002 (refAsn s % 2 ^ 32) missing after

/-- A follower that is not ready becomes ACTIVE with the state it holds (R302). -/
def takeoverUnready (s : State) : State :=
  let s := becomeActive (oweRaises s) 0x14
  record (setCause s 6 true) 0x7003 (refAsn s % 2 ^ 32) 0 0

/- The claim rows (Table 11-5). -/

/-- R302: the backoff delay expires. -/
def execClaimBackoffExpire (s : State) : Host.Outcome State Fault Refusal :=
  let due : Bool := match s.twin.backoffDue with
    | some t => decide (t ≤ s.now)
    | none => false
  if s.twin.claim = .contend ∧ due ∧ lsfRuns s.power.dev then
    if s.power.claimIn then done (becomeFollower s)
    else if s.power.dev = .follower then done (takeoverUnready s)
    else done (becomeActive s 0x14)
  else done s

/-- R301, R302: TWIN_CLAIM_IN asserts: the gate closes; a contending chip becomes FOLLOWER, a claimed one contends. -/
def execPartnerClaimSeen (s : State) : Host.Outcome State Fault Refusal :=
  let s := { s with power := { s.power with claimIn := true } }
  if hasPartner s ∧ lsfRuns s.power.dev then
    match s.twin.claim with
    | .contend => done (becomeFollower s)
    | .claimed => done (startContend (releaseClaim s))
    | .released => done (updTwin s (fun t => { t with claimAsn := none }))
  else done s

/-- R301, R302: the partner's claim drops: the gate follows the chip's own claim alone; a ready follower claims at the
next reference slot boundary, another contends. -/
def execPartnerClaimWithdrawn (s : State) : Host.Outcome State Fault Refusal :=
  let s := { s with power := { s.power with claimIn := false, txGate := s.power.claimOut } }
  if hasPartner s ∧ s.power.dev = .follower ∧ s.twin.claim = .released then
    let ok := ownReady s
    let s := record s 0x7001 (lagSlots s) (bitNat ok) 0
    if ok then
      let at_ := refAsn s + 1
      done (updTwin s (fun t => { t with claimAsn := some at_ }))
    else done (startContend s)
  else done s

/-- The claim falls due at a reference slot boundary (R302, R309, R310). -/
def claimAtBoundary (s : State) : State :=
  match s.twin.claimAsn with
  | some a =>
    if s.power.dev = .follower ∧ a ≤ refAsn s ∧ !s.power.claimIn then
      if s.twin.swapAsn.isSome then record (takeover s 0x18) 0x7008 0 (refAsn s % 2 ^ 32) 0 else takeover s 0x19
    else s
  | none => s

/- The interlock (R303). -/

/-- A verified frame's CLAIM against TWIN_CLAIM_IN: the third disagreement running is a fault (R303). -/
def checkInterlock (s : State) (claim : Bool) : State :=
  if claim = s.power.claimIn then
    updTwin s (fun t => { t with disagree := 0, agreeSince := if t.disagree = 0 then t.agreeSince else s.now })
  else if s.twin.disagree + 1 = 3 then
    let s := record (updTwin s (fun t => { t with disagree := 3, interlock := true })) 0x7005 (bitNat claim)
      (bitNat s.power.claimIn) 0
    if s.power.rolePref then s else releaseClaim s
  else updTwin s (fun t => { t with disagree := min 3 (t.disagree + 1) })

/-- R303: 10 s without the disagreement: the chip may contend again. -/
def execInterlockFaultClear (s : State) : Host.Outcome State Fault Refusal :=
  if s.twin.interlock ∧ s.twin.disagree = 0 ∧ s.twin.agreeSince + 10000000000 ≤ s.now then
    let s := updTwin s (fun t => { t with interlock := false })
    if lsfRuns s.power.dev ∧ s.power.dev ≠ .maintenance ∧ s.twin.claim = .released ∧
        !(s.power.dev = .follower && s.power.claimIn) then done (startContend s)
    else done s
  else done s

/- Presence, lag and journal frames out (R306, R307). -/

/-- Host answers whose receipt has come, or is no longer waited for, go out (R307). -/
def releaseAnswers (s : State) (upTo : Option Nat) : State :=
  let free := fun (x : Nat × Endpoint × Octets) => match upTo with
    | some n => decide (x.1 ≤ n)
    | none => true
  let go := s.twin.heldAnswers.filter free
  let s := updTwin s (fun t => { t with heldAnswers := t.heldAnswers.filter (fun x => !free x) })
  go.foldl (fun s x => sopOut s x.2.1 x.2.2) s

/-- A verified frame of the partner has come: it is present (R306). -/
def partnerHeard (s : State) : State :=
  let was := s.twin.absent
  let s := updTwin s (fun t => { t with absent := false, misses := 0, heardAt := s.now })
  if was && s.power.dev = .active then
    record (updTwin s (fun t => { t with kept := [], sendFrom := t.nextJseq, received := t.nextJseq - 1, applied := t.nextJseq - 1 }))
      0x7004 1 0 0
  else s

/-- 32 MiB of unapplied records mark the follower as lagging (R306). -/
def checkLag (s : State) : State :=
  let size := recordsSize (s.twin.kept.filter (fun r => s.twin.applied < r.jseq))
  if s.power.dev = .active && !s.twin.lagging && 33554432 < size then
    let s0 := refAsn s + 1
    let s := updTwin s (fun t => { t with
      lagging := true, fromS0 := false, kept := [], sendFrom := t.nextJseq, ready := false, snapshot := some (s0, s.now, 0) })
    releaseAnswers (record (setCause s 6 true) 0x7009 (lagSlots s) (size / 1048576) 0) none
  else s

/-- R306: a millisecond without a verified frame of the partner; the third makes it absent. -/
def execPartnerMiss (s : State) : Host.Outcome State Fault Refusal :=
  if hasPartner s ∧ !s.twin.absent ∧ (s.power.dev = .active ∨ s.power.dev = .follower) ∧
      s.twin.heardAt + 1000000 * (s.twin.misses + 1) ≤ s.now then
    if s.twin.misses + 1 < 3 then done (updTwin (checkLag s) (fun t => { t with misses := t.misses + 1 }))
    else
      let s := updTwin s (fun t => { t with absent := true, misses := 0, ready := false })
      if s.power.dev = .active then
        let s := updTwin s (fun t => { t with kept := [], sendFrom := t.nextJseq, lagging := false, fromS0 := false, snapshot := none })
        done (releaseAnswers (record (setCause s 6 true) 0x7004 0 0 0) none)
      else done (updTwin s (fun t => { t with stopped := true }))
  else done s

/-- The chip's JACK (Table 11-8). -/
def ownJack (s : State) : Jack :=
  { received := s.twin.received, applied := s.twin.applied, completedAsn := s.twin.completedAsn
    claim := s.power.claimOut, ready := ownReady s, swapReady := s.twin.swapReady, keySlot := s.twin.keySlot
    keyCounter := s.twin.keyCounter, loopback := s.twin.loopback.toNat }

/-- The follower returns a JACK (R306). -/
def sendJack (s : State) : State :=
  if portCarries s 3 && (setKey s).isSome then
    updTwin (useSender (emit (countS (reserveSender s) 3 0) (.jack (ownJack s)))) (fun t => { t with sentAt := s.now })
  else s

/-- The active chip sends its next JOURNAL frame; an empty one to a lagging follower before s0 (R306). -/
def sendJournal (s : State) : State :=
  if portCarries s 3 && (setKey s).isSome then
    let wait := s.twin.kept.filter (fun r => s.twin.sendFrom ≤ r.jseq)
    let l := if s.twin.lagging && !s.twin.fromS0 then [] else frameful 8184 wait
    let next := (l.getLast?.map (fun r => r.jseq + 1)).getD s.twin.sendFrom
    let more := l.length < wait.length
    let s := useSender (emit (countS (reserveSender s) 3 0) (.journal s.power.claimOut l))
    updTwin s (fun t => { t with sendFrom := next, fillAt := if more then some s.now else none, sentAt := s.now })
  else s

/-- A JOURNAL frame is due: full, 20 us after its first record, or a millisecond after the last (R306). -/
def journalDue (s : State) : Bool :=
  let wait := s.twin.kept.filter (fun r => s.twin.sendFrom ≤ r.jseq)
  let old : Bool := match s.twin.fillAt with
    | some t => decide (t + 20000 ≤ s.now)
    | none => false
  old || 8184 ≤ recordsSize wait || s.twin.sentAt + 1000000 ≤ s.now

/-- R306: the active chip sends a JOURNAL frame when it is due; a follower its JACK at least once per millisecond. -/
def execJournalFrameSend (s : State) : Host.Outcome State Fault Refusal :=
  if hasPartner s then
    match s.power.dev with
    | .active => done (if journalDue s then checkLag (sendJournal s) else s)
    | .follower => done (if s.twin.sentAt + 1000000 ≤ s.now then sendJack s else s)
    | _ => done s
  else done s

/-- A gap: the JACK repeats RECEIVED_JSEQ although records after it have been sent; the journal goes back to it and
word 8 counts it (R306). -/
def resendGap (s : State) (j : Jack) : State :=
  if j.received = s.twin.received && j.received + 1 < s.twin.sendFrom && s.twin.kept.any (fun r => r.jseq = j.received + 1) then
    countS (updTwin s (fun t => { t with sendFrom := j.received + 1, fillAt := some s.now })) 3 8
  else s

/-- What a JACK reports (R306, R270). -/
def noteJack (s : State) (j : Jack) : State :=
  let s := updTwin s (fun t => { t with
    received := max t.received j.received, applied := max t.applied j.applied, completedAsn := j.completedAsn
    ready := j.ready && (!t.lagging || t.fromS0), swapReady := j.swapReady, partnerLoopback := j.loopback
    kept := t.kept.filter (fun r => j.applied < r.jseq) })
  let s := releaseAnswers s (some s.twin.received)
  let s := if j.keySlot = 0 then s else partnerAccepted s j.keySlot j.keyCounter
  if s.twin.ready then setCause (updTwin s (fun t => { t with lagging := false, fromS0 := false })) 6 false else s

/-- R306: a JACK releases applied records, triggers a resend on a gap and frees what waited for receipts. -/
def execJackRx (jack : Jack) (s : State) : Host.Outcome State Fault Refusal :=
  if hasPartner s ∧ portCarries s 3 ∧ (s.power.dev = .active ∨ s.power.dev = .follower) then
    let s := checkInterlock (partnerHeard s) jack.claim
    if s.power.dev = .active ∧ !s.twin.mismatch then done (checkLag (noteJack (resendGap s jack) jack)) else done s
  else done s

/- The digest (R308). -/

/-- R308: a pass of TWIN_DIGEST_SF ends: the active chip journals its digest, the follower compares. -/
def execDigestPassEnd (s : State) : Host.Outcome State Fault Refusal :=
  if journals s then
    let d := nextDigest s
    let k := s.twin.pass
    done (journal (beginPass s (k + 1) d []) 0 (.digest k (d.take 16)))
  else match s.power.dev, s.twin.digestDue with
    | .follower, some (k, true) => done (updTwin s (fun t => { t with digestDue := none, agreed := true, pass := max t.pass (k + 1) }))
    | .follower, some (k, false) =>
      done (resync (record (updTwin s (fun t => { t with digestDue := none, agreed := false })) 0x7006 k 0 0))
    | _, _ => done s

/- Role swaps (R310). -/

/-- A swap may be requested: ACTIVE in a pair. -/
def swapRule (s : State) : Nat := require (s.power.dev = .active && hasPartner s) stState

/-- A swap is requested; one already sought goes on. -/
def requestSwap (s : State) : State := updTwin s (fun t => { t with swapSince := some (t.swapSince.getD s.now) })

/-- R310: the command requests a role swap. -/
def execTwinSwapNow (who : Caller) (value : Nat) (s : State) : Host.Outcome State Fault Refusal :=
  done (command s who 0x9007 0 (beOctets 1 value) swapRule requestSwap)

/-- R310: TWIN_SWAP_PERIOD after the last change of role. -/
def execTwinSwapPeriodExpiry (s : State) : Host.Outcome State Fault Refusal :=
  let period := objN s 0x9006 0
  if swapRule s = 0 ∧ 0 < period ∧ s.twin.roleAt + period * 1000000000 ≤ s.now then done (requestSwap s) else done s

/-- A cell of any band is active in a slot that meets a span of domain time (R310). -/
def cellsMeet (s : State) (t0 t1 : Nat) (b : Nat) : Bool :=
  let n := asnAt s b (t1 - 1) + 1 - asnAt s b t0
  bandEnabled s b && (List.range n).any (fun i => s.sched.cells.any (fun p =>
    p.2.valid && bandOf p.2.bandSector = b && !p.2.suspended && cellActive s p.2 (asnAt s b t0 + i)))

/-- No cell of any band, and so neither a transmission nor an acknowledgement, overlaps a reference slot (R310). -/
def quietSlot (s : State) (m : Nat) : Bool :=
  let b := refBand s
  !([0, 1, 2].any (cellsMeet s (slotStart s b m) (slotStart s b (m + 1))))

/-- At a reference slot boundary a sought swap is announced where the slot two ahead is quiet (R310). -/
def announceSwap (s : State) : State :=
  let sought : Bool := match s.twin.swapSince with
    | some t => decide (t ≤ s.now)
    | none => false
  let m := refAsn s + 2
  if s.power.dev = .active && sought && s.twin.swapAsn.isNone && partnerReady s && s.twin.agreed && quietSlot s m then
    journal (updTwin s (fun t => { t with swapAsn := some m, swapReady := false })) 0 (.swap m)
  else s

/-- The active chip steps down in a swap: it keeps its state, and the journal runs the other way (R310). -/
def stepDown (s : State) : State :=
  let s := record s 0x7008 0 (refAsn s % 2 ^ 32) 0
  let s := changeState (releaseClaim s) .follower 0x18
  updTwin s (fun t => { t with
    roleAt := s.now, swapSince := none, swapAsn := none, swapReady := false, received := t.nextJseq - 1
    applied := t.nextJseq - 1, seen := t.nextJseq - 1, completedAsn := refAsn s - 1, kept := [], stopped := false
    awaitFirst := false, agreed := true, digestDue := none, heardAt := s.now, misses := 0, afterSlotEnd := []
    slotEndJseq := t.nextJseq - 1 })

/-- R310: the quiet slot m begins: with SWAP_READY the claim is released; without it the search goes on. -/
def execSwapSlotStart (s : State) : Host.Outcome State Fault Refusal :=
  match s.twin.swapAsn with
  | some m =>
    if s.power.dev = .active ∧ m ≤ refAsn s then
      if m = refAsn s ∧ s.twin.swapReady then done (stepDown s) else done (updTwin s (fun t => { t with swapAsn := none }))
    else done s
  | none => done s

/-- R310: no quiet slot within 600 s, or no ready follower: the swap is postponed by 1 h. -/
def execSwapSearchTimeout (s : State) : Host.Outcome State Fault Refusal :=
  match s.twin.swapSince with
  | some t =>
    if s.power.dev = .active ∧ s.twin.swapAsn = none ∧ t ≤ s.now ∧ (t + 600000000000 ≤ s.now ∨ partnerReady s = false) then
      done (record (updTwin s (fun w => { w with swapSince := some (s.now + 3600000000000) })) 0x7008 1 (refAsn s % 2 ^ 32) 0)
    else done s
  | none => done s

/- The snapshot (R311, Table 11-10). -/

/-- A queued air frame as region 8 carries it (log entry 31): target, class, flags, expiry, source, length, octets. -/
def queuedOctets (p : QPacket) : Octets :=
  beOctets 4 (bitNat p.classQueue * 2 ^ 31 + p.target) ++ [byte p.cls, byte (bitNat p.ackReq), byte p.mode, byte p.ingress] ++
    beOctets 4 p.expiry ++ beOctets 4 p.source ++ beOctets 4 p.data.length ++ p.data

/-- Octets of each region of Table 11-10. Regions 1, 3, 4 and 5 have the layouts of their chapters, each entry after its
index; the others are the model's own (log entry 31). -/
def regionOctets (s : State) : List (Nat × Octets) :=
  let air := (nodeFrames s ++ airFrames s).filterMap (packetOf s)
  let pairs := s.vals.filter (fun p => pairObject (p.1 / 256))
  [(1, (s.link.nodes.map (fun p => beOctets 4 p.1 ++ nodeOctets s p.1)).flatten),
   (2, (s.queues.nodeShaper.map (fun p => beOctets 4 p.1 ++ beOctets 2 p.2)).flatten),
   (3, (s.sched.cells.map (fun p => beOctets 4 p.1 ++ cellOctets p.2)).flatten),
   (4, (s.fwd.host.map (fun p => beOctets 4 p.1 ++ entryOctets p.2)).flatten ++
       (s.fwd.stash.map (fun p => beOctets 4 (stashLoc p.1) ++ entryOctets p.2)).flatten),
   (5, beOctets 4 s.fwd.routes.length ++ (s.fwd.routes.map (fun p => beOctets 10 p.1 ++ beOctets 2 p.2)).flatten ++
       (s.fwd.nextHops.map (fun p => beOctets 4 p.1 ++ nhOctets s p.1)).flatten),
   (6, (pairs.map (fun p => cfgRecord p.1 p.2)).flatten),
   (7, (s.front.duty.map (fun p => [byte p.1] ++ beOctets 3 p.2.buckets.length ++
       (p.2.buckets.map (fun x => beOctets 8 x.1 ++ beOctets 4 x.2)).flatten)).flatten),
   (8, (air.map queuedOctets).flatten)]

/-- Chunks of a region: offset and at most 8,176 octets. -/
def chunksOf : Nat → Nat → Octets → List (Nat × Octets)
  | 0, _, _ => []
  | n + 1, off, l => if l.isEmpty then [] else (off, l.take 8176) :: chunksOf n (off + 8176) (l.drop 8176)

/-- Every chunk of the deterministic state: region, offset, octets. -/
def snapshotChunks (s : State) : List (Nat × Nat × Octets) :=
  ((regionOctets s).map (fun r => (chunksOf (r.2.length / 8176 + 1) 0 r.2).map (fun c => (r.1, c.1, c.2)))).flatten

/-- Send the chunks, the last one marked. -/
def sendChunks (s : State) : Nat → List (Nat × Nat × Octets) → State
  | _, [] => s
  | k, c :: l => sendChunks (useSender (emit (countS (reserveSender s) 3 0) (.snapshot k c.1 c.2.1 c.2.2 l.isEmpty))) (k + 1) l

/-- At s0 the deterministic state is sent, D_0 is set, and records are kept from there (R308, R311). -/
def snapshotAtBoundary (s : State) : State :=
  match s.twin.snapshot with
  | some (s0, _, _) =>
    if s.power.dev = .active && s0 ≤ refAsn s && portCarries s 3 && (setKey s).isSome then
      let l := snapshotChunks s
      let l := if l.isEmpty then [(6, 0, [])] else l
      let s := beginPass (sendChunks s 0 l) 1 (digestZero s0) []
      updTwin s (fun t => { t with
        kept := [], sendFrom := t.nextJseq, received := t.nextJseq - 1, applied := t.nextJseq - 1, snapshot := none
        fromS0 := t.lagging })
    else s
  | none => s

/-- R311: the follower's request fixes s0, the next reference slot boundary. -/
def execSnapshotRequest (s : State) : Host.Outcome State Fault Refusal :=
  if hasPartner s ∧ s.power.dev = .active ∧ !s.twin.mismatch ∧ portCarries s 3 then
    let s0 := refAsn s + 1
    done (updTwin s (fun t => { t with snapWanted := false, snapshot := some (s0, s.now, 0) }))
  else done s

/-- Entries of `w` octets after a 4-octet index. -/
def indexed (w : Nat) : Nat → Octets → List (Nat × Octets)
  | 0, _ => []
  | n + 1, l => if l.length < w + 4 then [] else (fieldOf l 0 4, sliceOf l 4 w) :: indexed w n (l.drop (w + 4))

/-- A node context as its 64 octets give it (Table 6-13). -/
def nodeFrom (s : State) (v : Octets) : Node :=
  let b := fieldOf v 8 1
  let st : NodeState := (match b / 32 with
    | 1 => .joining | 2 => .joined | 3 => .departing | _ => .free)
  { eui := v.take 8, state := st, relay := bitOf b 4, mains := bitOf b 3, fec := bitOf b 2, blCap := bitOf b 1
    cap := fieldOf v 9 1, mode := fieldOf v 10 1, txPower := fieldOf v 11 1, homeEui := sliceOf v 12 8
    rxFc := fieldOf v 20 4, txFc := fieldOf v 24 4, txFcLimit := fieldOf v 28 4, dsnTx := fieldOf v 32 1
    dsnRx := fieldOf v 33 1, backoff := fieldOf v 34 1, be := fieldOf v 35 1 / 16, heardBs := fieldOf v 35 1 % 16
    lastHeard := fieldOf v 36 5, heardAt := s.now, retries := fieldOf v 41 1 / 8, etx := fieldOf v 42 2
    rssi := toSigned 16 (fieldOf v 44 2), prevChip := fieldOf v 46 2, nextHop := fieldOf v 48 4
    joinTime := fieldOf v 52 4, challenge := if b / 32 = 1 then sliceOf v 56 8 else [], joiningAt := s.now
    capDue := false }

/-- A host-table entry as its 32 octets give it (Table 8-3). -/
def hostFrom (d : Octets) : HostEntry :=
  let b := fieldOf d 16 1
  { key := d.take 16, confirmed := bitOf b 6, noAge := bitOf b 5, hit := bitOf b 4, age := bitOf b 3, pass := bitOf b 2
    kind := b % 4, port := fieldOf d 17 1 / 16, learnBs := fieldOf d 17 1 % 16, handle := fieldOf d 18 4
    destMac := sliceOf d 22 6, learnTime := fieldOf d 28 4 }

/-- Routes of region 5. -/
def routesFrom : Nat → Octets → FMap Nat
  | 0, _ => []
  | n + 1, l => FMap.put (routesFrom n (l.drop 12)) (fieldOf l 0 10) (fieldOf l 10 2)

/-- Object values of region 6. -/
def valuesFrom : Nat → Octets → List (Nat × Octets)
  | 0, _ => []
  | n + 1, l =>
    if l.length < 6 then []
    else
      let len := fieldOf l 4 2
      (fieldOf l 0 3, sliceOf l 6 len) :: valuesFrom n (l.drop ((6 + len + 3) / 4 * 4))

/-- Duty accounts of region 7. -/
def dutyFrom : Nat → Octets → FMap DutyAccount
  | 0, _ => []
  | n + 1, l =>
    if l.length < 4 then []
    else
      let k := fieldOf l 1 3
      let b : FMap Nat := (List.range k).foldl (fun (m : FMap Nat) i =>
        FMap.put m (fieldOf l (4 + 12 * i) 8) (fieldOf l (12 + 12 * i) 4)) []
      FMap.put (dutyFrom n (l.drop (4 + 12 * k))) (fieldOf l 0 1) { buckets := b, reserved := 0 }

/-- Queue the frames of region 8. -/
def queueFrom : Nat → Octets → State → State
  | 0, _, s => s
  | n + 1, l, s =>
    if l.length < 20 then s
    else
      let len := fieldOf l 16 4
      let t := fieldOf l 0 4
      let k := s.queues.nextPacket
      let p := { packetFor s (bitOf t 31) (t % 2 ^ 31) (fieldOf l 4 1) (fieldOf l 5 1 = 1) (sliceOf l 20 len) with
        mode := fieldOf l 6 1, ingress := fieldOf l 7 1, expiry := fieldOf l 8 4, source := fieldOf l 12 4 }
      queueFrom n (l.drop (20 + len)) (linkPacket (newPacket s p) k)

/-- Octets of a region from the stored chunks, in order. -/
def regionFrom (s : State) (r : Nat) : Octets := ((s.twin.chunks.filter (fun c => c.2.1 = r)).map (fun c => c.2.2.2)).flatten

/-- Bring the stored snapshot into force (R311). -/
def loadSnapshot (s : State) : State :=
  let put := fun {α : Type} (f : Octets → α) (m : FMap α) (x : Nat × Octets) => FMap.put m x.1 (f x.2)
  let r := regionFrom s
  let nodes := (indexed 64 ((r 1).length + 1) (r 1)).foldl (put (nodeFrom s)) []
  let shapers := (indexed 2 ((r 2).length + 1) (r 2)).foldl (put beNat) []
  let cells := (indexed 16 ((r 3).length + 1) (r 3)).foldl (put cellOf) []
  let entries := indexed 32 ((r 4).length + 1) (r 4)
  let host := (entries.filter (fun x => x.1 < 2 ^ 31)).foldl (put hostFrom) []
  let stash := (entries.filter (fun x => 2 ^ 31 ≤ x.1)).foldl (fun m x => FMap.put m (x.1 - 2 ^ 31) (hostFrom x.2)) []
  let n := fieldOf (r 5) 0 4
  let hops := indexed 16 ((r 5).length + 1) ((r 5).drop (4 + 12 * n))
  let hop := fun (v : Octets) => ({ valid := bitOf (fieldOf v 0 1) 7, port := fieldOf v 0 1 % 16, destMac := sliceOf v 2 6
                                    chipIndex := fieldOf v 8 2 } : NextHop)
  let s := { s with
    link := { s.link with nodes := nodes, acksDue := [], fcPending := [] }
    sched := { s.sched with cells := cells }
    fwd := { s.fwd with
      host := host, stash := stash, pendingHits := [], steps := [], transit := none, learnQ := []
      routes := routesFrom n ((r 5).drop 4), nextHops := hops.foldl (put hop) [] }
    front := { s.front with duty := dutyFrom ((r 7).length + 1) (r 7), dutyRestored := true }
    queues := { s.queues with packets := [], nodeQ := [], classQ := [], active := [], nodeShaper := shapers } }
  let s := { s with vals := s.vals.keep (fun k _ => !pairObject (k / 256)) }
  let s := (valuesFrom ((r 6).length + 1) (r 6)).foldl (fun s x => { s with vals := FMap.put s.vals x.1 x.2 }) s
  queueFrom ((r 8).length + 1) (r 8) s

/-- The snapshot is complete: the follower applies records again (R311), and its application starts anew (R365). -/
def snapshotDone (s : State) : State :=
  let size := sumOf (s.twin.chunks.map (fun c => c.2.2.2.length))
  let began := (s.twin.snapshot.map (fun x => x.2.1)).getD s.now
  let s := loadSnapshot s
  let s := updTwin s (fun t => { t with
    stopped := false, agreed := true, awaitFirst := true, snapWanted := false, snapshot := none, chunks := [], digestDue := none
    trngWords := [], afterSlotEnd := [] })
  startApplication (record s 0x7007 (size / 1048576) ((s.now - began) / 1000000) 0) 3

/-- R311: the follower stores a snapshot chunk; with the last, and none missing, the state comes into force. -/
def execSnapshotFrameRx (chunkNo region offset : Nat) (data : Octets) (last : Bool) (s : State) :
    Host.Outcome State Fault Refusal :=
  if hasPartner s ∧ s.power.dev = .follower ∧ !s.twin.mismatch ∧ s.twin.snapWanted ∧ portCarries s 3 then
    let s := updTwin (partnerHeard s) (fun t => { t with chunks := FMap.put t.chunks chunkNo (region, offset, data) })
    done (if last && s.twin.chunks.length = chunkNo + 1 then snapshotDone s else s)
  else done s

/-- R311: the command forces a follower snapshot. -/
def execTwinResync (who : Caller) (value : Nat) (s : State) : Host.Outcome State Fault Refusal :=
  done (command s who 0x9009 0 (beOctets 1 value) (fun s => require (s.power.dev = .follower) stState) resync)

/-- A follower that lags by more than two slots records it and resynchronises (R307). -/
def lagAtBoundary (s : State) : State :=
  if shadows s && !s.twin.awaitFirst && s.twin.claimAsn.isNone && 2 < lagSlots s then
    resync (record s 0x7009 (lagSlots s) 0 0)
  else s

/- Sequencer restarts (R313). -/

/-- Request a restart with its cause: 1 command, 2 watchdog. -/
def requestRestart (s : State) (bs cause : Nat) : State :=
  if s.twin.restarts.has bs then s
  else setCause (updTwin s (fun t => { t with restarts := FMap.put t.restarts bs { cause := cause } })) 7 true

/-- R313: the command requests a sequencer restart. -/
def execSeqRestart (who : Caller) (bandSector : Nat) (s : State) : Host.Outcome State Fault Refusal :=
  done (command s who 0x9013 0 (beOctets 1 bandSector) (fun _ => require (1 ≤ bandSector && bandSector ≤ 9) stRange)
    (fun s => requestRestart s bandSector 1))

/-- R313: a sequencer's watchdog expires: the first restarts it, a second within 60 s is fatal-to-role. -/
def execSequencerWatchdogExpiry (bandSector : Nat) (s : State) : Host.Outcome State Fault Refusal :=
  if allBandSectors.contains bandSector ∧ lsfRuns s.power.dev ∧ !debugHalts s bandSector then
    let again : Bool := match FMap.find s.twin.watchdogAt bandSector with
      | some t => decide (s.now < t + 60000000000)
      | none => false
    if again then done (fatalToRole s)
    else done (requestRestart (updTwin s (fun t => { t with watchdogAt := FMap.put t.watchdogAt bandSector s.now })) bandSector 2)
  else done s

/-- Skip the cells of a slot of a halted sequencer: word 5, and outcome 8 for its transmit cells (R313). -/
def skipHalted (bs : Nat) (s : State) (asn : Nat) : State :=
  let cells := s.sched.cells.filter (fun p => p.2.valid && p.2.bandSector = bs && !p.2.suspended && cellActive s p.2 asn)
  let s := cells.foldl (fun (s : State) (p : Nat × Cell) => if p.2.tx then addOutcome s p.1 bs 8 0 else s) s
  let s := countBy s 0x4150 bs 5 cells.length
  { s with sched := { s.sched with look := s.sched.look.filter (fun e => !(e.bandSector = bs && e.asn = asn)) } }

/-- R313: at the boundary the sequencer is halted, reloaded and restored; the cells of two slots are skipped. -/
def execSequencerRestartBoundary (bandSector : Nat) (s : State) : Host.Outcome State Fault Refusal :=
  match FMap.find s.twin.restarts bandSector with
  | some r =>
    if r.halted then done s
    else
      let a := asnNow s (bandOf bandSector)
      let s := cutChain s bandSector
      let s := [a, a + 1].foldl (skipHalted bandSector) s
      let s := updTwin s (fun t => { t with
        restarts := FMap.put t.restarts bandSector { r with halted := true, resumeAsn := a + 2 } })
      done (record s 0x3030 bandSector r.cause 2)
  | none => done s

/-- R313: two slots later the sequencer resumes. -/
def execSequencerResume (bandSector : Nat) (s : State) : Host.Outcome State Fault Refusal :=
  match FMap.find s.twin.restarts bandSector with
  | some r =>
    if r.halted ∧ r.resumeAsn ≤ asnNow s (bandOf bandSector) then
      let s := updTwin s (fun t => { t with restarts := FMap.del t.restarts bandSector })
      done (if s.twin.restarts.isEmpty then setCause s 7 false else s)
    else done s
  | none => done s

/- The scrub and the RF loopback (R312, R314). -/

/-- An uncorrectable error the scrub found: event 0x0040 (R314). -/
def scrubRecord (s : State) (e : Nat × Nat × Option Nat) : State := record s 0x0040 (e.1 % 2 ^ 32) e.2.1 0

/-- In the packet pool its frame is poisoned, elsewhere it is fatal-to-role (R314). -/
def scrubAct (s : State) (e : Nat × Nat × Option Nat) : State := match e.2.2 with
  | some k => poisonPacket s k
  | none => fatalToRole s 3 false

/-- R314: a scrub pass, DRAM_SCRUB_PERIOD after the last: corrected errors are counted, others act by where they lie. -/
def execDramScrubPass (corrected : Nat) (errors : List (Nat × Nat × Option Nat)) (s : State) :
    Host.Outcome State Fault Refusal :=
  if lsfRuns s.power.dev ∧ s.twin.scrubAt + objN s 0x9014 0 * 1000000000 ≤ s.now then
    let s := { s with
      power := { s.power with corrected := FMap.put s.power.corrected 13 (FMap.getD s.power.corrected 13 0 + corrected) }
      twin := { s.twin with scrubAt := s.now } }
    done (errors.foldl scrubAct (errors.foldl scrubRecord s))
  else done s

/-- Bit of a transmit chain in LOOPBACK: L, M0 to M3, H0 to H3 (Table 11-8). -/
def chainBit (bs : Nat) : Nat := if bs = 9 then 0 else bs

/-- The pair case of Table 11-11: the partner is a ready follower whose same chain passes. -/
def pairCase (s : State) (bs : Nat) : Bool := s.power.dev = .active && partnerReady s && s.twin.partnerLoopback.testBit (chainBit bs)

/-- Two loopback failures running: fatal-to-role in the pair case, else a mask suspension (R75, R312). -/
def loopbackFailed (s : State) (bs : Nat) : State :=
  let n := FMap.getD s.twin.loopFails bs 0 + 1
  let s := updTwin s (fun t => { t with
    loopFails := FMap.put t.loopFails bs n, loopback := BitVec.ofNat 9 (withoutBit t.loopback.toNat (chainBit bs)) })
  if n < 2 then s
  else if pairCase s bs then fatalToRole s
  else maskSuspend (updTwin s (fun t => { t with loopFails := FMap.del t.loopFails bs })) bs (maskSet s (bandOf bs))

/-- R312: the hourly loopback of a transmit chain. -/
def execRfLoopbackTest (bandSector : Nat) (pass : Bool) (s : State) : Host.Outcome State Fault Refusal :=
  let due : Bool := match FMap.find s.twin.loopAt bandSector with
    | some t => decide (t + 3600000000000 ≤ s.now)
    | none => true
  if allBandSectors.contains bandSector ∧ (s.power.dev = .active ∨ s.power.dev = .follower) ∧ due then
    let s := updTwin s (fun t => { t with loopAt := FMap.put t.loopAt bandSector s.now })
    if pass then done (updTwin s (fun t => { t with
      loopFails := FMap.del t.loopFails bandSector, loopback := BitVec.ofNat 9 (withBit t.loopback.toNat (chainBit bandSector)) }))
    else done (loopbackFailed s bandSector)
  else done s

end Sys2Proof.Machine
end

