-- ==== Sys2Proof/Machine/Boundary.lean ====
section
/-! DEFINITION. The slot boundary, with what a twin pair does at a boundary of its reference band (R135, R302, R307,
R310, R311). -/

namespace Sys2Proof.Machine

/-- What the pair does at a boundary of the reference band: the snapshot of s0, the search for a quiet slot, the lag check
and the claim. -/
def pairBoundary (s : State) : State :=
  if hasPartner s then claimAtBoundary (lagAtBoundary (announceSwap (snapshotAtBoundary s))) else s

/-- The node still has a ranging cell (R408). -/
def rangingCells (s : State) (h : Nat) : Bool :=
  s.sched.cells.any (fun p => p.2.valid && p.2.kind = 3 && p.2.peer = h)

/-- Exchanges of a band whose 2K-th cell has passed end (R408). -/
def finishPassed (s : State) (b a : Nat) : State :=
  (s.measure.ranges.filter (fun p => bandOf p.2.bandSector = b && p.2.lastAsn < a && 2 * p.2.k ≤ p.2.cellsPassed)).foldl
    (fun s (p : Nat × RangeRun) => finishRange s p.1 p.2) s

/-- A sequencer halts: its band-sector goes out of service fully; event 0x0073 (Table 15-12). -/
def haltSeq (s : State) (bs : Nat) : State :=
  let s := haltHart s (bs + 3) 0xFF
  refreshService (record s 0x0073 (bs + 3) 0 s.power.dev.code) bs

/-- Sequencers of a band whose halt request waits halt at the end of the slot (Table 15-12). -/
def haltWaiting (s : State) (b : Nat) : State :=
  ((bandSectors b).filter (fun bs => s.dbg.haltPending.toNat.testBit (bs + 3))).foldl haltSeq s

/-- R135: a slot of a band begins. `idle` holds the bins' idle measurements of the slot that ended (R60).
An exchange whose node has lost its ranging cells is abandoned (R408, Table 15-3). -/
def execSlotBoundary (band : Band) (idle : List (Nat × BinMeasure)) (s : State) : Host.Outcome State Fault Refusal :=
  let b := bandCode band
  let a := asnNow s b
  if lsfRuns s.power.dev ∧ FMap.find s.sched.slotNow b ≠ some a then
    let s := finishPassed (slotBegins (haltWaiting s b) b a idle) b a
    let s := abandonRanges s (fun h => !rangingCells s h)
    done (if b = refBand s then pairBoundary s else s)
  else done s

end Sys2Proof.Machine
end

