-- ==== Sys2Proof/Machine/Commit.lean ====
section
/-! DEFINITION. COMMIT and the resolution of the configuration copies (R324 to R327, R375). -/

namespace Sys2Proof.Machine

/- The persisted objects (R324, R374). -/

/-- Keys of the objects with persistence P. -/
def persistedKeys : List Nat :=
  ((objRows.filter (fun r => r.persist = .p)).map (fun r =>
    (List.range (r.hi + 1 - r.lo)).map (fun i => objKey r.index (r.lo + i)))).flatten

/-- A stored shaper configuration, which persists under its cursor (log entry 30). -/
def shaperKey (k : Nat) : Bool := 0x1510000 ≤ k && k < 0x1510200

/-- A copy of every P object (R375). -/
def persistedNow (s : State) : FMap Octets :=
  persistedKeys.map (fun k => (k, obj s (k / 256) (k % 256))) ++ s.vals.filter (fun p => shaperKey p.1)

/-- The defaults of every P object. -/
def persistedDefaults : FMap Octets := persistedKeys.map (fun k => (k, objDefault (k / 256) (k % 256)))

/-- Put one object record into the store. -/
def putRecord (s : State) (p : Nat × Octets) : State :=
  if shaperKey p.1 then { s with vals := FMap.putD s.vals p.1 p.2 (zeros 20) } else setObj s (p.1 / 256) (p.1 % 256) p.2

/- Writing the copies (R325). -/

/-- Highest GENERATION found in the copies. -/
def highestGeneration (s : State) : Nat := ([1, 2, 3].map (fun k => (cfgCopy s k).generation)).foldl max 0

/-- The locked section resolves (R326). -/
def lockResolved (s : State) : Bool := s.image.lockedOutcome ≤ 2

/-- A copy with the locked section in force, or its own while that is unresolved (R327). -/
def withLocked (s : State) (c : CfgCopy) : CfgCopy :=
  if lockResolved s then
    let c := { c with regionCounter := objN s 0x2303 0, profile := regionProfile s, locked := objB s 0x2304 0 }
    { c with lockCmac := lockCmacOf c }
  else c

/-- Copy `k` as a COMMIT or CONFIG_SELECT writes it. -/
def newCopy (s : State) (j : CommitJob) (k : Nat) : CfgCopy :=
  sealCopy (withLocked s { cfgCopy s k with generation := j.generation, records := j.records })

/-- Write copies. -/
def writeCopies (s : State) (j : CommitJob) (ks : List Nat) : State :=
  { s with image := { s.image with copies := ks.foldl (fun m k => FMap.put m k (newCopy s j k)) s.image.copies } }

/-- Begin the writing of the three copies. -/
def beginCommit (s : State) (records : FMap Octets) (select : Bool) : State :=
  { s with image := { s.image with commit := some {
      records := records, generation := (highestGeneration s + 1) % 2 ^ 32, select := select, startedAt := s.now } } }

/-- A start that cut a COMMIT short: how many copies it had written is open, the one it was writing does not verify. -/
def settleCommit (s : State) : State :=
  match s.image.commit with
  | some j =>
    let n := freeNow s % 4
    let s := writeCopies (drewFree s) j ([1, 2, 3].take n)
    let s := { s with image := { s.image with
      commit := none, copies := s.image.copies.update (n + 1) (fun c => { c with cmac := [], lockCmac := [] }) } }
    s
  | none => s

/-- Status of a COMMIT: an Operator or higher session, no COMMIT running (R375). -/
def commitStatus (s : State) (who : Caller) : Nat :=
  match callerRights s who with
  | none => stSession
  | some r => firstOf [require (servesSop s) stState, require (1 ≤ r) stRights, require s.image.commit.isNone stBusy]

/-- An accepted COMMIT: the caller's SEQ waits for the response. -/
def commitApply (s : State) (who : Caller) (seq : Nat) : State :=
  let s := beginCommit s (persistedNow s) false
  setViews s who { viewsOf s who with commit := some seq, status := 0 }

/-- One COMMIT request; `value` is its SEQ. A refusal is answered at once. -/
def commitRequest (s : State) (who : Caller) (seq : Nat) : State :=
  match commitStatus s who with
  | 0 => commitApply s who seq
  | e => respond (setStatus s who e) who 8 seq e 0xFF []

/-- R375: COMMIT takes a copy of every P object and begins to write the copies. -/
def execCommit (who : Caller) (value : Nat) (s : State) : Host.Outcome State Fault Refusal := done (commitRequest s who value)

/- The resolution (R326). -/

/-- The vote of Table 12-6 among the valid copies, given by generation and content. -/
def vote {α : Type} [DecidableEq α] (l : List (Nat × α)) : Nat × Option α :=
  let top := (l.filter (fun x => x.1 = (l.map (·.1)).foldl max 0)).map (·.2)
  match top with
  | [] => (4, none)
  | x :: r =>
    if r.all (· = x) then (if top.length = 3 then 0 else 1, some x)
    else match top.find? (fun y => decide (2 ≤ top.count y)) with
      | some y => (2, some y)
      | none => (3, none)

/-- The resolution of the records. -/
def recordsVote (s : State) : Nat × Option (FMap Octets) :=
  vote ((([1, 2, 3].map (cfgCopy s)).filter cfgValid).map (fun c => (c.generation, c.records)))

/-- The resolution of the locked section. -/
def lockedVote (s : State) : Nat × Option (Octets × Bool) :=
  vote ((([1, 2, 3].map (cfgCopy s)).filter lockValid).map (fun c => (c.regionCounter, c.profile, c.locked)))

/-- Highest REGION_COUNTER among the copies whose LOCK_CMAC verifies, 0 if none does. -/
def highestCounter (s : State) : Nat :=
  ((([1, 2, 3].map (cfgCopy s)).filter lockValid).map (·.regionCounter)).foldl max 0

/-- The locked objects as the resolution leaves them. -/
def putLocked (s : State) (v : Option (Octets × Bool)) : State :=
  match v with
  | some (p, l) => setObjN (setObjN (setObj s 0x2300 0 p) 0x2304 0 1 (bitNat l)) 0x2303 0 4 (highestCounter s)
  | none =>
    if lockUnresolved s then setObjN (setObjN (setObj s 0x2300 0 (zeros 556)) 0x2304 0 1 1) 0x2303 0 4 (highestCounter s)
    else s

/-- The configuration is unresolved: outcome 3, or 4 in FIELD (Table 12-6). -/
def configUnresolved (s : State) : Bool :=
  s.image.outcome = 3 || (s.image.outcome = 4 && s.power.lifecycle = .field)

/-- Copies that verify, bit 0 copy A. -/
def validMask (s : State) : Nat := sumOf ([1, 2, 3].map (fun k => if cfgValid (cfgCopy s k) then 2 ^ (k - 1) else 0))

/-- Resolve the copies: every object takes the resolved value or its default (R326, R374). -/
def resolveConfig (s : State) : State :=
  let rv := recordsVote s
  let lv := lockedVote s
  let s := { s with vals := [], image := { s.image with outcome := rv.1, lockedOutcome := lv.1 } }
  let s := (rv.2.getD []).foldl putRecord s
  let s := putLocked s lv.2
  if configUnresolved s || lockUnresolved s then record s 0x8011 (validMask s) (highestGeneration s) lv.1 else s

/-- Highest generation among the copies that verify. -/
def validGeneration (s : State) : Nat := ((([1, 2, 3].map (cfgCopy s)).filter cfgValid).map (·.generation)).foldl max 0

/-- Copies that differ from what was resolved, among those a rewrite concerns (R327). -/
def losers (s : State) : List Nat :=
  let rv := recordsVote s
  let lv := lockedVote s
  let recordsLose := fun (c : CfgCopy) =>
    (rv.1 = 1 || rv.1 = 2) && !(cfgValid c && c.generation = validGeneration s && rv.2 = some c.records)
  let lockLoses := fun (c : CfgCopy) =>
    (lv.1 = 1 || lv.1 = 2) && !(lockValid c && c.regionCounter = highestCounter s && lv.2 = some (c.profile, c.locked))
  [1, 2, 3].filter (fun k => recordsLose (cfgCopy s k) || lockLoses (cfgCopy s k))

/-- The rewritten copy: the winning records where those resolve, and the locked section in force. -/
def repairedCopy (s : State) (k : Nat) : CfgCopy :=
  let c := withLocked s (cfgCopy s k)
  match recordsVote s with
  | (o, some r) => if o ≤ 2 then sealCopy { c with generation := validGeneration s, records := r } else c
  | (_, none) => if cfgValid (cfgCopy s k) then sealCopy c else c

/-- Rewrite the losing copies at the end of LOAD; DEGRADED bit 8 holds until they are read back; event 0x8012 (R327). -/
def repairCopies (s : State) : State :=
  let l := losers s
  if l.isEmpty then s
  else
    let s := setCause s 8 true
    let fixed := l.map (fun k => (k, repairedCopy s k))
    let s := { s with image := { s.image with copies := fixed.foldl (fun m p => FMap.put m p.1 p.2) s.image.copies } }
    let s := record s 0x8012 (sumOf (l.map (fun k => 2 ^ (k - 1)))) (validGeneration s) 0
    setCause s 8 false

end Sys2Proof.Machine
end

