-- ==== Sys2Proof/Machine/Device.lean ====
section
/-! DEFINITION. STATE_CMD, retirement, the junction protection and the operating profiles (R22, R25 to R30, R400). -/

namespace Sys2Proof.Machine

/- Device state commands (Table 1-11). -/

/-- ACTIVE to MAINTENANCE with a cause: the claim is released and the radios fall silent; no receipt is awaited any more. -/
def goMaintenance (s : State) (cause : Nat) : State :=
  releaseAnswers (changeState (releaseClaim s) .maintenance cause) none

/-- R22: STATE_CMD 1. -/
def execEnterMaintenance (who : Caller) (s : State) : Host.Outcome State Fault Refusal :=
  done (command s who 0x1014 0 [byte 1] (fun s => require (s.power.dev = .active) stState) (fun s => goMaintenance s 0x17))

/-- The resume condition of Table 1-11. -/
def resumeRule (s : State) : Nat :=
  require (s.power.dev = .maintenance && s.power.lifecycle = .field && !configUnresolved s && !partitionEmpty s) stState

/-- SLOT_TEMPLATE as it stands comes into effect (R123). -/
def takeTemplates (s : State) : State :=
  { s with sched := { s.sched with templates := [0, 1, 2].map (fun b =>
      (b, (List.range 9).map (fun i => objField s 0x4003 (b + 1) (4 * i) 4))) } }

/-- At a resume a chip in LOCKED steps by the offset its active source shows (R122). -/
def stepAtResume (s : State) : State :=
  match s.time.mode, s.time.active with
  | .locked, some i => stepTime s (timeEntry s i).offset
  | _, _ => s

/-- The claim logic: a chip with a declared partner contends, another becomes ACTIVE (R22, R302). -/
def runClaim (s : State) (cause : Nat) : State := if hasPartner s then startContend s else becomeActive s cause

/-- Resume (R22): templates and time, then the claim logic. -/
def resumeApply (s : State) : State := runClaim (stepAtResume (takeTemplates s)) 0x16

/-- R22: STATE_CMD 2. -/
def execResume (who : Caller) (s : State) : Host.Outcome State Fault Refusal :=
  done (command s who 0x1014 0 [byte 2] resumeRule resumeApply)

/-- The retirement zeroize: every remaining position of the provisioning fuse counter is blown (R25). -/
def retireNow (s : State) : State :=
  let s := changeState s .zeroized 0x1C
  let s := { s with
    power := { s.power with lifecycle := .retired, retireArmed := none }
    keys := { s.keys with provGen := 32 } }
  zeroizeRows s 3

/-- A first retire command arms, a second within 10 s retires (Table 1-13). -/
def retireApply (s : State) : State :=
  let armed : Bool := match s.power.retireArmed with
    | some t => decide (s.now ≤ t + 10000000000)
    | none => false
  if armed then retireNow s else { s with power := { s.power with retireArmed := some s.now } }

/-- R25: STATE_CMD 3, confirmed twice within 10 s. -/
def execRetire (who : Caller) (s : State) : Host.Outcome State Fault Refusal :=
  done (command s who 0x1014 0 [byte 3] (fun _ => 0) retireApply)

/- Profiles (R26 to R29). -/

/-- Only Economy is admitted: thermal class 2 or supply class 1 (R28, R400). -/
def economyOnly (s : State) : Bool := objN s 0xC110 0 = 2 || objN s 0xC111 0 = 1

/-- The chip profile selected (R27, R28, R30). -/
def chipSelected (s : State) : Nat := if s.power.thermForced || economyOnly s then 3 else objN s 0xC100 0

/-- The profile selected for a sector number: its override, or the chip's (R27). -/
def sectorSelected (s : State) (n : Nat) : Nat :=
  if s.power.thermForced || economyOnly s || objN s 0xC101 (n + 1) = 0xFF then chipSelected s else objN s 0xC101 (n + 1)

/-- The first slot boundary of the reference band at least two of its slots from now (R29). -/
def profileSlot (s : State) : Nat :=
  let l := slotNs s (refBand s)
  (domainTime s + 2 * l - objN s 0x4001 0 + l - 1) / l

/-- A profile change is due under the timing of R29. -/
def dueProfile (s : State) : State := { s with power := { s.power with profileDue := some (profileSlot s) } }

/-- RX_ENABLE of an H sector as its profile sets it: Economy sets it, another profile gives it back (Table 1-14). -/
def setSectorRx (s : State) (n old new : Nat) : State :=
  if new = 3 then setObjN s 0x2100 (n + 5) 1 (bitNat (objN s 0xC103 0 != 0 && n % 2 = 0))
  else if old = 3 then setObjN s 0x2100 (n + 5) 1 1
  else s

/-- Event 0x0030 once for each pair of old and new profile, with the mask of its sectors. -/
def profileEvents (s : State) (old new : List Nat) : State :=
  let pairs := old.zip new
  (List.range 16).foldl (fun s k =>
    let mask := ([0, 1, 2, 3].filter (fun n => listGet pairs n (0, 0) = (k / 4, k % 4))).foldl withBit 0
    if k / 4 = k % 4 ∨ mask = 0 then s else record s 0x0030 mask (k / 4) (k % 4)) s

/-- The selected profiles come into force (R26 to R29). -/
def putProfiles (s : State) : State :=
  let old := s.power.effective
  let new := [0, 1, 2, 3].map (sectorSelected s)
  let s := { s with power := { s.power with chipProfile := chipSelected s, effective := new, profileDue := none } }
  let s := [0, 1, 2, 3].foldl (fun s n => setSectorRx s n (listGet old n 0) (listGet new n 0)) s
  let s := allBandSectors.foldl rebuildListen s
  allBandSectors.foldl refreshService s

/-- R29: a profile change takes effect at its boundary of the reference band. -/
def execProfileChangeEffective (s : State) : Host.Outcome State Fault Refusal :=
  match s.power.profileDue with
  | some a =>
    if lsfRuns s.power.dev ∧ a ≤ refAsn s then
      let old := s.power.effective
      let chip := s.power.chipProfile
      let s := putProfiles s
      let s := if old = s.power.effective ∧ chip ≠ s.power.chipProfile then record s 0x0030 0 chip s.power.chipProfile
        else profileEvents s old s.power.effective
      let s := if s.power.thermForced then s else setCause s 1 false
      done (raiseAll s 5)
    else done s
  | none => done s

/- Junction protection (R30, Table 1-15). -/

/-- Some effective profile is not Economy. -/
def notEconomy (s : State) : Bool := s.power.chipProfile != 3 || s.power.effective.any (fun p => p != 3)

/-- A thermal action of Table 1-15 is recorded. -/
def thermalEvent (s : State) (row : Nat) : State := record s 0x0031 row (argOf s.power.junction) 0

/-- Row 1: Economy is forced. -/
def thermalRow1 (s : State) : State :=
  if lsfRuns s.power.dev && decide (1350 ≤ s.power.junction) && !s.power.thermForced && notEconomy s then
    let s := { s with power := { s.power with thermForced := true, coolSince := none } }
    thermalEvent (setCause (dueProfile s) 1 true) 1
  else s

/-- The 60 s of row 2 run while the junction stays at or below 120 degree C after a forced change. -/
def thermalCool (s : State) : State :=
  let since := if s.power.thermForced && decide (s.power.junction ≤ 1200) then some (s.power.coolSince.getD s.now) else none
  { s with power := { s.power with coolSince := since } }

/-- Row 3: all PAs off; fatal-to-role on an active twin. -/
def thermalRow3 (s : State) : State :=
  if decide (1450 ≤ s.power.junction) && !s.power.pasHeld then
    let s := thermalEvent (silence { s with power := { s.power with pasHeld := true } }) 3
    if s.power.dev = .active && hasPartner s then fatalToRole s 4 else s
  else s

/-- Row 4: internal reset held, the bypass on. -/
def thermalRow4 (s : State) : State :=
  if decide (1500 ≤ s.power.junction) && !s.power.thermReset then
    let s := if lsfRuns s.power.dev then thermalEvent s 4 else s
    let s := match s.power.dev with
      | .load | .maintenance | .active | .follower | .recovery => internalReset s 4
      | _ => s
    if s.power.dev = .boot then { s with power := { s.power with thermReset := true, bypassOn := true, rails := false } } else s
  else s

/-- Row 5, and the end of row 4: at or below 130 degree C. -/
def thermalRow5 (s : State) : State :=
  if s.power.junction ≤ 1300 then
    let held := s.power.pasHeld
    let s := { s with power := { s.power with
      thermReset := false, pasHeld := false, pasWait := if held then [0, 1, 2] else s.power.pasWait } }
    if held then thermalEvent s 5 else s
  else s

/-- R30: a junction reading, 0.1 degree C. -/
def execThermalReading (tenths : Int) (s : State) : Host.Outcome State Fault Refusal :=
  if s.power.vin then
    let s := { s with power := { s.power with junction := tenths } }
    done (thermalRow5 (thermalRow4 (thermalRow3 (thermalCool (thermalRow1 s)))))
  else done s

/-- R30: 60 s at or below 120 degree C after a forced change. -/
def execThermalRestoreTimer (s : State) : Host.Outcome State Fault Refusal :=
  match s.power.coolSince with
  | some t =>
    if s.power.thermForced ∧ t + 60000000000 ≤ s.now then
      done (thermalEvent (dueProfile { s with power := { s.power with thermForced := false, coolSince := none } }) 2)
    else done s
  | none => done s

end Sys2Proof.Machine
end

