-- ==== Sys2Proof/Machine/Debug.lean ====
section
/-! DEFINITION. The debug transport, the authentication module, the debug modules, halts and resumes (R422 to R426). The
registers of the debug modules stand at the addresses of the RISC-V debug specification 0.13.2 (log entry 60). -/

namespace Sys2Proof.Machine

/- Frames (R422, Table 15-9). -/

/-- The debug transport answers while its rails are up. -/
def debugServed (s : State) : Bool := s.power.rails

/-- OP of a host frame. -/
def frameOp (f : Nat) : Nat := bitsOf f 59 58

/-- ADDR of a host frame. -/
def frameAddr (f : Nat) : Nat := bitsOf f 54 48

/-- DATA of a host frame. -/
def frameData (f : Nat) : Nat := bitsOf f 47 16

/-- The CRC of a host frame checks. -/
def frameGood (f : Nat) : Bool := crc8 (beOctets 7 (f / 256 % 2 ^ 56)) = f % 256

/-- The chip's 48-bit response: ACK, read data, CRC. -/
def answerBits (ack data : Nat) : Nat :=
  let head := (ack % 4) * 2 ^ 38 + data % 2 ^ 32
  head * 256 + crc8 (beOctets 5 head)

/-- A response leaves: 0 OK, 2 ERROR, 3 LOCKED. -/
def debugAnswer (s : State) (ack data : Nat) : State := emit s (.debug (answerBits ack data))

/-- One transaction: no answer without SYNC, ERROR and no effect on a bad CRC, nothing where the frame is of another row,
else its effect (R422). -/
def transaction (s : State) (f : Nat) (mine : Bool) (act : State → State) : State :=
  if !debugServed s || bitsOf f 63 60 != 10 then s
  else if !frameGood f then debugAnswer s 2 0
  else if mine then act s
  else s

/-- Whether a frame is addressed to a register of the authentication module. -/
def authFrame (s : State) (addr f : Nat) : Bool := s.dbg.selected = some 15 && frameAddr f = addr

/- The authentication module (R423, R424, Table 15-10). -/

/-- Whole minutes left of an unlock, a begun one counted (log entry 62). -/
def minutesLeft (s : State) : Nat :=
  match s.dbg.expires with
  | some t => (t - s.now + 59999999999) / 60000000000
  | none => 0

/-- The challenge is valid. -/
def challengeValid (s : State) : Bool :=
  match s.dbg.challengeUntil with
  | some t => decide (s.now < t)
  | none => false

/-- AUTH_STATUS. -/
def authStatus (s : State) : Nat :=
  debugLevel s + 4 * bitNat (challengeValid s) + 8 * bitNat s.dbg.permitRefused + 16 * (s.dbg.failures % 16) +
    65536 * (minutesLeft s % 65536)

/-- A read of the authentication module: AUTH_STATUS, or a word of CHALLENGE. -/
def authRead (s : State) (addr : Nat) : State :=
  if addr = 0 then debugAnswer s 0 (authStatus s)
  else if 1 ≤ addr ∧ addr ≤ 4 then debugAnswer s 0 (fieldOf (padTo 16 s.dbg.challenge) (4 * (addr - 1)) 4)
  else debugAnswer s 2 0

/-- REQUEST: level 1 or 2, 1 to 1,440 minutes. -/
def authRequest (s : State) (v : Nat) : State :=
  let level := v % 4
  let minutes := v / 65536
  if (level = 1 ∨ level = 2) ∧ 1 ≤ minutes ∧ minutes ≤ 1440 then
    debugAnswer { s with dbg := { s.dbg with reqLevel := level, reqMinutes := minutes } } 0 0
  else debugAnswer s 2 0

/-- A write of the authentication module other than the submission and LOCK. -/
def authWrite (s : State) (addr v : Nat) : State :=
  if addr = 8 then authRequest s v
  else if 9 ≤ addr ∧ addr ≤ 11 then
    debugAnswer { s with dbg := { s.dbg with response := listSet s.dbg.response (addr - 9) v } } 0 0
  else debugAnswer s 2 0

/-- The 31 octets of R424. -/
def unlockText (s : State) : Octets :=
  octetsOf [0x64, 0x62, 0x67, 0] ++ Config.deviceEui ++ s.dbg.challenge ++ [byte s.dbg.reqLevel] ++
    beOctets 2 s.dbg.reqMinutes

/-- RESPONSE verifies against a valid challenge under the key of slot 3. -/
def unlockVerifies (s : State) : Bool :=
  match slotValue s 3 with
  | some k => challengeValid s && cmac k (unlockText s) = (s.dbg.response.map (beOctets 4)).flatten
  | none => false

/-- The level requested is permitted: DEBUG_PERMIT has no effect in FACTORY (Table 15-13). -/
def levelPermitted (s : State) : Bool :=
  s.power.lifecycle = .factory || bitOf (objN s 0xA502 0) (s.dbg.reqLevel - 1)

/-- The level opens for its minutes. -/
def openLevel (s : State) : State :=
  let s := { s with dbg := { s.dbg with
    level := s.dbg.reqLevel, expires := some (s.now + s.dbg.reqMinutes * 60000000000), failures := 0
    challengeUntil := none, permitRefused := false } }
  record s 0x0070 s.dbg.level s.dbg.reqMinutes 0

/-- A failure is counted; the eighth consecutive one is tamper source bit 7 (R424). -/
def unlockFails (s : State) : State :=
  let n := s.dbg.failures + 1
  let s := { s with dbg := { s.dbg with
    failures := min n 15, refusedUntil := s.now + 1000000000, challengeUntil := none } }
  let s := record s 0x0071 n s.dbg.reqLevel 0
  if n = 8 ∧ tamperEnabled s 7 then tamperAlarm s 128 else s

/-- The submission of RESPONSE (R424). -/
def submitResponse (s : State) : State :=
  if s.now < s.dbg.refusedUntil ∨ s.dbg.reqLevel = 0 then debugAnswer s 2 0
  else if !levelPermitted s then debugAnswer { s with dbg := { s.dbg with permitRefused := true } } 2 0
  else if unlockVerifies s then debugAnswer (openLevel s) 0 0
  else unlockFails (debugAnswer s 0 0)

/-- R424: the DEBUG_LOCK command; a hart halted then stays halted until a debug resume (R426). -/
def execDebugLock (who : Caller) (value : Nat) (s : State) : Host.Outcome State Fault Refusal :=
  done (command s who 0xA501 0 (beOctets 1 value) (fun _ => 0) (fun s => lockDebug s 3))

/- Halts and resumes (R426, Table 15-12). -/

/-- A twin partner is present. -/
def partnerThere (s : State) : Bool := hasPartner s && !s.twin.absent

/-- CC0 halts, or a sequencer at once: event 0x0073. -/
def haltRole (s : State) (hart : Nat) : State :=
  if hart = 0 then
    let s := haltHart s 0 0xFF
    record s 0x0073 0 0 s.power.dev.code
  else haltSeq s (hart - 3)

/-- A halt request of CC0 or a sequencer. -/
def requestRole (s : State) (hart : Nat) : State :=
  if s.power.dev = .active && partnerThere s then
    haltRole (goMaintenance (record s 0x0074 hart (refAsn s % 2 ^ 32) 0) 0x1A) hart
  else if s.power.dev = .follower then
    haltRole (updTwin s (fun t => { t with stopped := true, ready := false })) hart
  else if hart = 0 then haltRole s 0
  else { s with dbg := { s.dbg with haltPending := BitVec.ofNat 13 (withBit s.dbg.haltPending.toNat hart) } }

/-- A halt request of CC1 to CC3: at once where the core is idle. -/
def requestCore (s : State) (core : Nat) : State :=
  let s := { s with dbg := { s.dbg with haltPending := BitVec.ofNat 13 (withBit s.dbg.haltPending.toNat core) } }
  if (runningOn s core).isNone then refillSlots (haltAtDispatch s core) else refillSlots s

/-- A hart's halt is requested. -/
def requestHalt (s : State) (hart : Nat) : State :=
  if s.dbg.halted.toNat.testBit hart then s
  else if 1 ≤ hart ∧ hart ≤ 3 then requestCore s hart
  else requestRole s hart

/-- A hart runs on; its program trace record has KIND 4 (Table 15-8). -/
def freeHart (s : State) (hart : Nat) : State :=
  let tid := if 1 ≤ hart ∧ hart ≤ 3 then (runningOn s hart).getD 0xFF else 0xFF
  let s := { s with dbg := { s.dbg with
    halted := BitVec.ofNat 13 (withoutBit s.dbg.halted.toNat hart)
    haltPending := BitVec.ofNat 13 (withoutBit s.dbg.haltPending.toNat hart) } }
  drewFree (ptraceRec s 4 hart tid (freeNow s) (freeNow s))

/-- A debug resume: a follower resynchronises by snapshot, a sequencer is restarted under R313 (Table 15-12). -/
def resumeHart (s : State) (hart : Nat) : State :=
  if !s.dbg.halted.toNat.testBit hart then
    { s with dbg := { s.dbg with haltPending := BitVec.ofNat 13 (withoutBit s.dbg.haltPending.toNat hart) } }
  else
    let s := freeHart s hart
    if 1 ≤ hart ∧ hart ≤ 3 then settle s
    else
      let s := record s 0x0073 hart 1 s.power.dev.code
      let s := if 4 ≤ hart then requestRestart (refreshService s (hart - 3)) (hart - 3) 1 else s
      if s.power.dev = .follower && !roleHalted s then resync s else s

/- The debug modules (R422, R425; RISC-V debug specification 0.13.2). -/

/-- A register of a debug module as written. -/
def dmiReg (s : State) (m addr : Nat) : Nat := FMap.getD s.dbg.dmi (128 * m + addr) 0

/-- Keep a register of a debug module. -/
def setDmi (s : State) (m addr v : Nat) : State :=
  { s with dbg := { s.dbg with dmi := FMap.putD s.dbg.dmi (128 * m + addr) v 0 } }

/-- The hart that dmcontrol selects, 0 to 12, if the level in force reaches it (Table 15-11). -/
def hartSelected (s : State) (m : Nat) : Option Nat :=
  let n := bitsOf (dmiReg s m 0x10) 25 16
  let h := if m = 0 then n else n + 4
  if (if m = 0 then n ≤ 3 else n ≤ 8) && levelCovers (debugLevel s) h then some h else none

/-- dmstatus of the selected hart: version 2, authenticated. -/
def dmStatus (s : State) (m : Nat) : Nat :=
  2 + 0x80 + (match hartSelected s m with
    | none => 0xC000
    | some h => if s.dbg.halted.toNat.testBit h then 0x300
      else 0xC00 + (if s.dbg.haltPending.toNat.testBit h then 0 else 0x30000))

/-- A write of dmcontrol: it selects, then halts or resumes the hart selected. -/
def dmControl (s : State) (m v : Nat) : State :=
  let s := setDmi s m 0x10 (v % 2 ^ 30)
  if v % 2 = 0 then s
  else match hartSelected s m with
    | none => s
    | some h => if bitOf v 31 then requestHalt s h else if bitOf v 30 then resumeHart s h else s

/-- A system bus address lies in the application thread memory, which both levels reach (Table 15-11). -/
def busInApp (a : Nat) : Bool := inWindow a 4

/-- A system bus read of 4 octets: level 1 reaches the application thread memory alone; what level 2 reads elsewhere is
not stated (log entry 63). -/
def busRead (s : State) (a : Nat) : State :=
  if busInApp a then setDmi s 0 0x3C (beNat (appRead s a 4))
  else if debugLevel s = 2 then drewFree (setDmi s 0 0x3C (freeNow s % 2 ^ 32))
  else setDmi s 0 0x38 (dmiReg s 0 0x38 / 2 ^ 15 * 2 ^ 15 + 2 * 2 ^ 12 + dmiReg s 0 0x38 % 2 ^ 12)

/-- A system bus write of 4 octets; the effect of level 2's writes elsewhere is not stated (log entry 63). -/
def busWrite (s : State) (a v : Nat) : State :=
  if busInApp a then appWrite s a (beOctets 4 v)
  else if debugLevel s = 2 then s
  else setDmi s 0 0x38 (dmiReg s 0 0x38 / 2 ^ 15 * 2 ^ 15 + 2 * 2 ^ 12 + dmiReg s 0 0x38 % 2 ^ 12)

/-- sbcs: sberror is cleared by ones, the mode bits are kept. -/
def busControl (s : State) (v : Nat) : State :=
  let err := bitsOf (dmiReg s 0 0x38) 14 12
  let keep := err &&& (err ^^^ bitsOf v 14 12)
  setDmi s 0 0x38 (bitsOf v 20 15 * 2 ^ 15 + keep * 2 ^ 12)

/-- No bus access takes place while sberror is set. -/
def busError (s : State) : Bool := bitsOf (dmiReg s 0 0x38) 14 12 != 0

/-- The address moves on by 4 with sbautoincrement. -/
def busStep (s : State) : State :=
  if bitOf (dmiReg s 0 0x38) 16 && !busError s then setDmi s 0 0x39 ((dmiReg s 0 0x39 + 4) % 2 ^ 32) else s

/-- A read through the address register, with its step. -/
def busTake (s : State) : State := if busError s then s else busStep (busRead s (dmiReg s 0 0x39))

/-- An abstract command: a hart that is not halted sets cmderr 4; register and memory contents of an engine are not stated
(log entry 63). -/
def abstractCommand (s : State) (m : Nat) : State :=
  match hartSelected s m with
  | some h =>
    if s.dbg.halted.toNat.testBit h then drewFree (setDmi s m 4 (freeNow s % 2 ^ 32))
    else setDmi s m 0x16 (4 * 256)
  | none => setDmi s m 0x16 (4 * 256)

/-- sbcs as it reads: version 1, 32-bit addresses and accesses. -/
def busStatus (s : State) : Nat := 2 ^ 29 + 2 * 2 ^ 17 + dmiReg s 0 0x38 % 2 ^ 17 + 32 * 2 ^ 5 + 4 +
  bitsOf (dmiReg s 0 0x38) 20 20 * 2 ^ 20

/-- Registers of a debug module that simply hold what is written: data0 to data11, abstractauto, the program buffer. -/
def dmiPlain (addr : Nat) : Bool := (4 ≤ addr && addr ≤ 15) || addr = 0x18 || (0x20 ≤ addr && addr ≤ 0x2F)

/-- A read of a debug module. -/
def moduleRead (s : State) (m addr : Nat) : State :=
  if addr = 0x11 then debugAnswer s 0 (dmStatus s m)
  else if addr = 0x10 ∨ addr = 0x16 ∨ dmiPlain addr then debugAnswer s 0 (dmiReg s m addr)
  else if addr = 0x17 then debugAnswer s 0 0
  else if m = 0 ∧ addr = 0x38 then debugAnswer s 0 (busStatus s)
  else if m = 0 ∧ addr = 0x39 then debugAnswer s 0 (dmiReg s 0 0x39)
  else if m = 0 ∧ addr = 0x3C then
    let s := debugAnswer s 0 (dmiReg s 0 0x3C)
    if bitOf (dmiReg s 0 0x38) 15 then busTake s else s
  else debugAnswer s 2 0

/-- A write of a debug module. -/
def moduleWrite (s : State) (m addr v : Nat) : State :=
  if addr = 0x10 then dmControl (debugAnswer s 0 0) m v
  else if addr = 0x16 then debugAnswer (setDmi s m 0x16 0) 0 0
  else if addr = 0x17 then debugAnswer (abstractCommand s m) 0 0
  else if dmiPlain addr then debugAnswer (setDmi s m addr v) 0 0
  else if m = 0 ∧ addr = 0x38 then debugAnswer (busControl s v) 0 0
  else if m = 0 ∧ addr = 0x39 then
    let s := debugAnswer (setDmi s 0 0x39 v) 0 0
    if bitOf (dmiReg s 0 0x38) 20 then busTake s else s
  else if m = 0 ∧ addr = 0x3C then
    let s := debugAnswer s 0 0
    if busError s then s else busStep (busWrite s (dmiReg s 0 0x39) v)
  else debugAnswer s 2 0

/-- A read or write by the module selected: the authentication module in every stage but RETIRED, the debug modules while
a level is open (R423). -/
def onModule (s : State) (auth : State → State) (dm : Nat → State → State) : State :=
  match s.dbg.selected with
  | none => debugAnswer s 2 0
  | some m =>
    if m = 15 then (if s.power.lifecycle = .retired then s else auth s)
    else if debugLevel s = 0 then debugAnswer s 3 0
    else dm m s

/- The rows. -/

/-- R422: a read, but for the read of CHALLENGE that draws. -/
def execDebugRead (frame : Nat) (s : State) : Host.Outcome State Fault Refusal :=
  done (transaction s frame (frameOp frame = 0 && !authFrame s 1 frame) (fun s =>
    onModule s (fun s => authRead s (frameAddr frame)) (fun m s => moduleRead s m (frameAddr frame))))

/-- R422, R425, R426: a write, but for the submission and LOCK. -/
def execDebugWrite (frame : Nat) (s : State) : Host.Outcome State Fault Refusal :=
  done (transaction s frame (frameOp frame = 1 && !authFrame s 12 frame && !authFrame s 15 frame) (fun s =>
    onModule s (fun s => authWrite s (frameAddr frame) (frameData frame))
      (fun m s => moduleWrite s m (frameAddr frame) (frameData frame))))

/-- R422: select names module 0, 1 or 15. -/
def execDebugSelect (frame : Nat) (s : State) : Host.Outcome State Fault Refusal :=
  done (transaction s frame (frameOp frame = 2) (fun s =>
    let m := frameData frame % 16
    if m = 0 ∨ m = 1 ∨ m = 15 then debugAnswer { s with dbg := { s.dbg with selected := some m } } 0 0
    else debugAnswer s 2 0))

/-- R422: idle. -/
def execDebugIdle (frame : Nat) (s : State) : Host.Outcome State Fault Refusal :=
  done (transaction s frame (frameOp frame = 3) (fun s => debugAnswer s 0 0))

/-- R422: seventy or more cycles with DBG_DIO high deselect every module. -/
def execDebugTransportReset (s : State) : Host.Outcome State Fault Refusal :=
  done { s with dbg := { s.dbg with selected := none } }

/-- R423: a read of CHALLENGE 0x01 draws a new challenge, valid 60 s. -/
def execDebugChallengeRead (frame : Nat) (s : State) : Host.Outcome State Fault Refusal :=
  done (transaction s frame (frameOp frame = 0 && authFrame s 1 frame) (fun s =>
    onModule s (fun s =>
      let c := trngNow s 16
      let s := drewTrng { s with dbg := { s.dbg with challenge := c, challengeUntil := some (s.now + 60000000000) } }
      debugAnswer s 0 (fieldOf c 0 4)) (fun _ s => s)))

/-- R424: the write of RESPONSE 0x0C submits. -/
def execDebugResponseSubmit (frame : Nat) (s : State) : Host.Outcome State Fault Refusal :=
  done (transaction s frame (frameOp frame = 1 && authFrame s 12 frame) (fun s =>
    onModule s (fun s => submitResponse { s with dbg := { s.dbg with
      response := listSet s.dbg.response 3 (frameData frame) } }) (fun _ s => s)))

/-- R424: any write of LOCK locks at once. -/
def execDebugAuthLock (frame : Nat) (s : State) : Host.Outcome State Fault Refusal :=
  done (transaction s frame (frameOp frame = 1 && authFrame s 15 frame) (fun s =>
    onModule s (fun s => debugAnswer (lockDebug s 2) 0 0) (fun _ s => s)))

/-- R424: the minutes run out. -/
def execDebugUnlockExpiry (s : State) : Host.Outcome State Fault Refusal :=
  match s.dbg.expires with
  | some t => if t ≤ s.now then done (lockDebug s 1) else done s
  | none => done s

end Sys2Proof.Machine
end

