-- ==== Sys2Proof/Machine/Events.lean ====
section
/-! DEFINITION. Reading the event recorder: windows, marks, the clear, and the description of codes (R414 to R420). -/

namespace Sys2Proof.Machine

/-- The full sequence number a U32 stands for: the recorder compares modulo 2^32 (R414). -/
def fullSeq (s : State) (v : Nat) : Nat :=
  let n := s.recorder.nextSeq
  let back := (n + (2 ^ 32 - v % 2 ^ 32)) % 2 ^ 32
  if back < 2 ^ 31 then n - back else n + (2 ^ 32 - back)

/-- A record as its 32 octets (Table 15-5). -/
def EvtRecord.octets (r : EvtRecord) : Octets :=
  beOctets 4 r.seq ++ beOctets 8 r.firstTime ++ beOctets 2 r.code ++ [byte (r.severity * 32 + r.island), byte r.unit] ++
    beOctets 4 r.arg0 ++ beOctets 4 r.arg1 ++ beOctets 4 r.arg2 ++ beOctets 2 r.repeats ++ beOctets 2 r.lastOffset

/-- EVT_WINDOW from a full sequence number (R418, Table 15-7). -/
def evtWindow (s : State) (from_ : Nat) : Octets :=
  let first := max from_ s.recorder.oldest
  let l := ((s.recorder.archive.filter (fun p => first ≤ p.1)).take 8).map (·.2)
  let open_ := sumOf ((List.range l.length).map (fun i =>
    match l[i]? with
    | some r => if recordOpen s r then 2 ^ i else 0
    | none => 0))
  beOctets 4 ((l.head?.map (·.seq)).getD first) ++ [byte l.length, byte open_] ++ beOctets 2 (min (first - from_) 65535) ++
    padTo 256 ((l.map EvtRecord.octets).flatten)

/-- Latch the window from a full sequence number. -/
def evtLatch (who : Caller) (from_ : Nat) (s : State) : State :=
  setWindow (setCursor s who 0xA001 (beOctets 4 from_)) who 0xA002 (evtWindow s from_)

/-- The effect of a write of EVT_CURSOR. -/
def evtCursorApply (who : Caller) (value : Nat) (s : State) : State := evtLatch who (fullSeq s value) s

/-- R418: EVT_CURSOR latches eight records. -/
def execEvtCursorWrite (who : Caller) (value : Nat) (s : State) : Host.Outcome State Fault Refusal :=
  done (command s who 0xA001 0 (beOctets 4 value) (fun _ => 0) (evtCursorApply who value))

/-- The caller's mark as a full sequence number. -/
def evtMark (s : State) (who : Caller) : Nat := fullSeq s (viewsOf s who).mark

/-- The mark is overtaken: EVT_OLDEST has passed it (R419). -/
def markLost (s : State) (who : Caller) : Bool := evtMark s who < s.recorder.oldest

/-- The effect of a write of EVT_MARK. -/
def evtMarkApply (who : Caller) (value : Nat) (s : State) : State :=
  setViews s who { viewsOf s who with mark := value % 2 ^ 32 }

/-- R419: EVT_MARK stores the session's mark. -/
def execEvtMarkWrite (who : Caller) (value : Nat) (s : State) : Host.Outcome State Fault Refusal :=
  done (command s who 0xA003 0 (beOctets 4 value) (fun _ => 0) (evtMarkApply who value))

/-- The effect of EVT_REWIND: to the mark, or to EVT_OLDEST where it was overtaken. -/
def evtRewindApply (who : Caller) (s : State) : State := evtLatch who (max (evtMark s who) s.recorder.oldest) s

/-- R419: EVT_REWIND. -/
def execEvtRewind (who : Caller) (value : Nat) (s : State) : Host.Outcome State Fault Refusal :=
  done (command s who 0xA004 0 (beOctets 1 value) (fun _ => 0) (evtRewindApply who))

/-- SID of a caller, as event 0x0060 names it. -/
def sidOf : Caller → Nat
  | .session sid => sid
  | _ => 0

/-- The effect of EVT_CLEAR: every record goes, EVT_OLDEST is the next number, event 0x0060 comes first (R420). -/
def evtClearApply (who : Caller) (s : State) : State :=
  let n := s.recorder.nextSeq
  let gone := s.recorder.archive.length
  record { s with recorder := { s.recorder with ring := [], archive := [], oldest := n } } 0x0060 n gone (sidOf who)

/-- R420: EVT_CLEAR. -/
def execEvtClear (who : Caller) (value : Nat) (s : State) : Host.Outcome State Fault Refusal :=
  done (command s who 0xA006 0 (beOctets 1 value) (fun _ => 0) (evtClearApply who))

/-- EVT_CODE_INFO of a code (R415). -/
def codeInfo (code : Nat) : Octets :=
  if 0x0F00 ≤ code ∧ code ≤ 0x0FFF then [byte 6, byte 0, byte 0xFF]
  else match eventKind code with
    | some (keys, count) => [byte (Config.eventSeverity code % 8), byte keys, byte count]
    | none => [byte 0xFF, byte 0xFF, byte 0xFF]

/-- The effect of a write of EVT_CODE_CURSOR. -/
def evtCodeApply (who : Caller) (value : Nat) (s : State) : State :=
  setWindow (setCursor s who 0xA009 (beOctets 2 value)) who 0xA00A (codeInfo (value % 65536))

/-- R415: EVT_CODE_CURSOR selects the code EVT_CODE_INFO describes. -/
def execEvtCodeCursorWrite (who : Caller) (value : Nat) (s : State) : Host.Outcome State Fault Refusal :=
  done (command s who 0xA009 0 (beOctets 2 value) (fun _ => 0) (evtCodeApply who value))

/-- EVT_STATUS (Table 15-13). -/
def evtStatus (s : State) : Octets :=
  beOctets 4 s.recorder.nextSeq ++ beOctets 4 s.recorder.oldest ++ beOctets 4 s.recorder.refused ++
    beOctets 2 (s.recorder.ring.filter (fun p => recordOpen s p.2)).length

/-- EVT_MARK_STATUS (R419). -/
def evtMarkStatus (s : State) (who : Caller) : Octets :=
  [byte (bitNat (markLost s who))] ++ beOctets 4 (viewsOf s who).mark ++
    beOctets 4 (if markLost s who then s.recorder.oldest - evtMark s who else 0)

end Sys2Proof.Machine
end

