-- ==== Sys2Proof/Machine/Fleet.lean ====
section
/-! DEFINITION. Node image staging and node fleet campaigns (R340 to R349). -/

namespace Sys2Proof.Machine

/- Staging (R341). -/

/-- A staging slot. -/
def stageAt (s : State) (slot : Nat) : Stage := FMap.getD s.fleet.stages slot {}

/-- Change a staging slot. -/
def updStage (s : State) (slot : Nat) (f : Stage → Stage) : State :=
  { s with fleet := { s.fleet with stages := FMap.putD s.fleet.stages slot (f (stageAt s slot)) {} } }

/-- A campaign that is not FREE uses the slot; one in WAIT_IMAGE waits for it to be staged again (R341, log entry 34). -/
def slotInUse (s : State) (slot : Nat) : Bool :=
  s.fleet.campaigns.any (fun p => p.2.state != .free && p.2.state != .waitImage && p.2.slot = slot)

/-- A slot in use refuses STAGE_CMD and writes of its manifest and data. -/
def slotFree (s : State) (slot : Nat) : Nat := require (!slotInUse s slot) stBusy

/-- STAGE_DATA lies inside the slot of 30 MiB. -/
def stageDataCheck (slot at_ : Nat) (data : Octets) (s : State) : Nat :=
  firstOf [slotFree s slot, require (at_ + data.length ≤ 31457280) stRange]

/-- Octets are stored in the slot, which is loading. -/
def stageDataApply (slot at_ : Nat) (data : Octets) (s : State) : State :=
  updStage s slot (fun x => { x with mem := x.mem.writeAll at_ data, status := 1 })

/-- R341: a write of STAGE_DATA at STAGE_OFFSET. -/
def execStageDataWrite (who : Caller) (slot : Nat) (data : Octets) (s : State) : Host.Outcome State Fault Refusal :=
  done (command s who 0x8032 slot data (fun s => stageDataCheck slot (objN s 0x8031 slot) data s)
    (fun s => stageDataApply slot (objN s 0x8031 slot) data s))

/-- STAGE_MANIFEST of a slot. -/
def manifestOf (s : State) (slot : Nat) : Octets := padTo 56 (obj s 0x8030 slot)

/-- Status a check of the slot ends in: 5 digest, 6 CMAC, 3 encoding (R341). A node image has 1 octet to 12 MiB. -/
def stageResult (s : State) (slot : Nat) : Nat :=
  let m := manifestOf s slot
  let f := fieldOf m 0 4
  if f = 0 ∨ 12582912 < f ∨ sha256 ((stageAt s slot).mem.readAll 0 f) ≠ sliceOf m 4 32 then 5
  else match updChild s (meshEui s) 1 with
    | some k => if cmac k (m.take 40) = sliceOf m 40 16 then 3 else 6
    | none => 6

/-- Event 0x8040. -/
def stageEvent (s : State) (slot : Nat) : State :=
  record s 0x8040 slot (stageAt s slot).status (fieldOf (manifestOf s slot) 0 4)

/-- STAGE_CMD 1: the image's digest and the manifest's CMAC are checked, and the encoding starts (R341). -/
def stageVerifyApply (slot : Nat) (s : State) : State :=
  let st := stageResult s slot
  let m := manifestOf s slot
  let s := updStage s slot (fun x => { x with status := st, length := fieldOf m 0 4, digest := sliceOf m 4 32 })
  if st = 3 then s else stageEvent s slot

/-- R341: STAGE_CMD 1. -/
def execStageVerifyEncode (who : Caller) (slot : Nat) (s : State) : Host.Outcome State Fault Refusal :=
  done (command s who 0x8033 slot [byte 1] (fun s => slotFree s slot) (stageVerifyApply slot))

/-- STAGE_CMD 2: the slot is cleared. -/
def stageClearApply (slot : Nat) (s : State) : State := updStage s slot (fun _ => {})

/-- R351: STAGE_CMD 2. -/
def execStageClear (who : Caller) (slot : Nat) (s : State) : Host.Outcome State Fault Refusal :=
  done (command s who 0x8033 slot [byte 2] (fun s => slotFree s slot) (stageClearApply slot))

/- Encoding (R342). -/

/-- Kt, the source symbols of the image. -/
def Campaign.kt (c : Campaign) : Nat := ceilDiv c.length c.t

/-- Z, the source blocks. -/
def Campaign.z (c : Campaign) : Nat := max 1 (ceilDiv c.kt 56403)

/-- Source symbols of source block `i`: the partition of RFC 6330. -/
def Campaign.blockSymbols (c : Campaign) (i : Nat) : Nat :=
  let small := c.kt / c.z
  if i < c.kt - small * c.z then ceilDiv c.kt c.z else small

/-- First source symbol of source block `i`. -/
def Campaign.blockStart (c : Campaign) (i : Nat) : Nat := sumOf ((List.range i).map c.blockSymbols)

/-- Source block `i`, padded with zeros to whole symbols. -/
def sourceBlock (s : State) (c : Campaign) (i : Nat) : Octets :=
  let m := (stageAt s c.slot).mem
  let off := c.blockStart i * c.t
  padTo (c.blockSymbols i * c.t) (m.readAll off (min (c.blockSymbols i * c.t) (c.length - off)))

/-- Encoding symbol ESI of source block `i`: a source symbol, or a repair symbol of RFC 6330. -/
def encodingSymbol (s : State) (c : Campaign) (i esi : Nat) : Octets :=
  if esi < c.blockSymbols i then sliceOf (sourceBlock s c i) (esi * c.t) c.t
  else padTo c.t ((Config.raptor (sourceBlock s c i) c.t esi).take c.t)

/-- Broadcast cells of the campaign slotframe. -/
def campaignCells (s : State) (c : Campaign) : List Cell :=
  ((s.sched.cells.map (·.2)).filter (fun x => x.valid && x.kind = 4 && x.slotframe = c.frame && c.sectors.contains x.bandSector))

/-- Default T: the largest whose PSDU of 25 + T octets fits every broadcast cell (R342). -/
def defaultSymbol (s : State) (c : Campaign) : Nat :=
  let l := (campaignCells s c).map (fun x => largestPsdu s (bandOf x.bandSector) x.mode 1 - 25)
  (l.foldl (fun m x => match m with | some y => some (min x y) | none => some x) none).getD 0

/- Frames (R343). -/

/-- A campaign's frames that stand in, or on their way to, a band-sector's class-5 queue and are not latched. -/
def campaignQueued (s : State) (c : Campaign) (bs : Nat) : List Nat :=
  (s.queues.packets.filter (fun p => p.2.classQueue && p.2.target = airPort bs && p.2.cls = 5 && !p.2.latched &&
    fieldOf p.2.data 0 1 = 0x3C && fieldOf p.2.data 1 1 = c.id)).map (·.1)

/-- The descriptor (Table 12-16). -/
def descriptorFrame (c : Campaign) : Octets :=
  [byte 0x3C, byte c.id, byte 0xFF] ++ beOctets 3 0xFFFFFF ++ beOctets 4 c.length ++ beOctets 2 c.t ++ [byte c.z] ++ c.digest.take 8

/-- The frame of symbol n (R342, Table 12-16). -/
def symbolFrame (s : State) (c : Campaign) : Octets :=
  let sbn := c.n % c.z
  let esi := c.n / c.z
  [byte 0x3C, byte c.id, byte sbn] ++ beOctets 3 esi ++ encodingSymbol s c sbn esi

/-- UE0 generates the next frame of a band-sector: every 32nd is a descriptor and takes no n (R343). -/
def generateFrame (s : State) (k bs : Nat) : State :=
  let c := campaignAt s k
  let count_ := FMap.getD c.frames bs 0
  let descriptor := count_ % 32 = 0
  let f := if descriptor then descriptorFrame c else symbolFrame s c
  let s := updCampaign s k (fun c => { c with
    frames := FMap.put c.frames bs (count_ + 1), n := if descriptor then c.n else c.n + 1 })
  let s := newPacket s (packetFor s true (airPort bs) 5 false f)
  let c := campaignAt s k
  if c.maxSymbols ≠ 0 ∧ c.maxSymbols ≤ c.n then changeCampaign s k .expired else s

/-- Bring a band-sector's queue to two frames (R343). -/
def fillSector (k : Nat) (s : State) (bs : Nat) : State :=
  [0, 1].foldl (fun s _ =>
    let c := campaignAt s k
    if c.state = .running && (campaignQueued s c bs).length < 2 then generateFrame s k bs else s) s

/-- Fill every band-sector of the mask. -/
def fillCampaign (s : State) (k : Nat) : State := (campaignAt s k).sectors.foldl (fillSector k) s

/-- R343: UE0 generates the next frame once one is latched. -/
def execCampaignFrameGenerate (bandSector campaign : Nat) (s : State) : Host.Outcome State Fault Refusal :=
  let c := campaignAt s campaign
  if handlesAir s ∧ c.state = .running ∧ c.sectors.contains bandSector ∧ (campaignQueued s c bandSector).length < 2 then
    done (generateFrame s campaign bandSector)
  else done s

/- Offers, Activates, Cancels (R344, R346). -/

/-- Send a campaign IE to a node, in a unicast frame of class 5. -/
def sendCampaign (s : State) (i : Nat) (content : Octets) : State := queueToNode s i 5 true (vendorIe s content)

/-- Before the first Offer the node is sent the TYPE 4 cells of the campaign slotframe on its HEARD_BS (R344). -/
def oweBroadcast (s : State) (c : Campaign) (i : Nat) : State :=
  match nodeAt s i with
  | some n =>
    let cells := (campaignCells s c).filter (fun x => x.bandSector = n.heardBs)
    cells.foldl (fun s x =>
      let key := 16 * bandOf x.bandSector + x.hopSeq
      let had := ((nodeAt s i).map (fun n => n.sequences.contains key)).getD true
      let first := if had then [] else hoppingContents s (bandOf x.bandSector) x.hopSeq
      updNode s i (fun n => { n with
        updates := n.updates ++ first ++ [[byte 0x24, byte 16] ++ cellDescriptor s x false]
        sequences := if had then n.sequences else key :: n.sequences })) s
  | none => s

/-- An Offer to a node; the first is preceded by its cells (R344). -/
def sendOffer (k : Nat) (s : State) (i : Nat) : State :=
  let c := campaignAt s k
  let sent := FMap.getD c.offers i 0
  let s := if sent = 0 then oweBroadcast s c i else s
  let s := updCampaign s k (fun c => { c with offers := FMap.put c.offers i (sent + 1) })
  sendCampaign s i ([byte 0x30, byte c.id] ++ padTo 8 (c.digest.take 8))

/-- A node is dropped from a campaign: TARGET is cleared, and event 0x8051 counts it (R346). -/
def dropTarget (k : Nat) (s : State) (i : Nat) : State :=
  let s := updCampaign s k (fun c => { c with
    target := c.target.filter (· ≠ i), offers := FMap.del c.offers i, dropped := satAdd 32 c.dropped 1 })
  settleCampaign (record s 0x8051 (campaignAt s k).id 0 (handleOf s i)) k

/-- What a pass owes a TARGET node without ACCEPTED: an Offer, or its dropping after the third (R346). -/
def offerOrDrop (k : Nat) (s : State) (i : Nat) : State :=
  if FMap.getD (campaignAt s k).offers i 0 < 3 then sendOffer k s i else dropTarget k s i

/-- TARGET nodes without ACCEPTED. -/
def Campaign.unanswered (c : Campaign) : List Nat := c.target.filter (fun i => !c.accepted.contains i)

/-- An Activate to a node, at most three times (Table 12-18). -/
def sendActivate (k : Nat) (s : State) (i : Nat) : State :=
  let c := campaignAt s k
  let sent := FMap.getD c.activates i 0
  if sent < 3 then
    let s := updCampaign s k (fun c => { c with activates := FMap.put c.activates i (sent + 1) })
    sendCampaign s i ([byte 0x32, byte c.id] ++ beOctets 5 c.activateAsn)
  else s

/-- COMPLETE nodes without ACTIVATED. -/
def Campaign.unactivated (c : Campaign) : List Nat := c.complete.filter (fun i => !c.activated.contains i)

/- The commands (R347). -/

/-- A configuration is in range (Table 12-19). -/
def cfgOk (v : Octets) : Bool :=
  let n := fieldOf v 23 1
  let shaper := fieldOf v 6 2
  1 ≤ fieldOf v 0 1 && fieldOf v 0 1 ≤ 8 && fieldOf v 1 1 ≤ 15 && fieldOf v 2 2 < 512 &&
    (shaper < 512 || shaper = 0xFFFF) && fieldOf v 8 1 ≤ 2 && n ≤ 8 &&
    (List.range 8).all (fun i => fieldOf v (32 + 9 * i) 1 ≤ 64)

/-- CAMPAIGN_CFG is writable in FREE and DEFINED. -/
def campaignCfgCheck (k : Nat) (v : Octets) (s : State) : Nat :=
  let st := (campaignAt s k).state
  firstOf [require (st = .free || st = .defined) stState, require (cfgOk v) stRange]

/-- The record is created, or its configuration replaced. -/
def campaignCfgApply (k : Nat) (v : Octets) (s : State) : State :=
  let s := updCampaign s k (fun c => { c with cfg := v })
  if (campaignAt s k).state = .free then changeCampaign s k .defined else persistCampaign s k

/-- R347: a write of CAMPAIGN_CFG. -/
def execCampaignCfgWrite (who : Caller) (campaign : Nat) (cfg : Octets) (s : State) : Host.Outcome State Fault Refusal :=
  done (command s who 0x8040 campaign cfg (campaignCfgCheck campaign cfg) (campaignCfgApply campaign cfg))

/-- The slot is ready, and the slotframe holds TYPE 4 cells on every band-sector of the mask (Table 12-18). -/
def campaignStartCheck (k : Nat) (s : State) : Nat :=
  let c := campaignAt s k
  require (c.state = .defined && (stageAt s c.slot).status = 4 && !c.sectors.isEmpty &&
    c.sectors.all (fun bs => (campaignCells s c).any (fun x => x.bandSector = bs))) stState

/-- The next CAMPAIGN_ID that no other campaign holds. -/
def freshId (s : State) : Nat → Nat → Nat
  | 0, i => i % 256
  | n + 1, i => if s.fleet.campaigns.any (fun p => p.2.state != .free && p.2.state != .defined && p.2.id = i % 256) then
      freshId s n (i + 1) else i % 256

/-- JOINED nodes that a campaign selects. -/
def selectedNodes (s : State) (c : Campaign) : List Nat :=
  (s.link.nodes.filter (fun p => p.2.state = .joined && c.selects p.2.eui)).map (·.1)

/-- CAMPAIGN_CMD 1: CAMPAIGN_ID, the targets and the symbol size are set, generation starts (R342, R346, R347). -/
def campaignStartApply (k : Nat) (s : State) : State :=
  let c := campaignAt s k
  let id := freshId s 9 s.fleet.nextId
  let t := if fieldOf c.cfg 4 2 = 0 then defaultSymbol s c else fieldOf c.cfg 4 2
  let stage := stageAt s c.slot
  let s := { s with fleet := { s.fleet with nextId := (id + 1) % 256 } }
  let s := updCampaign s k (fun c => { c with
    id := id, n := 0, t := max 1 t, digest := stage.digest, length := stage.length, target := selectedNodes s c
    accepted := [], complete := [], activated := [], dropped := 0, offers := [], activates := [], frames := [] })
  fillCampaign (changeCampaign s k .running) k

/-- R347: CAMPAIGN_CMD 1. -/
def execCampaignStart (who : Caller) (campaign : Nat) (s : State) : Host.Outcome State Fault Refusal :=
  done (command s who 0x8041 campaign [byte 1] (campaignStartCheck campaign) (campaignStartApply campaign))

/-- A command needs a state. -/
def inState (k : Nat) (l : List CampaignState) (s : State) : Nat := require (l.contains (campaignAt s k).state) stState

/-- R347: CAMPAIGN_CMD 2: generation stops; queued frames stay. -/
def execCampaignPause (who : Caller) (campaign : Nat) (s : State) : Host.Outcome State Fault Refusal :=
  done (command s who 0x8041 campaign [byte 2] (inState campaign [.running]) (fun s => changeCampaign s campaign .paused))

/-- CAMPAIGN_CMD 3: generation goes on. -/
def campaignResumeApply (k : Nat) (s : State) : State := fillCampaign (changeCampaign s k .running) k

/-- R347: CAMPAIGN_CMD 3. -/
def execCampaignResume (who : Caller) (campaign : Nat) (s : State) : Host.Outcome State Fault Refusal :=
  done (command s who 0x8041 campaign [byte 3] (inState campaign [.paused]) (campaignResumeApply campaign))

/-- States a campaign may be cancelled in: any but FREE and CLOSED. -/
def cancellable : List CampaignState :=
  [.defined, .running, .paused, .delivered, .expired, .activating, .waitImage, .cancelled]

/-- CAMPAIGN_CMD 4: a Cancel to each ACCEPTED node, queued frames flushed (R191, R347). -/
def campaignCancelApply (k : Nat) (s : State) : State :=
  let c := campaignAt s k
  let s := c.accepted.foldl (fun s i => sendCampaign s i [byte 0x33, byte c.id]) s
  let s := c.sectors.foldl (fun s bs => flushAll s (campaignQueued s c bs)) s
  changeCampaign s k .cancelled

/-- R347: CAMPAIGN_CMD 4. -/
def execCampaignCancel (who : Caller) (campaign : Nat) (s : State) : Host.Outcome State Fault Refusal :=
  done (command s who 0x8041 campaign [byte 4] (inState campaign cancellable) (campaignCancelApply campaign))

/-- ACTIVATING: an Activate to each COMPLETE node (Table 12-18). -/
def activateCampaign (k : Nat) (s : State) : State :=
  let s := changeCampaign (updCampaign s k (fun c => { c with activates := [] })) k .activating
  settleCampaign ((campaignAt s k).unactivated.foldl (sendActivate k) s) k

/-- R347: CAMPAIGN_CMD 5. -/
def execCampaignActivate (who : Caller) (campaign : Nat) (s : State) : Host.Outcome State Fault Refusal :=
  done (command s who 0x8041 campaign [byte 5] (inState campaign [.delivered, .expired]) (activateCampaign campaign))

/-- CAMPAIGN_CMD 6: the record is cleared. -/
def campaignClearApply (k : Nat) (s : State) : State :=
  let s := changeCampaign s k .free
  { s with fleet := { s.fleet with campaigns := FMap.del s.fleet.campaigns k, store := FMap.del s.fleet.store k } }

/-- R347: CAMPAIGN_CMD 6. -/
def execCampaignClear (who : Caller) (campaign : Nat) (s : State) : Host.Outcome State Fault Refusal :=
  done (command s who 0x8041 campaign [byte 6] (inState campaign [.closed, .cancelled]) (campaignClearApply campaign))

/- Reports, passes and times (R346 to R348). -/

/-- States in which a campaign has nodes. -/
def takesReports (c : Campaign) : Bool :=
  [.running, .paused, .delivered, .expired, .activating, .waitImage].contains c.state

/-- The campaign of a CAMPAIGN_ID. -/
def campaignById (s : State) (id : Nat) : Option Nat :=
  allCampaigns.find? (fun k => takesReports (campaignAt s k) && (campaignAt s k).id = id)

/-- A Report of a TARGET node acts by its STATUS (R346). -/
def takeReport (s : State) (k i status : Nat) : State :=
  match status with
  | 1 => updCampaign s k (fun c => { c with accepted := withIndex i c.accepted })
  | 2 => settleCampaign (updCampaign s k (fun c => { c with
      accepted := withIndex i c.accepted, complete := withIndex i c.complete })) k
  | 5 => settleCampaign (updCampaign s k (fun c => { c with activated := withIndex i c.activated })) k
  | 3 => dropTarget k s i
  | 4 => dropTarget k s i
  | _ => s

/-- R346: a node's Report updates its bits. -/
def execCampaignReportRx (handle : Nat) (content : Octets) (s : State) : Host.Outcome State Fault Refusal :=
  match nodeOf s handle, campaignById s (fieldOf content 1 1) with
  | some n, some k =>
    if handlesAir s ∧ n.state = .joined ∧ content.length = 5 ∧ fieldOf content 0 1 = 0x31 ∧
        (campaignAt s k).target.contains (localIndex handle) then
      done (takeReport s k (localIndex handle) (fieldOf content 2 1))
    else done s
  | _, _ => done s

/-- Pass of the campaign slotframe now. -/
def passNow (s : State) (c : Campaign) : Nat := campaignAsn s c / max 1 (slotframe s c.frame).2.2

/-- The end of a pass for one campaign: Offers in RUNNING, Activates in ACTIVATING, and the record is written (R346, R348). -/
def passEnd (s : State) (k : Nat) : State :=
  let c := campaignAt s k
  let s := updCampaign s k (fun c => { c with pass := passNow s c })
  let s := if c.state = .running then c.unanswered.foldl (offerOrDrop k) s else s
  let s := if c.state = .activating then c.unactivated.foldl (sendActivate k) s else s
  persistCampaign s k

/-- R348: a pass of a campaign slotframe ends. -/
def execCampaignPassEnd (slotframe : Nat) (s : State) : Host.Outcome State Fault Refusal :=
  let due := fun k =>
    let c := campaignAt s k
    c.state != .free && c.frame = slotframe && c.pass != passNow s c
  if handlesAir s ∧ timeAcquired s then done ((allCampaigns.filter due).foldl passEnd s) else done s

/-- R347: END_ASN is reached. -/
def execCampaignEndAsnReached (campaign : Nat) (s : State) : Host.Outcome State Fault Refusal :=
  let c := campaignAt s campaign
  if c.state = .running ∧ c.endAsn ≠ 0 ∧ timeAcquired s ∧ c.endAsn ≤ campaignAsn s c then
    done (changeCampaign s campaign .expired)
  else done s

/-- R347: ACTIVATE_ASN is reached under policy 1. -/
def execCampaignActivateAsnReached (campaign : Nat) (s : State) : Host.Outcome State Fault Refusal :=
  let c := campaignAt s campaign
  if (c.state = .delivered ∨ c.state = .expired) ∧ c.policy = 1 ∧ timeAcquired s ∧ c.activateAsn ≤ campaignAsn s c then
    done (activateCampaign campaign s)
  else done s

/-- R347: 24 h after ACTIVATE_ASN. -/
def execCampaignActivatingTimeout (campaign : Nat) (s : State) : Host.Outcome State Fault Refusal :=
  let c := campaignAt s campaign
  if c.state = .activating ∧ timeAcquired s ∧
      slotStart s (campaignBand s c) c.activateAsn + 86400000000000 ≤ domainTime s then
    done (changeCampaign s campaign .closed)
  else done s

/- WAIT_IMAGE and restoring (R341, R349). -/

/-- Offers to each TARGET node without COMPLETE, Activates in ACTIVATING (R349). -/
def resendCampaign (s : State) (k : Nat) : State :=
  let c := campaignAt s k
  let s := if [CampaignState.running, .paused].contains c.state then
      (c.target.filter (fun i => !c.complete.contains i)).foldl (sendOffer k) s
    else s
  if c.state = .activating then c.unactivated.foldl (sendActivate k) s else s

/-- The staged image of a campaign is ready again with its digest. -/
def imageReady (s : State) (c : Campaign) : Bool := (stageAt s c.slot).status = 4 && (stageAt s c.slot).digest = c.digest

/-- Campaigns that waited for a slot go on in the state they were in (Table 12-18). -/
def wakeCampaigns (s : State) : State :=
  allCampaigns.foldl (fun s k =>
    let c := campaignAt s k
    if c.state = .waitImage && imageReady s c then
      fillCampaign (resendCampaign (changeCampaign s k c.before) k) k
    else s) s

/-- R341: UE1 finishes the intermediate symbols: the slot is ready; event 0x8040. -/
def execStageEncodeDone (slot : Nat) (s : State) : Host.Outcome State Fault Refusal :=
  if (stageAt s slot).status = 3 then
    done (wakeCampaigns (stageEvent (updStage s slot (fun x => { x with status := 4 })) slot))
  else done s

/-- Restore one persisted record (R349). -/
def restoreCampaign (s : State) (p : Nat × Nat × Campaign) : State :=
  let c := p.2.2
  if c.state = .free then s
  else
    let kept := fun l : List Nat => if s.image.nodesRetained then l.filter (fun i => (nodeAt s i).isSome) else []
    let waits := (c.state = .running || c.state = .paused) && !imageReady s c
    let s := updCampaign s p.1 (fun _ => { c with
      target := kept c.target, accepted := kept c.accepted, complete := kept c.complete, activated := kept c.activated
      offers := [], activates := [], frames := [] })
    let s := record s 0x8052 c.id c.n (stateCode c.state)
    if waits then changeCampaign (updCampaign s p.1 (fun x => { x with before := c.state })) p.1 .waitImage
    else fillCampaign (resendCampaign s p.1) p.1

/-- Restore every campaign record at the end of LOAD (R349). -/
def restoreCampaigns (s : State) : State := s.fleet.store.foldl restoreCampaign s

end Sys2Proof.Machine
end

