-- ==== Sys2Proof/Machine/Flags.lean ====
section
/-! DEFINITION. The status words whose bits are computed from the state rather than held: PIN_STATUS, the SPI STATUS
octet and the registers of MB0 that the host reads (Tables 14-12 and 14-10, R398, R399). -/

namespace Sys2Proof.Machine

/-- PIN_STATUS (Table 14-12). -/
def pinStatus (s : State) : Nat :=
  bitNat s.power.rolePref + bitNat s.power.claimOut * 2 + bitNat s.power.claimIn * 4 + bitNat s.power.vbat * 8 +
    bitNat s.power.recRx * 16 + bitNat s.power.ppsIn * 32 + bitNat s.power.vioLimit * 64 + bitNat s.keys.tamp0 * 128 +
    bitNat s.keys.tamp1 * 256

/-- Endpoint of MB0. -/
def mb0Endpoint : Endpoint := { transport := 5, address := [], port := 0 }

/-- Endpoint of the SPI port. -/
def spiEndpoint : Endpoint := { transport := 6, address := [], port := 0 }

/-- The SPI request buffer holds a frame that the OD service has not taken. -/
def spiFull (s : State) : Bool := s.sop.inbox.any (fun p => p.1 = spiEndpoint)

/-- The STATUS octet of SPI: response ready, request buffer free, OVERRUN (R399). -/
def spiStatus (s : State) : Nat :=
  bitNat (!s.sop.spiOut.isEmpty) + 2 * bitNat (!spiFull s) + 4 * bitNat s.sop.overrun

/-- SPI_IRQ_N is low: a response or a notification waits (R399). -/
def spiIrq (s : State) : Bool := !s.sop.spiOut.isEmpty

/-- H2C_STATE: a frame in H2C_BUF is not yet taken (Table 14-10). -/
def h2cState (s : State) : Nat := bitNat (s.sop.inbox.any (fun p => p.1 = mb0Endpoint))

/-- C2H_LEN: the octets of the response in C2H_BUF, 0 for none (Table 14-10). -/
def c2hLen (s : State) : Nat := (s.sop.mbOut.headD []).length

/-- What the host reads at a register offset of MB0: U32 registers, C2H_BUF and NTF_RING by octet (Table 14-10). -/
def mb0Read (s : State) (offset : Nat) : Nat :=
  if offset = 4 then h2cState s
  else if offset = 8 then c2hLen s
  else if offset = 0x10 then s.sop.ntfHead
  else if offset = 0x18 then s.sop.irqMask
  else if 0x3000 ≤ offset ∧ offset ≤ 0x4FFF then fieldOf (s.sop.mbOut.headD []) (offset - 0x3000) 1
  else if 0x5000 ≤ offset ∧ offset ≤ 0x8FFF then
    fieldOf (FMap.getD s.sop.ntfRing ((offset - 0x5000) / 256) []) ((offset - 0x5000) % 256) 1
  else 0

end Sys2Proof.Machine
end

