-- ==== Sys2Proof/Machine/Measure.lean ====
section
/-! DEFINITION. Spectrum survey, noise-floor history, ranging, supply, temperature and analog inputs (R402 to R413). -/

namespace Sys2Proof.Machine

/-- States in which MS and the sensors measure (R402). -/
def measures (s : State) : Bool :=
  s.power.dev = .maintenance || s.power.dev = .active || s.power.dev = .follower

/- Spectrum survey (R402, R403). -/

/-- SURVEY_PERIOD in s. -/
def surveyPeriod (s : State) : Nat := objField s 0xA200 0 0 2

/-- Occupancy (0.01 %) and peak of a bin, of the samples left. -/
def surveyValue (x : SurveyBin) : Nat × Nat :=
  if x.samples = 0 then (0xFFFF, 0x8000) else (min 10000 (x.above * 10000 / x.samples), ofSigned 16 x.peak)

/-- Event 0x9000 of a band-sector: its bins with occupancy above 50 %. -/
def surveyEvent (s : State) (bs : Nat) : State :=
  let busy := (s.measure.survey.filter (fun p => p.1 / 65536 = bs && 5000 < p.2.1 && p.2.1 ≤ 10000)).length
  record s 0x9000 bs busy (surveyPeriod s)

/-- R403: at the end of a period MS publishes the survey of every bin at once. -/
def execSurveyPeriodEnd (bins : List SurveyBin) (s : State) : Host.Outcome State Fault Refusal :=
  if measures s ∧ s.measure.surveyAt + surveyPeriod s * 1000000000 ≤ s.now then
    let on := allBandSectors.filter (fun bs => bandEnabled s (bandOf bs) && objB s 0x2100 bs)
    let kept := bins.filter (fun x => on.contains x.bandSector && x.bin < binCount s (bandOf x.bandSector))
    let map := kept.foldl (fun (m : FMap (Nat × Nat)) x => FMap.put m (65536 * x.bandSector + x.bin) (surveyValue x)) []
    let s := { s with measure := { s.measure with survey := map, surveyTime := domainTime s, surveyAt := s.now } }
    done (on.foldl surveyEvent s)
  else done s

/-- The 16-bin survey window from a bin of a band-sector (R403). -/
def surveyWindow (s : State) (bs first : Nat) : Octets :=
  ((List.range 16).map (fun i =>
    let x := FMap.getD s.measure.survey (65536 * bs + first + i) (0xFFFF, 0x8000)
    beOctets 2 x.1 ++ beOctets 2 x.2)).flatten

/-- SURVEY_CURSOR latches the window and its time. -/
def surveyCursorApply (who : Caller) (value : Nat) (s : State) : State :=
  let s := setCursor s who 0xA201 (beOctets 4 value)
  let s := setWindow s who 0xA202 (surveyWindow s (value / 65536 % 256) (value % 65536))
  setWindow s who 0xA203 (beOctets 8 s.measure.surveyTime)

/-- R403: a write of SURVEY_CURSOR latches a survey window. -/
def execSurveyCursorWrite (who : Caller) (value : Nat) (s : State) : Host.Outcome State Fault Refusal :=
  done (command s who 0xA201 0 (beOctets 4 value) (fun _ => nfCursorCheck value) (surveyCursorApply who value))

/- Noise-floor history (R404). -/

/-- R404: at each whole hour of domain time the latest publication becomes the newest of 24 copies. -/
def execNfHistoryHourly (s : State) : Host.Outcome State Fault Refusal :=
  let hour := domainTime s / 3600000000000
  if lsfRuns s.power.dev ∧ s.measure.nfHour ≠ some hour then
    done { s with measure := { s.measure with
      nfHour := some hour, nfHistory := (s.rx.noise :: s.measure.nfHistory).take 24 } }
  else done s

/-- The 16-bin window of an entry of the history. -/
def historyWindow (s : State) (hours bs first : Nat) : Octets :=
  let m := listGet s.measure.nfHistory hours []
  ((List.range 16).map (fun i =>
    let x := FMap.getD m (65536 * bs + first + i) (0x8000, 0)
    beOctets 2 x.1 ++ beOctets 2 x.2)).flatten

/-- NF_HISTORY_CURSOR names an entry 0 to 23 and a band-sector. -/
def historyCheck (value : Nat) : Nat := firstOf [nfCursorCheck value, require (value / 2 ^ 24 % 32 ≤ 23) stRange]

/-- NF_HISTORY_CURSOR latches the window. -/
def historyApply (who : Caller) (value : Nat) (s : State) : State :=
  setWindow (setCursor s who 0xA210 (beOctets 4 value)) who 0xA211
    (historyWindow s (value / 2 ^ 24 % 32) (value / 65536 % 256) (value % 65536))

/-- R404: a write of NF_HISTORY_CURSOR latches a history window. -/
def execNfHistoryCursorWrite (who : Caller) (value : Nat) (s : State) : Host.Outcome State Fault Refusal :=
  done (command s who 0xA210 0 (beOctets 4 value) (fun _ => historyCheck value) (historyApply who value))

/- Ranging (R405 to R408). -/

/-- Airtime of a PSDU in a ranging cell, us: FCS within it. -/
def rangeAirtime (s : State) (c : Cell) (psdu : Nat) : Nat := frameAirtime s (bandOf c.bandSector) c.mode 1 (psdu - 2)

/-- A ranging cell whose slot holds the Poll, the bursts and the Report (R408). -/
def rangeFits (s : State) (c : Cell) : Bool :=
  let b := bandOf c.bandSector
  slotField s b 1 + rangeAirtime s c 33 + 2000 + rangeAirtime s c 63 + 210 ≤ slotField s b 0

/-- A cell in which a node may be ranged: TYPE 3, of an enabled slotframe, in a band the node announced (R405, R408). -/
def rangesIn (s : State) (h : Nat) (n : Node) (c : Cell) : Bool :=
  c.valid && c.kind = 3 && c.peer = h && (slotframe s c.slotframe).1 && bitOf n.rangeCap 7 &&
    bitOf n.rangeCap (4 + bandOf c.bandSector) && rangeFits s c

/-- The checks of RANGE_REQUEST (R408). -/
def rangeCheck (h k : Nat) (s : State) : Nat :=
  firstOf [
    require (s.power.dev = .active) stState,
    require (handleOk h && (k = 0 || (4 ≤ k && k ≤ 64))) stRange,
    (match nodeOf s h with
      | some n => require (n.state = .joined && s.sched.cells.any (fun p => rangesIn s h n p.2)) stRange
      | none => stRange),
    require (s.measure.ranges.has h || s.measure.ranges.length < 64) stResource]

/-- An exchange starts; one that runs for the node ends with status 6. -/
def rangeApply (h k : Nat) (s : State) : State :=
  let s := endRange s h 6
  let id := s.measure.nextRangeId
  let r : RangeRun := {
    rangeId := id, k := if k = 0 then objField s 0xA300 0 0 1 else k, cls := objField s 0xA300 0 1 1, cellsPassed := 0
    reports := 0, chipTones := [], tones := [], lastAsn := 0, bandSector := 0 }
  { s with measure := { s.measure with
      ranges := FMap.put s.measure.ranges h r, nextRangeId := (id + 1) % 256 } }

/-- R408: the command starts a ranging exchange, or is refused. -/
def execRangeRequest (who : Caller) (handle k : Nat) (s : State) : Host.Outcome State Fault Refusal :=
  done (command s who 0xA301 0 (beOctets 4 handle ++ [byte k]) (rangeCheck handle (k % 256)) (rangeApply handle (k % 256)))

/-- Change a running exchange. -/
def updRange (s : State) (h : Nat) (f : RangeRun → RangeRun) : State :=
  { s with measure := { s.measure with ranges := s.measure.ranges.update h f } }

/-- The Poll and the chip's burst leave, and the on-time of the whole cell is charged under the class of the exchange: the
Poll with its ramps, both bursts and the Report (R406). -/
def sendPoll (s : State) (index h : Nat) (c : Cell) (r : RangeRun) : State :=
  let b := bandOf c.bandSector
  let asn := asnNow s b
  let first := cellChannel s c asn
  let sub := channelSubBand s b c.mode first
  let a := accountOf b sub
  let poll := rangeAirtime s c 33
  let onTime := poll + 20 + 400 + 400 + rangeAirtime s c 63
  if !dutyAllows s a r.cls onTime then addOutcome (dutyFailed s a r.cls) index c.bandSector 6 0
  else
    let s := reserveFc s (localIndex h)
    match nodeAt s (localIndex h) with
    | none => s
    | some n =>
      let ie := vendorIe s [byte 0x10, byte r.rangeId, byte r.cellsPassed, byte r.k, byte 0, byte 0]
      let octets := frameToNode s n 1 false n.dsnTx 5 ie []
      let power := targetPower s (portNow s c.bandSector) sub (some n.txPower)
      let start := s.now + (slotStart s b asn + slotField s b 1 * 1000) - domainTime s
      let s := emit s (.air c.bandSector start power octets)
      let s := emit s (.burst c.bandSector (start + (poll + 800) * 1000) power)
      let s := useFc (updNode s (localIndex h) (fun n => { n with dsnTx := (n.dsnTx + 1) % 256 })) (localIndex h)
      let s := addDwell (settleDuty s a 0 onTime) b c.mode first onTime
      updRange (addOutcome s index c.bandSector 0 onTime) h (fun r => { r with
        cellsPassed := r.cellsPassed + 1, lastAsn := asn, bandSector := c.bandSector })

/-- R406: a ranging cell: Poll, the node's tones measured, the chip's burst. A skipped cell does not count; the
exchange ends with the slot of its 2K-th cell (R408). -/
def execRangingCell (bandSector cell : Nat) (skipped : Bool) (tones : List ToneMeasure) (s : State) :
    Host.Outcome State Fault Refusal :=
  let c := cellAt s cell
  match FMap.find s.measure.ranges c.peer, nodeOf s c.peer with
  | some r, some n =>
    if !mayTransmit s || !rangesIn s c.peer n c || c.bandSector ≠ bandSector || skipped || serviceState s bandSector ≠ 0 ||
        2 * r.k ≤ r.cellsPassed then
      done s
    else
      let t := sendPoll s cell c.peer c r
      match FMap.find t.measure.ranges c.peer with
      | some r' =>
        if r'.cellsPassed = r.cellsPassed then done t
        else
          done (updRange t c.peer (fun x => { x with
            chipTones := FMap.put x.chipTones r.cellsPassed (tones.map (fun y => (y.freq, y.phase, y.snr))) }))
      | none => done t
  | _, _ => done s

/-- The tones of a cell after its Report: the sum of both phases; a tone whose SNR on either side is below RANGE_MIN_SNR is
left out (R407). -/
def reportTones (least : Nat) (content : Octets) (l : List (Nat × Nat × Nat)) : List RangeTone :=
  (List.range l.length).map (fun i =>
    let x := l.getD i (0, 0, 0)
    { freq := x.1, phase := (x.2.1 + fieldOf content (4 + 3 * i) 2) % 65536
      ok := decide (least ≤ x.2.2) && decide (least ≤ fieldOf content (6 + 3 * i) 1) })

/-- R407: a Report is combined with the chip's own measurement; after K Reports the exchange ends (R408). -/
def execRangeReportRx (handle : Nat) (content : Octets) (s : State) : Host.Outcome State Fault Refusal :=
  match FMap.find s.measure.ranges handle with
  | some r =>
    let no := fieldOf content 2 1
    if content.length ≠ 28 ∨ fieldOf content 0 1 ≠ 0x11 ∨ fieldOf content 1 1 ≠ r.rangeId ∨ !r.chipTones.has no then done s
    else
      let s := updRange s handle (fun x => { x with
        reports := x.reports + 1, chipTones := FMap.del x.chipTones no
        tones := if fieldOf content 3 1 = 0 then
            FMap.put x.tones no (reportTones (objField s 0xA300 0 2 1) content (FMap.getD r.chipTones no []))
          else x.tones })
      match FMap.find s.measure.ranges handle with
      | some r => done (if r.k ≤ r.reports then finishRange s handle r else s)
      | none => done s
  | none => done s

/-- RANGE_RESULT of a handle: running, its latest result, or zero (Table 15-13). -/
def rangeResult (s : State) (h : Nat) : Octets :=
  match FMap.find s.measure.ranges h, FMap.find s.measure.results h with
  | some r, _ =>
    beOctets 4 h ++ [byte r.rangeId, byte 1, byte 0, byte r.tones.length] ++ zeros 8 ++ beOctets 5 r.lastAsn ++
      [byte r.bandSector] ++ zeros 10
  | none, some x =>
    beOctets 4 h ++ [byte x.rangeId, byte x.status, byte x.quality, byte x.reports] ++ beOctets 4 x.distance ++
      beOctets 2 x.sigma ++ beOctets 2 x.resid ++ beOctets 5 x.lastAsn ++ [byte x.bandSector] ++ zeros 2 ++ beOctets 8 x.completed
  | none, none => zeros 32

/- Supply, temperature and analog inputs (R411, R412). -/

/-- Note one supply: an excursion is recorded once. -/
def excursion (s : State) (i mv : Nat) (out : Bool) : State :=
  let was := listGet s.measure.excursion i false
  let s := { s with measure := { s.measure with excursion := listSet s.measure.excursion i out } }
  if out && !was then record s 0x9030 i mv 0 else s

/-- R411: the supplies are measured; VBAT counts while it is present. -/
def execSupplySample (vin vbat vioOut core power : Nat) (s : State) : Host.Outcome State Fault Refusal :=
  if measures s then
    let s := { s with measure := { s.measure with
      supply := [vin % 65536, vbat % 65536, vioOut % 65536, core % 65536, power % 2 ^ 32] } }
    let s := excursion s 0 vin (decide (vin < 9000) || decide (16000 < vin))
    done (excursion s 1 vbat (vbat != 0 && (decide (vbat < 2500) || decide (3600 < vbat))))
  else done s

/-- R411: the six temperatures are measured. -/
def execTemperatureSample (temps : List Int) (s : State) : Host.Outcome State Fault Refusal :=
  if measures s ∧ temps.length = 6 then done { s with measure := { s.measure with temps := temps } } else done s

/-- A field of AIN_CFG of an input. -/
def ainCfg (s : State) (n off len : Nat) : Nat := objField s 0xA410 (n + 1) off len

/-- Millivolts of a mean code on the range selected: the conversion is not stated. -/
def ainMv (s : State) (n raw : Nat) : Nat :=
  (Config.value 13 [(n : Int), (bitNat (bitOf (ainCfg s n 0 1) 1) : Nat), (raw : Int)]).toNat % 65536

/-- The thresholds of an input: event 0x9020 at a crossing, again only after a return past it by HYST (R412). -/
def ainThresholds (s : State) (n : Nat) (x : AinState) : AinState × State :=
  let low := ainCfg s n 4 2
  let high := ainCfg s n 6 2
  let hyst := if ainCfg s n 8 2 = 0xFFFF then 0 else ainCfg s n 8 2
  let below := low ≠ 0xFFFF ∧ x.mv < low
  let above := high ≠ 0xFFFF ∧ high < x.mv
  let s := if below ∧ x.lowArmed then record s 0x9020 n 0 x.mv else s
  let s := if above ∧ x.highArmed then record s 0x9020 n 1 x.mv else s
  ({ x with
      lowArmed := if below then false else x.lowArmed || decide (low + hyst ≤ x.mv)
      highArmed := if above then false else x.highArmed || decide (x.mv + hyst ≤ high) }, s)

/-- R412: an analog input is sampled at AIN_RATE: the mean of AVERAGE conversions. -/
def execAinSample (channel : Nat) (codes : List Nat) (s : State) : Host.Outcome State Fault Refusal :=
  let x := FMap.getD s.measure.ain (channel + 1) {}
  let rate := max 1 (ainCfg s channel 1 2)
  let due : Bool := match x.sampledAt with
    | some t => decide (t + 1000000000 / rate ≤ s.now)
    | none => true
  if channel < 8 ∧ measures s ∧ bitOf (ainCfg s channel 0 1) 0 ∧ codes.length = ainCfg s channel 3 1 ∧ codes ≠ [] ∧ due then
    let sum := sumOf codes
    let raw := openRound s (sum / codes.length) (sum % codes.length = 0) % 65536
    let x := { x with raw := raw, mv := ainMv s channel raw, time := domainTime s, sampledAt := some s.now }
    let (x, s) := ainThresholds (drewFree s) channel x
    done { s with measure := { s.measure with ain := FMap.put s.measure.ain (channel + 1) x } }
  else done s

end Sys2Proof.Machine
end

