-- ==== Sys2Proof/Machine/Schedule.lean ====
section
/-! DEFINITION. Schedule writes, SECTOR_SERVICE and the schedule counters (R132 to R135, R141, R453). -/

namespace Sys2Proof.Machine

/-- A cell as a host writes it: the chip sets HOME and clears MIGRATED and SUSPENDED (R453). -/
def ownedCell (v : Octets) : Cell :=
  let c := cellOf v
  if c.valid then { c with migrated := false, suspended := false, home := c.bandSector } else { c with home := c.bandSector }

/-- First unresolved slot of a band (R135). -/
def firstUnresolved (s : State) (b : Nat) : Nat := asnNow s b + 3

/-- Set SCHED_CELL_STATUS. -/
def schedStatus (s : State) (code : Nat) : State := { s with sched := { s.sched with status := code } }

/-- An accepted schedule write of a band takes effect from the first unresolved slot (R135). -/
def schedAccepted (s : State) (b : Nat) : State :=
  { s with sched := { s.sched with status := 0, effectiveAsn := firstUnresolved s b } }

/-- Put cells at rising indices. -/
def putCells (s : State) (i : Nat) (l : List Cell) : State :=
  ((List.range l.length).zip l).foldl (fun s p => setCell s (i + p.1) p.2) s

/-- After a write, a cell whose home is out of service is migrated or suspended at once (R453). -/
def placeCell (s : State) (i : Nat) : State :=
  let c := cellAt s i
  if c.valid && affects (serviceState s c.bandSector) c then migrateCell s i else s

/-- Status of a write of cells from an index (R134). -/
def cellsWriteStatus (s : State) (i : Nat) (l : List Cell) : Nat :=
  firstOf [require (i + l.length ≤ 1048576) 2, cellsStatus (putCells s i l) l]

/-- Apply an accepted write of cells: ownership fields, service, Cell Updates (R135, R169, R453). -/
def applyCells (s : State) (i : Nat) (l : List Cell) : State :=
  let old := (List.range l.length).map (fun k => cellAt s (i + k))
  let s := putCells s i l
  let s := (List.range l.length).foldl (fun s k => placeCell s (i + k)) s
  let s := (old.zip l).foldl (fun s p => if p.1 = p.2 then s else oweChange s p.1 p.2) s
  schedAccepted s (bandOf ((l.find? (·.valid)).getD {}).bandSector)

/-- The cell named by SCHED_CELL_INDEX. -/
def cellIndex (s : State) : Nat := objN s 0x4110 0

/-- SCHED_CELL_CMD 1: check and write the cell of SCHED_CELL_DATA (R134). -/
def cellWriteApply (s : State) : State :=
  let c := ownedCell (obj s 0x4111 0)
  match cellsWriteStatus s (cellIndex s) [c] with
  | 0 => applyCells s (cellIndex s) [c]
  | e => schedStatus s e

/-- R134: SCHED_CELL_CMD 1. -/
def execSchedCellWrite (who : Caller) (s : State) : Host.Outcome State Fault Refusal :=
  done (command s who 0x4112 0 [byte 1] (fun _ => 0) cellWriteApply)

/-- SCHED_CELL_CMD 2: load the indexed cell into SCHED_CELL_DATA (R132). -/
def cellReadApply (s : State) : State :=
  schedStatus (setObj s 0x4111 0 (cellOctets (cellAt s (cellIndex s)))) 0

/-- R132: SCHED_CELL_CMD 2. -/
def execSchedCellRead (who : Caller) (s : State) : Host.Outcome State Fault Refusal :=
  done (command s who 0x4112 0 [byte 2] (fun _ => 0) cellReadApply)

/-- SCHED_CELL_CMD 3: clear VALID of the indexed cell (R134). -/
def cellClearApply (s : State) : State :=
  let old := cellAt s (cellIndex s)
  let new := { old with valid := false }
  let s := setCell s (cellIndex s) new
  schedAccepted (if old.valid then oweChange s old new else s) (bandOf old.bandSector)

/-- R134: SCHED_CELL_CMD 3. -/
def execSchedCellClear (who : Caller) (s : State) : Host.Outcome State Fault Refusal :=
  done (command s who 0x4112 0 [byte 3] (fun _ => 0) cellClearApply)

/-- The 64 cells of a block. -/
def blockCells (v : Octets) : List Cell := (List.range 64).map (fun k => ownedCell (sliceOf v (16 * k) 16))

/-- SOP status of a SCHED_CELL_BLOCK write (R134). -/
def cellBlockCheck (v : Octets) (s : State) : Nat :=
  require (cellIndex s % 64 = 0 && cellsWriteStatus s (cellIndex s) (blockCells v) = 0) stRange

/-- Effect of an accepted block. -/
def cellBlockApply (v : Octets) (s : State) : State := applyCells s (cellIndex s) (blockCells v)

/-- R134: a 64-cell block is checked as one write; SCHED_CELL_STATUS tells why it is refused. -/
def execSchedCellBlockWrite (who : Caller) (block : Octets) (s : State) : Host.Outcome State Fault Refusal :=
  let common := writeStatus s who 0x4116 0 block
  let code := if cellIndex s % 64 = 0 then cellsWriteStatus s (cellIndex s) (blockCells block) else 2
  let s := if common = 0 then schedStatus s code else s
  done (command s who 0x4116 0 block (cellBlockCheck block) (cellBlockApply block))

/-- A slotframe value is well formed (Table 5-9). -/
def slotframeOk (v : Octets) : Bool :=
  let (on, b, len) := slotframeOf v
  b ≤ 2 && (!on || 1 ≤ len)

/-- A hopping sequence is well formed: its LEN is that of its list, every FIRST_BIN a bin of the band (Table 5-9). -/
def hopSeqOk (s : State) (b : Nat) (v : Octets) : Bool :=
  fieldOf v 0 2 ≤ 256 && v.length = 2 + 2 * fieldOf v 0 2 && (hopList v).all (fun k => k < binCount s b)

/-- Band codes whose schedule a table write can touch. -/
def tableBands (s : State) (index sub : Nat) (value : Octets) : List Nat :=
  if index = 0x4100 then [(slotframe s (sub - 1)).2.1, (slotframeOf value).2.1] else [index - 0x4020]

/-- Table 5-6 status of a slotframe or hopping-sequence write, checked against the whole schedule (R134). -/
def tableStatus (s : State) (index sub : Nat) (value : Octets) : Nat :=
  if index = 0x4100 ∧ !slotframeOk value then 2
  else if index ≠ 0x4100 ∧ !hopSeqOk s (index - 0x4020) value then 2
  else firstOf ((tableBands s index sub value).map (bandStatus (setObj s index sub value)))

/-- The SOP status of such a write. -/
def tableCheck (index sub : Nat) (value : Octets) (s : State) : Nat :=
  require (tableStatus s index sub value = 0) stRange

/-- A change of LENGTH waits for the first unresolved slot that is a multiple of the new LENGTH (R135). -/
def lengthChange (s : State) (h : Nat) (value : Octets) : State :=
  let old := (slotframe s h).2.2
  let (_, b, new) := slotframeOf value
  if old = new ∨ new = 0 then { s with sched := { s.sched with lengthPending := FMap.del s.sched.lengthPending h } }
  else
    let first := ceilDiv (firstUnresolved s b) new * new
    { s with sched := { s.sched with lengthPending := FMap.put s.sched.lengthPending h (old, first) } }

/-- The effect of an accepted slotframe or hopping-sequence write (R135). -/
def tableApply (index sub : Nat) (value : Octets) (s : State) : State :=
  let s := if index = 0x4100 then lengthChange s (sub - 1) value else s
  let b := (tableBands s index sub value).getLast?.getD 0
  schedAccepted (setObj s index sub value) b

/-- The objects of the row: SLOTFRAME and the three HOP_SEQ tables. -/
def scheduleTable (index : Nat) : Bool := index = 0x4100 || (0x4020 ≤ index && index ≤ 0x4022)

/-- R134: a slotframe or hopping-sequence write is checked against the whole band schedule. -/
def execScheduleTableWrite (who : Caller) (index sub : Nat) (value : Octets) (s : State) :
    Host.Outcome State Fault Refusal :=
  if scheduleTable index then
    let s := if writeStatus s who index sub value = 0 then schedStatus s (tableStatus s index sub value) else s
    done (command s who index sub value (tableCheck index sub value) (tableApply index sub value))
  else done s

/-- SECTOR_SERVICE takes 0 or 1. -/
def sectorServiceCheck (value : Octets) : Nat := require (beNat value ≤ 1) stRange

/-- The effect of SECTOR_SERVICE: the service state follows (R141). -/
def sectorServiceApply (bandSector : Nat) (value : Octets) (s : State) : State :=
  refreshService (setObj s 0x4140 bandSector value) bandSector

/-- R141: SECTOR_SERVICE takes a band-sector out of service or back in. -/
def execSectorServiceWrite (who : Caller) (bandSector value : Nat) (s : State) : Host.Outcome State Fault Refusal :=
  let v := [byte value]
  done (command s who 0x4140 bandSector v (fun _ => sectorServiceCheck v) (sectorServiceApply bandSector v))

/-- R144: the command clears all SCHED_COUNTERS. -/
def execSchedCountersClear (who : Caller) (s : State) : Host.Outcome State Fault Refusal :=
  done (command s who 0x4151 0 [byte 0] (fun _ => 0) (fun s => clearCounters s 0x4150))

end Sys2Proof.Machine
end

