-- ==== Sys2Proof/Machine/Threads.lean ====
section
/-! DEFINITION. The thread registers, application queues, sending, the SEC and EVT mailboxes, the thread commands and
the observation of the task scheduler (R352 to R369). -/

namespace Sys2Proof.Machine

/-- A register access of the thread that runs on a core; nothing where the core runs none. -/
def onThread (s : State) (core : Nat) (f : Nat → Thread → State) : Host.Outcome State Fault Refusal :=
  if coreHalted s core then done s
  else match runningOn s core with
    | some tid => match threadOf s tid with
      | some t => done (f tid t)
      | none => done s
    | none => done s

/-- The running thread gives up its core (Table 13-2): `f` is what becomes of it. -/
def yieldCore (s : State) (core kind tid : Nat) (f : State → State) : State := takeNext (f (leaveCore s core)) core kind tid

/- Life of a thread (R352 to R354). -/

/-- R354: a write of CREATE creates a thread from its block; CC0 (core 0) creates LSF threads (log entry 13). -/
def execThreadCreate (core addr : Nat) (s : State) : Host.Outcome State Fault Refusal :=
  let block := appRead s addr 32
  if core = 0 then done (if lsfRuns s.power.dev then (createThread s true block).1 else s)
  else onThread s core (fun tid t =>
    let (s, made) := if inWindow addr 32 then createThread s t.lsf block else (s, none)
    updThread s tid (fun x => { x with createResult := made.getD 0xFF }))

/-- R354: a write of EXIT frees the running thread. -/
def execThreadExit (core : Nat) (s : State) : Host.Outcome State Fault Refusal :=
  onThread s core (fun tid _ => yieldCore (orphanMail s tid) core 0 tid (fun s => freeThread s tid))

/-- Another eligible thread of equal or higher priority is READY for the core (R357). -/
def rivalReady (s : State) (core prio : Nat) : Bool :=
  (readyOrder s).any (fun t => eligible s core t && prioOf s t ≤ prio)

/-- R357: YIELD moves the thread to the tail of its list, or returns at once without a rival. -/
def execThreadYield (core : Nat) (s : State) : Host.Outcome State Fault Refusal :=
  onThread s core (fun tid t =>
    if rivalReady s core t.prio then yieldCore s core 1 tid (fun s => readyTail s tid) else s)

/-- R354: a read of BLOCK returns pending bits at once, or blocks the thread. -/
def execThreadBlock (core mask : Nat) (s : State) : Host.Outcome State Fault Refusal :=
  let m := mask % 2 ^ 16
  onThread s core (fun tid t =>
    let woken := t.pending &&& m
    if woken ≠ 0 then updThread s tid (fun x => { x with pending := x.pending ^^^ woken, result := woken })
    else yieldCore s core 0 tid (fun s => updThread s tid (fun x => { x with state := .blocked, waitMask := m })))

/-- R360: FLAGS_SET ORs flags into a thread's FLAGS and raises its source 4. -/
def execFlagsSet (core value : Nat) (s : State) : Host.Outcome State Fault Refusal :=
  let target := value / 2 ^ 56 % 256
  onThread s core (fun _ _ =>
    if (threadOf s target).isSome then
      raiseSource (updThread s target (fun x => { x with flags := x.flags ||| value % 2 ^ 32 })) target 4
    else s)

/-- R360: a read of FLAGS_TAKE returns the thread's FLAGS and clears them. -/
def execFlagsTake (core : Nat) (s : State) : Host.Outcome State Fault Refusal :=
  onThread s core (fun tid _ => updThread s tid (fun x => { x with result := x.flags, flags := 0 }))

/-- R360: a write of TIMER arms the thread's timer; 0 cancels it. -/
def execTimerSet (core time : Nat) (s : State) : Host.Outcome State Fault Refusal :=
  onThread s core (fun tid _ => updThread s tid (fun x => { x with timer := time % 2 ^ 64 }))

/-- R360: domain time reaches a thread's TIMER: source 3. -/
def execThreadTimerExpiry (tid : Nat) (s : State) : Host.Outcome State Fault Refusal :=
  match threadOf s tid with
  | some t =>
    if t.timer ≠ 0 ∧ t.timer ≤ domainTime s then
      done (raiseSource (updThread s tid (fun x => { x with timer := 0 })) tid 3)
    else done s
  | none => done s

/-- A priority change: a READY thread goes to the tail of its new list, its wait running on; a running one may be
preempted (R357). -/
def setPriority (s : State) (tid prio : Nat) : State :=
  let s := accountAll s
  match threadOf s tid with
  | some t =>
    if t.state = .ready then
      let s := readyTail (updThread (unlist s tid) tid (fun x => { x with prio := prio })) tid
      settle (updThread s tid (fun x => { x with readySince := t.readySince }))
    else settle (updThread s tid (fun x => { x with prio := prio }))
  | none => s

/-- R357: a write of PRIO changes the thread's own priority, within the range of its kind (R352). -/
def execThreadPrioWrite (core prio : Nat) (s : State) : Host.Outcome State Fault Refusal :=
  onThread s core (fun tid t =>
    if (t.lsf ∧ prio ≤ 7) ∨ (!t.lsf ∧ 8 ≤ prio ∧ prio ≤ 31) then setPriority s tid prio else s)

/-- The oldest applied READING record of a source, and the rest; with none, a free value (log entry 77). -/
def takeReading (s : State) (source : Nat) : Nat × State :=
  match s.threads.readings.find? (fun r => r.1 = source) with
  | some r => (r.2, { s with threads := { s.threads with readings := s.threads.readings.erase r } })
  | none => (freeNow s % 2 ^ 64, drewFree s)

/-- R359: a read of DTIME: journaled by the active chip, taken from the journal by a follower. -/
def execDtimeRead (core : Nat) (s : State) : Host.Outcome State Fault Refusal :=
  onThread s core (fun tid _ =>
    let put := fun (s : State) v => updThread s tid (fun x => { x with result := v })
    if shadows s then put (takeReading s 1).2 (takeReading s 1).1
    else put (journal s 0 (.reading 1 (domainTime s))) (domainTime s % 2 ^ 64))

/-- R359: a read of RANDOM: two words of the TRNG, consumer 4. -/
def execRandomRead (core : Nat) (s : State) : Host.Outcome State Fault Refusal :=
  onThread s core (fun tid _ =>
    let (w, s) := drawWords s 4 2
    updThread s tid (fun x => { x with result := (w.getD 0 0 % 2 ^ 32) * 2 ^ 32 + w.getD 1 0 % 2 ^ 32 }))

/- Application queues and sending (R362). -/

/-- The 32-octet header of a frame of an application queue (Table 7-3): NEXT names a burst-buffer block, which the spec
does not number. -/
def appHeader (p : QPacket) (next : Nat) : Octets :=
  [byte 0x40] ++ beOctets 3 15 ++ [byte (p.cls * 32 + bitNat p.ackReq * 16 + bitNat p.cutThrough * 8), byte p.mode] ++
    beOctets 2 p.length ++ beOctets 4 next ++ beOctets 4 p.source ++ beOctets 8 p.enqTime ++ beOctets 4 p.expiry ++ zeros 4

/-- TID of binding k of APP_BIND, where it is used. -/
def boundTid (s : State) (k : Nat) : Option Nat :=
  if objField s 0xB010 0 (4 * k) 2 ≠ 0 then some (objField s 0xB010 0 (4 * k + 2) 1) else none

/-- Set APQ_RESULT of a queue. -/
def apqResult (s : State) (tid queue v : Nat) : State :=
  updThread s tid (fun x => { x with apqResult := FMap.put x.apqResult queue v })

/-- R362: APQ_TAKE copies the head frame of an application queue, header first, and unlinks it. -/
def execApqTake (core queue addr : Nat) (s : State) : Host.Outcome State Fault Refusal :=
  onThread s core (fun tid _ =>
    if 64 ≤ queue then s
    else if boundTid s queue ≠ some tid ∨ !inWindow addr 2080 then apqResult s tid queue 0xFFFF
    else match FMap.getD s.threads.queues queue [] with
      | [] => apqResult s tid queue 0
      | k :: l => match packetOf s k with
        | some p =>
          let next := if l.isEmpty then 0xFFFFFFFF else freeNow s % 2 ^ 32
          let s := appWrite (drewFree s) addr (appHeader p next ++ p.data)
          let s := dropUnlinked { s with threads := { s.threads with queues := FMap.putD s.threads.queues queue l [] } } k
          apqResult s tid queue (32 + p.data.length)
        | none => apqResult { s with threads := { s.threads with queues := FMap.putD s.threads.queues queue l [] } } tid queue 0)

/-- A packet of an application thread as the pipeline sees it (R362). -/
def threadPacket (cls : Nat) (data : Octets) : Packet :=
  { ingress := .ctl, src := sliceOf data 8 16, dst := sliceOf data 24 16, macEui := [], sourceHandle := 0xFFFFFFFF,
    hopLimit := fieldOf data 7 1, dscp := fieldOf data 0 2 / 64 % 64, cls := cls, dispatchOk := true, fragment := none,
    ackRequested := false, cutThrough := false, poison := false, airClass := none, mode := 0, data := data }

/-- Admit a new packet at once, noting a refusal (R184). -/
def admitNew (x : State × Bool) (k : Nat) : State × Bool :=
  match packetOf x.1 k with
  | some p => (admitWhole x.1 k p, x.2 || (match (judge x.1 p).1 with
      | .out _ refused => refused
      | .accept => false))
  | none => x

/-- A thread's packet through the pipeline and the admission of what it enqueues: whether a resource was lacking (R184). -/
def submitPacket (s : State) (p : Packet) : State × Bool :=
  let t := takePacket s p
  ((List.range (t.queues.nextPacket - s.queues.nextPacket)).map (· + s.queues.nextPacket)).foldl admitNew (t, false)

/-- R362: ENQ_SUBMIT enters a packet from port 15; on a follower it is discarded (R305). -/
def execEnqSubmit (core addr : Nat) (s : State) : Host.Outcome State Fault Refusal :=
  let cls := fieldOf (appRead s addr 8) 0 1
  let len := fieldOf (appRead s addr 8) 2 2
  onThread s core (fun tid _ =>
    let result := fun (s : State) v => updThread s tid (fun x => { x with enqResult := v })
    if cls < 2 ∨ 7 < cls ∨ 2047 < len ∨ !inWindow addr (8 + len) then result s 1
    else
      let data := appRead s (addr + 8) len
      if s.power.dev = .follower then result s 0
      else match submitPacket s (threadPacket cls data) with
        | (s, true) => updThread s tid (fun x => { x with enqResult := 2, enqWait := some cls })
        | (s, false) => result (journal s 0 (.threadOut false (beOctets 1 cls ++ data))) 0)

/- Mailboxes (R363). -/

/-- Outstanding requests of a core. -/
def mailCount (s : State) (core : Nat) : Nat := (s.threads.mail.filter (fun p => p.2.core = core)).length

/-- Submit a request block: beyond 64 on the core, or refused by its own rule, it is completed at once with 0xFFFE. -/
def mailSubmit (s : State) (core tid addr target : Nat) (job : State → Option (State × Option Nat × Option (Nat × Octets))) :
    State :=
  if !inWindow addr 64 then s
  else
    let refuse := fun (s : State) => raiseSource (appWrite (mailStatus s addr 0xFFFE) (addr + 32) (zeros 4)) tid 2
    if 64 ≤ mailCount s core then refuse s
    else match job (mailStatus s addr 0xFFFF) with
      | none => refuse s
      | some (s, j, result) =>
        let m : MailRequest := { core := core, tid := tid, addr := addr, target := target, job := j, result := result }
        { s with threads := { s.threads with
            mail := FMap.put s.threads.mail s.threads.nextMail m, nextMail := s.threads.nextMail + 1 } }

/-- Input of a request block. -/
def mailInput (s : State) (b : Octets) : Octets := appRead s (fieldOf b 8 8) (fieldOf b 16 4)

/-- Input and output of a block lie in application thread memory. -/
def mailPlaces (b : Octets) : Bool :=
  (fieldOf b 16 4 = 0 || inWindow (fieldOf b 8 8) (fieldOf b 16 4)) &&
    (fieldOf b 32 4 = 0 || inWindow (fieldOf b 24 8) (fieldOf b 32 4))

/-- The cipher request of a SEC block: ops 3 to 7 under a general slot, tier 5 (R363). ARGS holds the IV (12 octets), the
initial counter (16) or the tag length (1); a tag to verify ends the input (log entry 35). -/
def secRequest (s : State) (b : Octets) : Option CipherRequest :=
  let op := fieldOf b 0 1
  let h := fieldOf b 36 2
  let input := mailInput s b
  let n := if op = 4 then 16 else fieldOf b 40 1
  let cut := input.length - n
  if op < 3 || 7 < op || h < 12 || 63 < h || !mailPlaces b then none
  else some {
    op := op, keyBits := 8 * ((slotValue s h).getD []).length, handle := h, island := 1, path := none, tier := 5, unit := 0
    tagLen := if op = 5 then 0 else if op = 3 || op = 4 then 16 else n
    nonce := if op = 5 then sliceOf b 40 16 else if op = 3 || op = 4 then sliceOf b 40 12 else []
    header := [], payload := if op = 4 || op = 7 then input.take cut else input
    tag := if op = 4 || op = 7 then input.drop cut else []
    decrypt := slotUse s h = 1, poisonIn := false, engineFault := false, counter := 0, fcOrder := 0 }

/-- R363: a SEC request starts a cipher job at tier 5 on a serving engine. -/
def execMailboxSecSubmit (core addr : Nat) (s : State) : Host.Outcome State Fault Refusal :=
  onThread s core (fun tid _ => mailSubmit s core tid addr 0 (fun s =>
    (secRequest s (appRead s addr 64)).map (fun r =>
      (startJob (drewFree s) (macsecEngine s) r, some s.cipher.nextJob, none))))

/-- R363: an EVT request records an event of 0x0F00 to 0x0FFF, from island 31 and the thread, severity 6
(R415, Table 15-6). -/
def execMailboxEvtSubmit (core addr : Nat) (s : State) : Host.Outcome State Fault Refusal :=
  onThread s core (fun tid _ => mailSubmit s core tid addr 2 (fun s =>
    let b := appRead s addr 64
    let code := fieldOf b 40 2
    if fieldOf b 0 1 = 1 ∧ 0x0F00 ≤ code ∧ code ≤ 0x0FFF then
      some (recordFrom s code 6 31 tid (fieldOf b 42 4) (fieldOf b 46 4) (fieldOf b 50 4),
        none, some (0, []))
    else none))

/-- R363: a request with its result completes: STATUS, output, OUT_LEN, source 2. -/
def execMailboxComplete (number : Nat) (s : State) : Host.Outcome State Fault Refusal :=
  match FMap.find s.threads.mail number with
  | some m => match m.result with
    | some (st, v) =>
      let s := { s with threads := { s.threads with mail := FMap.del s.threads.mail number } }
      done (raiseSource (mailOutput (mailStatus s m.addr st) m.addr v) m.tid 2)
    | none => done s
  | none => done s

/- Wake sources, slices and exceptions. -/

/-- R360: a wake source is raised for an application thread; sources 7 to 15 never, source 1 only where an ENQ_SUBMIT was
refused. -/
def execWakeSourceRaise (tid source : Nat) (s : State) : Host.Outcome State Fault Refusal :=
  match threadOf s tid with
  | some t =>
    if t.lsf ∨ 7 ≤ source ∨ (source = 1 ∧ t.enqWait.isNone) then done s
    else
      let s := if source = 1 then updThread s tid (fun x => { x with enqWait := none }) else s
      done (raiseSource s tid source)
  | none => done s

/-- R357: a thread whose slice has run out is rotated while a thread of its priority is eligible on its core. -/
def execSliceExpire (core : Nat) (s : State) : Host.Outcome State Fault Refusal :=
  onThread s core (fun tid t =>
    if t.slice ≠ 0 ∧ t.runSince + t.slice * 100000 ≤ s.now ∧ (readyList s t.prio).any (eligible s core) then
      yieldCore s core 3 tid (fun s => readyTail s tid)
    else s)

/-- R364: an exception of an application thread puts it into FAULTED and frees its core. -/
def execThreadException (core mcause pc : Nat) (s : State) : Host.Outcome State Fault Refusal :=
  onThread s core (fun tid t =>
    let s := ptraceRec s 1 core tid pc mcause
    if t.lsf then s
    else
      let s := recordFrom s 0x0050 (Config.eventSeverity 0x0050 % 8) 31 tid tid mcause (pc % 2 ^ 32)
      yieldCore s core 6 tid (fun s => updThread s tid (fun x => { x with state := .faulted })))

/- Thread commands (R352, R354, R357). -/

/-- THREAD_CMD names a thread of 64 to 255, in one of the states its command takes. -/
def threadCheck (tid : Nat) (from_ : List ThreadState) (s : State) : Nat :=
  if tid < 64 ∨ 255 < tid then stRange
  else match threadOf s tid with
    | some t => require (from_.contains t.state) stState
    | none => stState

/-- One THREAD_CMD. -/
def threadCommand (s : State) (who : Caller) (tid code arg : Nat) (from_ : List ThreadState) (ok : Bool)
    (act : State → State) : Host.Outcome State Fault Refusal :=
  done (command s who 0xB002 0 [byte tid, byte code, byte arg]
    (fun s => firstOf [threadCheck tid from_ s, require ok stRange]) act)

/-- Suspend: out of its list, slot or core, WAS_BLOCKED from BLOCKED. -/
def suspendThread (tid : Nat) (s : State) : State :=
  let blocked : Bool := ((threadOf s tid).map (fun t => decide (t.state = .blocked))).getD false
  stopThread s tid 0 (fun s => updThread s tid (fun x => { x with state := .suspended, wasBlocked := blocked }))

/-- Resume: READY at the tail, or BLOCKED again where it was and nothing it waits for came meanwhile (R357). -/
def resumeThread (tid : Nat) (s : State) : State :=
  match threadOf s tid with
  | some t =>
    let woken := t.pending &&& t.waitMask
    if t.wasBlocked ∧ woken = 0 then updThread s tid (fun x => { x with state := .blocked, wasBlocked := false })
    else
      let s := accountAll s
      let s := updThread s tid (fun x => { x with
        wasBlocked := false, waitMask := if t.wasBlocked then 0 else x.waitMask
        pending := if t.wasBlocked then x.pending ^^^ woken else x.pending
        result := if t.wasBlocked then woken else x.result })
      settle (readyTail s tid)
  | none => s

/-- A change of affinity: a running thread whose core no longer serves it is preempted (R357). -/
def setAffinity (tid mask : Nat) (s : State) : State :=
  let s := updThread (accountAll s) tid (fun x => { x with aff := affinityOf mask })
  match coreOf s tid with
  | some c => settle (if (affinityOf mask).contains c then s else takeNext (readyHead (leaveCore s c) tid) c 2 tid)
  | none => settle { s with threads := { s.threads with slots := s.threads.slots.keep (fun _ t => t != tid) } }

/-- The states of a thread that is not FREE. -/
def usedStates : List ThreadState := [.ready, .running, .blocked, .suspended, .faulted]

/-- R354: THREAD_CMD 1 suspends an application thread. -/
def execThreadSuspend (who : Caller) (tid : Nat) (s : State) : Host.Outcome State Fault Refusal :=
  threadCommand s who tid 1 0 [.ready, .running, .blocked] true (suspendThread tid)

/-- R354: THREAD_CMD 2 resumes a suspended thread. -/
def execThreadResume (who : Caller) (tid : Nat) (s : State) : Host.Outcome State Fault Refusal :=
  threadCommand s who tid 2 0 [.suspended] true (resumeThread tid)

/-- R354: THREAD_CMD 3 frees a thread, aborting its mailbox requests. -/
def execThreadKill (who : Caller) (tid : Nat) (s : State) : Host.Outcome State Fault Refusal :=
  threadCommand s who tid 3 0 usedStates true (fun s => killThread s tid)

/-- R357: THREAD_CMD 4 sets a thread's priority, 8 to 31 (R352). -/
def execThreadPriorityCmd (who : Caller) (tid prio : Nat) (s : State) : Host.Outcome State Fault Refusal :=
  threadCommand s who tid 4 prio usedStates (8 ≤ prio && prio ≤ 31) (fun s => setPriority s tid prio)

/-- R357: THREAD_CMD 5 sets a thread's affinity, at least one core (R353). -/
def execThreadAffinityCmd (who : Caller) (tid mask : Nat) (s : State) : Host.Outcome State Fault Refusal :=
  threadCommand s who tid 5 mask usedStates (!(affinityOf mask).isEmpty) (setAffinity tid mask)

/-- R365: APP_RESTART. -/
def execAppRestart (who : Caller) (value : Nat) (s : State) : Host.Outcome State Fault Refusal :=
  done (command s who 0xB012 0 (beOctets 1 value) (fun _ => 0) (fun s => startApplication s 2))

/- Observation (R366 to R369). -/

/-- A mode of SCHED_OBS. -/
def schedObsCheck (v : Nat) : Nat := require (v ≤ 2) stRange

/-- A change of mode clears the outputs of the old one (R366); a new statistics window begins. -/
def schedObsApply (v : Nat) (s : State) : State :=
  if objN s 0xB020 0 = v then s
  else setObjN { s with threads := { s.threads with
    trace := [], published := [], windowAt := s.now
    stats := schedCores.map (fun c => (c, { since := s.now })) } } 0xB020 0 1 v

/-- R366: SCHED_OBS selects the observation mode. -/
def execSchedObsWrite (who : Caller) (value : Nat) (s : State) : Host.Outcome State Fault Refusal :=
  done (command s who 0xB020 0 (beOctets 1 value) (fun _ => schedObsCheck (value % 256)) (schedObsApply (value % 256)))

/-- A trace record (Table 13-8). -/
def TraceRecord.octets (r : TraceRecord) : Octets :=
  beOctets 6 r.time ++ [byte (r.kind * 32 + r.core * 8), byte r.sources, byte r.tidOut, byte r.tidIn,
    byte (r.prioIn * 8 + bitNat r.fast * 4), byte (r.prioOut * 8)] ++ beOctets 2 r.depth ++ beOctets 2 r.seq

/-- Oldest surviving trace record. -/
def traceOldest (s : State) : Nat := (s.threads.trace.head?.map (·.1)).getD s.threads.traceNext

/-- Latch the 8 records from a sequence number, or from the oldest surviving one (R368). -/
def traceCursorApply (who : Caller) (v : Nat) (s : State) : State :=
  let first := max v (traceOldest s)
  let records := (List.range 8).map (fun i =>
    ((FMap.find s.threads.trace (first + i)).map TraceRecord.octets).getD (zeros 16))
  let s := setWindow (setCursor s who 0xB022 (beOctets 4 v)) who 0xB023 records.flatten
  setViews s who { viewsOf s who with traceSkipped := first - v }

/-- R368: TRACE_CURSOR latches TRACE_WINDOW. -/
def execTraceCursorWrite (who : Caller) (value : Nat) (s : State) : Host.Outcome State Fault Refusal :=
  done (command s who 0xB022 0 (beOctets 4 value) (fun _ => 0) (traceCursorApply who (value % 2 ^ 32)))

/-- CTL cycles of a time in ns, at 800 MHz. -/
def ctlCycles (ns : Nat) : Nat := ns * 4 / 5

/-- A core's record of a window (Table 13-9). -/
def CoreStats.octets (c : CoreStats) (window : Nat) : Octets :=
  beOctets 4 window ++ beOctets 4 (ctlCycles c.lsfNs) ++ beOctets 4 (ctlCycles c.appNs) ++ beOctets 4 (ctlCycles c.idleNs) ++
    beOctets 2 c.depthMax ++ beOctets 2 (c.depthSum * 256 / max 1 c.depthSamples) ++ beOctets 4 c.waitMax ++
    beOctets 4 (c.waitSum / max 1 c.dispatches) ++ beOctets 2 c.dispatches ++ beOctets 2 c.preempts

/-- R369: at the end of a STAT_WINDOW every core publishes its statistics. -/
def execStatWindowEnd (s : State) : Host.Outcome State Fault Refusal :=
  if objN s 0xB020 0 = 2 ∧ s.threads.windowAt + objN s 0xB030 0 * 1000000 ≤ s.now then
    let s := accountAll s
    let n := s.threads.windowNo
    done { s with threads := { s.threads with
      published := schedCores.map (fun c => (c, (FMap.getD s.threads.stats c {}).octets n))
      stats := schedCores.map (fun c => (c, { since := s.now }))
      windowAt := s.now, windowNo := (n + 1) % 2 ^ 32 } }
  else done s

end Sys2Proof.Machine
end

