-- ==== Sys2Proof/Machine/Update.lean ====
section
/-! DEFINITION. The chip update: the update buffer, the checks, the building of the inactive bank, its verification, and the
bank commands (R331 to R335, R351). -/

namespace Sys2Proof.Machine

/-- Size of the chip update buffer. -/
def bufferSize : Nat := 16777216

/- The buffer. -/

/-- An UPDATE_DATA write lies inside the buffer. -/
def updateDataCheck (at_ : Nat) (data : Octets) : Nat := require (at_ + data.length ≤ bufferSize) stRange

/-- Octets are stored at an offset of the buffer, and UPDATE_OFFSET follows them (R332). -/
def updateDataApply (at_ : Nat) (data : Octets) (s : State) : State :=
  setObjN { s with image := { s.image with buffer := s.image.buffer.writeAll at_ data } } 0x8010 0 4 (at_ + data.length)

/-- R332: a write of UPDATE_DATA. -/
def execUpdateDataWrite (who : Caller) (data : Octets) (s : State) : Host.Outcome State Fault Refusal :=
  done (command s who 0x8011 0 data (fun s => updateDataCheck (objN s 0x8010 0) data)
    (fun s => updateDataApply (objN s 0x8010 0) data s))

/-- The buffer as an image or a delta. -/
def bufferReader (s : State) : Reader := s.image.buffer.readAll

/- The delta (R331, Table 12-9). -/

/-- The buffer holds a delta. -/
def isDelta (s : State) : Bool := imgN (bufferReader s) 0 4 = 0x454C4431

/-- TYPE of the buffer's contents. -/
def updType (s : State) : Nat := imgType (bufferReader s)

/-- TARGET_LEN, or the image's own length. -/
def targetLength (s : State) : Nat := if isDelta s then imgN (bufferReader s) 12 4 else imgLength (bufferReader s)

/-- Octets of the contents: DELTA_LEN or IMAGE_LEN. -/
def contentsLength (s : State) : Nat := imgN (bufferReader s) 8 4

/-- DELTA_ID: first 16 octets of the SHA-256 of the buffer contents (Table 12-10). -/
def deltaId (s : State) : Octets := (sha256 (bufferReader s 0 (min bufferSize (contentsLength s)))).take 16

/-- Blocks of 64 KiB of a length. -/
def blocksOfLength (n : Nat) : Nat := (n + 65535) / 65536

/-- One operation of a delta: OP, LENGTH, ARG and the offset of its literal octets. -/
abbrev DeltaOp := Nat × Nat × Nat × Nat

/-- The operations of a block record from an offset, with the offset after them. -/
def deltaOps (h : Reader) : Nat → Nat → List DeltaOp × Nat
  | 0, off => ([], off)
  | n + 1, off =>
    let op := imgN h off 1
    let len := imgN h (off + 1) 3
    let (l, e) := deltaOps h n (off + 8 + (if op = 3 then len else 0))
    ((op, len, imgN h (off + 4) 4, off + 8) :: l, e)

/-- An operation of block `i` is one of the four, and copies from where it may (R331). -/
def deltaOpOk (source i : Nat) (o : DeltaOp) : Bool :=
  match o.1 with
  | 1 => o.2.2.1 + o.2.1 ≤ source
  | 2 => o.2.2.1 + o.2.1 ≤ 65536 * i
  | 3 => true
  | 4 => true
  | _ => false

/-- Octets of block `i` of a target. -/
def blockLength (target i : Nat) : Nat := min 65536 (target - 65536 * i)

/-- The block records from block `i` on have ascending numbers, lengths that add up and permitted operations; the offset
after the last. REC_LEN counts the whole record (log entry 32). -/
def deltaWalk (h : Reader) (source target : Nat) : Nat → Nat → Nat → Option Nat
  | 0, _, off => some off
  | n + 1, i, off =>
    let ops := deltaOps h (imgN h (off + 2) 2) (off + 16)
    if imgN h off 2 = i ∧ imgN h (off + 4) 4 = ops.2 - off ∧ ops.1.all (deltaOpOk source i) ∧
        sumOf (ops.1.map (fun o => o.2.1)) = blockLength target i then
      deltaWalk h source target n (i + 1) ops.2
    else none

/-- Format of a delta. -/
def deltaFormat (s : State) : Bool :=
  let h := bufferReader s
  let t := targetLength s
  (updType s = 1 || updType s = 2) && 160 ≤ contentsLength s && contentsLength s ≤ bufferSize && 1 ≤ t &&
    t ≤ partMax (updType s) &&
    deltaWalk h (partLength (runningBank s) (updType s)) t (blocksOfLength t) 0 96 = some (contentsLength s - 64)

/-- Offset of the record of block `i`. -/
def deltaRecord (h : Reader) : Nat → Nat → Nat
  | 0, off => off
  | n + 1, off => deltaRecord h n (deltaOps h (imgN h (off + 2) 2) (off + 16)).2

/-- KEY_ID of the contents. -/
def updKeyId (s : State) : Nat := imgN (bufferReader s) (if isDelta s then 86 else 22) 1

/-- SEC_VERSION of the target. -/
def updSecVersion (s : State) : Nat := if isDelta s then imgN (bufferReader s) 84 2 else imgSecVersion (bufferReader s)

/- The checks of R332. -/

/-- The chip updates in these states only. -/
def updStateOk (s : State) : Bool := servesSop s && !s.image.trial

/-- Code of Table 12-11 of the first check that fails, 0 where all pass (R332). -/
def updateCheck (s : State) : Nat :=
  let h := bufferReader s
  let typ := updType s
  firstOf [
    require (updStateOk s) 8,
    require (if isDelta s then deltaFormat s else (typ = 1 || typ = 2) && imgFormat h typ) 1,
    require (isDelta s || imgProduct h) 3,
    require (!(typ = 2 && objN s 0x8022 0 = 0)) 9,
    require ((if typ = 2 then updKeyId s = 0xFF else updKeyId s ≤ 3) && signatureOk s h (updKeyId s) (contentsLength s)) 2,
    require (!isDelta s || h 16 32 = partDigest (runningBank s) typ) 4,
    require (s.image.minSec ≤ updSecVersion s) 5]

/-- UPDATE_STATUS state and code. -/
def updStatus (s : State) (state code : Nat) : State :=
  { s with image := { s.image with updState := state, updCode := code } }

/-- The update ends with a code; event 0x8021 (R332, R333). -/
def updateEnds (s : State) (code block : Nat) : State := record (updStatus s 5 code) 0x8021 code block 0

/-- The bank being written leaves WRITING without success (R335). -/
def rejectBank (s : State) (k : Nat) : State :=
  setBankState { s with image := { s.image with journal := none } } k .rejected

/- The build (R333, R334). -/

/-- IMAGE_LEN of a part of the bank to be built. -/
def builtLength (s : State) (typ : Nat) : Nat := if typ = updType s then targetLength s else partLength (runningBank s) typ

/-- Blocks in the bank to be built: up to the end of its last part (log entry 32). -/
def builtBlocks (s : State) : Nat :=
  let app := builtLength s 2
  if app = 0 then blocksOfLength (builtLength s 1) else 160 + blocksOfLength app

/-- First 16 octets of the running part's digest, which Table 12-10 keeps as SOURCE_ID. -/
def sourceId (s : State) (typ : Nat) : Octets := (partDigest (runningBank s) typ).take 16

/-- Begin a build afresh: the journal header is written and the bank is WRITING. -/
def startBuild (s : State) : State :=
  let h := bufferReader s
  let typ := updType s
  let k := otherBank s.image.running
  let j : DeltaJournal := {
    deltaId := deltaId s, sourceId := sourceId s typ, bank := k, typ := typ, blocks := builtBlocks s, done := []
    targetId := if isDelta s then h 48 16 else (sha256 (h 0 (contentsLength s))).take 16 }
  let keeps := typ = 2 && (runningBank s).factory
  let s := updBank s k (fun b => { b with factory := keeps })
  updStatus (setBankState { s with image := { s.image with journal := some j } } k .writing) 2 0

/-- Lowest block whose done word is not valid. -/
def nextBlock (j : DeltaJournal) : Nat := ((List.range j.blocks).find? (fun i => !j.done.contains i)).getD j.blocks

/-- The build goes on with its journal; event 0x8022 (R334). -/
def resumeBuild (s : State) (j : DeltaJournal) : State := record (updStatus s 2 0) 0x8022 j.bank (nextBlock j) j.blocks

/-- The journal's source is still the running part (R334). -/
def journalFits (s : State) (j : DeltaJournal) : Bool := j.sourceId = sourceId s j.typ

/-- UPDATE_CMD 1: the checks, then the build, resumed where the journal is of the same contents (R332 to R334). -/
def updateApplyNow (s : State) : State :=
  match updateCheck s with
  | 0 => match s.image.journal with
    | some j => if j.deltaId = deltaId s && journalFits s j then resumeBuild s j else startBuild s
    | none => startBuild s
  | e => updateEnds s e 0

/-- No update runs. -/
def updateIdle (s : State) : Nat := require (!(s.image.updState = 2 || s.image.updState = 3)) stBusy

/-- R332: UPDATE_CMD 1. -/
def execUpdateApply (who : Caller) (s : State) : Host.Outcome State Fault Refusal :=
  done (command s who 0x8012 0 [byte 1] updateIdle updateApplyNow)

/-- UPDATE_CMD 2: a build in progress leaves its bank REJECTED (R335). -/
def updateAbortNow (s : State) : State :=
  let s := match s.image.journal with
    | some j => rejectBank s j.bank
    | none => s
  updStatus s 0 0

/-- R351: UPDATE_CMD 2. -/
def execUpdateAbort (who : Caller) (s : State) : Host.Outcome State Fault Refusal :=
  done (command s who 0x8012 0 [byte 2] (fun _ => 0) updateAbortNow)

/-- UPDATE_CMD 3: the buffer is cleared. -/
def updateClearNow (s : State) : State := { s with image := { s.image with buffer := [] } }

/-- R351: UPDATE_CMD 3. -/
def execUpdateClearBuffer (who : Caller) (s : State) : Host.Outcome State Fault Refusal :=
  done (command s who 0x8012 0 [byte 3] updateIdle updateClearNow)

/-- Octets of the target as built so far in a bank. -/
def builtRead (s : State) (k typ off n : Nat) : Octets := bankRead (bankAt s k) typ off n

/-- What one operation gives. -/
def deltaOctets (s : State) (j : DeltaJournal) (o : DeltaOp) : Octets :=
  match o.1 with
  | 1 => bankRead (runningBank s) j.typ o.2.2.1 o.2.1
  | 2 => builtRead s j.bank j.typ o.2.2.1 o.2.1
  | 3 => bufferReader s o.2.2.2 o.2.1
  | _ => List.replicate o.2.1 (byte o.2.2.1)

/-- Block `i` of the target as the delta or the image gives it. -/
def targetBlock (s : State) (j : DeltaJournal) (i : Nat) : Octets :=
  let h := bufferReader s
  if isDelta s then
    let off := deltaRecord h i 96
    ((deltaOps h (imgN h (off + 2) 2) (off + 16)).1.map (deltaOctets s j)).flatten
  else h (65536 * i) (blockLength (targetLength s) i)

/-- BLOCK_DIGEST of a delta's block agrees. -/
def blockDigestOk (s : State) (i : Nat) (d : Octets) : Bool :=
  !isDelta s || (sha256 d).take 8 = bufferReader s (deltaRecord (bufferReader s) i 96 + 8) 8

/-- Part of a bank's block, and its number in the part. -/
def blockPart (i : Nat) : Nat × Nat := if i < 160 then (1, i) else (2, i - 160)

/-- Write a block of a bank. -/
def writeBlock (s : State) (k i : Nat) (d : Octets) : State :=
  updBank s k (fun b => { b with mem := (b.mem.clear (65536 * i) 65536).writeAll (65536 * i) d })

/-- The done word of a block is written; after the last block the target is verified. -/
def blockDone (s : State) (j : DeltaJournal) (i : Nat) : State :=
  let j := { j with done := j.done ++ [i] }
  let s := { s with image := { s.image with journal := some j } }
  if nextBlock j = j.blocks then updStatus s 3 0 else s

/-- One block: from the contents, or copied from the running bank (R333). -/
def buildBlock (s : State) (j : DeltaJournal) (i : Nat) : State :=
  let (typ, n) := blockPart i
  if typ = j.typ then
    let d := if n < blocksOfLength (targetLength s) then targetBlock s j n else []
    if n < blocksOfLength (targetLength s) && !blockDigestOk s n d then updateEnds (rejectBank s j.bank) 6 i
    else blockDone (writeBlock s j.bank i d) j i
  else if typ = 1 && (runningBank s).factory then blockDone (writeBlock s j.bank i []) j i
  else blockDone (writeBlock s j.bank i (bankRead (runningBank s) typ (65536 * n) 65536)) j i

/-- R333: UE0 builds, checks and writes a block and its done word. -/
def execUe0BlockBuilt (s : State) : Host.Outcome State Fault Refusal :=
  match s.image.journal with
  | some j =>
    if s.image.updState = 2 ∧ servesSop s ∧ nextBlock j < j.blocks then done (buildBlock s j (nextBlock j)) else done s
  | none => done s

/-- The target's digest and embedded signature are right (R333). -/
def targetOk (s : State) (j : DeltaJournal) : Bool :=
  let b := bankAt s j.bank
  (partDigest b j.typ).take 16 = j.targetId && partResult s b j.typ = 0

/-- The bank is READY, with event 0x8020, or REJECTED (R333). -/
def verifyBuilt (s : State) (j : DeltaJournal) : State :=
  if targetOk s j then
    let s := updBank s j.bank (fun b => { b with digest := (partDigest b 1).take 16 })
    let s := setBankState { s with image := { s.image with journal := none } } j.bank .ready
    record (updStatus s 4 0) 0x8020 j.bank (imgVersion (partReader (bankAt s j.bank) j.typ)) j.blocks
  else updateEnds (rejectBank s j.bank) 7 0

/-- R333: the image verifier finishes with the whole target. -/
def execUpdateFinalVerify (s : State) : Host.Outcome State Fault Refusal :=
  match s.image.journal with
  | some j => if s.image.updState = 3 ∧ servesSop s then done (verifyBuilt s j) else done s
  | none => done s

/-- An interrupted update: the journal is discarded where the running part has changed, else it goes on with its contents
(R334). -/
def updateAwaited (s : State) (j : DeltaJournal) : State :=
  if !journalFits s j then updStatus (rejectBank s j.bank) 0 0
  else if j.deltaId = deltaId s then resumeBuild s j else updStatus s 6 0

/-- R334: buffer contents that match the journal resume the build. -/
def execUpdateResume (s : State) : Host.Outcome State Fault Refusal :=
  match s.image.journal with
  | some j => if s.image.updState = 6 ∧ servesSop s then done (updateAwaited s j) else done s
  | none => done s

/- The bank commands (Table 12-12). -/

/-- The bank a switch or a roll-back goes to. -/
def notRunning (s : State) : Nat := otherBank s.image.running

/-- RUN_BANK is set to a bank, the claim is released and the chip resets (Table 12-12). -/
def runFrom (s : State) (k : Nat) (onTrial : Bool) : State :=
  let s := writeBoot { s with image := { s.image with runBank := k, trial := onTrial, trialCount := 0 } }
  internalReset s 5

/-- The other bank is READY. -/
def bankSwitchCheck (s : State) : Nat := require ((bankAt s (notRunning s)).state = .ready) stState

/-- BANK_CMD 1. -/
def bankSwitchApply (s : State) : State :=
  runFrom (updBank s (notRunning s) (fun b => { b with state := .trial })) (notRunning s) true

/-- R335: BANK_CMD 1. -/
def execBankSwitch (who : Caller) (s : State) : Host.Outcome State Fault Refusal :=
  done (command s who 0x8002 0 [byte 1] bankSwitchCheck bankSwitchApply)

/-- The trial bank is confirmed; event 0x8003 (Table 12-12). -/
def confirmTrial (s : State) : State :=
  let k := s.image.runBank
  let b := bankAt s k
  let s := { s with image := { s.image with
    trial := false, trialCount := 0, minSec := max s.image.minSec (bankSecVersion b) } }
  record (setBankState s k .confirmed) 0x8003 k (bankVersion b) (bankSecVersion b)

/-- A bank runs on trial. -/
def onTrialNow (s : State) : Bool := s.image.trial && s.image.running = s.image.runBank

/-- R335: BANK_CMD 2. -/
def execBankConfirm (who : Caller) (s : State) : Host.Outcome State Fault Refusal :=
  done (command s who 0x8002 0 [byte 2] (fun s => require (onTrialNow s) stState) confirmTrial)

/-- The running bank and the other are CONFIRMED, the other recent enough (Table 12-12). -/
def bankRollbackCheck (s : State) : Nat :=
  require ((runningBank s).state = .confirmed && (bankAt s (notRunning s)).state = .confirmed &&
    s.image.minSec ≤ bankSecVersion (bankAt s (notRunning s))) stState

/-- R335: BANK_CMD 3. -/
def execBankRollback (who : Caller) (s : State) : Host.Outcome State Fault Refusal :=
  done (command s who 0x8002 0 [byte 3] bankRollbackCheck (fun s => runFrom s (notRunning s) false))

/-- R351: BANK_CMD 4 restarts the chip. -/
def execBankRestart (who : Caller) (s : State) : Host.Outcome State Fault Refusal :=
  done (command s who 0x8002 0 [byte 4] (fun _ => 0) (fun s => internalReset s 5))

/-- R335: BANK_TRIAL_TIME in service without a fatal fault confirms the bank. -/
def execBankTrialTimeExpiry (s : State) : Host.Outcome State Fault Refusal :=
  match s.image.trialSince with
  | some t =>
    if onTrialNow s ∧ trialState s.power.dev ∧ t + objN s 0x8003 0 * 1000000000 ≤ s.now then done (confirmTrial s)
    else done s
  | none => done s

end Sys2Proof.Machine
end

