-- ==== Sys2Proof/Machine/Wired.lean ====
section
/-! DEFINITION. Wired egress, cut-through underruns, flushes, shaper configurations, gate lists and queue counters (R189 to
R191, R195, R198 to R200). -/

namespace Sys2Proof.Machine

/-- A head frame of a wired port that may be sent now, with its counted length and colour. -/
structure WirePick where
  packet : Nat
  lc : Nat
  colour : Colour
  deriving DecidableEq, Repr

/-- Judge the head of one class queue: expired heads dropped, the frame whole or cut through, its gate and its shaper
(R185, R189, R190, R198). -/
def judgeHead (port : Nat) (x : State × Option WirePick) (cls : Nat) : State × Option WirePick :=
  match x with
  | (s, some w) => (s, some w)
  | (s, none) =>
    let s := dropExpired s (classQueue s port cls)
    match (classQueue s port cls).head? with
    | none => (s, none)
    | some k => match packetOf s k with
      | none => (s, none)
      | some p =>
        if !p.complete && !mayCutThrough s p then (s, none)
        else
          let lc := wireLength s port p.length
          match gateResult s port p.cls lc with
          | .wait => (countQ s port 11, none)
          | .never => (removePacket (countQ s port 11) k, none)
          | .open_ =>
            let (colour, s) := consult s port p lc
            if colour = .red then (s, none) else (s, some { packet := k, lc := lc, colour := colour })

/-- The first eligible head of a port's class queues (R189). -/
def pickHead (s : State) (port : Nat) : State × Option WirePick := (List.range 8).foldl (judgeHead port) (s, none)

/-- Start a frame: sent whole, or begun before its LAST word (R189, R190). -/
def startWire (s : State) (port : Nat) (w : WirePick) : State :=
  match packetOf s w.packet with
  | some p =>
    let charged := chargeFrame s port p w.lc w.colour
    if p.complete then
      match wireOut charged port p with
      | (t, true) => removePacket (countQ t port 1) w.packet
      | (_, false) => s
    else
      let s := updPacket charged w.packet (fun q => { q with started := true })
      { s with queues := { s.queues with sending := FMap.put s.queues.sending port w.packet } }
  | none => s

/-- The oldest transit frame of a sett port goes before the port's own queues (R287). -/
def sendTransit (s : State) (sett : Nat) : Option State :=
  match (FMap.getD s.sett.ports sett {}).transit with
  | f :: l => some (emit (countS (updPort s sett (fun p => { p with transit := l })) sett 2) (.sett sett f))
  | [] => none

/-- R189: a wired port with nothing on its wire sends its next frame. -/
def execWiredEgressSelect (port : Nat) (s : State) : Host.Outcome State Fault Refusal :=
  if 9 ≤ port ∧ port ≤ 14 ∧ lsfRuns s.power.dev ∧ s.queues.sending.has port = false ∧ portReady s port then
    match sendTransit s (port - 10) with
    | some t => done (if port ≤ 10 then s else t)
    | none => match pickHead s port with
      | (s, some w) => done (startWire s port w)
      | (s, none) => done s
  else done s

/-- R190: the next word of a started cut-through frame is missing, or poisoned: the frame ends bad. -/
def execCutThroughUnderrun (port : Nat) (poison : Bool) (s : State) : Host.Outcome State Fault Refusal :=
  match FMap.find s.queues.sending port with
  | some k => match packetOf s k with
    | some p => done (endBad s port k p (if poison then 1 else 2))
    | none => done (clearSending s port)
  | none => done s

/- Flushes (R191). -/

/-- Packets of the queue a QUEUE_CURSOR value names. -/
def namedQueue (s : State) (v : Nat) : List Nat :=
  if v / 2 ^ 30 = 0 then nodeQueue s (v % 131072)
  else if v % 16 = 15 then appPackets s (v / 16 % 8)
  else classQueue s (v % 16) (v / 16 % 8)

/-- KIND 2 and 3 are reserved. -/
def flushCheck (v : Nat) : Nat := require (v / 2 ^ 30 < 2) stRange

/-- R191: the command empties the queue named as in QUEUE_CURSOR. -/
def execQueueFlush (who : Caller) (queue : Nat) (s : State) : Host.Outcome State Fault Refusal :=
  done (command s who 0x5132 0 (beOctets 4 queue) (fun _ => flushCheck (queue % 2 ^ 32))
    (fun s => flushAll s (namedQueue s (queue % 2 ^ 32))))

/- Shaper configurations (R195). -/

/-- A shaper's configuration as it persists: in the object store under the cursor it was written with (log entry 30). -/
def shaperStored (s : State) (n : Nat) : Octets := FMap.getD s.vals (0x1510000 + n) (zeros 20)

/-- Store it. -/
def storeShaper (s : State) (n : Nat) (c : Octets) : State :=
  { s with vals := FMap.putD s.vals (0x1510000 + n) c (zeros 20) }

/-- PIR is at least CIR and PBS at least CBS (R195). -/
def shaperCheck (c : Octets) : Nat := require (shaperCir c ≤ shaperPir c && shaperCbs c ≤ shaperPbs c) stRange

/-- An accepted configuration waits for the shaper's next consultation; event 0x4030 (R195). -/
def shaperApply (n : Nat) (c : Octets) (s : State) : State :=
  let s := updShaper (storeShaper s n c) n (fun x => { x with pending := some (c, timeUs s) })
  record s 0x4030 n (bitNat (shaperResetFull c)) (shaperCir c)

/-- The shaper a caller's SHAPER_CURSOR names. -/
def shaperCursor (s : State) (who : Caller) : Nat := beNat (cursorOf s who 0x5100) % 512

/-- R195: a shaper configuration write at the caller's cursor. -/
def execShaperCfgWrite (who : Caller) (config : Octets) (s : State) : Host.Outcome State Fault Refusal :=
  done (command s who 0x5101 0 config (fun _ => shaperCheck config) (shaperApply (shaperCursor s who) config))

/- Gate lists (R199). -/

/-- Window lengths of a GATE_AIR list. -/
def airWindows (g : Octets) : List Nat := (List.range (min 8 (fieldOf g 2 1))).map (fun i => fieldOf g (4 + 4 * i) 2)

/-- A GATE_AIR list: its windows fill the cycle, and its length is that of its windows (Table 7-10). -/
def gateAirOk (g : Octets) : Bool :=
  fieldOf g 2 1 ≤ 8 && g.length = 4 + 4 * fieldOf g 2 1 && sumOf (airWindows g) = fieldOf g 0 2

/-- A GATE_ETH list (Table 7-11). -/
def gateEthOk (g : Octets) : Bool :=
  let cycle := fieldOf g 8 4
  fieldOf g 12 1 ≤ 16 && g.length = 16 + 8 * fieldOf g 12 1 && (cycle = 0 || (1000 ≤ cycle && cycle ≤ 1000000000)) &&
    sumOf ((gateWindows g).map (·.1)) = cycle

/-- Object of a gate list. -/
def gateIndex (eth : Bool) : Nat := if eth then 0x5121 else 0x5120

/-- Key of a gate list: 1 to 9 the air ports, 17 and 18 ETH0 and ETH1. -/
def gateKey (eth : Bool) (sub : Nat) : Nat := if eth then 16 + sub else sub

/-- R199: the list's window lengths add up to its cycle. -/
def gateCheck (eth : Bool) (g : Octets) : Nat := require (if eth then gateEthOk g else gateAirOk g) stRange

/-- An accepted list waits for the first cycle start after it (R199). -/
def gateApply (eth : Bool) (sub : Nat) (g : Octets) (s : State) : State :=
  let s := setObj s (gateIndex eth) sub g
  { s with queues := { s.queues with gatesPending := FMap.put s.queues.gatesPending (gateKey eth sub) g } }

/-- R199: a GATE_AIR or GATE_ETH write. -/
def execGateWrite (who : Caller) (eth : Bool) (sub : Nat) (gate : Octets) (s : State) : Host.Outcome State Fault Refusal :=
  done (command s who (gateIndex eth) sub gate (fun _ => gateCheck eth gate) (gateApply eth sub gate))

/-- R199: at the first cycle start after an accepted write the new list takes effect; event 0x4031. -/
def execGateCycleStart (port : Nat) (s : State) : Host.Outcome State Fault Refusal :=
  let eth := 9 ≤ port
  let key := if eth then port + 8 else port + 1
  match FMap.find s.queues.gatesPending key with
  | some g =>
    let s := { s with queues := { s.queues with
      gates := FMap.put s.queues.gates key g, gatesPending := FMap.del s.queues.gatesPending key } }
    done (record s 0x4031 port (if eth then fieldOf g 8 4 else fieldOf g 0 2) (if eth then fieldOf g 12 1 else fieldOf g 2 1))
  | none => done s

/-- R200: the command clears all QUEUE_COUNTERS. -/
def execQueueCountersClear (who : Caller) (s : State) : Host.Outcome State Fault Refusal :=
  done (command s who 0x5141 0 [byte 0] (fun _ => 0) (fun s => clearCounters s 0x5140))

end Sys2Proof.Machine
end

