-- ==== Sys2Proof/Machine/ObjectRead.lean ====
section
/-! DEFINITION. Reading an object: who may, and the value an object shows at the instant of the read (R371 to R377, R389,
and the object table of each chapter). A computed object is read from the state that holds what it shows; every other
object is read from its stored value. -/

namespace Sys2Proof.Machine

/-- Octets of a list of 32-bit words. -/
def words (l : List Nat) : Octets := (l.map (beOctets 4)).flatten

/-- Bit sum of the numbers of a list below `n`. -/
def bitsOfList (l : List Nat) : Nat := sumOf ((l.eraseDups).map (fun n => 2 ^ n))

/-- A caller's view, zeros of a length before its cursor is written (log entry 70). -/
def viewOr (s : State) (who : Caller) (idx n : Nat) : Octets := FMap.getD (viewsOf s who).windows (objKey idx 0) (zeros n)

/-- The number a caller's cursor holds. -/
def cursorN (s : State) (who : Caller) (idx : Nat) : Nat := beNat (cursorOf s who idx)

/- Identity, sessions and radio (0x1000 to 0x2FFF). -/

/-- One record of SESSION_LIST (Table 14-12). -/
def sessionOctets (s : State) (sid : Nat) : Octets :=
  match FMap.find s.sop.sessions sid with
  | some x =>
    [byte sid, byte x.role, byte x.endpoint.transport, byte (if x.half then 1 else 2)] ++
      beOctets 4 ((s.now - x.activeAt) / 1000000000) ++ (x.endpoint.address ++ zeros 16).take 16
  | none => byte sid :: zeros 23

/-- Identity and session objects that are computed (Tables 1-16, 10-13 and 14-12). -/
def readIdentity (s : State) (idx : Nat) : Option Octets :=
  match idx with
  | 0x1000 => some (padTo 8 Config.deviceEui)
  | 0x1001 => some [byte s.keys.provGen]
  | 0x1003 => some (octetsOf [76, 77, 57, 54, 52, 48, 45, 70, 66, 49, 50, 50, 53])
  | 0x1004 => some (octetsOf [87, 101, 110, 114, 97, 109, 32, 83, 101, 109, 105, 99, 111, 110, 100, 117, 99, 116, 111, 114])
  | 0x1005 => some [byte Config.siliconStep]
  | 0x1006 => some (beOctets 2 Config.romVersion)
  | 0x1007 => some (beOctets 4 (bankVersion (bankAt s s.image.running)))
  | 0x1010 => some [byte s.power.dev.code]
  | 0x1011 => some (beOctets 4 s.power.degraded.toNat)
  | 0x1012 => some [byte s.power.lifecycle.code]
  | 0x1015 => some (beOctets 8 s.power.stateTime)
  | 0x1016 => some (beOctets 4 ((s.now - s.power.endOfStart) / 1000000000))
  | 0x1114 => some (([1, 2, 3, 4, 5, 6, 7, 8].map (sessionOctets s)).flatten)
  | 0x1116 => some ([0, 1, 2, 3, 4, 5, 6].map (fun t => byte (FMap.getD s.sop.failures t 0)))
  | _ => none

/-- Profile, clock and pin objects that are computed (Tables 1-16 and 14-12). -/
def readPower (s : State) (idx sub : Nat) : Option Octets :=
  match idx with
  | 0xC000 => some (beOctets 4 s.power.clockLock.toNat)
  | 0xC102 => some [byte (listGet s.power.effective (sub - 1) 0)]
  | 0xC104 => some (beOctets 2 (ofSigned 16 s.power.junction))
  | 0xC201 => some (beOctets 2 (pinStatus s))
  | _ => none

/-- An entry of LISTEN_SET (Table 2-3). -/
def listenOctets (s : State) (bs : Nat) (e : ListenEntry) : Octets :=
  beOctets 2 e.firstBin ++ [byte e.mode, byte (128 + bitNat (extendedOn s bs && familyOf e.mode = .fsk) * 64)]

/-- LISTEN_SET: the built set where LISTEN_AUTO, else the host's with EXTENDED as in force (R36, Table 2-3). -/
def listenShown (s : State) (bs : Nat) : Octets :=
  if objB s 0x2101 bs then ((listenSet s bs).map (listenOctets s bs)).flatten
  else
    let v := obj s 0x2102 bs
    ((List.range (v.length / 4)).map (fun i =>
      let e : ListenEntry := ⟨fieldOf v (4 * i) 2 % 512, fieldOf v (4 * i + 2) 1⟩
      (listenOctets s bs e).take 3 ++ [byte (fieldOf v (4 * i + 3) 1 / 128 * 128 + fieldOf (listenOctets s bs e) 3 1 % 128)])).flatten

/-- Receive and transmit objects that are computed (Tables 2-9 and 4-11). -/
def readRadio (s : State) (who : Caller) (idx sub : Nat) : Option Octets :=
  match idx with
  | 0x2102 => some (listenShown s sub)
  | 0x2103 => some (beOctets 2 (sumOf ((listenSet s sub).map (entryUnits s sub))))
  | 0x2104 => some [byte (bitNat (extendedOn s sub))]
  | 0x2105 => some (sliceOf (regionProfile s) 4 6)
  | 0x2110 => some [byte (lanePool s)]
  | 0x2111 => some [byte (laneFloor s (sub - 1))]
  | 0x2112 => some [byte (busyLanes s (sub - 1))]
  | 0x2113 => some (beOctets 16 (bitsOfList ((s.rx.lanes.filter (fun p => p.2.state = .withdrawn)).map (·.1))))
  | 0x2121 => some [byte (FMap.getD s.rx.gain sub 0)]
  | 0x2151 => some (beOctets 2 s.rx.desense.toNat)
  | 0x2162 => some (viewOr s who 0x2162 64)
  | 0x2163 => some (viewOr s who 0x2163 5)
  | 0x2203 => some (txCeiling s sub)
  | 0x2210 => some (beOctets 2 (tunerCode s sub))
  | 0x2211 => some (beOctets 2 (portOf s sub).vswr)
  | 0x2212 => some [byte (match (portOf s sub).state with | .normal => 0 | .warn => 1 | .derated => 2 | .disabled => 3)]
  | 0x2233 => some (beOctets 2 (chainOf s sub).det)
  | _ => none

/- Modem, time, schedule and link (0x3000 to 0x4FFF). -/

/-- Author state code of BL_LINK_VIEW (Table 3-12). -/
def AuthorState.code : AuthorState → Nat
  | .none => 0 | .estimate => 1 | .offered => 2 | .current => 3

/-- LOADING of a map, zero where there is none (Table 3-6). -/
def mapLoading (m : Option BlMap) : Octets := match m with
  | some m => loadingOctets m.load
  | none => zeros 36

/-- A number of a map, zero where there is none. -/
def mapN (m : Option BlMap) (f : BlMap → Nat) : Nat := (m.map f).getD 0

/-- BL_LINK_VIEW of a link in one band (Table 3-12). -/
def linkOctets (h b : Nat) (l : BlLink) : Octets :=
  let latest := match l.next with
    | some m => some m
    | none => l.cur
  beOctets 4 (if l.holdsMap then h else 0xFFFFFFFF) ++
    [byte (b * 64 + l.author.code * 8 + bitNat l.userCur.isSome * 2 + bitNat l.acked),
      byte (mapN l.cur (·.mapId) % 16 * 16 + mapN l.cur (·.rate) % 4 * 4 + l.sends % 4),
      byte (mapN l.next (·.mapId) % 16 * 16 + mapN l.next (·.rate) % 4 * 4 + mapN latest (·.fallback) % 4)] ++
    beOctets 5 (mapN l.next (·.activate)) ++ beOctets 2 (mapN l.cur (fun m => codedBits m.load)) ++
    beOctets 2 (mapN l.next (fun m => codedBits m.load)) ++ mapLoading l.cur ++ mapLoading l.next ++ zeros 8

/-- BL_LINK_VIEW of a handle: its record of M, or of H where M has none (R89, log entry 71). -/
def linkView (s : State) (h : Nat) : Octets :=
  if s.modem.links.has (blKey h 1) && (blLink s h 1).holdsMap then linkOctets h 1 (blLink s h 1)
  else if s.modem.links.has (blKey h 2) then linkOctets h 2 (blLink s h 2)
  else linkOctets h 1 (blLink s h 1)

/-- Modem objects that are computed (Table 3-11). -/
def readModem (s : State) (who : Caller) (idx sub : Nat) : Option Octets :=
  match idx with
  | 0x3001 => some (padTo 3 Config.oui)
  | 0x3020 => some [byte (maskSet s (sub - 1))]
  | 0x3022 => some (Config.maskPoints (fieldOf (regionProfile s) 0 2) (sub - 1))
  | 0x303A => some (beOctets 2 (blLinksUsed s))
  | 0x303C => some (viewOr s who 0x303C 96)
  | 0x303D => some [byte (if s.power.chipProfile = 3 then 8 else 1)]
  | _ => none

/-- TIME_STATUS (Table 5-9): the frequency correction is the oscillator's, a free value (log entry 6). -/
def timeStatus (s : State) : Octets :=
  [byte s.time.mode.code] ++ beOctets 4 (ofSigned 32 s.time.lastOffset) ++ beOctets 4 (freeNow s) ++
    beOctets 2 (driftNow s) ++ beOctets 4 ((s.time.holdoverAt.map (fun t => (s.now - t) / 1000000000)).getD 0) ++
    beOctets 2 (guardUs s (refBand s))

/-- Time, schedule and duty objects that are computed (Tables 4-11 and 5-9). -/
def readSchedule (s : State) (idx sub : Nat) : Option Octets :=
  match idx with
  | 0x4000 => some (beOctets 8 (domainTime s))
  | 0x4002 => some (beOctets 5 (asnNow s (sub - 1)))
  | 0x4011 => some [byte (s.time.active.getD 0xFF)]
  | 0x4012 => some (timeStatus s)
  | 0x4113 => some [byte s.sched.status]
  | 0x4114 => some (beOctets 5 s.sched.effectiveAsn)
  | 0x4115 => some (beOctets 4 (s.sched.cells.filter (fun p => p.2.valid)).length)
  | 0x4116 => some (((List.range 64).map (fun i => cellOctets (cellAt s (cellIndex s / 64 * 64 + i)))).flatten)
  | 0x4141 => some [byte (serviceState s sub)]
  | 0x4801 => some (beOctets 4 (dutyUse s sub))
  | 0x4802 => some (beOctets 4 (dutyLimit s sub))
  | 0x4803 => some (beOctets 2 (dwellMax s))
  | _ => none

/-- PEER_VIEW of a chip index, zero if unknown (Table 6-14). -/
def peerView (s : State) (k : Nat) : Octets := match FMap.find s.link.peers k with
  | some p => if p.known then (p.announcement ++ zeros 68).take 68 else zeros 68
  | none => zeros 68

/-- Link objects that are computed (Table 6-14). -/
def readLink (s : State) (who : Caller) (idx : Nat) : Option Octets :=
  match idx with
  | 0x4200 => some (padTo 8 (meshEui s))
  | 0x4203 => some (beOctets 2 (ownIndex s))
  | 0x4206 => some (beOctets 4 s.link.netFc)
  | 0x4216 => some (beOctets 4 (nodesJoined s))
  | 0x4221 => some (viewOr s who 0x4221 64)
  | 0x4233 => some (beOctets 2 (s.link.peers.filter (fun p => p.2.known)).length)
  | 0x4235 => some (peerView s (cursorN s who 0x4234))
  | _ => none

/- Queues, tables, security (0x5000 to 0x7FFF). -/

/-- Buffer index of a queued frame, all ones for none. -/
def bufferOf (s : State) (k : Option Nat) : Nat := ((k.bind (packetOf s)).bind (·.buffer)).getD 0xFFFFFFFF

/-- Descriptor of a node queue (Table 7-4). -/
def nodeQueueOctets (s : State) (i : Nat) : Octets :=
  let l := nodeQueue s i
  let latched : Bool := ((l.head?.bind (packetOf s)).map (·.latched)).getD false
  beOctets 4 (bufferOf s l.head?) ++ beOctets 4 (bufferOf s l.getLast?) ++
    [byte l.length, byte (bitsOfList (l.map (clsOf s)))] ++ beOctets 2 (FMap.getD s.queues.nodeShaper i 0xFFFF) ++
    beOctets 3 (queueBytes s l) ++ [byte (bitNat latched * 128)]

/-- QUEUE_VIEW of the queue a cursor names (Table 7-7). -/
def queueOctets (s : State) (v : Nat) : Octets :=
  if v / 2 ^ 30 = 0 then nodeQueueOctets s (v % 131072)
  else
    let l := namedQueue s v
    words [l.length, queueBytes s l, bufferOf s l.head?, 0]

/-- SHAPER_STATE of a shaper (Table 7-7). -/
def shaperOctets (x : Shaper) : Octets :=
  beOctets 8 (ofSigned 64 x.tc) ++ beOctets 8 (ofSigned 64 x.tp) ++ words [x.green, x.yellow, x.red]

/-- POOL_STATUS (Table 7-7). -/
def poolStatus (s : State) : Octets :=
  words ([freeBuffers s 256, freeBuffers s 4096] ++ (List.range 8).map (fun c => classUse s c / 1024))

/-- Queue objects that are computed (Table 7-7). -/
def readQueues (s : State) (who : Caller) (idx : Nat) : Option Octets :=
  match idx with
  | 0x5022 => some (poolStatus s)
  | 0x5032 => some (beOctets 2 (burstFree s))
  | 0x5101 => some (FMap.getD (viewsOf s who).windows (objKey 0x5101 0) (shaperStored s (shaperCursor s who)))
  | 0x5102 => some (shaperOctets (shaperOf s (shaperCursor s who)))
  | 0x5131 => some (queueOctets s (cursorN s who 0x5130))
  | _ => none

/-- Table objects that are computed (Table 8-10). -/
def readTables (s : State) (idx : Nat) : Option Octets :=
  match idx with
  | 0x6003 => some (beOctets 2 s.fwd.reasm.length)
  | 0x6025 => some (beOctets 4 (tableEntries s))
  | 0x6026 => some [byte s.fwd.stash.length]
  | 0x6033 => some (beOctets 2 s.fwd.sweepNext ++ [byte (bitNat (passParity s))] ++ beOctets 4 s.fwd.sweepLast)
  | 0x6040 => some (beOctets 4 s.fwd.routes.length)
  | 0x6041 => some (((List.range 6).map (fun i => beOctets 2 (listGet stageNodes i 0 - nodesUsed s.fwd.routes i))).flatten)
  | _ => none

/-- KEY_SLOT_INFO of a slot: never a key value (R280). -/
def slotOctets (s : State) (slot : Nat) : Octets :=
  let h := slotHalf s slot (halfInForce s slot)
  let held : Bool := !slotEmpty s slot
  [byte (slotState s slot), byte (if slot = 0 then 2 else if held then fieldOf h 0 1 else 0),
    byte (if slot = 0 then 1 else if held then fieldOf h 1 1 / 128 else 0), byte (if held then fieldOf h 2 1 else 0)] ++
    words [slotCounter s slot, FMap.getD s.keys.copies slot 0, FMap.getD s.keys.committedAt slot 0]

/-- One TAMPER_LOG record (Table 10-12). -/
def TamperRecord.octets (r : TamperRecord) : Octets :=
  beOctets 2 r.sources ++ [byte r.state, byte r.action] ++ beOctets 4 r.aonTime

/-- Security objects that are computed (Tables 9-8 and 10-13). CE_LOAD is a measurement of time, a free value (log entry 6). -/
def readSecurity (s : State) (idx sub : Nat) : Option Octets :=
  match idx with
  | 0x7000 => some [byte (engineOf s (sub - 1)).mode]
  | 0x7020 => some ((List.range 6).map (fun i => byte (freeNow s / 128 ^ i % 101)))
  | 0x7041 => some (macsecSaNow s (sub - 1))
  | 0x7101 => some [byte s.keys.status]
  | 0x7102 => some (slotOctets s (sub - 1))
  | 0x7110 => some (beOctets 2 (s.keys.cache.length + sessionEntries s) ++
      beOctets 2 ((s.keys.cache.filter (fun p => cachePinned s p.1 p.2)).length + sessionEntries s) ++ beOctets 4 s.keys.evictions)
  | 0x7122 => some (beOctets 2 s.keys.atAlarm ++ beOctets 2 s.keys.lastSources ++ [byte (bitNat s.keys.zeroizeFlag)] ++
      beOctets 4 s.keys.alarms)
  | 0x7123 => some (((s.keys.log.map TamperRecord.octets).flatten ++ zeros 64).take 64)
  | _ => none

/- Images, campaigns, twin and den (0x8000 to 0x9FFF). -/

/-- BOOT_STATUS (Table 12-19). -/
def bootStatus (s : State) : Octets :=
  [byte s.image.running, byte s.power.startCause, byte s.image.trialCount] ++ beOctets 2 s.image.minSec ++
    [byte (bitNat s.image.retained + bitNat s.image.nodesRetained * 2)] ++ beOctets 4 s.image.loadUs

/-- BANK_INFO of a bank (Table 12-19). -/
def bankInfo (b : Bank) : Octets :=
  [byte b.state.code] ++ beOctets 4 (bankVersion b) ++ beOctets 2 (bankSecVersion b) ++ beOctets 2 (bankCompat b) ++
    (if b.factory then padTo 16 (Config.factoryDigest.take 16) else padTo 16 b.digest) ++
    beOctets 4 (if partLength b 2 = 0 then 0 else imgVersion (partReader b 2))

/-- UPDATE_STATUS (Table 12-19). -/
def updateStatus (s : State) : Octets :=
  let done := (s.image.journal.map (fun j => j.done.length)).getD 0
  let all := (s.image.journal.map (·.blocks)).getD 0
  [byte s.image.updState, byte s.image.updCode] ++ beOctets 2 done ++ beOctets 2 all ++
    padTo 16 ((s.image.journal.map (·.deltaId)).getD [])

/-- CONFIG_STATUS (Table 12-19). -/
def configStatus (s : State) : Octets :=
  (([1, 2, 3].map (fun k =>
    let c := cfgCopy s k
    [byte (bitNat (cfgValid c) + bitNat (lockValid c) * 2)] ++ beOctets 4 c.generation ++ beOctets 4 c.regionCounter)).flatten) ++
    [byte s.image.outcome, byte s.image.lockedOutcome]

/-- CAMPAIGN_STATUS (Table 12-19). -/
def campaignStatus (s : State) (k : Nat) : Octets :=
  let c := campaignAt s k
  [byte (stateCode c.state), byte c.id] ++
    words [c.n, c.target.length, c.accepted.length, c.complete.length, c.activated.length, c.dropped] ++ beOctets 5 c.persistedAsn

/-- CAMPAIGN_NODE_VIEW of a handle (Table 12-19). -/
def campaignNodeView (s : State) (h : Nat) : Octets :=
  let own : Bool := handleOk h && chipOf h = ownIndex s
  let bits := allCampaigns.map (fun k =>
    let c := campaignAt s k
    let i := localIndex h
    (bitNat (c.target.contains i) + bitNat (c.accepted.contains i) * 2 + bitNat (c.complete.contains i) * 4 +
      bitNat (c.activated.contains i) * 8) * 16 ^ (k - 1))
  beOctets 4 (if own then sumOf bits else 0)

/-- Image and campaign objects that are computed (Table 12-19). -/
def readImages (s : State) (idx sub : Nat) : Option Octets :=
  match idx with
  | 0x8000 => some (bootStatus s)
  | 0x8001 => some (bankInfo (bankAt s (sub - 1)))
  | 0x8013 => some (updateStatus s)
  | 0x8020 => some (configStatus s)
  | 0x8034 => some [byte (stageAt s sub).status]
  | 0x8042 => some (campaignStatus s sub)
  | 0x8044 => some (FMap.getD s.vals (objKey 0x8044 0) (zeros 4))
  | 0x8040 => some (let c := campaignAt s sub; if c.cfg = [] then obj s 0x8040 sub else c.cfg)
  | _ => none

/-- First octet of TWIN_STATUS (Table 11-13); an active chip shows its partner where it is absent or not ready (log
entry 72). -/
def twinCode (s : State) : Nat :=
  if !hasPartner s then 0
  else if s.twin.absent then 4
  else if s.power.dev = .follower then (if ownReady s then 2 else 3)
  else if s.power.dev = .active && partnerReady s then 1 else 3

/-- TWIN_STATUS (Table 11-13). -/
def twinStatus (s : State) : Octets :=
  let jseq := if s.power.dev = .follower then s.twin.applied else s.twin.sendFrom - 1
  [byte (twinCode s), byte (bitNat s.power.claimOut + bitNat s.power.claimIn * 2)] ++ beOctets 4 jseq ++
    [byte (if hasPartner s then min 255 (lagSlots s) else 0)] ++ beOctets 4 (s.twin.pass - 1) ++
    [byte (bitNat (!s.twin.agreed))] ++ beOctets 4 ((s.now - s.twin.roleAt) / 1000000000)

/-- SETT_PORT_STATUS (Table 11-13). -/
def settPortOctets (s : State) (p : Nat) : Octets :=
  [byte (settPort s p).state.code] ++ beOctets 4 (ofSigned 32 (linkDelay s p)) ++ beOctets 4 (settPort s p).downs

/-- One member of RING_STATUS (Table 11-13). -/
def memberOctets (p : Nat × Member) : Octets :=
  beOctets 2 p.1 ++ [byte (FMap.getD p.2.hops 1 0xFF), byte (FMap.getD p.2.hops 2 0xFF), byte p.2.census.role, byte 0]

/-- RING_STATUS (Table 11-13): entries past the members are zero. -/
def ringStatus (s : State) : Octets :=
  [byte (bitNat s.sett.closed)] ++ beOctets 2 (s.sett.master.getD 0xFFFF) ++ [byte s.sett.members.length] ++
    ((s.sett.members.map memberOctets).flatten ++ zeros 42).take 42

/-- Twin and den objects that are computed (Table 11-13). -/
def readDen (s : State) (idx sub : Nat) : Option Octets :=
  match idx with
  | 0x9004 => some [byte (bitNat s.power.rolePref)]
  | 0x9005 => some (twinStatus s)
  | 0x9011 => some (settPortOctets s sub)
  | 0x9012 => some (ringStatus s)
  | _ => none

/- Measurement, events, threads (0xA000 to 0xBFFF). -/

/-- DEBUG_STATUS (Table 15-13). -/
def debugStatus (s : State) : Octets :=
  [byte s.dbg.level] ++ beOctets 2 (minutesLeft s) ++ [byte s.dbg.failures] ++ beOctets 2 s.dbg.halted.toNat

/-- SENSE_SUPPLY (R411). -/
def supplyOctets (s : State) : Octets :=
  ((List.range 4).map (fun i => beOctets 2 (listGet s.measure.supply i 0))).flatten ++ beOctets 4 (listGet s.measure.supply 4 0)

/-- AIN_VALUE of an input (R412). -/
def ainOctets (x : AinState) : Octets := beOctets 2 x.mv ++ beOctets 2 x.raw ++ beOctets 8 x.time

/-- Event, trace and measurement objects that are computed (Table 15-13). -/
def readMeasure (s : State) (who : Caller) (idx sub : Nat) : Option Octets :=
  match idx with
  | 0xA000 => some (evtStatus s)
  | 0xA002 => some (viewOr s who 0xA002 264)
  | 0xA003 => some (beOctets 4 (viewsOf s who).mark)
  | 0xA005 => some (evtMarkStatus s who)
  | 0xA00A => some (viewOr s who 0xA00A 3)
  | 0xA102 => some (viewOr s who 0xA102 128)
  | 0xA103 => some (words [s.ptrace.nextSeq, s.ptrace.oldest, (viewsOf s who).ptraceSkipped])
  | 0xA202 => some (viewOr s who 0xA202 64)
  | 0xA203 => some (viewOr s who 0xA203 8)
  | 0xA211 => some (viewOr s who 0xA211 64)
  | 0xA302 => some [byte s.measure.ranges.length]
  | 0xA304 => some (rangeResult s (cursorN s who 0xA303))
  | 0xA400 => some (supplyOctets s)
  | 0xA401 => some (((List.range 6).map (fun i => beOctets 2 (ofSigned 16 (listGet s.measure.temps i 0)))).flatten)
  | 0xA411 => some (ainOctets (FMap.getD s.measure.ain sub {}))
  | 0xA500 => some (debugStatus s)
  | _ => none

/-- Thread control word (Table 13-1). -/
def Thread.tcw (t : Thread) : Nat :=
  t.state.code * 2 ^ 61 + t.prio * 2 ^ 56 +
    (bitNat (t.aff.contains 1) + bitNat (t.aff.contains 2) * 2 + bitNat (t.aff.contains 3) * 4) * 2 ^ 53 +
    t.core * 2 ^ 51 + bitNat t.lsf * 2 ^ 50 + bitNat t.wasBlocked * 2 ^ 49 + t.slice % 256 * 2 ^ 40 +
    t.waitMask % 65536 * 65536 + t.pending % 65536

/-- THREAD_VIEW of a TID: all zero for a FREE thread (Table 13-10). -/
def threadOctets (s : State) (tid : Nat) : Octets :=
  match threadOf s tid with
  | some t => beOctets 8 t.tcw ++ words [t.dispatches, t.runNs / 1000]
  | none => zeros 16

/-- THREADS_USED (Table 13-10). -/
def threadsUsed (s : State) : Octets :=
  let n := fun (f : Nat × Thread → Bool) => byte ((s.threads.threads.filter f).length)
  [n (fun p => p.1 < 64), n (fun p => decide (64 ≤ p.1)), n (fun p => p.2.state = .faulted)]

/-- APP_STATUS (Table 13-10). -/
def appStatus (s : State) : Octets :=
  let b := bankAt s s.image.running
  [byte (bitNat s.threads.appRunning)] ++ beOctets 4 (if partLength b 2 = 0 then 0 else imgVersion (partReader b 2)) ++
    beOctets 4 s.threads.appStarts

/-- Scheduler objects that are computed (Table 13-10). -/
def readThreads (s : State) (who : Caller) (idx sub : Nat) : Option Octets :=
  match idx with
  | 0xB001 => some (viewOr s who 0xB001 16)
  | 0xB003 => some (threadsUsed s)
  | 0xB011 => some (appStatus s)
  | 0xB023 => some (viewOr s who 0xB023 128)
  | 0xB024 => some (words [s.threads.traceNext, traceOldest s, (viewsOf s who).traceSkipped])
  | 0xB031 => some ((FMap.getD s.threads.published sub (zeros 32)))
  | _ => none

/-- A computed object's value, by its range (Table 14-3). -/
def readComputed (s : State) (who : Caller) (idx sub : Nat) : Option Octets :=
  match idx / 4096 with
  | 1 => readIdentity s idx
  | 2 => readRadio s who idx sub
  | 3 => readModem s who idx sub
  | 4 => match readSchedule s idx sub with
    | some v => some v
    | none => readLink s who idx
  | 5 => readQueues s who idx
  | 6 => readTables s idx
  | 7 => readSecurity s idx sub
  | 8 => readImages s idx sub
  | 9 => readDen s idx sub
  | 10 => readMeasure s who idx sub
  | 11 => readThreads s who idx sub
  | 12 => readPower s idx sub
  | _ => none

/-- Cursor objects: each caller holds its own (R376). -/
def ownCursors : List Nat :=
  [0x2161, 0x303B, 0x4220, 0x4234, 0x5100, 0x5130, 0xA001, 0xA009, 0xA101, 0xA201, 0xA210, 0xA303, 0xB000, 0xB022]

/-- The value an object shows to a caller. -/
def objectNow (s : State) (who : Caller) (idx sub : Nat) : Octets :=
  if ownCursors.contains idx then cursorOf s who idx
  else match readComputed s who idx sub with
    | some v => v
    | none => obj s idx sub

/-- Objects an Observer may not read: 0x1100 to 0x11FF, 0x7000 to 0x7FFF other than the tamper objects, 0xF000 up
(Table 14-7). -/
def closedToObserver (idx : Nat) : Bool :=
  (0x1100 ≤ idx && idx ≤ 0x11FF) || (0x7000 ≤ idx && idx ≤ 0x7FFF && !(0x7120 ≤ idx && idx ≤ 0x712F)) || 0xF000 ≤ idx

/-- What SID 0 may still read in ZEROIZED and in lifecycle RETIRED (R394). -/
def servedRead (s : State) (who : Caller) (idx : Nat) : Bool :=
  let open0 : Bool := match who with
    | .endpoint _ => true
    | _ => false
  servesSop s || (open0 && (if s.power.lifecycle = .retired then 0x1000 ≤ idx && idx ≤ 0x100F
    else s.power.dev = .zeroized && ((0x1000 ≤ idx && idx ≤ 0x10FF) || (0x7120 ≤ idx && idx ≤ 0x712F))))

/-- The checks a read passes (R371, R373, R389, R394). -/
def readStatus (s : State) (who : Caller) (idx sub : Nat) : Nat :=
  match callerRights s who with
  | none => stSession
  | some have_ =>
    if !servedRead s who idx then stState
    else if 0xF000 ≤ idx && callerRole s who != some 3 then stRights
    else match objRow idx sub with
      | some r =>
        if r.access = .wo || r.access = .cmd then stAccess
        else if have_ = 0 && closedToObserver idx then stRights else 0
      | none => if sub = 0 && (highestSub idx).isSome then 0 else stNoObject

/-- The value of an object a caller may read; subindex 0 of an object listed from 0x01 upward is its highest subindex
(R371). -/
def readValue (s : State) (who : Caller) (idx sub : Nat) : Octets :=
  match objRow idx sub with
  | some _ => objectNow s who idx sub
  | none => [byte ((highestSub idx).getD 0)]

end Sys2Proof.Machine
end

