-- ==== Sys2Proof/Machine/Ptrace.lean ====
section
/-! DEFINITION. The program trace: its configuration and its cursor (R421). -/

namespace Sys2Proof.Machine

/-- PTRACE_CFG: engine 0 to 12; an engine the level in force does not cover is refused with STATE (R421). -/
def ptraceCheck (v : Octets) (s : State) : Nat :=
  let engine := fieldOf v 1 1
  firstOf [require (engine ≤ 12) stRange,
    require (!bitOf (fieldOf v 0 1) 0 || levelCovers (debugLevel s) engine) stState]

/-- A write of PTRACE_CFG; enabling starts with an empty ring (log entry 61). -/
def ptraceApply (v : Octets) (s : State) : State :=
  let s := setObj s 0xA100 0 v
  if bitOf (fieldOf v 0 1) 0 then
    { s with ptrace := { s.ptrace with ring := [], oldest := s.ptrace.nextSeq, stopped := false } }
  else s

/-- R421: a write of PTRACE_CFG. -/
def execPtraceCfgWrite (who : Caller) (value : Octets) (s : State) : Host.Outcome State Fault Refusal :=
  done (command s who 0xA100 0 value (ptraceCheck value) (ptraceApply value))

/-- A program trace record (Table 15-8). -/
def PtraceRecord.octets (r : PtraceRecord) : Octets :=
  beOctets 6 r.time ++ [byte (r.kind * 32 + r.engine), byte r.tid] ++ beOctets 4 r.source ++ beOctets 4 r.target

/-- Latch the 8 records from a sequence number, or from the oldest surviving one (R421, R368). -/
def ptraceCursorApply (who : Caller) (v : Nat) (s : State) : State :=
  let first := max v s.ptrace.oldest
  let records := (List.range 8).map (fun i =>
    ((FMap.find s.ptrace.ring (first + i)).map PtraceRecord.octets).getD (zeros 16))
  let s := setWindow (setCursor s who 0xA101 (beOctets 4 v)) who 0xA102 records.flatten
  setViews s who { viewsOf s who with ptraceSkipped := first - v }

/-- R421: a write of PTRACE_CURSOR latches PTRACE_WINDOW. -/
def execPtraceCursorWrite (who : Caller) (value : Nat) (s : State) : Host.Outcome State Fault Refusal :=
  done (command s who 0xA101 0 (beOctets 4 value) (fun _ => 0) (ptraceCursorApply who (value % 2 ^ 32)))

end Sys2Proof.Machine
end

