-- ==== Sys2Proof/Machine/ObjectCheck.lean ====
section
/-! DEFINITION. The rules of content an object's chapter gives its value: the ranges and the relations between fields that a
write must meet (R388 and the object table of each chapter). A refusal is RANGE unless the chapter names a state. -/

namespace Sys2Proof.Machine

/-- Objects whose value is one number within bounds: index, least, greatest (the Meaning columns of the object tables). -/
def plainRanges : List (Nat × Nat × Nat) := [
  (0x1110, 10, 86400), (0x2114, 0, 3600), (0x2120, 12, 24), (0x2122, 1, 65535), (0x2130, 0, 2), (0x2131, 3, 20),
  (0x2140, 0, 2), (0x2160, 0, 15), (0x2201, 0, 80), (0x2202, 0, 1), (0x2220, 30, 3600), (0x2221, 1, 20),
  (0x2222, 1, 60), (0x2232, 1, 40), (0x3011, 0, 1), (0x3013, 4, 64), (0x3024, 0, 19), (0x3031, 0, 40),
  (0x3032, 0, 20), (0x3036, 1, 32), (0x4015, 10, 500), (0x4016, 10, 500), (0x4018, 1, 1000),
  (0x4110, 0, 1048575), (0x4120, 1, 600), (0x4202, 5, 7), (0x4204, 0, 15), (0x4211, 0, 1), (0x4212, 5, 600),
  (0x4214, 60, 604800), (0x5010, 0, 86400000), (0x5011, 1, 64), (0x5021, 1, 100), (0x5100, 0, 511),
  (0x6001, 1280, 2047), (0x6002, 1, 60), (0x6010, 0, 1), (0x6013, 1, 8), (0x6031, 1, 1024), (0x6032, 1, 86400),
  (0x7001, 10, 3600), (0x7011, 257, 16384), (0x8003, 60, 86400), (0x8010, 0, 16777215), (0x9008, 0, 15),
  (0x9014, 3600, 604800), (0x9015, 1, 10000), (0xA007, 0, 60000), (0xA008, 2, 7), (0xB030, 1, 1000),
  (0xC103, 0, 1), (0xC110, 0, 2), (0xC111, 0, 1)]

/-- The bounds of a plain number. -/
def plainOk (idx n : Nat) : Bool := match plainRanges.find? (fun r => r.1 = idx) with
  | some r => r.2.1 ≤ n && n ≤ r.2.2
  | none => true

/-- Fields of `w` octets of a value. -/
def fieldsOf (w : Nat) (v : Octets) : List Nat := (List.range (v.length / w)).map (fun i => fieldOf v (w * i) w)

/-- A list of entries of `w` octets. -/
def entriesOf (w : Nat) (v : Octets) : List Octets := (List.range (v.length / w)).map (fun i => sliceOf v (w * i) w)

/-- 0 to 4,095, or 0xFFFF for none. -/
def indexOk (n : Nat) : Bool := n < 4096 || n = 0xFFFF

/-- Objects whose value is a node handle (R4). -/
def handleObjects : List Nat := [0x303B, 0x4220, 0x8043, 0xA303]

/- Identity, sessions, profiles (Tables 1-16, 14-12). -/

/-- Content of identity, session and profile objects. -/
def identityOk (s : State) (idx : Nat) (v : Octets) : Bool :=
  let n := beNat v
  match idx with
  | 0x1100 => n % 32 != 0
  | 0x1101 => 1 ≤ fieldOf v 0 1 && fieldOf v 0 1 ≤ 127 && fieldOf v 2 1 ≤ 7
  | 0x1103 => fieldOf v 6 1 ≤ 1 && 1 ≤ fieldOf v 23 1 && fieldOf v 23 1 ≤ 128
  | 0x1104 => n = 0 || n = 3
  | 0x1111 => 12 ≤ n && n ≤ 63 && n != objN s 0x1112 0
  | 0x1112 => 12 ≤ n && n ≤ 63 && n != objN s 0x1111 0
  | 0xC100 => n ≤ 3 && (n = 3 || !economyOnly s)
  | 0xC101 => n = 0xFF || (n ≤ 3 && (n = 3 || !economyOnly s))
  | _ => true

/- Radio (Tables 2-9, 3-11, 4-11). -/

/-- Entries of a host's listen set are valid for the band and fit the island's units (R36, Table 2-3). -/
def listenOk (s : State) (bs : Nat) (v : Octets) : Bool :=
  let l := hostEntries v
  (entriesOf 4 v).all (fun e => fieldOf e 0 2 % 512 < 416 && listenValid (bandOf bs) (fieldOf e 2 1)) &&
    sumOf (l.map (entryUnits s bs)) ≤ islandUnits bs

/-- A symmetric 4 x 4 matrix (R59). -/
def symmetric (v : Octets) : Bool :=
  (List.range 4).all (fun i => (List.range 4).all (fun j => fieldOf v (4 * i + j) 1 = fieldOf v (4 * j + i) 1))

/-- Largest conducted ceiling an M sector could reach without its module, over its ports and sub-bands (R99, R107). -/
def sectorCeiling (s : State) (bs : Nat) : Int :=
  let subs := List.range (subBands (blockOf s (bandOf bs)))
  let all := ([bs, bs + 16].map (fun p => subs.map (fun i =>
    min (bandMax s bs) (eirpLimit s (bandOf bs) i - portGain s p + portLoss s p)))).flatten
  match all with
  | [] => bandMax s bs
  | x :: l => maxOf x l

/-- Valid entries of an XPA table have distinct GAIN, and P_OUT_MAX within reach (R99). -/
def xpaOk (s : State) (bs : Nat) (v : Octets) : Bool :=
  let l := xpaEntries v
  distinct (l.map (fun e => ofSigned 8 e.gain)) = l.length && l.all (fun e => decide (e.most ≤ sectorCeiling s bs + e.gain))

/-- A band-sector maps to one COEX channel at most (R103). -/
def coexOk (s : State) (sub n : Nat) : Bool :=
  ([1, 2, 3, 4].filter (fun k => k ≠ sub)).all (fun k => (objN s 0x2240 k % 512) &&& (n % 512) = 0)

/-- Content of receive and front-end objects. -/
def radioOk (s : State) (idx sub : Nat) (v : Octets) : Bool :=
  let n := beNat v
  match idx with
  | 0x2102 => listenOk s sub v
  | 0x2150 => symmetric v
  | 0x2161 => nfCursorCheck n = 0
  | 0x2231 => xpaOk s sub v
  | 0x2240 => coexOk s sub n
  | _ => true

/-- Thresholds rise strictly with b within each rate (R81). -/
def thresholdsOk (v : Octets) : Bool :=
  [0, 1, 2, 4, 5, 6].all (fun i =>
    decide (toSigned 16 (fieldOf v (2 * i) 2) < toSigned 16 (fieldOf v (2 * i + 2) 2)))

/-- Content of modem objects. -/
def modemOk (idx sub : Nat) (v : Octets) : Bool :=
  let n := beNat v
  match idx with
  | 0x3010 => (listUpToZero v).all (listenValid (bandOf sub))
  | 0x3033 => thresholdsOk v
  | 0x3035 => n = 4 || n = 8 || n = 16 || n = 32
  | 0x3037 => n = 1 || n = 2 || n = 4 || n = 6
  | 0x3038 => n % 4 != 0
  | 0x3039 => n = 0 || (100 ≤ n && n ≤ 60000)
  | _ => true

/- Time, schedule, link (Tables 5-9, 6-14). -/

/-- A slot template (R123). -/
def templateOk (s : State) (v : Octets) : Bool :=
  let f := fun i => fieldOf v (4 * i) 4
  f 0 % 1000 = 0 && 5000 ≤ f 0 && f 0 ≤ 200000 && 2 * f 2 + f 3 = 2 * f 1 && 200 ≤ f 2 && 2 * f 5 + f 6 = 2 * f 4 &&
    f 7 + f 4 + f 8 + 210 ≤ f 0 && 2 * objN s 0x4014 0 < f 3

/-- One enabled time-source entry (Table 5-2). -/
def sourceOk (e : Octets) : Bool :=
  let log := toSigned 8 (fieldOf e 3 1)
  match fieldOf e 0 1 / 64 with
  | 1 => fieldOf e 1 1 ≤ 2 && decide (-4 ≤ log) && decide (log ≤ 1)
  | 3 => fieldOf e 1 1 ≤ 2 && 1 ≤ fieldOf e 2 2 && fieldOf e 2 2 ≤ 600
  | _ => true

/-- Enabled types ascend, and only MESH repeats (R124). -/
def typesAscend : List Nat → Bool
  | [] => true
  | [_] => true
  | a :: b :: l => (a < b || (a = 3 && b = 3)) && typesAscend (b :: l)

/-- TIME_SOURCES (R124). -/
def sourcesOk (v : Octets) : Bool :=
  let l := (entriesOf 12 v).filter (fun e => bitOf (fieldOf e 0 1) 5)
  typesAscend (l.map (fun e => fieldOf e 0 1 / 64)) && l.all sourceOk

/-- TIME_GUARD_BASE: 50 to 1,050, below half of every TsRxWait (Table 5-9). -/
def guardOk (s : State) (n : Nat) : Bool :=
  50 ≤ n && n ≤ 1050 && [1, 2, 3].all (fun b => 2 * n < objField s 0x4003 b 12 4)

/-- PTP_CFG (Table 5-9). -/
def ptpOk (v : Octets) : Bool :=
  let log := toSigned 8 (fieldOf v 3 1)
  fieldOf v 0 1 ≤ 3 && fieldOf v 1 1 ≤ 1 && decide (-4 ≤ log) && decide (log ≤ 1)

/-- PPS_CFG (Table 5-9). -/
def ppsOk (v : Octets) : Bool :=
  1 ≤ fieldOf v 1 2 && fieldOf v 1 2 ≤ 500 && 100 ≤ fieldOf v 7 2 && fieldOf v 7 2 ≤ 50000

/-- A migration list names band-sectors of its own band (R143). -/
def migrateOk (bs : Nat) (v : Octets) : Bool :=
  (listUpToZero v).all (fun t => 1 ≤ t && t ≤ 9 && bandOf t = bandOf bs)

/-- Content of time, schedule, link and duty objects. -/
def linkOk (s : State) (idx sub : Nat) (v : Octets) : Bool :=
  match idx with
  | 0x4003 => templateOk s v
  | 0x4010 => sourcesOk v
  | 0x4014 => guardOk s (beNat v)
  | 0x4017 => ptpOk v
  | 0x4019 => ppsOk v
  | 0x4142 => migrateOk sub v
  | 0x4205 => fieldOf v 0 1 ≤ fieldOf v 1 1 && fieldOf v 1 1 ≤ 8
  | 0x4800 => sumOf (fieldsOf 2 v) ≤ 500
  | _ => true

/- Queues, tables, security, den, measurement (Tables 7-7, 8-10, 9-8, 10-13, 11-13, 15-13). -/

/-- POOL_RESERVE of all classes within the pool once `sub` takes `n` (Table 7-7). -/
def reserveOk (s : State) (sub n : Nat) : Bool :=
  sumOf ((List.range 8).map (fun c => if c + 1 = sub then n else objN s 0x5020 (c + 1))) ≤ 262144

/-- Content of queue and table objects. -/
def queueOk (s : State) (idx sub : Nat) (v : Octets) : Bool :=
  let n := beNat v
  match idx with
  | 0x5000 => (fieldsOf 1 v).all (· ≤ 7)
  | 0x5001 => (fieldsOf 1 v).all (· ≤ 63)
  | 0x5020 => reserveOk s sub n
  | 0x5110 => (fieldsOf 2 v).all (fun k => k ≤ 511 || k = 0xFFFF)
  | 0x5111 => (entriesOf 6 v).all (fun e => [0, 1, 2].any (fun b => modeValid b (fieldOf e 0 1)))
  | 0x5130 => flushCheck n = 0
  | 0x6042 => indexOk n
  | 0x6050 => n = 0 || 256 ≤ n
  | _ => true

/-- TAMPER_ENABLE: bits 2, 3, 4, 6 and 7 stay set once the lifecycle has left FACTORY (R275). -/
def tamperOk (s : State) (n : Nat) : Bool :=
  s.power.lifecycle = .factory || [2, 3, 4, 6, 7].all (fun b => bitOf n b)

/-- Content of security, twin, den and measurement objects. -/
def denOk (s : State) (idx : Nat) (v : Octets) : Bool :=
  let n := beNat v
  match idx with
  | 0x7041 => (entriesOf 8 v).all (fun e => fieldOf e 0 1 ≤ 3)
  | 0x7104 => (entriesOf 9 v).all (fun e => 8 ≤ fieldOf e 8 1 && fieldOf e 8 1 ≤ 64)
  | 0x7120 => tamperOk s n
  | 0x7121 => 1 ≤ fieldOf v 2 1
  | 0x9000 => indexOk n
  | 0x9001 => indexOk (fieldOf v 8 2)
  | 0x9003 => (fieldOf v 0 1 ≤ 7 || fieldOf v 0 1 = 0xFF) && indexOk (fieldOf v 1 2) && indexOk (fieldOf v 3 2)
  | 0x9006 => n = 0 || (3600 ≤ n && n ≤ 604800)
  | 0xA200 => 1 ≤ fieldOf v 0 2 && fieldOf v 0 2 ≤ 3600 && 4 ≤ fieldOf v 2 1 && fieldOf v 2 1 ≤ 120
  | 0xA201 => nfCursorCheck n = 0
  | 0xA210 => historyCheck n = 0
  | 0xA300 => 4 ≤ fieldOf v 0 1 && fieldOf v 0 1 ≤ 64 && 2 ≤ fieldOf v 1 1 && fieldOf v 1 1 ≤ 7
  | 0xA410 => 1 ≤ fieldOf v 1 2 && fieldOf v 1 2 ≤ 1000 && 1 ≤ fieldOf v 3 1 && fieldOf v 3 1 ≤ 64
  | _ => true

/-- The rules of content of a value that is no command. -/
def contentOk (s : State) (idx sub : Nat) (v : Octets) : Bool :=
  plainOk idx (beNat v) && (!handleObjects.contains idx || handleOk (beNat v)) &&
    match idx / 4096 with
    | 1 | 12 => identityOk s idx v
    | 2 => radioOk s idx sub v
    | 3 => modemOk idx sub v
    | 4 => linkOk s idx sub v
    | 5 | 6 => queueOk s idx sub v
    | _ => denOk s idx v

/- States a write needs. -/

/-- The state, governed and busy refusals of objects that are no commands. -/
def stateStatus (s : State) (idx sub : Nat) : Nat :=
  match idx with
  | 0x2100 => require (!(bandOf sub = 2 && listGet s.power.effective (sectorOf sub) 0 = 3)) stGoverned
  | 0x2102 => require (!objB s 0x2101 sub) stState
  | 0x6021 | 0x6022 | 0x6023 => tableFree s
  | 0x8030 => slotFree s sub
  | _ => 0

/-- The rule of an object that is no command and has no row of its own. -/
def plainStatus (s : State) (idx sub : Nat) (v : Octets) : Nat :=
  firstOf [stateStatus s idx sub, require (contentOk s idx sub v) stRange]

end Sys2Proof.Machine
end

