-- ==== Sys2Proof/Machine/ObjectWrite.lean ====
section
/-! DEFINITION. Writing an object: the rule and the effect of every object and command of the dictionary, by index, and
the one operation through which every path writes (R371 to R378, R384). -/

namespace Sys2Proof.Machine

/- Commands: the rule of each code, then its effect. -/

/-- CONFIG_SELECT: in MAINTENANCE, while no COMMIT runs, a copy that verifies, or the defaults (R325, R327). -/
def selectCheck (v : Nat) (s : State) : Nat :=
  firstOf [require (s.power.dev = .maintenance) stState, require s.image.commit.isNone stBusy,
    require (v = 4 || (1 ≤ v && v ≤ 3 && cfgValid (cfgCopy s v))) stRange]

/-- The chosen records are on their way into the three copies (R327). -/
def selectApply (v : Nat) (s : State) : State :=
  beginCommit s (if v = 4 then persistedDefaults else (cfgCopy s v).records) true

/-- SESSION_CLOSE names a session in use (R393). -/
def closeCheck (v : Nat) (s : State) : Nat := require (1 ≤ v && v ≤ 8 && s.sop.sessions.has v) stRange

/-- The rule of a THREAD_CMD value (Table 13-10). -/
def threadRule (v : Octets) (s : State) : Nat :=
  let tid := fieldOf v 0 1
  let arg := fieldOf v 2 1
  match fieldOf v 1 1 with
  | 1 => threadCheck tid [.ready, .running, .blocked] s
  | 2 => threadCheck tid [.suspended] s
  | 3 => threadCheck tid usedStates s
  | 4 => firstOf [threadCheck tid usedStates s, require (8 ≤ arg && arg ≤ 31) stRange]
  | 5 => firstOf [threadCheck tid usedStates s, require (!(affinityOf arg).isEmpty) stRange]
  | _ => stRange

/-- The effect of a THREAD_CMD value. -/
def threadAct (v : Octets) (s : State) : State :=
  let tid := fieldOf v 0 1
  let arg := fieldOf v 2 1
  match fieldOf v 1 1 with
  | 1 => suspendThread tid s
  | 2 => resumeThread tid s
  | 3 => killThread s tid
  | 4 => setPriority s tid arg
  | 5 => setAffinity tid arg s
  | _ => s

/-- The rule of a CAMPAIGN_CMD code (Table 12-18). -/
def campaignRule (k code : Nat) (s : State) : Nat :=
  match code with
  | 1 => campaignStartCheck k s
  | 2 => inState k [.running] s
  | 3 => inState k [.paused] s
  | 4 => inState k cancellable s
  | 5 => inState k [.delivered, .expired] s
  | 6 => inState k [.closed, .cancelled] s
  | _ => stRange

/-- The effect of a CAMPAIGN_CMD code. -/
def campaignAct (k code : Nat) (s : State) : State :=
  match code with
  | 1 => campaignStartApply k s
  | 2 => changeCampaign s k .paused
  | 3 => campaignResumeApply k s
  | 4 => campaignCancelApply k s
  | 5 => activateCampaign k s
  | 6 => campaignClearApply k s
  | _ => s

/-- The effect of a TABLE_CMD code (Table 8-8). -/
def tableAct (code : Nat) (s : State) : State :=
  match code with
  | 1 => tableInsertApply s
  | 2 => tableUpdateApply s
  | 3 => tableDeleteApply s
  | 4 => tableReadKeyApply s
  | 5 => tableReadLocApply s
  | 6 => tableConfirmApply s
  | 8 => routeAddApply s
  | 9 => routeDelApply s
  | 10 => routeReadApply s
  | 11 => routeLookupApply s
  | 12 => nhWriteApply s
  | 13 => nhReadApply s
  | _ => s

/-- Counter clears: the command object and the counters it clears. -/
def counterClears : List (Nat × Nat) := [
  (0x1121, 0x1120), (0x2171, 0x2170), (0x2311, 0x2310), (0x3041, 0x3040), (0x4151, 0x4150), (0x4241, 0x4240),
  (0x5141, 0x5140), (0x6061, 0x6060), (0x7051, 0x7050), (0x9021, 0x9020)]

/- The rule of every object. -/

/-- Rules of system, radio, schedule, link and queue commands. -/
def ruleLow (who : Caller) (idx sub : Nat) (v : Octets) (s : State) : Option Nat :=
  let n := beNat v
  match idx with
  | 0x1014 => some (match n with | 1 => require (s.power.dev = .active) stState | 2 => resumeRule s | 3 => 0 | _ => stRange)
  | 0x1115 => some (closeCheck n s)
  | 0x2213 => some 0
  | 0x2300 => some (profileStatus v s)
  | 0x2301 => some (commissionStatus who n s)
  | 0x2302 => some (recommissionRule who v s)
  | 0x3020 => some (maskStatus (sub - 1) false v s)
  | 0x3021 => some (maskStatus (sub - 1) true v s)
  | 0x4020 | 0x4021 | 0x4022 | 0x4100 => some (tableCheck idx sub v s)
  | 0x4112 => some (require (1 ≤ n && n ≤ 3) stRange)
  | 0x4116 => some (cellBlockCheck v s)
  | 0x4140 => some (sectorServiceCheck v)
  | 0x4213 => some (joinApproveCheck (fieldOf v 0 4) (fieldOf v 4 1) s)
  | 0x4215 => some (nodeDepartCheck n s)
  | 0x4222 => some 0
  | 0x5101 => some (shaperCheck v)
  | 0x5120 => some (gateCheck false v)
  | 0x5121 => some (gateCheck true v)
  | 0x5132 => some (flushCheck n)
  | 0x6020 => some (firstOf [require ([1, 2, 3, 4, 5, 6, 8, 9, 10, 11, 12, 13].contains n) stRange, tableFree s])
  | _ => none

/-- Rules of security, image, twin, measurement and scheduler commands. -/
def ruleHigh (idx sub : Nat) (v : Octets) (s : State) : Option Nat :=
  let n := beNat v
  match idx with
  | 0x7002 => some (selftestNowCheck n s)
  | 0x7100 => some 0
  | 0x7103 => some (seedCheck n s)
  | 0x7111 => some 0
  | 0x7124 => some (require (n = 0xA5) stRange)
  | 0x8002 => some (match n with
      | 1 => bankSwitchCheck s | 2 => require (onTrialNow s) stState | 3 => bankRollbackCheck s | 4 => 0 | _ => stRange)
  | 0x8011 => some (updateDataCheck (objN s 0x8010 0) v)
  | 0x8012 => some (match n with | 1 => updateIdle s | 2 => 0 | 3 => updateIdle s | _ => stRange)
  | 0x8021 => some (selectCheck n s)
  | 0x8032 => some (stageDataCheck sub (objN s 0x8031 sub) v s)
  | 0x8033 => some (if n = 1 || n = 2 then slotFree s sub else stRange)
  | 0x8040 => some (campaignCfgCheck sub v s)
  | 0x8041 => some (campaignRule sub n s)
  | 0x9007 => some (swapRule s)
  | 0x9009 => some (require (s.power.dev = .follower) stState)
  | 0x9013 => some (require (1 ≤ n && n ≤ 9) stRange)
  | 0xA100 => some (ptraceCheck v s)
  | 0xA301 => some (rangeCheck (fieldOf v 0 4) (fieldOf v 4 1) s)
  | 0xB002 => some (threadRule v s)
  | 0xB020 => some (schedObsCheck n)
  | _ => none

/-- The rule of an object, after the checks every write passes. -/
def objRule (who : Caller) (idx sub : Nat) (v : Octets) (s : State) : Nat :=
  match ruleLow who idx sub v s with
  | some r => r
  | none => match ruleHigh idx sub v s with
    | some r => r
    | none => plainStatus s idx sub v

/- The effect of every object. -/

/-- Bit of a transport code in SOP_TRANSPORTS (Table 14-12). -/
def transportBit (t : Nat) : Nat := if t ≤ 1 then t else if t ≤ 4 then 2 else t - 2

/-- Sessions of transports that a value disables end (R393). -/
def closeDisabled (s : State) (v : Nat) : State :=
  ((s.sop.sessions.filter (fun p => !bitOf v (transportBit p.2.endpoint.transport))).map (·.1)).foldl (fun s k => endSession s 5 k) s

/-- Capability IEs are owed to every node (R85). -/
def oweCapability (s : State) : State :=
  { s with link := { s.link with nodes := s.link.nodes.mapVals (fun _ n => { n with capDue := true }) } }

/-- BL_ENABLE FALSE deletes the maps and estimates of the receive direction of every link (Table 3-9). -/
def dropAuthors (s : State) : State :=
  { s with modem := { s.modem with links := s.modem.links.mapVals (fun _ r => r.resetAuthor .none) } }

/-- Entries of TIME_SOURCES that change start as entries that have not yet qualified (R125). -/
def restartSources (s : State) (old new : Octets) : State :=
  { s with time := { s.time with
      entries := s.time.entries.keep (fun i _ => sliceOf old (12 * i) 12 = sliceOf new (12 * i) 12) } }

/-- A new TWIN_PARTNER has not been heard; without one nothing is degraded (R299, R306). -/
def changePartner (s : State) (v : Octets) : State :=
  let s := updTwin s (fun t => { t with absent := true, misses := 0, partner := none, mismatch := false, lagging := false,
                                        fromS0 := false, ready := false })
  if beNat v = 0 then setCause s 6 false else s

/-- What a stored write does at once, beside being stored. -/
def afterStore (idx sub : Nat) (old v : Octets) (s : State) : State :=
  match idx with
  | 0x1100 => closeDisabled s (beNat v)
  | 0x2100 => refreshService (rebuildListen s sub) sub
  | 0x2101 | 0x2102 | 0x3010 => rebuildListen s sub
  | 0x2240 | 0x2241 => [0, 1, 2, 3].foldl driveCoex s
  | 0x3030 => let s := if old = v then s else oweCapability s
              if beNat v = 0 then dropAuthors s else s
  | 0x3037 | 0x3038 => if old = v then s else oweCapability s
  | 0x4010 => restartSources s old v
  | 0x8043 => setObj s 0x8044 0 (campaignNodeView s (beNat v))
  | 0x9002 => if old = v then s else changePartner s v
  | 0x9010 => if bitOf (beNat v) 0 then s else portDown s sub
  | 0xC100 | 0xC101 => dueProfile s
  | 0xC103 => allBandSectors.foldl refreshService
      ([0, 1, 2, 3].foldl (fun s n => if listGet s.power.effective n 0 = 3 then setSectorRx s n 3 3 else s) s)
  | 0xC200 => { s with power := { s.power with vioOut := beNat v != 0 } }
  | _ => s

/-- The effect of a cursor object: the caller's own copy, and the view it latches (R376). -/
def cursorApply (who : Caller) (idx : Nat) (v : Octets) (s : State) : State :=
  let n := beNat v
  match idx with
  | 0x2161 => nfCursorApply who n s
  | 0x303B => setWindow (setCursor s who idx v) who 0x303C (linkView s n)
  | 0x4220 => nodeCursorApply who n s
  | 0x5100 => setWindow (setCursor s who idx v) who 0x5101 (shaperStored s n)
  | 0xA001 => evtCursorApply who n s
  | 0xA009 => evtCodeApply who n s
  | 0xA101 => ptraceCursorApply who n s
  | 0xA201 => surveyCursorApply who n s
  | 0xA210 => historyApply who n s
  | 0xB000 => setWindow (setCursor s who idx v) who 0xB001 (threadOctets s n)
  | 0xB022 => traceCursorApply who n s
  | _ => setCursor s who idx v

/-- The stored write of an object without an effect of its own. -/
def storeApply (idx sub : Nat) (v : Octets) (s : State) : State :=
  afterStore idx sub (obj s idx sub) v (setObj s idx sub v)

/-- Effects of system, radio, schedule, link and queue commands. -/
def applyLow (who : Caller) (idx sub : Nat) (v : Octets) (s : State) : Option State :=
  let n := beNat v
  match idx with
  | 0x1014 => some (match n with
      | 1 => goMaintenance s 0x17 | 2 => resumeApply s | 3 => retireApply s | _ => s)
  | 0x1115 => some (endSession s 3 n)
  | 0x2213 => some (restorePort sub s)
  | 0x2300 => some (putProfile s v)
  | 0x2301 => some (commissionApply s)
  | 0x2302 => some (recommissionApply v s)
  | 0x3020 => some (maskApply (sub - 1) false v s)
  | 0x3021 => some (maskApply (sub - 1) true v s)
  | 0x4020 | 0x4021 | 0x4022 | 0x4100 => some (tableApply idx sub v s)
  | 0x4112 => some (match n with | 1 => cellWriteApply s | 2 => cellReadApply s | 3 => cellClearApply s | _ => s)
  | 0x4116 => some (if cellBlockCheck v s = 0 then cellBlockApply v s else s)
  | 0x4140 => some (sectorServiceApply sub v s)
  | 0x4213 => some (joinApproveApply (fieldOf v 0 4) (fieldOf v 4 1) s)
  | 0x4215 => some (nodeDepartApply n s)
  | 0x4222 => some (nodeLookupApply who v s)
  | 0x5101 => some (shaperApply (shaperCursor s who) v s)
  | 0x5120 => some (gateApply false sub v s)
  | 0x5121 => some (gateApply true sub v s)
  | 0x5132 => some (flushAll s (namedQueue s n))
  | 0x6020 => some (tableAct n s)
  | _ => none

/-- Effects of security, image, twin, measurement and scheduler commands. -/
def applyHigh (who : Caller) (idx sub : Nat) (v : Octets) (s : State) : Option State :=
  let n := beNat v
  match idx with
  | 0x7002 => some (selftestNowApply n s)
  | 0x7041 => some (macsecSaApply s (sub - 1) v)
  | 0x7100 => some (kuArrive s who v)
  | 0x7103 => some (seedApply n s)
  | 0x7111 => some (flushCache s 2 0xFFFF (fun _ => true))
  | 0x7124 => some (zeroizeCmdApply s)
  | 0x8002 => some (match n with
      | 1 => bankSwitchApply s | 2 => confirmTrial s | 3 => runFrom s (notRunning s) false | 4 => internalReset s 5 | _ => s)
  | 0x8011 => some (if updateDataCheck (objN s 0x8010 0) v = 0 then updateDataApply (objN s 0x8010 0) v s else s)
  | 0x8012 => some (match n with | 1 => updateApplyNow s | 2 => updateAbortNow s | 3 => updateClearNow s | _ => s)
  | 0x8021 => some (selectApply n s)
  | 0x8032 => some (if stageDataCheck sub (objN s 0x8031 sub) v s = 0 then stageDataApply sub (objN s 0x8031 sub) v s else s)
  | 0x8033 => some (match n with | 1 => stageVerifyApply sub s | 2 => stageClearApply sub s | _ => s)
  | 0x8040 => some (campaignCfgApply sub v s)
  | 0x8041 => some (campaignAct sub n s)
  | 0x9007 => some (requestSwap s)
  | 0x9009 => some (resync s)
  | 0x9013 => some (requestRestart s n 1)
  | 0xA003 => some (evtMarkApply who n s)
  | 0xA004 => some (evtRewindApply who s)
  | 0xA006 => some (evtClearApply who s)
  | 0xA100 => some (ptraceApply v s)
  | 0xA301 => some (rangeApply (fieldOf v 0 4) (fieldOf v 4 1) s)
  | 0xA501 => some (lockDebug s 3)
  | 0xB002 => some (threadAct v s)
  | 0xB012 => some (startApplication s 2)
  | 0xB020 => some (schedObsApply n s)
  | _ => none

/-- The effect of an accepted write or command. -/
def objApply (who : Caller) (idx sub : Nat) (v : Octets) (s : State) : State :=
  match counterClears.find? (fun p => p.1 = idx) with
  | some p => clearCounters s p.2
  | none => if ownCursors.contains idx then cursorApply who idx v s
    else match applyLow who idx sub v s with
      | some t => t
      | none => match applyHigh who idx sub v s with
        | some t => t
        | none => storeApply idx sub v s

/- One write. -/

/-- What a write leaves although its own rule refuses it: SCHED_CELL_STATUS, and the re-commissioning event (R111, R134). -/
def objNote (who : Caller) (idx sub : Nat) (v : Octets) (s : State) : State :=
  if idx = 0x4100 || (0x4020 ≤ idx && idx ≤ 0x4022) then schedStatus s (tableStatus s idx sub v)
  else if idx = 0x4116 then
    schedStatus s (if cellIndex s % 64 = 0 then cellsWriteStatus s (cellIndex s) (blockCells v) else 2)
  else if idx = 0x2302 then recommissionNote who v s
  else s

/-- Every check of a write: the common ones, then the object's own (R384, R388). -/
def objCheck (s : State) (who : Caller) (idx sub : Nat) (v : Octets) : Nat :=
  match writeStatus s who idx sub v with
  | 0 => objRule who idx sub v s
  | e => e

/-- The object that holds the operand of a data object, its subindex and width (R376, R386). -/
def operandOf (idx sub : Nat) : Option (Nat × Nat) :=
  match idx with
  | 0x4116 => some (0x4110, 0)
  | 0x8011 => some (0x8010, 0)
  | 0x8032 => some (0x8031, sub)
  | _ => none

/-- A data object's operand as it stands. -/
def operandNow (s : State) (idx sub : Nat) : Nat := match operandOf idx sub with
  | some p => objN s p.1 p.2
  | none => 0

/-- Set a data object's operand. -/
def withOperand (s : State) (idx sub n : Nat) : State := match operandOf idx sub with
  | some p => setObjN s p.1 p.2 4 n
  | none => s

/-- A write whose operand was taken earlier, at `at_`: a later write of the operand does not move it (R386). A record of
it in the journal is followed by that operand where the object holds another by then (log entry 73). -/
def writeAt (s : State) (who : Caller) (idx sub : Nat) (v : Octets) (at_ : Nat) : State :=
  let now_ := operandNow s idx sub
  let s1 := withOperand s idx sub at_
  let s1 := if writeStatus s1 who idx sub v = 0 then objNote who idx sub v s1 else s1
  let st := objCheck s1 who idx sub v
  if st = 0 then
    let s2 := objApply who idx sub v (journalWrite s1 who idx sub (if at_ = now_ then v else v ++ beOctets 4 at_))
    setStatus (if at_ = now_ then s2 else withOperand s2 idx sub now_) who 0
  else setStatus (withOperand s1 idx sub now_) who st

/-- One write or command with the operand as it stands. -/
def writeObject (s : State) (who : Caller) (idx sub : Nat) (v : Octets) : State :=
  writeAt s who idx sub v (operandNow s idx sub)

/-- A journaled write as a follower applies it, without checking sessions again (R378). -/
def applyRecord (s : State) (idx sub : Nat) (v : Octets) : State :=
  let nobody : Caller := .mailbox 256
  if idx = 0x5101 then shaperApply (fieldOf v 20 2 % 512) (v.take 20) s
  else
    let n := if idx = 0x4116 then 1024 else 4096
    if (idx = 0x4116 || idx = 0x8032) && n < v.length then
      let now_ := operandNow s idx sub
      withOperand (objApply nobody idx sub (v.take n) (withOperand s idx sub (fieldOf v n 4))) idx sub now_
    else objApply nobody idx sub v s

/-- Whether a write touches the vendor range, which the spec does not describe, with the rights to (Table 14-3). -/
def vendorTouch (s : State) (who : Caller) (idx : Nat) : Bool := callerRole s who = some 3 && 0xF000 ≤ idx && idx ≤ 0xFFFF

/-- R373: a write of an object with no row of its own in the table of commands. -/
def execObjectWrite (who : Caller) (index sub : Nat) (value : Octets) (s : State) : Host.Outcome State Fault Refusal :=
  if vendorTouch s who index then .refused .vendorRange
  else if lsfStopped s then done s
  else done (writeObject s who index sub value)

/-- R401: SOP_COUNTERS_CLEAR. -/
def execSopCountersClear (who : Caller) (s : State) : Host.Outcome State Fault Refusal :=
  done (command s who 0x1121 0 [byte 0] (fun _ => 0) (fun s => clearCounters s 0x1120))

/-- R393: SESSION_CLOSE ends the session it names. -/
def execSessionClose (who : Caller) (sid : Nat) (s : State) : Host.Outcome State Fault Refusal :=
  done (command s who 0x1115 0 (beOctets 1 sid) (closeCheck (sid % 256)) (fun s => endSession s 3 (sid % 256)))

/-- R327: CONFIG_SELECT writes a chosen copy, or the defaults, into all three copies. -/
def execConfigSelect (who : Caller) (value : Nat) (s : State) : Host.Outcome State Fault Refusal :=
  done (command s who 0x8021 0 (beOctets 1 value) (selectCheck (value % 256)) (selectApply (value % 256)))

end Sys2Proof.Machine
end

