-- ==== Sys2Proof/Machine/Select.lean ====
section
/-! DEFINITION. The end of a COMMIT or CONFIG_SELECT: copy C has been read back (R325, R327, R375). -/

namespace Sys2Proof.Machine

/-- One chosen record takes effect as an accepted write of its object, where it differs from what is in force (R327). -/
def chooseRecord (s : State) (p : Nat × Octets) : State :=
  if shaperKey p.1 then
    if shaperStored s (p.1 - 0x1510000) = p.2 then s else shaperApply (p.1 - 0x1510000) p.2 s
  else
    let idx := p.1 / 256
    let sub := p.1 % 256
    if obj s idx sub = p.2 then s else objApply (.mailbox 256) idx sub p.2 s

/-- Shaper configurations that the chosen records do not list return to zero. -/
def dropShapers (s : State) (records : FMap Octets) : State :=
  (s.vals.filter (fun p => shaperKey p.1 && !records.has p.1)).foldl (fun s (p : Nat × Octets) =>
    shaperApply (p.1 - 0x1510000) (zeros 20) s) s

/-- The choice of CONFIG_SELECT is in force: outcome 0, DEGRADED bit 8 clear (R327). -/
def selectDone (s : State) (j : CommitJob) : State :=
  let s := setCause { s with image := { s.image with outcome := 0 } } 8 false
  j.records.foldl chooseRecord (dropShapers s j.records)

/-- The COMMIT response of every session that waits for it (R375). -/
def answerCommit (s : State) (gen : Nat) : State :=
  (s.sop.sessions.map (·.1)).foldl (fun s sid =>
    let w := viewsOf s (.session sid)
    match w.commit with
    | some seq => respond (setViews s (.session sid) { w with commit := none }) (.session sid) 8 seq 0 0xFF (beOctets 4 gen)
    | none => s) s

/-- The job ends: the three copies are written. -/
def commitEnds (s : State) (j : CommitJob) : State :=
  let s := writeCopies { s with image := { s.image with commit := none } } j [1, 2, 3]
  if j.select then selectDone s j
  else answerCommit (record s 0xA010 j.generation ((s.now - j.startedAt) / 1000000) 0) j.generation

/-- R325: copy C has been read back; the COMMIT response leaves, or the chosen configuration is in force. -/
def execCommitComplete (s : State) : Host.Outcome State Fault Refusal :=
  if !lsfRuns s.power.dev || s.power.dev = .load || lsfStopped s then done s
  else match s.image.commit with
    | some j => done (commitEnds s j)
    | none => done s

end Sys2Proof.Machine
end

