-- ==== Sys2Proof/Machine/Journal.lean ====
section
/-! DEFINITION. JOURNAL frames in: the follower applies the records of the active chip in JSEQ order (R304 to R308, R378). -/

namespace Sys2Proof.Machine

/- What each record does (Table 11-6). -/

/-- Charge an on-time to the account and channel a plan names. -/
def chargePlan (s : State) (bs : Nat) (p : TxPlan) (onTime : Nat) : State :=
  addDwell (settleDuty s (accountOf (bandOf bs) (planSub s bs p)) 0 onTime) (bandOf bs) p.mode p.firstBin onTime

/-- A journaled acknowledgement of a latched frame: accepted, it shows that the frame was sent, and its planned on-time is
charged (R309). -/
def applyAck (s : State) (bs : Nat) (a : AckFrame) : State :=
  match (chainOf s bs).plan with
  | some p =>
    let t := ackAccepted s bs p a
    if (chainOf t bs).plan.isNone then chargePlan t bs p p.onTime else t
  | none => s

/-- AIR_RX: a received frame, or an acknowledgement. -/
def applyAir (s : State) (o : Octets) (f : AirFrame) : State :=
  match f.macType with
  | .ack => applyAck s f.bandSector (ackOfRecord o f)
  | _ => airProcess s f

/-- Time state of a code (TIME_STATUS). -/
def modeOfCode (n : Nat) (old : TimeMode) : TimeMode :=
  match n with
  | 0 => .unacquired
  | 1 => .locked
  | 2 => .holdover
  | 3 => .root
  | _ => old

/-- TIME_EVENT: the time state is the journaled one, and the entry takes the event (R127). -/
def applyTime (s : State) (entry : Nat) (miss : Bool) (code : Nat) (offset : Int) : State :=
  let s := { s with time := { s.time with mode := modeOfCode code s.time.mode, lastOffset := if miss then s.time.lastOffset else offset } }
  if entry < 4 then updEntry s entry (fun e => if miss then e else { e with offset := offset, total := e.total + 1 }) else s

/-- An outcome of the frame a follower has latched itself (R305, Table 11-7). -/
def applyPlanned (s : State) (bs : Nat) (p : TxPlan) (code onTime : Nat) : State :=
  let s := if code = 0 || code = 10 then chargePlan s bs p onTime else s
  match code with
  | 0 => if p.kind = .frame && p.ackRequested then unackedPlan s bs p else finishPlan s bs p
  | 10 => if p.kind = .frame && p.ackRequested then unackedPlan s bs p else finishPlan s bs p
  | _ => dropPlan s bs

/-- The cell of a latched plan, 0 where it has none. -/
def planAt (s : State) (cell bs : Nat) : Option TxPlan :=
  match (chainOf s bs).plan with
  | some p => if p.cell.getD 0 = cell then some p else none
  | none => none

/-- An acknowledgement the active chip has sent, or could not place, for a frame the follower still owes one. -/
def applyAckOut (s : State) (a : AckDue) (code onTime : Nat) : State :=
  let b := bandOf a.bandSector
  let s := { s with link := { s.link with acksDue := s.link.acksDue.erase a } }
  if code = 0 then
    let s := addDwell (settleDuty s (accountOf b (channelSubBand s b (ackMode s a) a.firstBin)) 0 onTime) b (ackMode s a)
      a.firstBin onTime
    useFc (reserveFc s (localIndex a.handle)) (localIndex a.handle)
  else s

/-- A ranging cell of the slot that has just ended charges its whole on-time (R406). -/
def applyRanging (s : State) (cell bs time onTime : Nat) : State :=
  let c := cellAt s cell
  let b := bandOf bs
  if c.valid && c.kind = 3 && c.bandSector = bs then
    let first := cellChannel s c (asnAt s b (time - 1))
    addDwell (settleDuty s (accountOf b (channelSubBand s b c.mode first)) 0 onTime) b c.mode first onTime
  else s

/-- One item of a CELL_OUTCOME: of the latched plan of that cell, of an owed acknowledgement, or of a ranging cell. -/
def applyOutcome (time : Nat) (s : State) (x : Nat × Nat × Nat × Nat) : State :=
  match planAt s x.1 x.2.1 with
  | some p => applyPlanned s x.2.1 p x.2.2.1 x.2.2.2
  | none =>
    match s.link.acksDue.find? (fun a => a.bandSector = x.2.1 && a.cell.getD 0 = x.1) with
    | some a => applyAckOut s a x.2.2.1 x.2.2.2
    | none => if x.2.2.1 = 0 then applyRanging s x.1 x.2.1 time x.2.2.2 else s

/-- FC_BLOCK: the limit of a node's counter, or of NET_FC (R162). -/
def applyFc (s : State) (handle limit : Nat) : State :=
  if handle = 0xFFFFFFFF then { s with link := { s.link with netFcLimit := limit } }
  else updNode s (localIndex handle) (fun n => { n with txFcLimit := limit })

/-- READING: source 1 releases the oldest wake that waits for the journal, else it is kept for the read that takes it
(R359, R361). -/
def applyReading (s : State) (source value : Nat) : State :=
  let keep := { s with threads := { s.threads with readings := s.threads.readings ++ [(source, value)] } }
  if source = 1 then
    match s.threads.deferred with
    | (tid, src) :: l => raiseNow { s with threads := { s.threads with deferred := l } } tid src
    | [] => keep
  else keep

/-- THREAD_OUT: a thread's frame enters the pipeline, a thread's write is applied (R305). -/
def applyThreadOut (s : State) (write : Bool) (o : Octets) : State :=
  if write then applyRecord s (fieldOf o 0 2) (fieldOf o 2 1) (o.drop 3)
  else (submitPacket s (threadPacket (fieldOf o 0 1) (o.drop 1))).1

/-- DIGEST: the active chip's D of the pass; the follower's own is compared when the pass end comes (R308). -/
def applyDigest (s : State) (pass : Nat) (leading : Octets) : State :=
  let d := nextDigest s
  beginPass (updTwin s (fun t => { t with digestDue := some (pass, decide (d.take 16 = padTo 16 leading)) })) (pass + 1) d []

/-- The effect of one record. -/
def applyBody (s : State) (r : JournalRecord) : State :=
  match r.body with
  | .airRx o f => applyAir s o f
  | .wiredRx _ p => shadowPacket s p
  | .sopWrite _ _ idx sub v => applyRecord s idx sub v
  | .timeEvent e _ miss m off _ => applyTime s e miss m off
  | .trng c w => updTwin s (fun t => { t with trngWords := t.trngWords ++ [(c, w)] })
  | .cellOutcome l => l.foldl (applyOutcome r.time) s
  | .fcBlock h n => applyFc s h n
  | .reading src v => applyReading s src v
  | .threadOut w o => applyThreadOut s w o
  | .slotEnd _ => updTwin s (fun t => { t with completedAsn := r.asn, slotEndJseq := r.jseq, afterSlotEnd := [] })
  | .digest k l => applyDigest s k l
  | .swap m => updTwin s (fun t => { t with swapAsn := some m, swapReady := true, claimAsn := some m })
  | .keyAccept slot c => partnerAccepted s slot c

/-- A record in sequence is applied and joins the digest's pass. -/
def applyNext (s : State) (r : JournalRecord) : State :=
  let s := updTwin s (fun t => { t with received := r.jseq })
  let s := applyBody s r
  updTwin s (fun t => { t with applied := r.jseq, passRecords := t.passRecords ++ [r] })

/- The sequence (R306, R311). -/

/-- The first record after a snapshot fixes the sequence, and D_0 is that of the snapshot's ASN (R308). -/
def beginSequence (s : State) (r : JournalRecord) : State :=
  if s.twin.awaitFirst then
    let s := beginPass s 1 (digestZero r.asn) []
    updTwin s (fun t => { t with
      awaitFirst := false, received := r.jseq - 1, applied := r.jseq - 1, slotEndJseq := r.jseq - 1, completedAsn := r.asn - 1 })
  else s

/-- One record of a frame: applied where it is the next and the follower applies records. -/
def takeRecord (s : State) (r : JournalRecord) : State :=
  if s.twin.stopped || roleHalted s || s.power.dev != .follower then s
  else
    let s := beginSequence (updTwin s (fun t => { t with seen := max t.seen r.jseq })) r
    if r.jseq = s.twin.received + 1 then applyNext s r else s

/-- Frames without records although records it has seen are missing: the follower stops and requests a snapshot (R306). -/
def noticeSilence (s : State) (records : List JournalRecord) : State :=
  if records.isEmpty && !s.twin.stopped && s.twin.applied < s.twin.seen then resync s else s

/-- R306: a JOURNAL frame: the follower applies its records in JSEQ order and returns a JACK. -/
def execJournalFrameRx (claim : Bool) (records : List JournalRecord) (s : State) : Host.Outcome State Fault Refusal :=
  if hasPartner s ∧ portCarries s 3 ∧ (s.power.dev = .active ∨ s.power.dev = .follower) then
    let s := checkInterlock (partnerHeard s) claim
    if s.power.dev = .follower ∧ !s.twin.mismatch then done (sendJack (noticeSilence (records.foldl takeRecord s) records))
    else done s
  else done s

end Sys2Proof.Machine
end

