-- ==== Sys2Proof/Machine/Load.lean ====
section
/-! DEFINITION. The end of LOAD: retained regions, resolved configuration, loaded engines, and the state LOAD ends in (R22,
R136, R163, R318, R321, R326, R451). -/

namespace Sys2Proof.Machine

/- Retained DRAM regions (R321, Table 12-2). The regions are numbered 0 to 6 in the table's order: node contexts, cells, host
table, routes and next hops, staged images, event archive, update buffer (log entry 36). -/

/-- The node contexts are cleared; with them the host table, and the VALID bit of each cell whose PEER is an own node. -/
def clearNodes (s : State) : State :=
  { s with
    link := { s.link with nodes := [], resting := [] }
    fwd := { s.fwd with host := [], stash := [] }
    sched := { s.sched with cells := s.sched.cells.mapVals (fun _ c =>
      if c.peer != 0xFFFFFFFF && chipOf c.peer = ownIndex s % 4096 then { c with valid := false } else c) }
    image := { s.image with nodesRetained := false } }

/-- One region with an uncorrectable error is cleared. -/
def clearRegion (s : State) (k : Nat) : State :=
  match k with
  | 0 => clearNodes s
  | 1 => { s with sched := { s.sched with cells := [] } }
  | 2 => { s with fwd := { s.fwd with host := [], stash := [] } }
  | 3 => { s with fwd := { s.fwd with routes := [], nextHops := [] } }
  | 4 => { s with fleet := { s.fleet with stages := [] } }
  | 5 => { s with recorder := { s.recorder with
      archive := s.recorder.ring
      oldest := max s.recorder.oldest (match s.recorder.ring with
        | p :: _ => p.1
        | [] => s.recorder.nextSeq) } }
  | 6 => { s with image := { s.image with buffer := [] } }
  | _ => s

/-- Retained regions are read through ECC; those with an uncorrectable error are cleared, event 0x8004. -/
def checkRegions (s : State) (bad : List Nat) : State :=
  let l := (bad.filter (fun k => k ≤ 6)).eraseDups
  if !s.image.retained || l.isEmpty then s
  else
    let l := if l.contains 0 && !l.contains 2 then 2 :: l else l
    let mask := sumOf (l.map (fun k => 2 ^ k))
    record (l.foldl clearRegion s) 0x8004 (127 - mask) mask 0

/-- Staging slots that were not ready hold what has been written to them. -/
def settleStages (s : State) : State :=
  { s with fleet := { s.fleet with stages := s.fleet.stages.mapVals (fun _ x =>
      if x.status = 4 then x else { x with status := bitNat (!x.mem.isEmpty) }) } }

/-- R163: the counter of every surviving node starts at its limit. -/
def raiseCounters (s : State) : State :=
  { s with link := { s.link with
      netFc := s.link.netFcLimit, nodes := s.link.nodes.mapVals (fun _ n => { n with txFc := n.txFcLimit }) } }

/- What the resolved configuration puts in force. -/

/-- Stored shaper configurations wait for their first consultation (R195). -/
def startShapers (s : State) : State :=
  (s.vals.filter (fun p => shaperKey p.1)).foldl (fun s (p : Nat × Octets) =>
    updShaper s (p.1 - 0x1510000) (fun x => { x with pending := some (p.2, timeUs s) })) s

/-- Stored gate lists wait for their first cycle (R199). -/
def startGates (s : State) : State :=
  let one := fun (eth : Bool) (s : State) (sub : Nat) =>
    let g := obj s (gateIndex eth) sub
    { s with queues := { s.queues with gatesPending := FMap.put s.queues.gatesPending (gateKey eth sub) g } }
  [1, 2].foldl (one true) ((List.range 9).foldl (fun s i => one false s (i + 1)) s)

/-- A slotframe is enabled. -/
def anySlotframe (s : State) : Bool := (List.range 16).any (fun h => (slotframe s h).1)

/-- The one cell of the minimal configuration (R136). -/
def minimalCell : Cell :=
  { valid := true, tx := true, rx := true, shared := true, kind := 1, slotframe := 0, bandSector := 5, slotOffset := 0
    channelOffset := 0, cls := 0, mode := 0x20, peer := 0xFFFFFFFF, hopSeq := 0 }

/-- R136: with no slotframe enabled and MINIMAL_AUTO, slotframe 0 on H of 101 slots with one cell. -/
def minimalSchedule (s : State) : State :=
  if anySlotframe s || !objB s 0x4102 0 then s
  else
    let s := setObj s 0x4100 1 (byte 5 :: beOctets 2 101)
    { s with sched := { s.sched with cells := FMap.put s.sched.cells 0 minimalCell } }

/-- The installed profile comes into force, Economy where the installation admits no other (R28). -/
def startProfiles (s : State) : State := putProfiles { s with power := { s.power with effective := [0, 0, 0, 0] } }

/-- CAN_CFG and VIO_OUT_ENABLE as a start takes them (R401, Table 16-20). -/
def startPins (s : State) : State :=
  { s with
    sop := { s.sop with canCfg := [(0, obj s 0x1101 1), (1, obj s 0x1101 2)] }
    power := { s.power with vioOut := objB s 0xC200 0 } }

/-- An interrupted chip update waits for its contents, or goes on (R334). -/
def startUpdate (s : State) : State :=
  match s.image.journal with
  | some j => updateAwaited s j
  | none => s

/-- The configuration and everything that follows from it. -/
def configureLoad (s : State) (bad : List Nat) : State :=
  let s := resolveConfig (settleCommit s)
  let s := if s.keys.failed.isEmpty then s else countBy s 0x7130 0 4 s.keys.failed.length
  let s := raiseCounters (settleStages (checkRegions s bad))
  let s := restoreDuty (fillOwn (macsecStart s))
  let s := minimalSchedule (startGates (startShapers (startPins s)))
  startProfiles (takeTemplates ([0, 1, 2, 3].foldl driveCoex s))

/-- What LSF does last: the update, the campaigns, the application, the copies (R327, R334, R349, R365). -/
def finishLoad (s : State) : State := repairCopies (loadApplication (restoreCampaigns (startUpdate s)) 1)

/-- The events that waited for LSF: those of BOOT, the one change that stands for the start, and 0x8000 (R451). -/
def startEvents (s : State) : State :=
  let s := s.image.bootEvents.foldl (fun s e => record s e.1 e.2.1 e.2.2.1 e.2.2.2)
    { s with image := { s.image with bootEvents := [] } }
  let us := (s.now - s.power.startAt) / 1000
  let s := record s 0x0010 s.power.latchedState.code DevState.load.code s.power.startCause
  let s := record s 0x8000 s.image.running s.power.startCause us
  { s with power := { s.power with endOfStart := s.now }, image := { s.image with loadUs := us } }

/- The state LOAD ends in (Tables 1-11 and 1-18). -/

/-- Why LOAD ends in MAINTENANCE, by Table 1-18; none where the claim logic decides. -/
def maintenanceReason (s : State) : Option Nat :=
  if configUnresolved s then some 0x10
  else if s.power.lifecycle != .field then some 0x11
  else if partitionEmpty s then some 0x12
  else if objB s 0x1013 0 then some 0x13
  else none

/-- LOAD ends. -/
def leaveLoad (s : State) : State :=
  match maintenanceReason s with
  | some c => changeState s .maintenance c
  | none => runClaim s 0x14

/-- R22, R318: the engines are loaded and the configuration is resolved; a segment that fails its digest check is
fatal-to-role (Table 12-1). -/
def execLoadEnd (badRegions : List Nat) (s : State) : Host.Outcome State Fault Refusal :=
  if s.power.dev = .load ∧ s.twin.claim = .released then
    if !segmentsLoad s then done (fatalToRole s)
    else done (leaveLoad (startEvents (finishLoad (configureLoad s badRegions))))
  else done s

end Sys2Proof.Machine
end

