-- ==== Sys2Proof/Machine/SopOps.lean ====
section
/-! DEFINITION. The SOP operations on objects: READ, WRITE, EXECUTE, segmented transfers and subscriptions (R382 to R388).
Each acts for a caller whose frame has passed the checks of R380. -/

namespace Sys2Proof.Machine

/- What operations share. -/

/-- Largest SOP frame of a transport (Table 14-8). -/
def sopLargest (t : Nat) : Nat := if t ≤ 1 then 1024 else if t ≤ 4 then 1232 else if t = 5 then 8192 else 4160

/-- Octets of the tag a caller's frames carry (R380). -/
def tagLength (s : State) : Caller → Nat
  | .session sid => match FMap.find s.sop.sessions sid with
    | some x => if x.method = 0 && !x.half then 8 else 0
    | none => 0
  | _ => 0

/-- Octets a caller's frame has for a body. -/
def bodyRoom (s : State) (who : Caller) : Nat := sopLargest (transportOf s who) - 12 - tagLength s who

/-- The position and status of the first item that fails a check. -/
def firstBad {α : Type} (f : α → Nat) : Nat → List α → Option (Nat × Nat)
  | _, [] => none
  | i, x :: l => if f x = 0 then firstBad f (i + 1) l else some (i, f x)

/-- States in which the OD service takes a request; in BOOT, LOAD and RECOVERY received frames are discarded, and with
CC0 halted nothing is taken (R394, Table 15-12). -/
def takesSop (s : State) : Bool :=
  (s.power.dev = .maintenance || s.power.dev = .active || s.power.dev = .follower || s.power.dev = .zeroized) && !lsfStopped s

/-- Answer a request whose own effect may have ended its session: the response still leaves under that session. -/
def answerEnded (before s : State) (from_ : Nat) (who : Caller) (op seq status item : Nat) (rest : Octets) : State :=
  match callerEnd s who with
  | some _ => respondFrom s from_ who op seq status item rest
  | none =>
    match callerEnd before who with
    | some (sid, e) =>
      if servesSop s then
        let body := [byte status, byte item] ++ (if status = 0 then rest else [])
        answerFrame s from_ e (sopFrame (FMap.find before.sop.sessions sid) false op sid seq body)
      else s
    | none => s

/- READ (R384). -/

/-- Values of read items, each with its length. -/
def readItems (s : State) (who : Caller) (items : List (Nat × Nat)) : Octets :=
  (items.map (fun i =>
    let v := readValue s who i.1 i.2
    beOctets 2 v.length ++ v)).flatten

/-- STATUS, ITEM and values of read items whose positions start at `base`; values that do not fit the transport's frame
are refused with RESOURCE (log entry 74). -/
def readAnswer (s : State) (who : Caller) (base : Nat) (items : List (Nat × Nat)) : Nat × Nat × Octets :=
  match firstBad (fun (i : Nat × Nat) => readStatus s who i.1 i.2) base items with
  | some (i, st) => (st, i, [])
  | none =>
    let b := readItems s who items
    if b.length + 2 ≤ bodyRoom s who then (0, 0xFF, b) else (stResource, 0xFF, [])

/-- READ: answered whole or refused whole, every value taken at one instant. -/
def opRead (s : State) (who : Caller) (seq : Nat) (items : List (Nat × Nat)) : State :=
  let a := readAnswer s who 0 items
  respond (drewFree s) who 1 seq a.1 a.2.1 a.2.2

/- WRITE (R384). -/

/-- The status and position of the first write item that fails: on a follower a list that names pair objects is refused
whole (R378), else each item is checked in turn. -/
def writeRefused (s : State) (who : Caller) (items : List (Nat × Nat × Octets)) : Option (Nat × Nat) :=
  match if 1 < items.length && s.power.dev = .follower && (callerRole s who).isSome then
      firstBad (fun (i : Nat × Nat × Octets) => if pairObject i.1 then stRole else 0) 0 items else none with
  | some r => some r
  | none => firstBad (fun (i : Nat × Nat × Octets) => objCheck s who i.1 i.2.1 i.2.2) 0 items

/-- What the checks of items leave, as far as the first that fails. -/
def noteItems (s : State) (who : Caller) : List (Nat × Nat × Octets) → State
  | [] => s
  | (idx, sub, v) :: l =>
    if writeStatus s who idx sub v = 0 then
      let t := objNote who idx sub v s
      if objRule who idx sub v s = 0 then noteItems t who l else t
    else s

/-- Apply checked items in order, each journaled on its own, while the chip still serves SOP (R378, R384). -/
def applyItems (s : State) (who : Caller) (items : List (Nat × Nat × Octets)) : State :=
  items.foldl (fun s i =>
    if servesSop s then objApply who i.1 i.2.1 i.2.2 (journalWrite s who i.1 i.2.1 i.2.2) else s) s

/-- Check all items, then apply all or none; the refusal with its position. -/
def writeItems (s : State) (who : Caller) (items : List (Nat × Nat × Octets)) : State × Option (Nat × Nat) :=
  match writeRefused s who items with
  | some (i, st) => (setStatus (noteItems s who items) who st, some (i, st))
  | none => (setStatus (applyItems (noteItems s who items) who items) who 0, none)

/-- WRITE. -/
def opWrite (s : State) (who : Caller) (seq : Nat) (items : List (Nat × Nat × Octets)) : State :=
  match writeItems s who items with
  | (t, some (i, st)) => respond t who 2 seq st i []
  | (t, none) => answerEnded s t s.twin.nextJseq who 2 seq 0 0xFF []

/- EXECUTE (R385). -/

/-- Whether a command's status object still has its busy or running value (R385). -/
def commandBusy (s : State) (idx sub : Nat) : Bool :=
  match idx with
  | 0x6020 => objN s 0x6024 0 = 1
  | 0x4112 => s.sched.status = 1
  | 0x8012 => s.image.updState = 1 || s.image.updState = 2 || s.image.updState = 3
  | 0x8033 => (FMap.getD s.fleet.stages sub {}).status = 2 || (FMap.getD s.fleet.stages sub {}).status = 3
  | 0x8041 => (FMap.getD s.fleet.campaigns sub {}).state = .running
  | _ => false

/-- Whether an object is a CMD object. -/
def isCmd (idx sub : Nat) : Bool := ((objRow idx sub).map (fun r => r.access)) = some .cmd

/-- Replace the EXECUTE a caller waits on. -/
def setExecute (s : State) (who : Caller) (w : Option ExecuteWait) : State :=
  setViews s who { viewsOf s who with execute := w }

/-- The journal position an answer given after a wait starts from: it waits for the receipt of the writes still on
their way to the partner (R307). -/
def receiptStart (s : State) : Nat :=
  if receiptAwaited s (fun b => match b with
    | .sopWrite .. => true
    | _ => false) then 0 else s.twin.nextJseq

/-- EXECUTE: its write items as a WRITE, then the wait or the answer. -/
def opExecute (s : State) (who : Caller) (seq : Nat) (writes : List (Nat × Nat × Octets)) (reads : List (Nat × Nat)) :
    State :=
  if (viewsOf s who).execute.isSome then respond s who 7 seq stBusy 0xFF []
  else match writes.getLast? with
    | none => respond s who 7 seq stFrame 0xFF []
    | some (idx, sub, _) =>
      if !isCmd idx sub then respond s who 7 seq stRange (writes.length - 1) []
      else match writeItems s who writes with
        | (t, some (i, st)) => respond t who 7 seq st i []
        | (t, none) =>
          if commandBusy t idx sub then
            setExecute t who (some { seq := seq, index := idx, sub := sub, reads := reads, base := writes.length, startedAt := s.now })
          else
            let a := readAnswer t who writes.length reads
            answerEnded s (drewFree t) s.twin.nextJseq who 7 seq a.1 a.2.1 a.2.2

/-- The command has completed: the read items are taken and the response leaves. -/
def executeEnds (s : State) (who : Caller) (w : ExecuteWait) : State :=
  let s := setExecute s who none
  let a := readAnswer s who w.base w.reads
  respondFrom (drewFree s) (receiptStart s) who 7 w.seq a.1 a.2.1 a.2.2

/-- The vendor range, which the spec does not describe, is named by a caller with the rights to it. -/
def vendorNamed (s : State) (who : Caller) (l : List Nat) : Bool := l.any (vendorTouch s who)

/- Segmented transfers (R386). -/

/-- Least and largest length of an object's value (Table 14-1). -/
def typeBounds : ObjType → Nat × Nat
  | .bool => (1, 1)
  | .unsigned w => (w, w)
  | .signed w => (w, w)
  | .octets k => (k, k)
  | .text k => (0, k)
  | .record base unit most => (base, base + unit * most)

/-- The check of SEG_WRITE_START: rights, access, state and TOTAL (R386). -/
def segWriteStatus (s : State) (who : Caller) (idx sub total : Nat) : Nat :=
  let b := match objRow idx sub with
    | some r => typeBounds r.typ
    | none => (0, 0)
  match writeStatus s who idx sub (zeros b.1) with
  | 0 => require (total ≤ b.2) stType
  | e => e

/-- Replace a caller's transfer. -/
def setTransfer (s : State) (who : Caller) (t : Option Transfer) : State :=
  setViews s who { viewsOf s who with transfer := t }

/-- The largest data of one SEG_WRITE on the caller's transport. -/
def maxSegment (s : State) (who : Caller) : Nat := bodyRoom s who - 4

/-- SEG_WRITE_START: the operand of a data object is taken as it stands. -/
def opSegWriteStart (s : State) (who : Caller) (seq idx sub total : Nat) : State :=
  let st := segWriteStatus s who idx sub total
  if st = 0 then
    let t : Transfer := { write := true, index := idx, sub := sub, total := total, data := [],
                          operand := operandNow s idx sub, segAt := s.now }
    respond (setTransfer s who (some t)) who 5 seq 0 0xFF (beOctets 2 (maxSegment s who))
  else respond (setTransfer s who none) who 5 seq st 0 []

/-- A segment out of order abandons the transfer. -/
def segAbandon (s : State) (who : Caller) (seq : Nat) : State := respond (setTransfer s who none) who 6 seq stSegment 0xFF []

/-- SEG_WRITE: contiguous data; the last octet applies the value as one WRITE. -/
def opSegWrite (s : State) (who : Caller) (seq offset : Nat) (data : Octets) : State :=
  match (viewsOf s who).transfer with
  | some t =>
    if !t.write then respond s who 6 seq stSegment 0xFF []
    else if offset != t.data.length || t.total < t.data.length + data.length then segAbandon s who seq
    else if t.data.length + data.length = t.total then
      let u := writeAt (setTransfer s who none) who t.index t.sub (t.data ++ data) t.operand
      let st := (viewsOf u who).status
      answerEnded s u s.twin.nextJseq who 6 seq st (if st = 0 then 0xFF else 0) []
    else respond (setTransfer s who (some { t with data := t.data ++ data, segAt := s.now })) who 6 seq 0 0xFF []
  | none => respond s who 6 seq stSegment 0xFF []

/-- SEG_READ_START: the value is latched. -/
def opSegReadStart (s : State) (who : Caller) (seq idx sub : Nat) : State :=
  let st := readStatus s who idx sub
  if st = 0 then
    let v := readValue s who idx sub
    let t : Transfer := { write := false, index := idx, sub := sub, total := v.length, data := v, operand := 0, segAt := s.now }
    respond (setTransfer (drewFree s) who (some t)) who 3 seq 0 0xFF (beOctets 4 v.length)
  else respond (setTransfer s who none) who 3 seq st 0 []

/-- SEG_READ: octets of the latched value, as many as asked for, held and fitting the frame. -/
def opSegRead (s : State) (who : Caller) (seq offset most : Nat) : State :=
  match (viewsOf s who).transfer with
  | some t =>
    if t.write || t.total < offset then respond s who 4 seq stSegment 0xFF []
    else
      let d := sliceOf t.data offset (min most (bodyRoom s who - 6))
      respond (setTransfer s who (some { t with segAt := s.now })) who 4 seq 0 0xFF (beOctets 4 offset ++ d)
  | none => respond s who 4 seq stSegment 0xFF []

/- Subscriptions (R387). -/

/-- Subscriptions the chip holds. -/
def subsHeld (s : State) : Nat :=
  sumOf (s.sop.sessions.map (fun p => p.2.views.subs.length)) + sumOf (s.sop.endpoints.map (fun p => p.2.subs.length))

/-- The next SUB_ID not in use, 0 to 254. -/
def freeSub (w : Views) : Nat :=
  (((List.range 255).map (fun i => (w.nextSub + i) % 255)).find? (fun k => !w.subs.has k)).getD 0

/-- The checks of SUBSCRIBE, with the item's position where the item fails. -/
def subscribeStatus (s : State) (who : Caller) (idx sub mode interval : Nat) : Nat × Nat :=
  if mode < 1 || 3 < mode then (stFrame, 0xFF)
  else match readStatus s who idx sub with
    | 0 =>
      if 128 < (readValue s who idx sub).length then (stRange, 0)
      else if interval < 10 || 60000 < interval then (stRange, 0xFF)
      else if 16 ≤ (viewsOf s who).subs.length || 64 ≤ subsHeld s then (stResource, 0xFF)
      else (0, 0xFF)
    | e => (e, 0)

/-- SUBSCRIBE. -/
def opSubscribe (s : State) (who : Caller) (seq idx sub mode interval : Nat) : State :=
  let st := subscribeStatus s who idx sub mode interval
  if st.1 = 0 then
    let w := viewsOf s who
    let k := freeSub w
    let x : Subscription := { index := idx, sub := sub, mode := mode, interval := interval,
                              due := s.now + interval * 1000000, sent := none, waiting := none, lost := false }
    respond (setViews s who { w with subs := FMap.put w.subs k x, nextSub := (k + 1) % 255 }) who 9 seq 0 0xFF [byte k]
  else respond s who 9 seq st.1 st.2 []

/-- UNSUBSCRIBE: one subscription, or with 0xFF all. -/
def opUnsubscribe (s : State) (who : Caller) (seq k : Nat) : State :=
  let w := viewsOf s who
  if k = 0xFF then respond (setViews s who { w with subs := [] }) who 10 seq 0 0xFF []
  else if w.subs.has k then respond (setViews s who { w with subs := FMap.del w.subs k }) who 10 seq 0 0xFF []
  else respond s who 10 seq stRange 0xFF []

/-- Whether a transport can take a NOTIFY now: a full notification ring and a CAN bus held off cannot (R387, R398, R443). -/
def takesNotify (s : State) (t : Nat) : Bool :=
  if t = 5 then (s.sop.ntfHead + 1) % 64 != s.sop.ntfTail else !s.sop.canHeld.contains t

/-- A NOTIFY frame leaves: on MB0 into the next slot of the ring with MSI vector 1, on CAN at the priority of CAN_CFG. -/
def notifyOut (s : State) (e : Endpoint) (f : Octets) : State :=
  if e.transport = 5 then
    let h := s.sop.ntfHead
    msi { s with sop := { s.sop with
      ntfRing := FMap.put s.sop.ntfRing h (beOctets 2 f.length ++ f), ntfHead := (h + 1) % 64 } } 1
  else if e.transport ≤ 1 then
    canOut s e.transport (fieldOf e.address 0 1 % 128) (fieldOf (FMap.getD s.sop.canCfg e.transport []) 2 1 % 8) f
  else sopOut s e f

/-- Send a subscription's newest pending value, if the transport takes it. -/
def sendPending (s : State) (who : Caller) (k : Nat) : State :=
  match callerEnd s who, FMap.find (viewsOf s who).subs k with
  | some (sid, e), some x =>
    match x.waiting with
    | some (v, t) =>
      if takesNotify s e.transport then
        let w := viewsOf s who
        let body := [byte k, byte (bitNat x.lost)] ++ beOctets 2 v.length ++ beOctets 8 t ++ v
        let f := sopFrame (FMap.find s.sop.sessions sid) true 11 sid w.notifies body
        let s := setViews s who { w with
          notifies := (w.notifies + 1) % 2 ^ 32, subs := FMap.put w.subs k { x with waiting := none, lost := false, sent := some v } }
        notifyOut (countSop s e.transport 5) e f
      else s
    | none => s
  | _, _ => s

/-- A value that replaces one still pending is counted and recorded (R387). -/
def noteLost (s : State) (who : Caller) (k : Nat) : State :=
  match callerEnd s who with
  | some (sid, e) => record (countSop s e.transport 6) 0xA011 sid k 1
  | none => s

/-- One sample: pending where the mode asks for it, then sent. -/
def sampleSub (s : State) (who : Caller) (k : Nat) (x : Subscription) : State :=
  let v := readValue s who x.index x.sub
  let changed : Bool := x.sent != some v
  let wanted : Bool := (2 ≤ x.mode) || changed
  let overrun : Bool := wanted && x.waiting.isSome
  let y : Subscription := { x with
    due := x.due + x.interval * 1000000, waiting := if wanted then some (v, domainTime s) else x.waiting, lost := x.lost || overrun }
  let w := viewsOf s who
  let s := setViews (drewFree s) who { w with subs := FMap.put w.subs k y }
  sendPending (if overrun then noteLost s who k else s) who k

/-- Every pending NOTIFY of a transport goes as far as the transport takes it. -/
def flushPending (s : State) (t : Nat) : State :=
  let callers : List Caller := (s.sop.sessions.filter (fun p => p.2.endpoint.transport = t)).map (fun p => .session p.1) ++
    (s.sop.endpoints.filter (fun p => p.1.transport = t)).map (fun p => .endpoint p.1)
  callers.foldl (fun s c => ((viewsOf s c).subs.map (·.1)).foldl (fun s k => sendPending s c k) s) s

/- The rows. -/

/-- A request that the OD service takes, in a state that serves every operation; in ZEROIZED and RETIRED the answer is
STATE (R394). -/
def served (s : State) (who : Caller) (op seq : Nat) (f : State → State) : State :=
  if takesSop s then (if servesSop s then f s else respond s who op seq stState 0xFF []) else s

/-- R384: READ. -/
def execSopRead (who : Caller) (seq : Nat) (items : List (Nat × Nat)) (s : State) : Host.Outcome State Fault Refusal :=
  if vendorNamed s who (items.map (·.1)) then .refused .vendorRange
  else if takesSop s then done (opRead s who seq items) else done s

/-- R384: WRITE. -/
def execSopWrite (who : Caller) (seq : Nat) (items : List (Nat × Nat × Octets)) (s : State) :
    Host.Outcome State Fault Refusal :=
  if vendorNamed s who (items.map (·.1)) then .refused .vendorRange
  else done (served s who 2 seq (fun s => opWrite s who seq items))

/-- R386: SEG_READ_START. -/
def execSopSegReadStart (who : Caller) (seq index sub : Nat) (s : State) : Host.Outcome State Fault Refusal :=
  if vendorNamed s who [index] then .refused .vendorRange
  else done (served s who 3 seq (fun s => opSegReadStart s who seq index sub))

/-- R386: SEG_READ. -/
def execSopSegRead (who : Caller) (seq offset most : Nat) (s : State) : Host.Outcome State Fault Refusal :=
  done (served s who 4 seq (fun s => opSegRead s who seq offset most))

/-- R386: SEG_WRITE_START. -/
def execSopSegWriteStart (who : Caller) (seq index sub total : Nat) (s : State) : Host.Outcome State Fault Refusal :=
  if vendorNamed s who [index] then .refused .vendorRange
  else done (served s who 5 seq (fun s => opSegWriteStart s who seq index sub total))

/-- R386: SEG_WRITE. -/
def execSopSegWrite (who : Caller) (seq offset : Nat) (data : Octets) (s : State) : Host.Outcome State Fault Refusal :=
  done (served s who 6 seq (fun s => opSegWrite s who seq offset data))

/-- R386: a transfer with no segment for 30 s is abandoned. -/
def execSegTransferIdleTimeout (who : Caller) (s : State) : Host.Outcome State Fault Refusal :=
  match (viewsOf s who).transfer with
  | some t => if t.segAt + 30000000000 ≤ s.now then done (setTransfer s who none) else done s
  | none => done s

/-- R385: EXECUTE. -/
def execSopExecute (who : Caller) (seq : Nat) (writes : List (Nat × Nat × Octets)) (reads : List (Nat × Nat)) (s : State) :
    Host.Outcome State Fault Refusal :=
  if vendorNamed s who (writes.map (·.1) ++ reads.map (·.1)) then .refused .vendorRange
  else done (served s who 7 seq (fun s => opExecute s who seq writes reads))

/-- R385: the command's completion is observed. -/
def execExecuteCompletion (who : Caller) (s : State) : Host.Outcome State Fault Refusal :=
  match (viewsOf s who).execute with
  | some w => if takesSop s && !commandBusy s w.index w.sub then done (executeEnds s who w) else done s
  | none => done s

/-- R385: 1 s has passed and the command runs on. -/
def execExecuteTimeout (who : Caller) (s : State) : Host.Outcome State Fault Refusal :=
  match (viewsOf s who).execute with
  | some w =>
    if takesSop s && w.startedAt + 1000000000 ≤ s.now && commandBusy s w.index w.sub then
      done (respondFrom (setExecute s who none) (receiptStart s) who 7 w.seq stTimeout 0xFF [])
    else done s
  | none => done s

/-- R387: SUBSCRIBE. -/
def execSopSubscribe (who : Caller) (seq index sub mode interval : Nat) (s : State) : Host.Outcome State Fault Refusal :=
  if vendorNamed s who [index] then .refused .vendorRange
  else done (served s who 9 seq (fun s => opSubscribe s who seq index sub mode interval))

/-- R387: UNSUBSCRIBE. -/
def execSopUnsubscribe (who : Caller) (seq subId : Nat) (s : State) : Host.Outcome State Fault Refusal :=
  done (served s who 10 seq (fun s => opUnsubscribe s who seq subId))

/-- R387: the INTERVAL of a subscription ends: sample, and send or keep the newest value. -/
def execNotifyInterval (who : Caller) (subId : Nat) (s : State) : Host.Outcome State Fault Refusal :=
  match FMap.find (viewsOf s who).subs subId with
  | some x => if takesSop s && x.due ≤ s.now then done (sampleSub s who subId x) else done s
  | none => done s

end Sys2Proof.Machine
end

