-- ==== Sys2Proof/Machine/Mailbox.lean ====
section
/-! DEFINITION. The OD mailbox of the application threads (R359, R363). -/

namespace Sys2Proof.Machine

/-- READING source of a measured object: AIN, supply, temperature (Table 11-6). -/
def readingSource (idx : Nat) : Option Nat :=
  match idx with
  | 0xA411 => some 2
  | 0xA400 => some 3
  | 0xA401 => some 4
  | _ => none

/-- A value that a thread reads: a measured one is journaled by the active chip with its leading 8 octets, and on a
follower those come from the journal (R359; log entry 76). -/
def threadReading (s : State) (idx : Nat) (v : Octets) : Octets × State :=
  match readingSource idx with
  | some src =>
    if shadows s then
      let r := takeReading s src
      (beOctets 8 r.1 ++ v.drop 8, r.2)
    else (v, journal s 0 (.reading src (beNat (v.take 8))))
  | none => (v, s)

/-- A read of an object: its status and octets, cut to the room the block gives. -/
def mailRead (s : State) (who : Caller) (idx sub room : Nat) : State × (Nat × Octets) :=
  let st := readStatus s who idx sub
  if st = 0 then
    let r := threadReading (drewFree s) idx (readValue s who idx sub)
    (r.2, (0, r.1.take room))
  else (s, (st, []))

/-- A write of an object; on a follower a thread's output is discarded (R305, R363). -/
def mailWrite (s : State) (who : Caller) (idx sub : Nat) (v : Octets) : State × (Nat × Octets) :=
  if s.power.dev = .follower then (s, (0, []))
  else
    let t := writeObject s who idx sub v
    (t, ((viewsOf t who).status, []))

/-- R363: an OD request reads or writes one object with Operator rights; its result waits for completion. -/
def execMailboxOdSubmit (core addr : Nat) (s : State) : Host.Outcome State Fault Refusal :=
  onThread s core (fun tid _ => mailSubmit s core tid addr 1 (fun s =>
    let b := appRead s addr 64
    let idx := fieldOf b 36 2
    let sub := fieldOf b 38 1
    if !mailPlaces b || lsfStopped s then none
    else match fieldOf b 0 1 with
      | 1 => let r := mailRead s (.mailbox tid) idx sub (fieldOf b 32 4)
             some (r.1, none, some r.2)
      | 2 => let r := mailWrite s (.mailbox tid) idx sub (mailInput s b)
             some (r.1, none, some r.2)
      | _ => none))

end Sys2Proof.Machine
end

