-- ==== Sys2Proof/Machine/Peers.lean ====
section
/-! DEFINITION. Peer messages of the domain: Announcements and Node Moved (R170 to R173). -/

namespace Sys2Proof.Machine

/-- R171: an Announcement at each multiple of 10 s of domain time plus 2 ms times the chip index; Node Moved messages are
repeated with it. -/
def execPeerAnnouncementTx (s : State) : Host.Outcome State Fault Refusal :=
  let t := domainTime s - 2000000 * chipIndex s
  let k := t / 10000000000 + 1
  if timeAcquired s ∧ trialState s.power.dev ∧ s.link.announced < k then
    let s := { s with link := { s.link with announced := k } }
    match peerSealed s (peerHeader s 1 68 ++ announcementBody s) with
    | some m =>
      let s := sendPeer s m 0 true
      let s := s.link.moved.foldl sendMoved s
      done { s with link := { s.link with
        moved := (s.link.moved.map (fun x => (x.1, x.2.1, x.2.2 - 1))).filter (fun x => 0 < x.2.2) } }
    | none => done s
  else done s

/-- R172: the message has its form, and its CMAC verifies under the "ctl" key of SENDER_EUI. -/
def peerAuthentic (s : State) (m : Octets) : Bool :=
  let len := fieldOf m 2 2
  let typ := fieldOf m 1 1
  fieldOf m 0 1 = 1 && len = m.length && ((typ = 1 && len = 68) || (typ = 2 && len = 56)) &&
    (match purposeKey s (sliceOf m 8 8) 4 with
     | some k => cmac k (m.take (len - 16)) = m.drop (len - 16)
     | none => false)

/-- R172: SENT is later than the last from the sender and within 1 s of domain time. -/
def peerFresh (s : State) (m : Octets) : Bool :=
  let sent := fieldOf m 16 8
  let last := match FMap.find s.link.peers (fieldOf m 4 2 % 4096) with
    | some p => decide (p.sent < sent)
    | none => true
  last && sent ≤ domainTime s + 1000000000 && domainTime s ≤ sent + 1000000000

/-- R172: ASN_EPOCH, or the digest of a band enabled on both sides, differs. -/
def peerMismatch (s : State) (m : Octets) : Bool :=
  sliceOf m 24 8 ≠ obj s 0x4001 0 ||
    [0, 1, 2].any (fun b => bandEnabled s b && fieldOf m (32 + 4 * b) 4 != 0 && fieldOf m (32 + 4 * b) 4 != templateDigest s b)

/-- A record of a sender not yet known. -/
def newPeer (eui : Octets) : Peer :=
  { eui := eui, announcement := [], sent := 0, known := false, mismatched := false, heardAt := 0, misses := 0, accepted := 0
    netFc := 0 }

/-- Store a peer's record. -/
def setPeer (s : State) (k : Nat) (p : Peer) : State := { s with link := { s.link with peers := FMap.put s.link.peers k p } }

/-- The join metric of the mesh source follows the Announcements of the chip it names. -/
def noteMetric (s : State) (eui : Octets) (metric : Nat) : State :=
  match s.time.active with
  | some i => if (sourceCfg s i).typ = 3 ∧ (sourceCfg s i).eui = eui then
      { s with time := { s.time with sourceMetric := metric } } else s
  | none => s

/-- An accepted Announcement (R172). -/
def acceptAnnouncement (s : State) (k : Nat) (p : Peer) (m : Octets) : State :=
  let bad := peerMismatch s m
  let s := if p.known then s else record s 0x3110 k (fieldOf m 44 1) 0
  let s := if bad && !p.mismatched then flushPeer (record s 0x3005 k 0 0) k p.eui else s
  let s := noteMetric s p.eui (fieldOf m 46 1)
  setPeer s k { p with announcement := m, known := true, mismatched := bad, heardAt := s.now, misses := 0, accepted := p.accepted + 1 }

/-- An accepted Node Moved: the departure actions, cause 3, where its JOIN_TIME is not older (R165). -/
def acceptMoved (s : State) (m : Octets) : State :=
  match nodeByEui s (sliceOf m 24 8) with
  | some (i, n) =>
    if (n.state = .joined ∨ n.state = .departing) ∧ n.joinTime ≤ fieldOf m 36 4 then departureActions s i 3 else s
  | none => s

/-- A verified peer message of another chip is taken (R172). -/
def peerProcess (s : State) (m : Octets) : State :=
  let own := sliceOf m 8 8 = senderEui s && fieldOf m 4 2 % 4096 = senderIndex s
  if !own && peerAuthentic s m && peerFresh s m then
    let k := fieldOf m 4 2 % 4096
    let p := { (FMap.find s.link.peers k).getD (newPeer (sliceOf m 8 8)) with sent := fieldOf m 16 8, eui := sliceOf m 8 8 }
    let s := setPeer s k p
    if fieldOf m 1 1 = 1 then acceptAnnouncement s k p m else acceptMoved s m
  else s

/-- R172: a peer message is accepted or ignored. -/
def execPeerMessageRx (message : Octets) (s : State) : Host.Outcome State Fault Refusal :=
  if trialState s.power.dev then done (peerProcess s message) else done s

/-- R173: an Announcement misses 15 s after the last accepted one and each 10 s after; three misses lose the peer. -/
def execPeerAnnouncementMiss (chip : Nat) (s : State) : Host.Outcome State Fault Refusal :=
  match FMap.find s.link.peers chip with
  | some p =>
    if p.known ∧ p.heardAt + (15 + 10 * p.misses) * 1000000000 ≤ s.now then
      if p.misses + 1 < 3 then done (setPeer s chip { p with misses := p.misses + 1 })
      else done (record (setPeer s chip { p with misses := 0, known := false }) 0x3111 chip p.accepted 0)
    else done s
  | none => done s

end Sys2Proof.Machine
end

