-- ==== Sys2Proof/Machine/Recover.lean ====
section
/-! DEFINITION. The recovery download (R337 to R339). -/

namespace Sys2Proof.Machine

/-- Change the recovery session. -/
def updRecovery (s : State) (f : Recovery → Recovery) : State :=
  { s with image := { s.image with recovery := s.image.recovery.map f } }

/-- A recovery frame (Table 12-13). -/
def recoveryFrame (cmd seq : Nat) (payload : Octets) : Octets :=
  let b := [byte cmd, byte seq] ++ beOctets 2 payload.length ++ payload
  [byte 0xA5, byte 0x5A] ++ b ++ beOctets 4 (crc32c b)

/-- A bank is the CONFIRMED bank in force and verifies (R338). -/
def bankProtected (s : State) (k : Nat) : Bool :=
  k = s.image.runBank && (bankAt s k).state = .confirmed && bankResult s k = 0

/-- A bank whose factory octets are held like written ones, so that a part of them may be overwritten. -/
def writable (b : Bank) : Bank :=
  if b.factory then { b with factory := false, mem := b.mem.writeAll 0 (bankRead b 1 0 0xA00000) } else b

/-- What a command does: STATUS, the rest of the response, and the state (Table 12-14). -/
def recoveryAct (s : State) (r : Recovery) (cmd : Nat) (p : Octets) : Nat × Octets × State :=
  if s.power.lifecycle = .retired ∧ cmd ≠ 1 then (7, [], s)
  else match cmd with
  | 1 => (0, Config.deviceEui ++ beOctets 2 Config.romVersion ++
      [byte s.power.lifecycle.code, byte s.keys.provGen] ++ bootOctets s, s)
  | 2 =>
    let rate := beNat p
    if p.length = 4 ∧ (rate = 921600 ∨ rate = 3000000) then
      (0, [], updRecovery s (fun x => { x with baudNext := some (rate, s.now + 1000000) }))
    else (2, [], s)
  | 3 =>
    let k := beNat p
    if p.length ≠ 1 ∨ 1 < k then (2, [], s)
    else if bankProtected s k then (3, [], s)
    else (0, [], updRecovery s (fun x => { x with bank := some k, verified := false }))
  | 4 => match r.bank with
    | some k =>
      let off := fieldOf p 0 4
      let d := p.drop 4
      if d.isEmpty ∨ 4096 < d.length ∨ 0xC00000 < off + d.length then (2, [], s)
      else
        let s := updBank s k (fun b => { writable b with mem := (writable b).mem.writeAll off d })
        let s := if (bankAt s k).state = .writing then s else setBankState s k .writing
        (0, beOctets 4 d.length, updRecovery s (fun x => { x with verified := false, written := satAdd 32 x.written d.length }))
    | none => (2, [], s)
  | 5 => match r.bank with
    | some k => match bankResult s k with
      | 0 =>
        let b := bankAt s k
        let s := setBankState (updBank s k (fun b => { b with digest := (partDigest b 1).take 16 })) k .ready
        (0, beOctets 4 (bankVersion b) ++ beOctets 2 (bankSecVersion b), updRecovery s (fun x => { x with verified := true }))
      | e => (if e = 3 then 5 else 4, [], updRecovery s (fun x => { x with verified := false }))
    | none => (2, [], s)
  | 6 => match r.bank with
    | some k =>
      if r.verified then
        (0, [], setBankState { s with image := { s.image with runBank := k, trial := true, trialCount := 0 } } k .trial)
      else (6, [], s)
    | none => (6, [], s)
  | _ => (1, [], s)

/-- A response leaves on REC_TX, or waits for SPI (R337). -/
def recoveryOut (s : State) (spi : Bool) (f : Octets) : State :=
  if spi then updRecovery s (fun x => { x with response := f }) else emit s (.recovery f)

/-- The UART rate a BAUD command set applies 1 ms after its response (Table 12-14). -/
def settleBaud (s : State) : State :=
  updRecovery s (fun x => match x.baudNext with
    | some (rate, t) => if t ≤ s.now then { x with baud := rate, baudNext := none } else x
    | none => x)

/-- A valid frame: a repeated SEQ is answered with the previous response, any other is executed; BOOT then resets the
chip (R338, R339). -/
def recoveryTake (s : State) (spi : Bool) (cmd seq : Nat) (p : Octets) : State :=
  let s := updRecovery (settleBaud s) (fun x => { x with frameAt := s.now })
  match s.image.recovery with
  | some r =>
    let again := match r.last with
      | some (q, f) => if q = seq then some f else none
      | none => none
    match again with
    | some f => recoveryOut s spi f
    | none =>
      let (st, rest, s) := recoveryAct s r cmd p
      let f := recoveryFrame (cmd % 128 + 128) seq (byte st :: rest)
      let s := recoveryOut (updRecovery s (fun x => { x with last := some (seq, f) })) spi f
      if cmd = 6 ∧ st = 0 then internalReset s 6 else s
  | none => s

/-- One frame on REC_RX. -/
def recoveryRow (s : State) (cmd seq : Nat) (p : Octets) : Host.Outcome State Fault Refusal :=
  if s.power.dev = .recovery then done (recoveryTake s false cmd (seq % 256) p) else done s

/-- R338: HELLO. -/
def execRecoveryHello (seq : Nat) (s : State) : Host.Outcome State Fault Refusal := recoveryRow s 1 seq []

/-- R338: BAUD. -/
def execRecoveryBaud (seq rate : Nat) (s : State) : Host.Outcome State Fault Refusal := recoveryRow s 2 seq (beOctets 4 rate)

/-- R338: SELECT. -/
def execRecoverySelect (seq bank : Nat) (s : State) : Host.Outcome State Fault Refusal := recoveryRow s 3 seq (beOctets 1 bank)

/-- R339: WRITE. -/
def execRecoveryWrite (seq offset : Nat) (data : Octets) (s : State) : Host.Outcome State Fault Refusal :=
  recoveryRow s 4 seq (beOctets 4 offset ++ data)

/-- R338: VERIFY. -/
def execRecoveryVerify (seq : Nat) (s : State) : Host.Outcome State Fault Refusal := recoveryRow s 5 seq []

/-- R338: BOOT. -/
def execRecoveryBoot (seq : Nat) (s : State) : Host.Outcome State Fault Refusal := recoveryRow s 6 seq []

/-- R337: 600 s without a valid frame in a session entered on request: restart into the CONFIRMED bank in force. -/
def execRecoveryIdleTimeout (s : State) : Host.Outcome State Fault Refusal :=
  match s.image.recovery with
  | some r =>
    if s.power.dev = .recovery ∧ r.cause ≠ 1 ∧ (bankAt s s.image.runBank).state = .confirmed ∧
        r.frameAt + 600000000000 ≤ s.now then done (internalReset s 6)
    else done s
  | none => done s

/- SPI (R337, R399). -/

/-- The first frame with a good CRC after a SYNC: CMD, SEQ, payload (R339). -/
def findFrame : Nat → Octets → Option (Nat × Nat × Octets)
  | 0, _ => none
  | n + 1, l =>
    let len := fieldOf l 4 2
    if l.length < 10 then none
    else if fieldOf l 0 2 = 0xA55A ∧ len ≤ 4104 ∧ len + 10 ≤ l.length ∧
        crc32c (sliceOf l 2 (4 + len)) = fieldOf l (6 + len) 4 then
      some (fieldOf l 2 1, fieldOf l 3 1, sliceOf l 6 len)
    else findFrame n (l.drop 1)

/-- R337: SPI command 0x72 writes a recovery frame; only RECOVERY takes it. -/
def execSpiRecoveryWrite (frame : Octets) (s : State) : Host.Outcome State Fault Refusal :=
  if s.power.dev = .recovery then
    match findFrame (frame.length + 1) frame with
    | some (cmd, seq, p) => done (recoveryTake s true cmd seq p)
    | none => done s
  else done s

/-- R337: SPI command 0x73 reads the pending response. -/
def execSpiRecoveryRead (s : State) : Host.Outcome State Fault Refusal :=
  match s.image.recovery with
  | some r =>
    if s.power.dev = .recovery then done (emit (updRecovery s (fun x => { x with response := [] })) (.spi r.response))
    else done s
  | none => done s

/-- R337: SPI command 0x7E with 0x52, 0x45 before the second sample requests RECOVERY. -/
def execSpiRecoveryRequest (data : Octets) (s : State) : Host.Outcome State Fault Refusal :=
  if s.power.dev = .boot ∧ s.power.rails ∧ data = octetsOf [0x52, 0x45] then
    done { s with image := { s.image with spiRequest := true } }
  else done s

end Sys2Proof.Machine
end

