-- ==== Sys2Proof/Machine/SopSession.lean ====
section
/-! DEFINITION. Sessions: OPEN, AUTH, CLOSE, their time limits and the lockout (R389 to R393), and the checks of every
received frame (R379 to R383, R394). -/

namespace Sys2Proof.Machine

/- OPEN (R390 to R393). -/

/-- The slot of the role key of METHOD 0. -/
def roleSlot (s : State) (role : Nat) : Nat := if role = 1 then objN s 0x1111 0 else objN s 0x1112 0

/-- A slot that may hold a role key: a general slot with a 256-bit derive-only key (R390). -/
def roleKeyFits (s : State) (slot : Nat) : Bool :=
  12 ≤ slot && slot ≤ 63 && !slotEmpty s slot && slotUse s slot = 3 &&
    bitOf (fieldOf (slotHalf s slot (halfInForce s slot)) 1 1) 7 && (slotValue s slot).isSome

/-- Whether a role may open by a method (Table 14-7, R390). -/
def methodUsable (s : State) (role method : Nat) : Bool :=
  if method = 0 then (role = 1 || role = 2) && roleKeyFits s (roleSlot s role)
  else (role = 2 && beNat (obj s 0x1113 0) != 0) || role = 3

/-- A role of which the chip holds at most one session (R393). -/
def soleRole (role : Nat) : Bool := role = 2 || role = 3

/-- OPEN is locked out on a transport (R393). -/
def lockedOut (s : State) (t : Nat) : Bool := s.now < FMap.getD s.sop.lockout t 0

/-- The status of an OPEN. -/
def openStatus (s : State) (t role method : Nat) : Nat :=
  firstOf [
    require (method ≤ 1) stFrame,
    require (!(method = 1 && 2 ≤ t && t ≤ 4)) stOp,
    require (!lockedOut s t && methodUsable s role method) stAuth,
    require (s.sop.sessions.length < 8 && !(soleRole role && s.sop.sessions.any (fun p => soleRole p.2.role))) stResource]

/-- OPEN: the lowest free SID, half-open, with a CHIP_NONCE from the TRNG (R391). -/
def opOpen (s : State) (e : Endpoint) (seq role method : Nat) (hostNonce : Octets) : State :=
  match openStatus s e.transport role method, FMap.lowestFree s.sop.sessions 1 8 with
  | 0, some sid =>
    let nonce := trngNow s 16
    let x : Session := { endpoint := e, role := role, method := method, half := true, activeAt := s.now, hostNonce := hostNonce,
                         chipNonce := nonce, key := [], slot := if method = 0 then roleSlot s role else 0,
                         lastSeq := none, response := none, views := {} }
    let s := drewTrng { s with sop := { s.sop with sessions := FMap.put s.sop.sessions sid x } }
    respond s (.endpoint e) 16 seq 0 0xFF
      ([byte sid, byte 0] ++ nonce ++ beOctets 2 (min 65535 (objN s 0x1110 0)))
  | 0, none => respond s (.endpoint e) 16 seq stResource 0xFF []
  | st, _ => respond s (.endpoint e) 16 seq st 0xFF []

/- AUTH (R391, R393). -/

/-- The leading octets of a session's inputs: "sop", then what METHOD 0 puts in as separator. -/
def sessionInput (sid : Nat) (x : Session) (separator : Octets) : Octets :=
  octetsOf [0x73, 0x6F, 0x70] ++ separator ++ Config.deviceEui ++ [byte sid, byte x.role] ++ x.hostNonce ++ x.chipNonce

/-- The session key of METHOD 0: op 10 of Table 9-1 from the role key (R391). -/
def sessionKey (s : State) (sid : Nat) (x : Session) : Option Octets :=
  if roleKeyFits s x.slot then
    (slotValue s x.slot).map (fun k => kdf k (sessionInput sid x [byte 0] ++ beOctets 2 128) 128)
  else none

/-- The header of the host's AUTH frame. -/
def authHeader (sid seq : Nat) : Octets := [byte 0x11, byte 0x11, byte sid, byte 0] ++ beOctets 4 seq ++ zeros 4

/-- The public key that METHOD 1 of a role verifies under (Table 14-7). -/
def signKey (s : State) (role : Nat) : Octets := if role = 2 then obj s 0x1113 0 else Config.wenramSessionKey

/-- The session's key if the host proves itself: by its first tag, or by its signature. -/
def authProof (s : State) (sid seq : Nat) (x : Session) (signature tag : Octets) : Option Octets :=
  if x.method = 0 then
    (sessionKey s sid x).bind (fun k => if (cmac k (authHeader sid seq)).take 8 = tag then some k else none)
  else if ecdsaVerifies (signKey s x.role) (sha256 (sessionInput sid x [])) signature then some []
  else none

/-- One more consecutive failure of a transport; the eighth locks OPEN for 60 s (R393). -/
def noteFailure (s : State) (t role : Nat) : State :=
  let n := FMap.getD s.sop.failures t 0 + 1
  let s := record { s with sop := { s.sop with failures := FMap.putD s.sop.failures t (n % 8) 0 } } 0xA002 t role n
  if n = 8 then
    record { s with sop := { s.sop with lockout := FMap.put s.sop.lockout t (s.now + 60000000000) } } 0xA003 t 60 0
  else s

/-- AUTH on a half-open session. -/
def opAuth (s : State) (sid seq : Nat) (signature tag : Octets) : State :=
  match FMap.find s.sop.sessions sid with
  | some x =>
    if !x.half then respond s (.session sid) 17 seq stOp 0xFF []
    else match authProof s sid seq x signature tag with
      | some k =>
        let s := if x.method = 0 then cacheRoom s else s
        let s := { s with sop := { s.sop with failures := FMap.del s.sop.failures x.endpoint.transport } }
        let s := updSession s sid (fun x => { x with half := false, key := k, activeAt := s.now, lastSeq := some seq, response := none })
        respond (record s 0xA000 sid x.role x.endpoint.transport) (.session sid) 17 seq 0 0xFF []
      | none =>
        endSession (noteFailure (respond s (.session sid) 17 seq stAuth 0xFF []) x.endpoint.transport x.role) 8 sid
  | none => s

/-- CLOSE: the response leaves under the session, which then ends. -/
def opClose (s : State) (sid seq : Nat) : State :=
  match FMap.find s.sop.sessions sid with
  | some x => if x.half then s else endSession (respond s (.session sid) 18 seq 0 0xFF []) 1 sid
  | none => s

/- Received frames (R379 to R383, R394). -/

/-- One item of a body: INDEX and SUB. -/
def itemAt (b : Octets) (at_ : Nat) : Nat × Nat := (fieldOf b at_ 2, fieldOf b (at_ + 2) 1)

/-- `n` items and nothing more. -/
def parseItems (n : Nat) (b : Octets) : Option (List (Nat × Nat)) :=
  if b.length = 4 * n then some ((List.range n).map (fun i => itemAt b (4 * i))) else none

/-- `n` write items, and what follows them. -/
def parseWrites : Nat → Octets → Option (List (Nat × Nat × Octets) × Octets)
  | 0, b => some ([], b)
  | n + 1, b =>
    let len := fieldOf b 4 2
    if b.length < 6 + len then none
    else (parseWrites n (b.drop (6 + len))).map (fun r =>
      ((fieldOf b 0 2, fieldOf b 2 1, sliceOf b 6 len) :: r.1, r.2))

/-- The body of a READ: COUNT 1 to 16. -/
def readBody (b : Octets) : Option (List (Nat × Nat)) :=
  let n := fieldOf b 0 1
  if 1 ≤ n && n ≤ 16 then parseItems n (b.drop 2) else none

/-- The body of a WRITE: COUNT 1 to 16. -/
def writeBody (b : Octets) : Option (List (Nat × Nat × Octets)) :=
  let n := fieldOf b 0 1
  if 1 ≤ n && n ≤ 16 && 2 ≤ b.length then
    match parseWrites n (b.drop 2) with
    | some (l, []) => some l
    | _ => none
  else none

/-- The body of an EXECUTE: WCOUNT 1 to 8, RCOUNT 0 to 8. -/
def executeBody (b : Octets) : Option (List (Nat × Nat × Octets) × List (Nat × Nat)) :=
  let n := fieldOf b 0 1
  let m := fieldOf b 1 1
  if 1 ≤ n && n ≤ 8 && m ≤ 8 && 2 ≤ b.length then
    (parseWrites n (b.drop 2)).bind (fun r => (parseItems m r.2).map (fun i => (r.1, i)))
  else none

/-- The indices a body names. -/
def namedBy (op : Nat) (b : Octets) : List Nat :=
  match op with
  | 1 => ((readBody b).getD []).map (·.1)
  | 2 => ((writeBody b).getD []).map (·.1)
  | 3 => if b.length = 4 then [fieldOf b 0 2] else []
  | 5 => if b.length = 8 then [fieldOf b 0 2] else []
  | 7 => match executeBody b with
    | some (w, r) => w.map (·.1) ++ r.map (·.1)
    | none => []
  | 9 => if b.length = 8 then [fieldOf b 0 2] else []
  | _ => []

/-- The caller a frame's SID names at an endpoint. -/
def frameCaller (e : Endpoint) (sid : Nat) : Caller := if sid = 0 then .endpoint e else .session sid

/-- The operation of an accepted frame; a body that does not parse is answered FRAME, an operation out of its place or
unknown OP (R383). -/
def runOp (s : State) (e : Endpoint) (sid op seq : Nat) (b tag : Octets) : State :=
  let who := frameCaller e sid
  let bad := respond s who op seq stFrame 0xFF []
  match op with
  | 1 => match readBody b with
    | some l => opRead s who seq l
    | none => bad
  | 2 => match writeBody b with
    | some l => opWrite s who seq l
    | none => bad
  | 3 => if b.length = 4 then opSegReadStart s who seq (fieldOf b 0 2) (fieldOf b 2 1) else bad
  | 4 => if b.length = 6 then opSegRead s who seq (fieldOf b 0 4) (fieldOf b 4 2) else bad
  | 5 => if b.length = 8 then opSegWriteStart s who seq (fieldOf b 0 2) (fieldOf b 2 1) (fieldOf b 4 4) else bad
  | 6 => if 4 ≤ b.length then opSegWrite s who seq (fieldOf b 0 4) (b.drop 4) else bad
  | 7 => match executeBody b with
    | some (w, r) => opExecute s who seq w r
    | none => bad
  | 8 => if b.isEmpty then commitRequest s who seq else bad
  | 9 => if b.length = 8 then
      opSubscribe s who seq (fieldOf b 0 2) (fieldOf b 2 1) (fieldOf b 4 1) (fieldOf b 6 2) else bad
  | 10 => if b.length = 1 then opUnsubscribe s who seq (fieldOf b 0 1) else bad
  | 16 => if sid != 0 then respond s who op seq stOp 0xFF []
    else if b.length = 18 then opOpen s e seq (fieldOf b 0 1) (fieldOf b 1 1) (b.drop 2) else bad
  | 17 => match FMap.find s.sop.sessions sid with
    | some x => if x.half && b.length != (if x.method = 0 then 0 else 64) then bad else opAuth s sid seq b tag
    | none => respond s who op seq stOp 0xFF []
  | 18 => if sid = 0 then respond s who op seq stOp 0xFF [] else if b.isEmpty then opClose s sid seq else bad
  | _ => respond s who op seq stOp 0xFF []

/-- An untagged error response that no session stores. -/
def errorOut (s : State) (e : Endpoint) (op sid seq st : Nat) : State :=
  sopOut (countSop s e.transport 1) e (sopFrame none false op sid seq [byte st, byte 0xFF])

/-- A tagged error response that leaves the session's stored response (R381). -/
def refuseOut (s : State) (e : Endpoint) (op sid seq st : Nat) : State :=
  sopOut (countSop s e.transport 1) e (sopFrame (FMap.find s.sop.sessions sid) false op sid seq [byte st, byte 0xFF])

/-- Fields of a received frame (Table 14-4). -/
def frTag (f : Octets) : Nat := fieldOf f 0 1 % 4
def frOp (f : Octets) : Nat := fieldOf f 1 1
def frSid (f : Octets) : Nat := fieldOf f 2 1
def frSeq (f : Octets) : Nat := fieldOf f 4 4
def frBody (f : Octets) : Octets := sliceOf f 12 (fieldOf f 8 2)
def frTail (f : Octets) : Octets := f.drop (12 + fieldOf f 8 2)

/-- Check 1 of R380: VERSION, DIR, NOTIFY, TAG and LENGTH. -/
def sopFormat (f : Octets) : Bool :=
  12 ≤ f.length && fieldOf f 0 1 / 4 = 4 && frTag f ≤ 1 && f.length = 12 + fieldOf f 8 2 + 8 * frTag f

/-- Check 2 of R380: the session is open and bound to the endpoint; half-open, it takes AUTH only. -/
def sessionBound (s : State) (e : Endpoint) (f : Octets) : Bool :=
  frSid f = 0 || (match FMap.find s.sop.sessions (frSid f) with
    | some x => x.endpoint = e && (!x.half || frOp f = 17)
    | none => false)

/-- Check 3 of R380. The tag of an AUTH on a half-open session is judged by AUTH itself (R391). -/
def tagOk (s : State) (f : Octets) : Bool :=
  match FMap.find s.sop.sessions (frSid f) with
  | some x =>
    if x.method = 0 then
      frTag f = 1 && (x.half || (cmac x.key (f.take (12 + fieldOf f 8 2))).take 8 = frTail f)
    else frTag f = 0
  | none => frTag f = 0

/-- Check 4 of R380 for an open session: the answer where the frame is not accepted (R381). A stored response that still
waits for its journal receipt leaves with the receipt. -/
def sequenceStop (s : State) (e : Endpoint) (f : Octets) : Option State :=
  match FMap.find s.sop.sessions (frSid f) with
  | some x =>
    match x.lastSeq with
    | some last =>
      if frSeq f = last then
        some (match x.response with
          | some r =>
            if s.twin.heldAnswers.any (fun h => h.2.1 = e && h.2.2 = r) then s else sopOut (countSop s e.transport 4) e r
          | none => s)
      else if frSeq f < last then some (refuseOut (countSop s e.transport 3) e (frOp f) (frSid f) (frSeq f) stSequence)
      else if x.response.isNone then some (refuseOut s e (frOp f) (frSid f) (frSeq f) stBusy)
      else none
    | none => none
  | none => none

/-- The checks of R380 before the operation, and the states of R394: what a stopped frame leaves, none where the frame is
accepted. -/
def frameStop (s : State) (e : Endpoint) (f : Octets) : Option State :=
  if !sopFormat f then some (errorOut s e (frOp f) 0 (frSeq f) stFrame)
  else if !servesSop s && !(frSid f = 0 && frOp f = 1 && frTag f = 0) then some (errorOut s e (frOp f) (frSid f) (frSeq f) stState)
  else if !sessionBound s e f then some (errorOut s e (frOp f) (frSid f) (frSeq f) stSession)
  else if !tagOk s f then some (record (countSop s e.transport 2) 0xA004 e.transport (frSid f) 1)
  else sequenceStop s e f

/-- An accepted frame: counted, and the session's SEQ advances. -/
def acceptFrame (s : State) (e : Endpoint) (f : Octets) : State :=
  countSop (updSession s (frSid f) (fun x => { x with
    lastSeq := some (frSeq f), response := none, activeAt := if x.half then x.activeAt else s.now })) e.transport 0

/- The rows. -/

/-- R380: the oldest frame received is checked, and where it is accepted its operation runs. -/
def execSopFrameCheck (s : State) : Host.Outcome State Fault Refusal :=
  match s.sop.inbox with
  | [] => done s
  | (e, f) :: rest =>
    if lsfStopped s then done s
    else
      let s := { s with sop := { s.sop with inbox := rest } }
      if !takesSop s then done s
      else match frameStop s e f with
        | some t => done t
        | none =>
          if vendorNamed s (frameCaller e (frSid f)) (namedBy (frOp f) (frBody f)) then .refused .vendorRange
          else done (runOp (acceptFrame s e f) e (frSid f) (frOp f) (frSeq f) (frBody f) (frTail f))

/-- R391: OPEN. -/
def execSopOpen (e : Endpoint) (seq role method : Nat) (hostNonce : Octets) (s : State) : Host.Outcome State Fault Refusal :=
  done (served s (.endpoint e) 16 seq (fun s => opOpen s e seq role method hostNonce))

/-- R391: AUTH. -/
def execSopAuth (sid seq : Nat) (signature tag : Octets) (s : State) : Host.Outcome State Fault Refusal :=
  done (served s (.session sid) 17 seq (fun s => opAuth s sid seq signature tag))

/-- R393: CLOSE. -/
def execSopClose (sid seq : Nat) (s : State) : Host.Outcome State Fault Refusal :=
  done (served s (.session sid) 18 seq (fun s => opClose s sid seq))

/-- R391: a half-open session without AUTH for 10 s is freed. -/
def execHalfOpenTimeout (sid : Nat) (s : State) : Host.Outcome State Fault Refusal :=
  match FMap.find s.sop.sessions sid with
  | some x => if x.half && x.activeAt + 10000000000 ≤ s.now && !lsfStopped s then done (endSession s 7 sid) else done s
  | none => done s

/-- R393: a session with no accepted request for SESSION_IDLE is closed. -/
def execSessionIdleTimeout (sid : Nat) (s : State) : Host.Outcome State Fault Refusal :=
  match FMap.find s.sop.sessions sid with
  | some x =>
    if !x.half && x.activeAt + objN s 0x1110 0 * 1000000000 ≤ s.now && !lsfStopped s then done (endSession s 2 sid) else done s
  | none => done s

/-- R393: the lockout of a transport ends. -/
def execAuthLockoutExpire (transport : Nat) (s : State) : Host.Outcome State Fault Refusal :=
  match FMap.find s.sop.lockout transport with
  | some t => if t ≤ s.now then done { s with sop := { s.sop with lockout := FMap.del s.sop.lockout transport } } else done s
  | none => done s

end Sys2Proof.Machine
end

