-- ==== Sys2Proof/Machine/SopWire.lean ====
section
/-! DEFINITION. The ways in and out of SOP frames: CAN FD, UDP, the PCIe mailbox MB0 and SPI (R395 to R399, R443). -/

namespace Sys2Proof.Machine

/-- States in which the transports take SOP frames (R394). -/
def sopUp (s : State) : Bool :=
  s.power.dev = .maintenance || s.power.dev = .active || s.power.dev = .follower || s.power.dev = .zeroized

/-- SOP_TRANSPORTS enables a transport. -/
def transportOn (s : State) (t : Nat) : Bool := bitOf (objN s 0x1100 0) (transportBit t)

/-- A received frame waits for the OD service (R382). -/
def receiveFrame (s : State) (e : Endpoint) (f : Octets) : State :=
  { s with sop := { s.sop with inbox := s.sop.inbox ++ [(e, f)] } }

/-- A transport frame is discarded: word 7 of SOP_COUNTERS. -/
def discardFrame (s : State) (t : Nat) : State := countSop s t 7

/- CAN FD (R396). -/

/-- Endpoint of a CAN host. -/
def canEndpoint (bus host : Nat) : Endpoint := { transport := bus, address := [byte host], port := 0 }

/-- Set or clear a CAN assembly. -/
def setAssembly (s : State) (key : Nat) (a : Option CanAssembly) : State :=
  { s with sop := { s.sop with can := match a with
    | some a => FMap.put s.sop.can key a
    | none => FMap.del s.sop.can key } }

/-- The SOP frame in an assembly that has ended, without the padding of its last CAN frame: `room` is the data length of
that frame and `held` the octets assembled before it (R396). -/
def unpadded (held room : Nat) (l : Octets) : Octets :=
  let want := 12 + fieldOf l 8 2 + 8 * (fieldOf l 0 1 % 4)
  if held < want && want ≤ l.length && canLength (1 + want - held) = room then l.take want else l

/-- A fragment in order joins the assembly; the last one completes the frame. -/
def canJoin (s : State) (bus host prio : Nat) (a : CanAssembly) (last : Bool) (data : Octets) : State :=
  let key := 128 * bus + host
  let l := a.octets ++ data.drop 1
  if 1024 < l.length && !(last && (unpadded a.octets.length data.length l).length ≤ 1024) then
    discardFrame (setAssembly s key none) bus
  else if last then
    let s := setAssembly s key none
    receiveFrame { s with sop := { s.sop with canPrio := FMap.put s.sop.canPrio key prio } } (canEndpoint bus host)
      (unpadded a.octets.length data.length l)
  else setAssembly s key (some { fragment := (a.fragment + 1) % 64, octets := l, lastAt := s.now, priority := prio })

/-- A CAN FD frame for this chip from a host. -/
def canTake (s : State) (bus host prio : Nat) (data : Octets) : State :=
  let key := 128 * bus + host
  let head := fieldOf data 0 1
  let first := bitOf head 7
  let last := bitOf head 6
  let frag := head % 64
  let fresh : CanAssembly := { fragment := 0, octets := [], lastAt := s.now, priority := prio }
  match FMap.find s.sop.can key with
  | some a =>
    if first then
      let s := discardFrame (setAssembly s key none) bus
      if frag = 0 then canJoin s bus host prio fresh last data else s
    else if frag = a.fragment then canJoin s bus host prio a last data
    else discardFrame (setAssembly s key none) bus
  | none =>
    if !first then s
    else if frag = 0 then canJoin s bus host prio fresh last data
    else discardFrame s bus

/-- The bus carries frames again: a transmitter held off drives it again, and pending notifications go (log entry 75). -/
def canAlive (s : State) (bus : Nat) : State :=
  if s.sop.canHeld.contains bus then
    flushPending { s with sop := { s.sop with canHeld := s.sop.canHeld.filter (fun b => b != bus) } } bus
  else s

/-- R396: a CAN FD frame adds a fragment to the SOP frame in assembly, or discards it. -/
def execCanFrameRx (bus id : Nat) (data : Octets) (s : State) : Host.Outcome State Fault Refusal :=
  if !sopUp s || 1 < bus then done s
  else
    let s := canAlive s bus
    let host := bitsOf id 17 11
    if bitOf id 25 || bitsOf id 24 18 != fieldOf (FMap.getD s.sop.canCfg bus []) 0 1 || host = 0 || data.isEmpty then done s
    else if !transportOn s bus then done (discardFrame s bus)
    else done (canTake s bus host (bitsOf id 28 26) data)

/-- R396: 10 ms without the next fragment discard the assembly. -/
def execCanAssemblyTimeout (bus host : Nat) (s : State) : Host.Outcome State Fault Refusal :=
  match FMap.find s.sop.can (128 * bus + host) with
  | some a =>
    if a.lastAt + 10000000 ≤ s.now then done (discardFrame (setAssembly s (128 * bus + host) none) bus) else done s
  | none => done s

/-- R443: a transmitter held dominant for 4 ms is released. -/
def execCanDominantTimeout (bus : Nat) (s : State) : Host.Outcome State Fault Refusal :=
  if !sopUp s || 1 < bus || s.sop.canHeld.contains bus then done s
  else done { s with sop := { s.sop with canHeld := bus :: s.sop.canHeld } }

/- UDP (R397). -/

/-- The link-local address of an Ethernet port, from its own MAC address. -/
def portLinkLocal (s : State) (sub : Nat) : Octets :=
  let mac := sliceOf (obj s 0x1103 sub) 0 6
  octetsOf [0xFE, 0x80] ++ zeros 6 ++ iidOf (mac.take 3 ++ octetsOf [0xFF, 0xFE] ++ mac.drop 3)

/-- The chip's own addresses on a port: link-local, and static where configured (ETH_ADDR). -/
def portAddresses (s : State) (sub : Nat) : List Octets :=
  let c := obj s 0x1103 sub
  portLinkLocal s sub :: (if fieldOf c 6 1 = 1 then [sliceOf c 7 16] else [])

/-- The pair addresses on a port, while the chip is the active one of a pair (R300). -/
def pairPortAddresses (s : State) (sub : Nat) : List Octets :=
  let a := sliceOf (obj s 0x1103 sub) 24 16
  if pairSource s && beNat a != 0 then [a] else []

/-- SOP datagrams are taken for these addresses. -/
def sopAddresses (s : State) : List Octets := ([1, 2].map (fun i => portAddresses s i ++ pairPortAddresses s i)).flatten

/-- Transport code of a UDP ingress: ETH0, ETH1, sett, mesh (Table 14-8). -/
def udpTransport (ingress : Nat) : Nat := if ingress = 0 then 2 else if ingress = 1 then 3 else 4

/-- Whether a datagram passes the rules of UDP_CFG and of size. -/
def udpAllowed (s : State) (ingress : Nat) (fragmented : Bool) (payload : Octets) : Bool :=
  let flags := objField s 0x1102 0 2 1
  transportOn s 2 && ingress ≤ 3 && bitOf flags ingress && !fragmented && payload.length ≤ 1232 &&
    (frSid payload != 0 || bitOf flags 4)

/-- R397: a SOP datagram is accepted, or discarded by ingress, size and SID rules. -/
def execUdpSopDatagramRx (ingress : Nat) (source : Octets) (port : Nat) (dest : Octets) (destPort : Nat) (fragmented : Bool)
    (payload : Octets) (s : State) : Host.Outcome State Fault Refusal :=
  if !sopUp s || destPort != objField s 0x1102 0 0 2 || !(sopAddresses s).contains dest then done s
  else
    let t := udpTransport ingress
    let e : Endpoint := { transport := t, address := source, port := port }
    if udpAllowed s ingress fragmented payload then
      done (receiveFrame { s with sop := { s.sop with
        udpLocal := (e, dest, destPort) :: s.sop.udpLocal.filter (fun p => p.1 ≠ e) } } e payload)
    else done (discardFrame s t)

/- The PCIe mailbox MB0 (R398). -/

/-- R398: a write of H2C_LEN submits the frame in H2C_BUF; vector 2 tells that the buffer is free again. -/
def execMb0H2cLenWrite (length : Nat) (buffer : Octets) (s : State) : Host.Outcome State Fault Refusal :=
  if !sopUp s || length = 0 || 8192 < length then done s
  else if !transportOn s 5 then done (msi (discardFrame s 5) 2)
  else done (msi (receiveFrame s mb0Endpoint ((padTo length buffer).take length)) 2)

/-- R398: a write of C2H_ACK frees C2H_BUF; the next response takes its place. -/
def execMb0C2hAckWrite (s : State) : Host.Outcome State Fault Refusal :=
  let l := s.sop.mbOut.drop 1
  let s := { s with sop := { s.sop with mbOut := l } }
  done (if l.isEmpty then s else msi s 0)

/-- R398: a write of NTF_TAIL frees ring slots; pending notifications go. -/
def execMb0NtfTailWrite (tail : Nat) (s : State) : Host.Outcome State Fault Refusal :=
  let s := { s with sop := { s.sop with ntfTail := tail % 64 } }
  done (if takesSop s then flushPending s 5 else s)

/- SPI (R399). -/

/-- R399: WRITE_FRAME submits a frame, or with the request buffer full sets OVERRUN. -/
def execSpiWriteFrame (frame : Octets) (s : State) : Host.Outcome State Fault Refusal :=
  if !sopUp s then done s
  else if !transportOn s 6 then done (discardFrame s 6)
  else if spiFull s then done { s with sop := { s.sop with overrun := true } }
  else done (receiveFrame s spiEndpoint frame)

/-- R399: READ_FRAME returns the oldest response or NOTIFY and frees it; length 0 when none waits. -/
def execSpiReadFrame (s : State) : Host.Outcome State Fault Refusal :=
  if !sopUp s then done s
  else match s.sop.spiOut with
    | f :: rest => done (emit { s with sop := { s.sop with spiOut := rest } } (.spi (beOctets 2 f.length ++ f)))
    | [] => done (emit s (.spi (zeros 2)))

/-- R399: STATUS returns the flags and clears OVERRUN. -/
def execSpiStatus (s : State) : Host.Outcome State Fault Refusal :=
  if !sopUp s then done s
  else
    done (emit { s with sop := { s.sop with overrun := false } } (.spi [byte (spiStatus s)]))

end Sys2Proof.Machine
end

