-- ==== Sys2Proof/Machine/Supply.lean ====
section
/-! DEFINITION. Supply and reset pins, the start instant, the VIO_OUT limit and the fatal-to-role fault (R22, R130, R318,
R431, R432, R434, R437). -/

namespace Sys2Proof.Machine

/-- AON gets a supply again after it had none: what only VBAT held is lost, and the recorder continues from its persisted
block end (R22, R417). -/
def powerAon (s : State) : State :=
  if s.power.aonValid then s
  else { s with
    power := { s.power with aonValid := true, aonSince := s.now, latchedState := .off, startCause := 0 }
    keys := { s.keys with log := [], zeroizeFlag := false, aonSeed := [], kek := none }
    image := { s.image with runDigest := [], bootEvents := [] }
    recorder := { s.recorder with nextSeq := s.recorder.blockEnd } }

/-- R431: VIN rises through its rising threshold; with RST_N high the start begins, otherwise only AON runs. -/
def execVinRise (s : State) : Host.Outcome State Fault Refusal :=
  if s.power.vin then done s
  else
    let s := powerAon s
    let from_ := s.power.dev
    let s := { s with power := { s.power with vin := true, bypassOn := true } }
    if s.power.rstLow then done s
    else done { s with power := { s.power with dev := .boot, startCause := 1, latchedState := from_ } }

/-- The state a chip without VIN is in: DORMANT on VBAT, OFF without (R22). -/
def unpowered (s : State) : DevState := if s.power.vbat then .dormant else .off

/-- R431, R432: power-fail detection closes the bypass and the gate, sheds the load and leaves DORMANT or OFF. -/
def execPowerFailDetection (s : State) : Host.Outcome State Fault Refusal :=
  if !s.power.vin then done s
  else
    let s :=
      if s.power.dev = .off ∨ s.power.dev = .dormant then s
      else islandReset (noteUnlock (leaveRecovery (closeBypass (releaseClaim s))))
    done { s with
      power := { s.power with
        vin := false, dev := unpowered s, rails := false, vioOut := false, vioLimit := false, bypassOn := true,
        thermReset := false, aonValid := s.power.vbat }
      image := { s.image with retain := false } }

/-- R22: VBAT reaches 2.5 V; in OFF, AON runs from it. -/
def execVbatRise (s : State) : Host.Outcome State Fault Refusal :=
  let s := { s with power := { s.power with vbat := true } }
  if s.power.dev = .off ∧ s.power.vin = false then
    let s := powerAon s
    done { s with power := { s.power with dev := .dormant } }
  else done s

/-- R22: VBAT falls below 2.5 V; in DORMANT with VIN absent AON loses its supply. -/
def execVbatFall (s : State) : Host.Outcome State Fault Refusal :=
  let s := { s with power := { s.power with vbat := false } }
  if s.power.dev = .dormant ∧ s.power.vin = false then
    done { s with power := { s.power with dev := .off, aonValid := false } }
  else done s

/-- Whether a low pulse of a width is taken: never below 1 us, always from 10 us, open in between (R437). -/
def pulseTaken (s : State) (widthNs : Nat) : Bool :=
  10000 ≤ widthNs || (1000 ≤ widthNs && freeNow s % 2 = 1)

/-- R437: a low pulse on RST_N that is taken resets every island except AON and closes the bypass. -/
def execRstNLow (widthNs : Nat) (s : State) : Host.Outcome State Fault Refusal :=
  let taken := pulseTaken s widthNs
  let s := if 1000 ≤ widthNs ∧ widthNs < 10000 then drewFree s else s
  if taken then
    let s := if s.power.dev = .off ∨ s.power.dev = .dormant then s else resetIslands s 2 true
    done { s with power := { s.power with rstLow := true, bypassOn := true, thermReset := false } }
  else done s

/-- R318: RST_N rises; with VIN present a chip held in reset since VIN rose enters BOOT. -/
def execRstNRise (s : State) : Host.Outcome State Fault Refusal :=
  if s.power.rstLow then
    let s := { s with power := { s.power with rstLow := false } }
    if s.power.vin ∧ (s.power.dev = .off ∨ s.power.dev = .dormant) then
      let from_ := s.power.dev
      done { s with power := { s.power with dev := .boot, startCause := 1, latchedState := from_ } }
    else done s
  else done s

/-- Domain time a start counts from: the persisted time moved on by the AON count gone since, or by 60 s where AON lost
its count; zero where none was ever persisted (R130). -/
def startTime (s : State) : Nat :=
  match s.time.persisted with
  | some (t, _, w) => if s.power.aonSince ≤ w then t + (s.now - w) else t + 60000000000
  | none => 0

/-- R318: the start instant; the rails ramp and the island PLLs lock, ROLE_PREF is sampled, VIO_OUT comes up with them (Tables 12-1, 14-12). -/
def execStartInstant (s : State) : Host.Outcome State Fault Refusal :=
  if s.power.dev = .boot ∧ s.power.vin ∧ s.power.rstLow = false ∧ s.power.thermReset = false ∧
      s.power.rails = false then
    done { s with
      power := { s.power with
        startAt := s.now, rails := true, vioOut := true, bypassOn := true, rolePref := s.power.rolePrefPin,
        clockLock := 0x1FFFF#32 }
      time := { s.time with offset := (startTime s : Int) - (s.now : Int), slew := 0, slewAt := s.now } }
  else done s

/-- R434: the VIO_OUT load; the limit acts from a point between 200 and 300 mA that the spec leaves open. -/
def execVioOutCurrentLimit (milliamps : Nat) (s : State) : Host.Outcome State Fault Refusal :=
  if s.power.vioOut then
    let limited := 300 < milliamps || (200 < milliamps && freeNow s % 2 = 1)
    let s := if 200 < milliamps ∧ milliamps ≤ 300 then drewFree s else s
    done { s with power := { s.power with vioLimit := limited } }
  else done { s with power := { s.power with vioLimit := false } }

/-- R312: a fatal-to-role fault releases any claim and resets every island except AON into BOOT. -/
def execFatalToRoleFault (s : State) : Host.Outcome State Fault Refusal := done (fatalToRole s)

end Sys2Proof.Machine
end

