-- ==== Sys2Proof/Machine/Dispatch.lean ====
section
/-! DEFINITION. The meaning of each command of the table: one arm per constructor. -/

namespace Sys2Proof.Machine

/-- The effect of a command on everything but the queue. -/
def exec (i : Instr) (s : State) : Host.Outcome State Fault Refusal :=
  match i with
  | .vinRise => Sys2Proof.Machine.execVinRise s
  | .powerFailDetection => Sys2Proof.Machine.execPowerFailDetection s
  | .vbatRise => Sys2Proof.Machine.execVbatRise s
  | .vbatFall => Sys2Proof.Machine.execVbatFall s
  | .rstNLow widthNs => Sys2Proof.Machine.execRstNLow widthNs s
  | .rstNRise => Sys2Proof.Machine.execRstNRise s
  | .startInstant => Sys2Proof.Machine.execStartInstant s
  | .bootHedgehogSample sample => Sys2Proof.Machine.execBootHedgehogSample sample s
  | .bankVerifyDone => Sys2Proof.Machine.execBankVerifyDone s
  | .loadEnd badRegions => Sys2Proof.Machine.execLoadEnd badRegions s
  | .bypassRelease => Sys2Proof.Machine.execBypassRelease s
  | .fatalToRoleFault => Sys2Proof.Machine.execFatalToRoleFault s
  | .enterMaintenance who => Sys2Proof.Machine.execEnterMaintenance who s
  | .resume who => Sys2Proof.Machine.execResume who s
  | .retire who => Sys2Proof.Machine.execRetire who s
  | .thermalReading tenths => Sys2Proof.Machine.execThermalReading tenths s
  | .thermalRestoreTimer => Sys2Proof.Machine.execThermalRestoreTimer s
  | .profileChangeEffective => Sys2Proof.Machine.execProfileChangeEffective s
  | .fifoWriteUnit fifo lane unit last poison => Sys2Proof.Machine.execFifoWriteUnit fifo lane unit last poison s
  | .fifoReadWord fifo flipped => Sys2Proof.Machine.execFifoReadWord fifo flipped s
  | .fifoFlushRequest fifo => Sys2Proof.Machine.execFifoFlushRequest fifo s
  | .fifoFlushTimeout fifo => Sys2Proof.Machine.execFifoFlushTimeout fifo s
  | .memoryError memory uncorrectable place => Sys2Proof.Machine.execMemoryError memory uncorrectable place s
  | .correlatorDetection d => Sys2Proof.Machine.execCorrelatorDetection d s
  | .laneDetectionPoint lane rssi => Sys2Proof.Machine.execLaneDetectionPoint lane rssi s
  | .diversityWindowClose lane snrA snrB => Sys2Proof.Machine.execDiversityWindowClose lane snrA snrB s
  | .sfdFound lane arrivalNs sixteenths => Sys2Proof.Machine.execSfdFound lane arrivalNs sixteenths s
  | .sfdTimeout lane => Sys2Proof.Machine.execSfdTimeout lane s
  | .phrCheck lane phr => Sys2Proof.Machine.execPhrCheck lane phr s
  | .payloadEnd lane crcGood psdu snrTrailer clippedLater => Sys2Proof.Machine.execPayloadEnd lane crcGood psdu snrTrailer clippedLater s
  | .laneTestTurn => Sys2Proof.Machine.execLaneTestTurn s
  | .laneTestResult lane failMask bitErrors => Sys2Proof.Machine.execLaneTestResult lane failMask bitErrors s
  | .laneHourlyRetest lane failMask => Sys2Proof.Machine.execLaneHourlyRetest lane failMask s
  | .gainAnnounce bandSector peakA peakB clippedA clippedB => Sys2Proof.Machine.execGainAnnounce bandSector peakA peakB clippedA clippedB s
  | .slotBoundary band idle => Sys2Proof.Machine.execSlotBoundary band idle s
  | .noiseFloorPublish => Sys2Proof.Machine.execNoiseFloorPublish s
  | .nfCursorWrite who value => Sys2Proof.Machine.execNfCursorWrite who value s
  | .rxCountersClear who => Sys2Proof.Machine.execRxCountersClear who s
  | .txMaskWrite who band coefWrite value => Sys2Proof.Machine.execTxMaskWrite who band coefWrite value s
  | .maskCapture bandSector worstExcess => Sys2Proof.Machine.execMaskCapture bandSector worstExcess s
  | .blRecompute handle band => Sys2Proof.Machine.execBlRecompute handle band s
  | .mapIeRx handle band content secured ackRequested => Sys2Proof.Machine.execMapIeRx handle band content secured ackRequested s
  | .mapAckRx handle band content secured => Sys2Proof.Machine.execMapAckRx handle band content secured s
  | .mapActivateSlot handle band => Sys2Proof.Machine.execMapActivateSlot handle band s
  | .capabilityIeRx handle content => Sys2Proof.Machine.execCapabilityIeRx handle content s
  | .modemCountersClear who => Sys2Proof.Machine.execModemCountersClear who s
  | .txRetune bandSector => Sys2Proof.Machine.execTxRetune bandSector s
  | .txCommand bandSector => Sys2Proof.Machine.execTxCommand bandSector s
  | .lockDeadline bandSector locked microsShort => Sys2Proof.Machine.execLockDeadline bandSector locked microsShort s
  | .xpaEnRise bandSector => Sys2Proof.Machine.execXpaEnRise bandSector s
  | .gntLbtSample bandSector granted channelPower => Sys2Proof.Machine.execGntLbtSample bandSector granted channelPower s
  | .xpaTxonRise bandSector => Sys2Proof.Machine.execXpaTxonRise bandSector s
  | .paRampUp bandSector => Sys2Proof.Machine.execPaRampUp bandSector s
  | .powerLoopCorrection bandSector forwardPower detMillivolts => Sys2Proof.Machine.execPowerLoopCorrection bandSector forwardPower detMillivolts s
  | .frameEndRampDown bandSector vswr => Sys2Proof.Machine.execFrameEndRampDown bandSector vswr s
  | .xpaEnFall bandSector => Sys2Proof.Machine.execXpaEnFall bandSector s
  | .reflectedPowerTrip bandSector vswr => Sys2Proof.Machine.execReflectedPowerTrip bandSector vswr s
  | .synthLossOfLock bandSector => Sys2Proof.Machine.execSynthLossOfLock bandSector s
  | .gntWithdrawn coex => Sys2Proof.Machine.execGntWithdrawn coex s
  | .calibrationStart bandSector calibration => Sys2Proof.Machine.execCalibrationStart bandSector calibration s
  | .calibrationDone bandSector => Sys2Proof.Machine.execCalibrationDone bandSector s
  | .calMaxWaitExpiry bandSector calibration => Sys2Proof.Machine.execCalMaxWaitExpiry bandSector calibration s
  | .tunerRestore who port => Sys2Proof.Machine.execTunerRestore who port s
  | .regionProfileWrite who record => Sys2Proof.Machine.execRegionProfileWrite who record s
  | .regionCommission who value => Sys2Proof.Machine.execRegionCommission who value s
  | .regionRecommission who message => Sys2Proof.Machine.execRegionRecommission who message s
  | .dutyBucketTick => Sys2Proof.Machine.execDutyBucketTick s
  | .dwellBucketTick => Sys2Proof.Machine.execDwellBucketTick s
  | .dutyMinutePersist => Sys2Proof.Machine.execDutyMinutePersist s
  | .txCountersClear who => Sys2Proof.Machine.execTxCountersClear who s
  | .timeSourceEvent entry implied secured bandSector => Sys2Proof.Machine.execTimeSourceEvent entry implied secured bandSector s
  | .timeSourceMiss entry => Sys2Proof.Machine.execTimeSourceMiss entry s
  | .timeStateChange => Sys2Proof.Machine.execTimeStateChange s
  | .timeRootTimer => Sys2Proof.Machine.execTimeRootTimer s
  | .unacquiredReportTimer => Sys2Proof.Machine.execUnacquiredReportTimer s
  | .guardCapReached band => Sys2Proof.Machine.execGuardCapReached band s
  | .timePersist => Sys2Proof.Machine.execTimePersist s
  | .ppsOutPulse => Sys2Proof.Machine.execPpsOutPulse s
  | .ptpSyncTx port => Sys2Proof.Machine.execPtpSyncTx port s
  | .lookaheadResolved bandSector asn => Sys2Proof.Machine.execLookaheadResolved bandSector asn s
  | .queueLatch bandSector => Sys2Proof.Machine.execQueueLatch bandSector s
  | .secureDeadline bandSector secured => Sys2Proof.Machine.execSecureDeadline bandSector secured s
  | .schedCellWrite who => Sys2Proof.Machine.execSchedCellWrite who s
  | .schedCellRead who => Sys2Proof.Machine.execSchedCellRead who s
  | .schedCellClear who => Sys2Proof.Machine.execSchedCellClear who s
  | .schedCellBlockWrite who block => Sys2Proof.Machine.execSchedCellBlockWrite who block s
  | .scheduleTableWrite who index sub value => Sys2Proof.Machine.execScheduleTableWrite who index sub value s
  | .sectorServiceWrite who bandSector value => Sys2Proof.Machine.execSectorServiceWrite who bandSector value s
  | .schedCountersClear who => Sys2Proof.Machine.execSchedCountersClear who s
  | .ackRx bandSector ack => Sys2Proof.Machine.execAckRx bandSector ack s
  | .ackWindowClose bandSector => Sys2Proof.Machine.execAckWindowClose bandSector s
  | .airRxJob f => Sys2Proof.Machine.execAirRxJob f s
  | .ackDecisionDeadline bandSector => Sys2Proof.Machine.execAckDecisionDeadline bandSector s
  | .joinRequestRx r => Sys2Proof.Machine.execJoinRequestRx r s
  | .joinConfirmRx eui counter content capability => Sys2Proof.Machine.execJoinConfirmRx eui counter content capability s
  | .joinConfirmTimeout handle => Sys2Proof.Machine.execJoinConfirmTimeout handle s
  | .joinApprove who handle approve => Sys2Proof.Machine.execJoinApprove who handle approve s
  | .departureIeRx handle counter cause => Sys2Proof.Machine.execDepartureIeRx handle counter cause s
  | .nodeTimeoutExpiry handle => Sys2Proof.Machine.execNodeTimeoutExpiry handle s
  | .nodeDepart who handle => Sys2Proof.Machine.execNodeDepart who handle s
  | .nodeLookup who eui => Sys2Proof.Machine.execNodeLookup who eui s
  | .peerAnnouncementTx => Sys2Proof.Machine.execPeerAnnouncementTx s
  | .peerMessageRx message => Sys2Proof.Machine.execPeerMessageRx message s
  | .peerAnnouncementMiss chip => Sys2Proof.Machine.execPeerAnnouncementMiss chip s
  | .linkCountersClear who => Sys2Proof.Machine.execLinkCountersClear who s
  | .queueAdmission packet poison => Sys2Proof.Machine.execQueueAdmission packet poison s
  | .cutThroughAdmission packet => Sys2Proof.Machine.execCutThroughAdmission packet s
  | .wiredEgressSelect port => Sys2Proof.Machine.execWiredEgressSelect port s
  | .cutThroughUnderrun port poison => Sys2Proof.Machine.execCutThroughUnderrun port poison s
  | .queueFlush who queue => Sys2Proof.Machine.execQueueFlush who queue s
  | .shaperCfgWrite who config => Sys2Proof.Machine.execShaperCfgWrite who config s
  | .gateWrite who eth sub gate => Sys2Proof.Machine.execGateWrite who eth sub gate s
  | .gateCycleStart port => Sys2Proof.Machine.execGateCycleStart port s
  | .queueCountersClear who => Sys2Proof.Machine.execQueueCountersClear who s
  | .forwardPacket p => Sys2Proof.Machine.execForwardPacket p s
  | .reassemblyTimeout source tag size => Sys2Proof.Machine.execReassemblyTimeout source tag size s
  | .learnInsert => Sys2Proof.Machine.execLearnInsert s
  | .daoRx target parent sender noPath => Sys2Proof.Machine.execDaoRx target parent sender noPath s
  | .disRx source => Sys2Proof.Machine.execDisRx source s
  | .dioTrickleTimer => Sys2Proof.Machine.execDioTrickleTimer s
  | .sweepVisit bucket => Sys2Proof.Machine.execSweepVisit bucket s
  | .updatePortHitCycle bucket => Sys2Proof.Machine.execUpdatePortHitCycle bucket s
  | .updatePortStructuralCycle => Sys2Proof.Machine.execUpdatePortStructuralCycle s
  | .shadowCheck trie key result => Sys2Proof.Machine.execShadowCheck trie key result s
  | .tableInsert who => Sys2Proof.Machine.execTableInsert who s
  | .tableUpdate who => Sys2Proof.Machine.execTableUpdate who s
  | .tableDelete who => Sys2Proof.Machine.execTableDelete who s
  | .tableReadKey who => Sys2Proof.Machine.execTableReadKey who s
  | .tableReadLoc who => Sys2Proof.Machine.execTableReadLoc who s
  | .tableConfirm who => Sys2Proof.Machine.execTableConfirm who s
  | .routeAdd who => Sys2Proof.Machine.execRouteAdd who s
  | .routeDel who => Sys2Proof.Machine.execRouteDel who s
  | .routeRead who => Sys2Proof.Machine.execRouteRead who s
  | .routeLookup who => Sys2Proof.Machine.execRouteLookup who s
  | .nhWrite who => Sys2Proof.Machine.execNhWrite who s
  | .nhRead who => Sys2Proof.Machine.execNhRead who s
  | .fwdCountersClear who => Sys2Proof.Machine.execFwdCountersClear who s
  | .cipherJobStart engine job => Sys2Proof.Machine.execCipherJobStart engine job s
  | .cipherJobComplete engine number => Sys2Proof.Machine.execCipherJobComplete engine number s
  | .ceSelftestTurn => Sys2Proof.Machine.execCeSelftestTurn s
  | .ceSelftestDone engine romPass trngAgree op keySize => Sys2Proof.Machine.execCeSelftestDone engine romPass trngAgree op keySize s
  | .ceSelftestNow who engine => Sys2Proof.Machine.execCeSelftestNow who engine s
  | .ceHourlyRetest engine pass => Sys2Proof.Machine.execCeHourlyRetest engine pass s
  | .loneEngineSlice engine pass => Sys2Proof.Machine.execLoneEngineSlice engine pass s
  | .macsecFrameTx port frame => Sys2Proof.Machine.execMacsecFrameTx port frame s
  | .macsecFrameRx port an pn ec frame => Sys2Proof.Machine.execMacsecFrameRx port an pn ec frame s
  | .ceCountersClear who => Sys2Proof.Machine.execCeCountersClear who s
  | .keyUpdate who message => Sys2Proof.Machine.execKeyUpdate who message s
  | .keyUpdateCommit slot => Sys2Proof.Machine.execKeyUpdateCommit slot s
  | .keyUpdatePartnerTimeout slot => Sys2Proof.Machine.execKeyUpdatePartnerTimeout slot s
  | .keyCacheFlush who => Sys2Proof.Machine.execKeyCacheFlush who s
  | .keyResolve reference => Sys2Proof.Machine.execKeyResolve reference s
  | .seedModeWrite who value => Sys2Proof.Machine.execSeedModeWrite who value s
  | .hedgehogSample sample => Sys2Proof.Machine.execHedgehogSample sample s
  | .zeroizeCmd who value => Sys2Proof.Machine.execZeroizeCmd who value s
  | .zeroizeOverwriteDone => Sys2Proof.Machine.execZeroizeOverwriteDone s
  | .settPortUp port => Sys2Proof.Machine.execSettPortUp port s
  | .settPortDown port => Sys2Proof.Machine.execSettPortDown port s
  | .settFrameRx port f => Sys2Proof.Machine.execSettFrameRx port f s
  | .settAbortRx port => Sys2Proof.Machine.execSettAbortRx port s
  | .censusTx => Sys2Proof.Machine.execCensusTx s
  | .censusRx port hops c => Sys2Proof.Machine.execCensusRx port hops c s
  | .censusMiss chip => Sys2Proof.Machine.execCensusMiss chip s
  | .linkDelayRequest port => Sys2Proof.Machine.execLinkDelayRequest port s
  | .linkFrameRx port m declaration => Sys2Proof.Machine.execLinkFrameRx port m declaration s
  | .markTx => Sys2Proof.Machine.execMarkTx s
  | .markRx port hops master markNo arrival => Sys2Proof.Machine.execMarkRx port hops master markNo arrival s
  | .claimBackoffExpire => Sys2Proof.Machine.execClaimBackoffExpire s
  | .partnerClaimSeen => Sys2Proof.Machine.execPartnerClaimSeen s
  | .partnerClaimWithdrawn => Sys2Proof.Machine.execPartnerClaimWithdrawn s
  | .interlockFaultClear => Sys2Proof.Machine.execInterlockFaultClear s
  | .journalFrameSend => Sys2Proof.Machine.execJournalFrameSend s
  | .journalFrameRx claim records => Sys2Proof.Machine.execJournalFrameRx claim records s
  | .jackRx jack => Sys2Proof.Machine.execJackRx jack s
  | .partnerMiss => Sys2Proof.Machine.execPartnerMiss s
  | .digestPassEnd => Sys2Proof.Machine.execDigestPassEnd s
  | .twinSwapNow who value => Sys2Proof.Machine.execTwinSwapNow who value s
  | .twinSwapPeriodExpiry => Sys2Proof.Machine.execTwinSwapPeriodExpiry s
  | .swapSlotStart => Sys2Proof.Machine.execSwapSlotStart s
  | .swapSearchTimeout => Sys2Proof.Machine.execSwapSearchTimeout s
  | .snapshotRequest => Sys2Proof.Machine.execSnapshotRequest s
  | .snapshotFrameRx chunkNo region offset data last => Sys2Proof.Machine.execSnapshotFrameRx chunkNo region offset data last s
  | .twinResync who value => Sys2Proof.Machine.execTwinResync who value s
  | .seqRestart who bandSector => Sys2Proof.Machine.execSeqRestart who bandSector s
  | .sequencerWatchdogExpiry bandSector => Sys2Proof.Machine.execSequencerWatchdogExpiry bandSector s
  | .sequencerRestartBoundary bandSector => Sys2Proof.Machine.execSequencerRestartBoundary bandSector s
  | .sequencerResume bandSector => Sys2Proof.Machine.execSequencerResume bandSector s
  | .dramScrubPass corrected errors => Sys2Proof.Machine.execDramScrubPass corrected errors s
  | .rfLoopbackTest bandSector pass => Sys2Proof.Machine.execRfLoopbackTest bandSector pass s
  | .settCountersClear who => Sys2Proof.Machine.execSettCountersClear who s
  | .updateDataWrite who data => Sys2Proof.Machine.execUpdateDataWrite who data s
  | .updateApply who => Sys2Proof.Machine.execUpdateApply who s
  | .updateAbort who => Sys2Proof.Machine.execUpdateAbort who s
  | .updateClearBuffer who => Sys2Proof.Machine.execUpdateClearBuffer who s
  | .ue0BlockBuilt => Sys2Proof.Machine.execUe0BlockBuilt s
  | .updateFinalVerify => Sys2Proof.Machine.execUpdateFinalVerify s
  | .updateResume => Sys2Proof.Machine.execUpdateResume s
  | .bankSwitch who => Sys2Proof.Machine.execBankSwitch who s
  | .bankConfirm who => Sys2Proof.Machine.execBankConfirm who s
  | .bankRollback who => Sys2Proof.Machine.execBankRollback who s
  | .bankRestart who => Sys2Proof.Machine.execBankRestart who s
  | .bankTrialTimeExpiry => Sys2Proof.Machine.execBankTrialTimeExpiry s
  | .commit who value => Sys2Proof.Machine.execCommit who value s
  | .commitComplete => Sys2Proof.Machine.execCommitComplete s
  | .configSelect who value => Sys2Proof.Machine.execConfigSelect who value s
  | .recoveryHello seq => Sys2Proof.Machine.execRecoveryHello seq s
  | .recoveryBaud seq rate => Sys2Proof.Machine.execRecoveryBaud seq rate s
  | .recoverySelect seq bank => Sys2Proof.Machine.execRecoverySelect seq bank s
  | .recoveryWrite seq offset data => Sys2Proof.Machine.execRecoveryWrite seq offset data s
  | .recoveryVerify seq => Sys2Proof.Machine.execRecoveryVerify seq s
  | .recoveryBoot seq => Sys2Proof.Machine.execRecoveryBoot seq s
  | .recoveryIdleTimeout => Sys2Proof.Machine.execRecoveryIdleTimeout s
  | .stageDataWrite who slot data => Sys2Proof.Machine.execStageDataWrite who slot data s
  | .stageVerifyEncode who slot => Sys2Proof.Machine.execStageVerifyEncode who slot s
  | .stageClear who slot => Sys2Proof.Machine.execStageClear who slot s
  | .stageEncodeDone slot => Sys2Proof.Machine.execStageEncodeDone slot s
  | .campaignCfgWrite who campaign cfg => Sys2Proof.Machine.execCampaignCfgWrite who campaign cfg s
  | .campaignStart who campaign => Sys2Proof.Machine.execCampaignStart who campaign s
  | .campaignPause who campaign => Sys2Proof.Machine.execCampaignPause who campaign s
  | .campaignResume who campaign => Sys2Proof.Machine.execCampaignResume who campaign s
  | .campaignCancel who campaign => Sys2Proof.Machine.execCampaignCancel who campaign s
  | .campaignActivate who campaign => Sys2Proof.Machine.execCampaignActivate who campaign s
  | .campaignClear who campaign => Sys2Proof.Machine.execCampaignClear who campaign s
  | .campaignFrameGenerate bandSector campaign => Sys2Proof.Machine.execCampaignFrameGenerate bandSector campaign s
  | .campaignReportRx handle content => Sys2Proof.Machine.execCampaignReportRx handle content s
  | .campaignPassEnd slotframe => Sys2Proof.Machine.execCampaignPassEnd slotframe s
  | .campaignEndAsnReached campaign => Sys2Proof.Machine.execCampaignEndAsnReached campaign s
  | .campaignActivateAsnReached campaign => Sys2Proof.Machine.execCampaignActivateAsnReached campaign s
  | .campaignActivatingTimeout campaign => Sys2Proof.Machine.execCampaignActivatingTimeout campaign s
  | .threadCreate core addr => Sys2Proof.Machine.execThreadCreate core addr s
  | .threadExit core => Sys2Proof.Machine.execThreadExit core s
  | .threadYield core => Sys2Proof.Machine.execThreadYield core s
  | .threadBlock core mask => Sys2Proof.Machine.execThreadBlock core mask s
  | .flagsSet core value => Sys2Proof.Machine.execFlagsSet core value s
  | .flagsTake core => Sys2Proof.Machine.execFlagsTake core s
  | .timerSet core time => Sys2Proof.Machine.execTimerSet core time s
  | .threadTimerExpiry tid => Sys2Proof.Machine.execThreadTimerExpiry tid s
  | .threadPrioWrite core prio => Sys2Proof.Machine.execThreadPrioWrite core prio s
  | .dtimeRead core => Sys2Proof.Machine.execDtimeRead core s
  | .randomRead core => Sys2Proof.Machine.execRandomRead core s
  | .apqTake core queue addr => Sys2Proof.Machine.execApqTake core queue addr s
  | .enqSubmit core addr => Sys2Proof.Machine.execEnqSubmit core addr s
  | .mailboxSecSubmit core addr => Sys2Proof.Machine.execMailboxSecSubmit core addr s
  | .mailboxOdSubmit core addr => Sys2Proof.Machine.execMailboxOdSubmit core addr s
  | .mailboxEvtSubmit core addr => Sys2Proof.Machine.execMailboxEvtSubmit core addr s
  | .mailboxComplete number => Sys2Proof.Machine.execMailboxComplete number s
  | .wakeSourceRaise tid source => Sys2Proof.Machine.execWakeSourceRaise tid source s
  | .sliceExpire core => Sys2Proof.Machine.execSliceExpire core s
  | .threadException core mcause pc => Sys2Proof.Machine.execThreadException core mcause pc s
  | .threadSuspend who tid => Sys2Proof.Machine.execThreadSuspend who tid s
  | .threadResume who tid => Sys2Proof.Machine.execThreadResume who tid s
  | .threadKill who tid => Sys2Proof.Machine.execThreadKill who tid s
  | .threadPriorityCmd who tid prio => Sys2Proof.Machine.execThreadPriorityCmd who tid prio s
  | .threadAffinityCmd who tid mask => Sys2Proof.Machine.execThreadAffinityCmd who tid mask s
  | .appRestart who value => Sys2Proof.Machine.execAppRestart who value s
  | .schedObsWrite who value => Sys2Proof.Machine.execSchedObsWrite who value s
  | .traceCursorWrite who value => Sys2Proof.Machine.execTraceCursorWrite who value s
  | .statWindowEnd => Sys2Proof.Machine.execStatWindowEnd s
  | .sopFrameCheck => Sys2Proof.Machine.execSopFrameCheck s
  | .sopRead who seq items => Sys2Proof.Machine.execSopRead who seq items s
  | .sopWrite who seq items => Sys2Proof.Machine.execSopWrite who seq items s
  | .sopSegReadStart who seq index sub => Sys2Proof.Machine.execSopSegReadStart who seq index sub s
  | .sopSegRead who seq offset max => Sys2Proof.Machine.execSopSegRead who seq offset max s
  | .sopSegWriteStart who seq index sub total => Sys2Proof.Machine.execSopSegWriteStart who seq index sub total s
  | .sopSegWrite who seq offset data => Sys2Proof.Machine.execSopSegWrite who seq offset data s
  | .segTransferIdleTimeout who => Sys2Proof.Machine.execSegTransferIdleTimeout who s
  | .sopExecute who seq writes reads => Sys2Proof.Machine.execSopExecute who seq writes reads s
  | .executeCompletion who => Sys2Proof.Machine.execExecuteCompletion who s
  | .executeTimeout who => Sys2Proof.Machine.execExecuteTimeout who s
  | .sopSubscribe who seq index sub mode interval => Sys2Proof.Machine.execSopSubscribe who seq index sub mode interval s
  | .sopUnsubscribe who seq subId => Sys2Proof.Machine.execSopUnsubscribe who seq subId s
  | .notifyInterval who subId => Sys2Proof.Machine.execNotifyInterval who subId s
  | .sopOpen e seq role method hostNonce => Sys2Proof.Machine.execSopOpen e seq role method hostNonce s
  | .sopAuth sid seq signature tag => Sys2Proof.Machine.execSopAuth sid seq signature tag s
  | .sopClose sid seq => Sys2Proof.Machine.execSopClose sid seq s
  | .halfOpenTimeout sid => Sys2Proof.Machine.execHalfOpenTimeout sid s
  | .sessionIdleTimeout sid => Sys2Proof.Machine.execSessionIdleTimeout sid s
  | .authLockoutExpire transport => Sys2Proof.Machine.execAuthLockoutExpire transport s
  | .sessionClose who sid => Sys2Proof.Machine.execSessionClose who sid s
  | .canFrameRx bus id data => Sys2Proof.Machine.execCanFrameRx bus id data s
  | .canAssemblyTimeout bus host => Sys2Proof.Machine.execCanAssemblyTimeout bus host s
  | .canDominantTimeout bus => Sys2Proof.Machine.execCanDominantTimeout bus s
  | .udpSopDatagramRx ingress source port dest destPort fragmented payload => Sys2Proof.Machine.execUdpSopDatagramRx ingress source port dest destPort fragmented payload s
  | .mb0H2cLenWrite length buffer => Sys2Proof.Machine.execMb0H2cLenWrite length buffer s
  | .mb0C2hAckWrite => Sys2Proof.Machine.execMb0C2hAckWrite s
  | .mb0NtfTailWrite tail => Sys2Proof.Machine.execMb0NtfTailWrite tail s
  | .spiWriteFrame frame => Sys2Proof.Machine.execSpiWriteFrame frame s
  | .spiReadFrame => Sys2Proof.Machine.execSpiReadFrame s
  | .spiStatus => Sys2Proof.Machine.execSpiStatus s
  | .spiRecoveryWrite frame => Sys2Proof.Machine.execSpiRecoveryWrite frame s
  | .spiRecoveryRead => Sys2Proof.Machine.execSpiRecoveryRead s
  | .spiRecoveryRequest data => Sys2Proof.Machine.execSpiRecoveryRequest data s
  | .sopCountersClear who => Sys2Proof.Machine.execSopCountersClear who s
  | .objectWrite who index sub value => Sys2Proof.Machine.execObjectWrite who index sub value s
  | .surveyPeriodEnd bins => Sys2Proof.Machine.execSurveyPeriodEnd bins s
  | .surveyCursorWrite who value => Sys2Proof.Machine.execSurveyCursorWrite who value s
  | .nfHistoryHourly => Sys2Proof.Machine.execNfHistoryHourly s
  | .nfHistoryCursorWrite who value => Sys2Proof.Machine.execNfHistoryCursorWrite who value s
  | .rangeRequest who handle k => Sys2Proof.Machine.execRangeRequest who handle k s
  | .rangingCell bandSector cell skipped tones => Sys2Proof.Machine.execRangingCell bandSector cell skipped tones s
  | .rangeReportRx handle content => Sys2Proof.Machine.execRangeReportRx handle content s
  | .supplySample vin vbat vioOut core power => Sys2Proof.Machine.execSupplySample vin vbat vioOut core power s
  | .temperatureSample temps => Sys2Proof.Machine.execTemperatureSample temps s
  | .ainSample channel codes => Sys2Proof.Machine.execAinSample channel codes s
  | .evtCursorWrite who value => Sys2Proof.Machine.execEvtCursorWrite who value s
  | .evtMarkWrite who value => Sys2Proof.Machine.execEvtMarkWrite who value s
  | .evtRewind who value => Sys2Proof.Machine.execEvtRewind who value s
  | .evtClear who value => Sys2Proof.Machine.execEvtClear who value s
  | .evtCodeCursorWrite who value => Sys2Proof.Machine.execEvtCodeCursorWrite who value s
  | .ptraceCfgWrite who value => Sys2Proof.Machine.execPtraceCfgWrite who value s
  | .ptraceCursorWrite who value => Sys2Proof.Machine.execPtraceCursorWrite who value s
  | .debugRead frame => Sys2Proof.Machine.execDebugRead frame s
  | .debugWrite frame => Sys2Proof.Machine.execDebugWrite frame s
  | .debugSelect frame => Sys2Proof.Machine.execDebugSelect frame s
  | .debugIdle frame => Sys2Proof.Machine.execDebugIdle frame s
  | .debugTransportReset => Sys2Proof.Machine.execDebugTransportReset s
  | .debugChallengeRead frame => Sys2Proof.Machine.execDebugChallengeRead frame s
  | .debugResponseSubmit frame => Sys2Proof.Machine.execDebugResponseSubmit frame s
  | .debugAuthLock frame => Sys2Proof.Machine.execDebugAuthLock frame s
  | .debugUnlockExpiry => Sys2Proof.Machine.execDebugUnlockExpiry s
  | .debugLock who value => Sys2Proof.Machine.execDebugLock who value s
  | .timeSlewComplete => Sys2Proof.Machine.execTimeSlewComplete s
  | .ptpDelayRequestRx port requester sequence => Sys2Proof.Machine.execPtpDelayRequestRx port requester sequence s
  | .neighborDiscoveryRx address mac port => Sys2Proof.Machine.execNeighborDiscoveryRx address mac port s
  | .vioOutCurrentLimit milliamps => Sys2Proof.Machine.execVioOutCurrentLimit milliamps s

end Sys2Proof.Machine
end

