-- ==== Sys2Proof/Safety.lean ====
section
/-! DEFINITION. What counts as a safe chip: the transmit gate, the claim, the bypass and the supply agree with the device
state (R22, R23, R301, R302, R431, R432), and what the chip has put on the air. -/

namespace Sys2Proof

open Sys2Proof.Machine

/-- The device states in which the ring bypass switches are on (R23). -/
def bypassState : DevState → Bool
  | .off | .dormant | .boot | .recovery | .zeroized => true
  | .load | .maintenance | .active | .follower => false

/-- The device states of a chip whose islands other than AON have no supply (Table 1-11). -/
def aonOnly : DevState → Bool
  | .off | .dormant => true
  | _ => false

/-- The role and supply outputs agree with the device state. -/
structure Sound (s : State) : Prop where
  /-- The transmit gate is open only while the chip asserts its own claim (R301). -/
  gate : s.power.txGate = true → s.power.claimOut = true
  /-- The chip asserts its claim only in ACTIVE (R22, R302). -/
  role : s.power.claimOut = true → s.power.dev = .active
  /-- The ring bypass is on wherever R23 has it on. -/
  bypass : bypassState s.power.dev = true → s.power.bypassOn = true
  /-- Without VIN only AON can run (R22, R432). -/
  supply : s.power.vin = false → aonOnly s.power.dev = true
  /-- While RST_N is low no state that LSF runs in is held, nor RECOVERY (R437). -/
  held : s.power.rstLow = true → bypassState s.power.dev = true ∧ s.power.dev ≠ .recovery
  /-- The rails are up only on VIN, with RST_N high, outside OFF and DORMANT (R432, Table 12-1). -/
  rails : s.power.rails = true → s.power.vin = true ∧ s.power.rstLow = false ∧ aonOnly s.power.dev = false

/-- An output on an aerial port: a frame or a burst (R91, R406). -/
def aerial : Out → Bool
  | .air .. => true
  | .burst .. => true
  | _ => false

/-- What the chip has put on the air, newest first. -/
def aerialLog (s : State) : List Out := s.out.filter aerial

/-- The chip may put frames and bursts on its aerial ports: ACTIVE with the transmit gate open (R22, R301). -/
def onAirAllowed (s : State) : Prop := s.power.dev = .active ∧ s.power.txGate = true

/-- The supply and reset commands (R22, R431, R432, R437). -/
def supplyCommand : Instr → Bool
  | .vinRise | .powerFailDetection | .vbatRise | .vbatFall | .rstNLow _ | .rstNRise | .startInstant => true
  | _ => false

/-- The commands that put frames or bursts on the air (R91, R406). -/
def airCommand : Instr → Bool
  | .paRampUp _ | .rangingCell _ _ _ _ => true
  | _ => false

/-- The commands other than supply and reset that can change the device state, the lifecycle, the bypass, the rails, the
claim or the transmit gate. -/
def roleCommand : Instr → Bool
  | .bootHedgehogSample _ | .bankVerifyDone | .loadEnd _ | .bypassRelease | .fatalToRoleFault
  | .enterMaintenance _ | .resume _ | .retire _ | .thermalReading _ | .memoryError _ _ _ | .slotBoundary _ _
  | .regionCommission _ _ | .shadowCheck _ _ _ | .ceSelftestDone _ _ _ _ _ | .loneEngineSlice _ _
  | .keyUpdateCommit _ | .hedgehogSample _ | .zeroizeCmd _ _ | .claimBackoffExpire | .partnerClaimSeen
  | .partnerClaimWithdrawn | .journalFrameRx _ _ | .jackRx _ | .swapSlotStart | .sequencerWatchdogExpiry _
  | .dramScrubPass _ _ | .rfLoopbackTest _ _ | .bankSwitch _ | .bankRollback _ | .bankRestart _ | .commitComplete
  | .recoveryHello _ | .recoveryBaud _ _ | .recoverySelect _ _ | .recoveryWrite _ _ _ | .recoveryVerify _
  | .recoveryBoot _ | .recoveryIdleTimeout | .mailboxOdSubmit _ _ | .sopFrameCheck | .sopWrite _ _ _ | .sopSegWrite _ _ _ _
  | .sopExecute _ _ _ _ | .spiRecoveryWrite _ | .objectWrite _ _ _ _ | .debugWrite _
  | .debugResponseSubmit _ => true
  | _ => false

/-- The queue, the clock, the device state, the lifecycle, the supply, the bypass, the claim and the gate are as before. -/
structure SameStanding (s t : State) : Prop where
  pending : t.pending = s.pending
  now : t.now = s.now
  dev : t.power.dev = s.power.dev
  lifecycle : t.power.lifecycle = s.power.lifecycle
  vin : t.power.vin = s.power.vin
  rstLow : t.power.rstLow = s.power.rstLow
  rails : t.power.rails = s.power.rails
  bypassOn : t.power.bypassOn = s.power.bypassOn
  claimOut : t.power.claimOut = s.power.claimOut
  txGate : t.power.txGate = s.power.txGate

/-- OFF, DORMANT and ZEROIZED: states that only supply and reset lead out of (Table 1-11). -/
def atRest : DevState → Bool
  | .off | .dormant | .zeroized => true
  | _ => false

end Sys2Proof
end

