-- ==== Sys2Proof/Certificates/Slice0/Obligations.lean ====
section
/-! DEFINITION. The statements about the model for the provers. A statement of a command's effect says what the next state
holds, or names the effect by the operation of Machine that computes it; `runsAs` says once when a command on an object of
the dictionary runs, what surrounds its effect, and what a refused one leaves. -/

section

open Sys2Proof Sys2Proof.Machine

/-- What a command that runs leaves: its journal record, its effect, and status OK for its caller. -/
def Sys2Proof.effected (s : State) (who : Caller) (idx sub : Nat) (v : Octets) (act : State → State) : State :=
  setStatus (act (journalWrite s who idx sub v)) who 0

/-- The command `c` writes value `v` to object `idx`:`sub` under a rule of its own, with the effect `act`: with CC0 running
and every check passed it has its effect; refused, it leaves all but the status its caller reads. -/
def Sys2Proof.runsAs (c : Instr) (who : Caller) (idx sub : Nat) (v : Octets) (rule : State → Nat) (act : State → State) : Prop :=
  (∀ s : State, lsfStopped s = false → commandStatus s who idx sub v rule = 0 →
    exec c s = .next (effected s who idx sub v act)) ∧
  (∀ s : State, lsfStopped s = false → commandStatus s who idx sub v rule ≠ 0 →
    exec c s = .next (setStatus s who (commandStatus s who idx sub v rule)))

/-- Every word of a counter object reads 0; no counter object has more than 16 subindices. -/
def Sys2Proof.countersZero (s : State) (idx : Nat) : Prop := ∀ sub word, sub ≤ 16 → objField s idx sub (4 * word) 4 = 0

/-- Every object but `idx` holds what it held. -/
def Sys2Proof.othersKept (s t : State) (idx : Nat) : Prop := ∀ j sub, sub < 256 → j ≠ idx → obj t j sub = obj s j sub

/-- The command `c` clears the counters of `idx` by a write to object `cmd`: they read 0 after it, every other object holds
what it held, and the chip's standing is as before. -/
def Sys2Proof.clears (c : Caller → Instr) (cmd idx : Nat) : Prop :=
  ∀ who, runsAs (c who) who cmd 0 [byte 0] (fun _ => 0) (fun s => clearCounters s idx) ∧
    ∀ s t : State, lsfStopped s = false → commandStatus s who cmd 0 [byte 0] (fun _ => 0) = 0 → exec (c who) s = .next t →
      countersZero t idx ∧ othersKept s t idx ∧ SameStanding s t ∧ t.out = s.out

/-- Thread `tid`, with context `t`, runs on a core that no debug request halts. -/
def Sys2Proof.runsOn (s : State) (core tid : Nat) (t : Thread) : Prop :=
  coreHalted s core = false ∧ runningOn s core = some tid ∧ threadOf s tid = some t

/-- For every command c, every list of further commands and every state whose queue is c followed by them, one step is
exec of c on that state with the queue's rest. The queue is the model's own (log entry 1). (00_scope.md) -/
def Obligations.StepRunsTheFrontCommand : Prop :=
  ∀ (c : Instr) (rest : List Instr) (s : State), s.pending = c :: rest → step s = exec c { s with pending := rest }

/-- With no command waiting a step answers a next state that differs only in the chip's nanosecond count, raised by one.
The model's choice (log entry 2). (00_scope.md) -/
def Obligations.EmptyQueueIdles : Prop :=
  ∀ s : State, s.pending = [] → step s = .next { s with now := s.now + 1 }

/-- At State.reset, the chip as shipped with no supply, the transmit gate, the claim, the bypass, the supply and the
rails agree with the device state OFF as Sound asks. (R22, R23, R301, R302, R432, R437) -/
def Obligations.ResetIsSound : Prop :=
  Sound State.reset

/-- From every state that is sound, not only those a run reaches, a step that answers a next state answers a sound one.
Sound says: the transmit gate is open only while the chip asserts its own claim (R301); the claim is asserted only
in ACTIVE (R22, R302); the ring bypass is on in OFF, DORMANT, BOOT, RECOVERY and ZEROIZED (R23); without VIN the
chip is in OFF or DORMANT (R22, R432); while RST_N is low the chip is in OFF, DORMANT, BOOT or ZEROIZED (R437); and
the rails are up only with VIN present, RST_N high and outside OFF and DORMANT. (R22, R23, R301, R302, R432, R437) -/
def Obligations.StepKeepsTheChipSound : Prop :=
  ∀ s t : State, Sound s → step s = .next t → Sound t

/-- For every command and state: where the command adds a frame or a burst to what the chip has put on its aerial ports,
the chip was in ACTIVE with its transmit gate open, and the command is PA_RAMP_UP or RANGING_CELL; and no command
takes anything out of that log. Every other command leaves the log as it was. (R22, R301, R91, R406) -/
def Obligations.OnlyAnActiveChipTransmits : Prop :=
  ∀ (c : Instr) (s t : State), exec c s = .next t →
    aerialLog t = aerialLog s ∨
      (airCommand c = true ∧ onAirAllowed s ∧ ∃ added, aerialLog t = added ++ aerialLog s)

/-- The lifecycle stages FACTORY, PROVISIONED, FIELD and RETIRED are coded 0 to 3, and after every command the stage's
code is at least what it was before. (R25) -/
def Obligations.LifecycleNeverGoesBack : Prop :=
  ∀ (c : Instr) (s t : State), exec c s = .next t → s.power.lifecycle.code ≤ t.power.lifecycle.code

/-- In OFF, DORMANT and ZEROIZED every command other than VIN_RISE, POWER_FAIL_DETECTION, VBAT_RISE, VBAT_FALL,
RST_N_LOW, RST_N_RISE and START_INSTANT leaves the device state as it is, as Table 1-11 lists no other event for
those states. (R22) -/
def Obligations.OnlySupplyAndResetLeaveRest : Prop :=
  ∀ (c : Instr) (s t : State), exec c s = .next t → supplyCommand c = false → atRest s.power.dev = true →
    t.power.dev = s.power.dev

/-- The effect of every command is on everything but the queue, and no command moves the count, which advances only
while the block idles (log entries 1 and 2, the model's own). (00_scope.md) -/
def Obligations.CommandsLeaveQueueAndClock : Prop :=
  ∀ (c : Instr) (s t : State), exec c s = .next t → t.pending = s.pending ∧ t.now = s.now

/-- The supply and reset commands (supplyCommand) and the commands of roleCommand (start, device state, claim, journal,
tamper, fault, bank, recovery, debug halt and dictionary writes that carry a command) may change the standing of the
chip. Every other command leaves the queue, the clock, the device state, the lifecycle, VIN, RST_N, the rails, the
bypass, the claim and the transmit gate exactly as they were. (R22, R23, R25, R301) -/
def Obligations.OtherCommandsKeepTheStanding : Prop :=
  ∀ (c : Instr) (s t : State), exec c s = .next t → supplyCommand c = false → roleCommand c = false → SameStanding s t

/-- For every command and every state exec answers a next state or refuses with vendorRange (Table 14-3 calls indexes
0xF000 to 0xFFFF Not described); and in a state with no Vendor session every command answers a next state, whatever
its operands: an event that does not apply leaves the state unchanged and is no stop (R22). (R22,
14_object_dictionary.md) -/
def Obligations.CommandsStopOnlyAtTheVendorRange : Prop :=
  ∀ (c : Instr) (s : State),
    ((∃ t, exec c s = .next t) ∨ exec c s = .refused .vendorRange) ∧
    ((∀ who, callerRole s who ≠ some 3) → ∃ t, exec c s = .next t)

/-- VIN_RISE with RST_N high puts a chip without VIN into BOOT with start cause 1 and the bypass on, and with RST_N low
changes neither device state nor lifecycle; POWER_FAIL_DETECTION in a state with more than AON running drops VIN and
the rails, closes the bypass, withdraws the claim, shuts the gate, gives up DRAM retention and leaves DORMANT on
VBAT or OFF without it; VBAT_RISE takes OFF without VIN to DORMANT; VBAT_FALL takes DORMANT without VIN to OFF and
ends AON's supply. Each answers a next state, and each keeps the queue, the count, the lifecycle and what is on the
air. (R22, R23, R318, R431, R432) -/
def Obligations.SupplyEdgesMoveTheChip : Prop :=
  (∀ s : State, s.power.vin = false → s.power.rstLow = false →
    ∃ t, exec .vinRise s = .next t ∧ t.power.vin = true ∧ t.power.dev = .boot ∧ t.power.startCause = 1 ∧
      t.power.latchedState = s.power.dev ∧ t.power.bypassOn = true ∧ t.power.rails = s.power.rails ∧
      t.power.lifecycle = s.power.lifecycle ∧ t.pending = s.pending ∧ t.out = s.out ∧ t.vals = s.vals) ∧
  (∀ s : State, s.power.vin = false → s.power.rstLow = true →
    ∃ t, exec .vinRise s = .next t ∧ t.power.vin = true ∧ t.power.dev = s.power.dev ∧ t.power.bypassOn = true ∧
      t.power.lifecycle = s.power.lifecycle ∧ t.out = s.out ∧ t.vals = s.vals) ∧
  (∀ s : State, s.power.vin = true → aonOnly s.power.dev = false →
    ∃ t, exec .powerFailDetection s = .next t ∧ t.power.vin = false ∧
      t.power.dev = (if s.power.vbat then DevState.dormant else DevState.off) ∧ t.power.rails = false ∧
      t.power.bypassOn = true ∧ t.power.claimOut = false ∧ t.power.txGate = false ∧ t.power.vioOut = false ∧
      t.image.retain = false ∧ t.power.lifecycle = s.power.lifecycle ∧ aerialLog t = aerialLog s) ∧
  (∀ s : State, s.power.dev = .off → s.power.vin = false →
    ∃ t, exec .vbatRise s = .next t ∧ t.power.dev = .dormant ∧ t.power.vbat = true ∧ t.power.aonValid = true ∧
      t.power.lifecycle = s.power.lifecycle ∧ t.out = s.out ∧ t.vals = s.vals) ∧
  (∀ s : State, s.power.dev = .dormant → s.power.vin = false →
    exec .vbatFall s = .next { s with power := { s.power with vbat := false, dev := .off, aonValid := false } })

/-- A low pulse on RST_N shorter than 1 us changes nothing; one of at least 10 us in a state with more than AON running
resets the islands into BOOT with the bypass on, the rails down, no claim, the gate shut and the state it left
latched, and with only AON running leaves the device state. The rise of RST_N with VIN present takes OFF or DORMANT
into BOOT with start cause 1, and otherwise only frees the pin. The start instant in BOOT with VIN present, RST_N
high, no thermal reset held and the rails down raises the rails and VIO_OUT, samples ROLE_PREF, locks the clocks and
sets the domain time a start counts from (locking all clocks at once is the model's choice). VIO_OUT's limit acts
above 300 mA and does not up to 200 mA. (R22, R23, R295, R318, R437, R434) -/
def Obligations.ResetPinAndStartInstant : Prop :=
  (∀ (s : State) (w : Nat), w < 1000 → exec (.rstNLow w) s = .next s) ∧
  (∀ (s : State) (w : Nat), 10000 ≤ w → aonOnly s.power.dev = false →
    ∃ t, exec (.rstNLow w) s = .next t ∧ t.power.rstLow = true ∧ t.power.dev = .boot ∧ t.power.bypassOn = true ∧
      t.power.rails = false ∧ t.power.claimOut = false ∧ t.power.txGate = false ∧ t.power.latchedState = s.power.dev ∧
      t.power.startCause = causeFrom s.power.dev 2 ∧ t.power.lifecycle = s.power.lifecycle ∧ t.power.vin = s.power.vin ∧
      aerialLog t = aerialLog s) ∧
  (∀ (s : State) (w : Nat), 10000 ≤ w → aonOnly s.power.dev = true →
    exec (.rstNLow w) s =
      .next { s with power := { s.power with rstLow := true, bypassOn := true, thermReset := false } }) ∧
  (∀ s : State, s.power.rstLow = true → s.power.vin = true → aonOnly s.power.dev = true →
    exec .rstNRise s = .next { s with
      power := { s.power with rstLow := false, dev := .boot, startCause := 1, latchedState := s.power.dev } }) ∧
  (∀ s : State, s.power.rstLow = true → (s.power.vin = false ∨ aonOnly s.power.dev = false) →
    exec .rstNRise s = .next { s with power := { s.power with rstLow := false } }) ∧
  (∀ s : State, s.power.dev = .boot → s.power.vin = true → s.power.rstLow = false → s.power.thermReset = false →
    s.power.rails = false →
    exec .startInstant s = .next { s with
      power := { s.power with
        startAt := s.now, rails := true, vioOut := true, bypassOn := true, rolePref := s.power.rolePrefPin,
        clockLock := 0x1FFFF#32 }
      time := { s.time with offset := (startTime s : Int) - (s.now : Int), slew := 0, slewAt := s.now } }) ∧
  (∀ (s : State) (mA : Nat), s.power.vioOut = true → 300 < mA →
    exec (.vioOutCurrentLimit mA) s = .next { s with power := { s.power with vioLimit := true } }) ∧
  (∀ (s : State) (mA : Nat), s.power.vioOut = true → mA ≤ 200 →
    exec (.vioOutCurrentLimit mA) s = .next { s with power := { s.power with vioLimit := false } })

/-- In BOOT with the rails up and no sample taken yet, BOOT_HEDGEHOG_SAMPLE leads to ZEROIZED with the claim withdrawn
where a source is at alarm, where the zeroize flag or ZEROIZE_PENDING stands, or where the lifecycle is RETIRED, and
otherwise stays in BOOT with the sample taken and the KEK derived. Once sampled, BANK_VERIFY_DONE enters RECOVERY
with cause 3 on the SPI request and cause 2 where REC_RX is low at both samples, releases CC0 into LOAD from
RUN_BANK where it verifies outside a trial, and enters RECOVERY with cause 1 where RUN_BANK fails and the other bank
has failed. LOAD_END with the claim released resets into BOOT where a segment fails its digest, and otherwise ends
LOAD in MAINTENANCE where a reason for it stands; with none a chip with a partner stays in LOAD to contend, and one
without becomes ACTIVE with its claim asserted and its gate open. (R278, R279, R318, R320, R326, R337, R22,
12_boot_images_updates.md) -/
def Obligations.StartTakesItsBranch : Prop :=
  (∀ (s : State) (x : TamperSample), s.power.dev = .boot → s.power.rails = true → s.image.sampled = false →
    (alarmMask (countSample s x) ≠ 0 ∨ s.keys.zeroizeFlag = true ∨ zeroizePending s = true ∨
      s.power.lifecycle = .retired) →
    ∃ t, exec (.bootHedgehogSample x) s = .next t ∧ t.power.dev = .zeroized ∧ t.power.lifecycle = s.power.lifecycle ∧
      t.pending = s.pending) ∧
  (∀ (s : State) (x : TamperSample), s.power.dev = .boot → s.power.rails = true → s.image.sampled = false →
    alarmMask (countSample s x) = 0 → s.keys.zeroizeFlag = false → zeroizePending s = false →
    s.power.lifecycle ≠ .retired →
    ∃ t, exec (.bootHedgehogSample x) s = .next t ∧ SameStanding s t ∧ t.image.sampled = true ∧
      t.image.recSample = (!s.power.recRx) ∧ t.keys.kek.isSome) ∧
  (∀ s : State, s.power.dev = .boot → s.power.rails = true → s.image.sampled = true → s.image.spiRequest = true →
    ∃ t, exec .bankVerifyDone s = .next t ∧ t.power.dev = .recovery ∧
      t.image.recovery = some { cause := 3, frameAt := s.now } ∧ t.power.bypassOn = s.power.bypassOn) ∧
  (∀ s : State, s.power.dev = .boot → s.power.rails = true → s.image.sampled = true → s.image.spiRequest = false →
    s.image.recSample = true → s.power.recRx = false →
    ∃ t, exec .bankVerifyDone s = .next t ∧ t.power.dev = .recovery ∧
      t.image.recovery = some { cause := 2, frameAt := s.now } ∧ t.power.bypassOn = s.power.bypassOn) ∧
  (∀ s : State, s.power.dev = .boot → s.power.rails = true → s.image.sampled = true → s.image.spiRequest = false →
    (s.image.recSample = false ∨ s.power.recRx = true) → s.image.trial = false →
    s.image.bootFailed.has s.image.runBank = false → bankResult s s.image.runBank = 0 →
    ∃ t, exec .bankVerifyDone s = .next t ∧ t.power.dev = .load ∧ t.power.claimOut = s.power.claimOut ∧
      t.power.lifecycle = s.power.lifecycle) ∧
  (∀ s : State, s.power.dev = .boot → s.power.rails = true → s.image.sampled = true → s.image.spiRequest = false →
    (s.image.recSample = false ∨ s.power.recRx = true) → s.image.trial = false →
    s.image.bootFailed.has s.image.runBank = false → bankResult s s.image.runBank ≠ 0 →
    s.image.bootFailed.has (otherBank s.image.runBank) = true →
    ∃ t, exec .bankVerifyDone s = .next t ∧ t.power.dev = .recovery ∧
      t.image.recovery = some { cause := 1, frameAt := s.now }) ∧
  (∀ (s : State) (bad : List Nat), s.power.dev = .load → s.twin.claim = .released → segmentsLoad s = false →
    ∃ t, exec (.loadEnd bad) s = .next t ∧ t.power.dev = .boot ∧ t.power.startCause = 3 ∧ t.power.claimOut = false) ∧
  (∀ (s : State) (bad : List Nat), s.power.dev = .load → s.twin.claim = .released → segmentsLoad s = true →
    let u := startEvents (finishLoad (configureLoad s bad))
    ∃ t, exec (.loadEnd bad) s = .next t ∧
      t.power.dev = (if (maintenanceReason u).isSome then DevState.maintenance
        else if hasPartner u then DevState.load else DevState.active) ∧
      t.power.claimOut = (s.power.claimOut || (maintenanceReason u).isNone && !hasPartner u) ∧
      t.power.txGate = (s.power.txGate || (maintenanceReason u).isNone && !hasPartner u))

/-- RX_COUNTERS_CLEAR, MODEM_COUNTERS_CLEAR, TX_COUNTERS_CLEAR, SCHED_COUNTERS_CLEAR, LINK_COUNTERS_CLEAR,
QUEUE_COUNTERS_CLEAR, FWD_COUNTERS_CLEAR, CE_COUNTERS_CLEAR, SETT_COUNTERS_CLEAR and SOP_COUNTERS_CLEAR: with CC0
running and the write's checks passed, each answers a next state in which every word of its counter object reads 0
in every subindex it has, every other object holds what it held, nothing has left the chip, and the device state,
lifecycle, supply, bypass, claim and gate are as before; refused, each leaves all but the status its caller reads.
(R65, R90, R119, R144, R175, R200, R233, R254, R317, R401) -/
def Obligations.CounterClearsZeroTheirCounters : Prop :=
  clears .rxCountersClear 0x2171 0x2170 ∧ clears .modemCountersClear 0x3041 0x3040 ∧
  clears .txCountersClear 0x2311 0x2310 ∧ clears .schedCountersClear 0x4151 0x4150 ∧
  clears .linkCountersClear 0x4241 0x4240 ∧ clears .queueCountersClear 0x5141 0x5140 ∧
  clears .fwdCountersClear 0x6061 0x6060 ∧ clears .ceCountersClear 0x7051 0x7050 ∧
  clears .settCountersClear 0x9021 0x9020 ∧ clears .sopCountersClear 0x1121 0x1120

/-- ENTER_MAINTENANCE runs in ACTIVE and leaves MAINTENANCE with cause 0x17, RESUME runs under the resume condition of
Table 1-11, RETIRE arms or retires, DEBUG_LOCK locks with cause 3, ZEROIZE_CMD takes the value 0xA5 alone. Each
runs, with its journal record and status OK, in every state in which CC0 runs and the write's checks and its rule
pass; refused, it leaves all but the status its caller reads. (R22, R25, R275, R276, R424) -/
def Obligations.DeviceStateCommandsRun : Prop :=
  ∀ (who : Caller) (v : Nat),
    runsAs (.enterMaintenance who) who 0x1014 0 [byte 1] (fun s => require (s.power.dev = .active) stState)
      (fun s => goMaintenance s 0x17) ∧
    runsAs (.resume who) who 0x1014 0 [byte 2] resumeRule resumeApply ∧
    runsAs (.retire who) who 0x1014 0 [byte 3] (fun _ => 0) retireApply ∧
    runsAs (.debugLock who v) who 0xA501 0 (beOctets 1 v) (fun _ => 0) (fun s => lockDebug s 3) ∧
    runsAs (.zeroizeCmd who v) who 0x7124 0 (beOctets 1 v) (fun _ => require (v % 256 = 0xA5) stRange) zeroizeCmdApply

/-- NF_CURSOR_WRITE, SURVEY_CURSOR_WRITE, NF_HISTORY_CURSOR_WRITE, EVT_CURSOR_WRITE, EVT_MARK_WRITE, EVT_REWIND,
EVT_CLEAR, EVT_CODE_CURSOR_WRITE, PTRACE_CFG_WRITE, PTRACE_CURSOR_WRITE, SCHED_OBS_WRITE, TRACE_CURSOR_WRITE,
NODE_LOOKUP and RANGE_REQUEST run, each with its journal record, its own effect and status OK, in every state in
which CC0 runs and the write's checks and its rule pass; refused, each leaves all but the status its caller reads.
(R62, R175, R366, R368, R403, R404, R408, R415, R418, R419, R420, R421) -/
def Obligations.ReadoutCommandsRun : Prop :=
  ∀ (who : Caller) (v h k : Nat) (o : Octets),
    runsAs (.nfCursorWrite who v) who 0x2161 0 (beOctets 4 v) (fun _ => nfCursorCheck v) (nfCursorApply who v) ∧
    runsAs (.surveyCursorWrite who v) who 0xA201 0 (beOctets 4 v) (fun _ => nfCursorCheck v) (surveyCursorApply who v) ∧
    runsAs (.nfHistoryCursorWrite who v) who 0xA210 0 (beOctets 4 v) (fun _ => historyCheck v) (historyApply who v) ∧
    runsAs (.evtCursorWrite who v) who 0xA001 0 (beOctets 4 v) (fun _ => 0) (evtCursorApply who v) ∧
    runsAs (.evtMarkWrite who v) who 0xA003 0 (beOctets 4 v) (fun _ => 0) (evtMarkApply who v) ∧
    runsAs (.evtRewind who v) who 0xA004 0 (beOctets 1 v) (fun _ => 0) (evtRewindApply who) ∧
    runsAs (.evtClear who v) who 0xA006 0 (beOctets 1 v) (fun _ => 0) (evtClearApply who) ∧
    runsAs (.evtCodeCursorWrite who v) who 0xA009 0 (beOctets 2 v) (fun _ => 0) (evtCodeApply who v) ∧
    runsAs (.ptraceCfgWrite who o) who 0xA100 0 o (ptraceCheck o) (ptraceApply o) ∧
    runsAs (.ptraceCursorWrite who v) who 0xA101 0 (beOctets 4 v) (fun _ => 0) (ptraceCursorApply who (v % 2 ^ 32)) ∧
    runsAs (.schedObsWrite who v) who 0xB020 0 (beOctets 1 v) (fun _ => schedObsCheck (v % 256))
      (schedObsApply (v % 256)) ∧
    runsAs (.traceCursorWrite who v) who 0xB022 0 (beOctets 4 v) (fun _ => 0) (traceCursorApply who (v % 2 ^ 32)) ∧
    runsAs (.nodeLookup who o) who 0x4222 0 o (fun _ => 0) (nodeLookupApply who o) ∧
    runsAs (.rangeRequest who h k) who 0xA301 0 (beOctets 4 h ++ [byte k]) (rangeCheck h (k % 256))
      (rangeApply h (k % 256))

/-- TX_MASK_WRITE (a mask or its coefficients), TUNER_RESTORE, REGION_PROFILE_WRITE, REGION_COMMISSION,
SCHED_CELL_WRITE, SCHED_CELL_READ, SCHED_CELL_CLEAR, SECTOR_SERVICE_WRITE, JOIN_APPROVE and NODE_DEPART run, each
with its journal record, its own effect and status OK, in every state in which CC0 runs and the write's checks and
its rule pass; refused, each leaves all but the status its caller reads. REGION_RECOMMISSION runs the same way on
the state its note leaves, and SCHED_CELL_BLOCK_WRITE and SCHEDULE_TABLE_WRITE on the state that holds the code the
schedule checks give the write. (R74, R101, R108, R110, R111, R132, R134, R141, R165) -/
def Obligations.RadioAndScheduleCommandsRun : Prop :=
  ∀ (who : Caller) (band : Band) (p v bs h : Nat) (o : Octets),
    runsAs (.txMaskWrite who band false o) who 0x3020 (bandCode band + 1) o (maskStatus (bandCode band) false o)
      (maskApply (bandCode band) false o) ∧
    runsAs (.txMaskWrite who band true o) who 0x3021 (bandCode band + 1) o (maskStatus (bandCode band) true o)
      (maskApply (bandCode band) true o) ∧
    runsAs (.tunerRestore who p) who 0x2213 p [byte 0] (fun _ => 0) (restorePort p) ∧
    runsAs (.regionProfileWrite who o) who 0x2300 0 o (profileStatus o) (fun s => putProfile s o) ∧
    runsAs (.regionCommission who v) who 0x2301 0 (beOctets 1 v) (commissionStatus who (v % 256)) commissionApply ∧
    (∀ s : State, lsfStopped (recommissionNote who o s) = false →
      commandStatus (recommissionNote who o s) who 0x2302 0 o (recommissionRule who o) = 0 →
      exec (.regionRecommission who o) s =
        .next (effected (recommissionNote who o s) who 0x2302 0 o (recommissionApply o))) ∧
    runsAs (.schedCellWrite who) who 0x4112 0 [byte 1] (fun _ => 0) cellWriteApply ∧
    runsAs (.schedCellRead who) who 0x4112 0 [byte 2] (fun _ => 0) cellReadApply ∧
    runsAs (.schedCellClear who) who 0x4112 0 [byte 3] (fun _ => 0) cellClearApply ∧
    (∀ s : State, writeStatus s who 0x4116 0 o = 0 → cellIndex s % 64 = 0 →
      cellsWriteStatus s (cellIndex s) (blockCells o) = 0 →
      lsfStopped (schedStatus s 0) = false → commandStatus (schedStatus s 0) who 0x4116 0 o (cellBlockCheck o) = 0 →
      exec (.schedCellBlockWrite who o) s = .next (effected (schedStatus s 0) who 0x4116 0 o (cellBlockApply o))) ∧
    (∀ s : State, scheduleTable v = true → writeStatus s who v p o = 0 → tableStatus s v p o = 0 →
      lsfStopped (schedStatus s 0) = false → commandStatus (schedStatus s 0) who v p o (tableCheck v p o) = 0 →
      exec (.scheduleTableWrite who v p o) s = .next (effected (schedStatus s 0) who v p o (tableApply v p o))) ∧
    runsAs (.sectorServiceWrite who bs v) who 0x4140 bs [byte v] (fun _ => sectorServiceCheck [byte v])
      (sectorServiceApply bs [byte v]) ∧
    runsAs (.joinApprove who h v) who 0x4213 0 (beOctets 4 h ++ beOctets 1 v) (joinApproveCheck h v)
      (joinApproveApply h v) ∧
    runsAs (.nodeDepart who h) who 0x4215 0 (beOctets 4 h) (nodeDepartCheck h) (nodeDepartApply h)

/-- QUEUE_FLUSH, SHAPER_CFG_WRITE (for the shaper its caller's cursor names), GATE_WRITE, and the TABLE_CMD codes
TABLE_INSERT, TABLE_UPDATE, TABLE_DELETE, TABLE_READ_KEY, TABLE_READ_LOC, TABLE_CONFIRM, ROUTE_ADD, ROUTE_DEL,
ROUTE_READ, ROUTE_LOOKUP, NH_WRITE and NH_READ (none while a table command is in hand) run, each with its journal
record, its own effect and status OK, in every state in which CC0 runs and the write's checks and its rule pass;
refused, each leaves all but the status its caller reads. (R191, R195, R199, R219, R223, R225, R226, R229, R232) -/
def Obligations.QueueAndTableCommandsRun : Prop :=
  ∀ (who : Caller) (v sub : Nat) (eth : Bool) (o : Octets),
    runsAs (.queueFlush who v) who 0x5132 0 (beOctets 4 v) (fun _ => flushCheck (v % 2 ^ 32))
      (fun s => flushAll s (namedQueue s (v % 2 ^ 32))) ∧
    (∀ s : State, lsfStopped s = false → commandStatus s who 0x5101 0 o (fun _ => shaperCheck o) = 0 →
      exec (.shaperCfgWrite who o) s = .next (effected s who 0x5101 0 o (shaperApply (shaperCursor s who) o))) ∧
    runsAs (.gateWrite who eth sub o) who (gateIndex eth) sub o (fun _ => gateCheck eth o) (gateApply eth sub o) ∧
    runsAs (.tableInsert who) who 0x6020 0 [byte 1] tableFree tableInsertApply ∧
    runsAs (.tableUpdate who) who 0x6020 0 [byte 2] tableFree tableUpdateApply ∧
    runsAs (.tableDelete who) who 0x6020 0 [byte 3] tableFree tableDeleteApply ∧
    runsAs (.tableReadKey who) who 0x6020 0 [byte 4] tableFree tableReadKeyApply ∧
    runsAs (.tableReadLoc who) who 0x6020 0 [byte 5] tableFree tableReadLocApply ∧
    runsAs (.tableConfirm who) who 0x6020 0 [byte 6] tableFree tableConfirmApply ∧
    runsAs (.routeAdd who) who 0x6020 0 [byte 8] tableFree routeAddApply ∧
    runsAs (.routeDel who) who 0x6020 0 [byte 9] tableFree routeDelApply ∧
    runsAs (.routeRead who) who 0x6020 0 [byte 10] tableFree routeReadApply ∧
    runsAs (.routeLookup who) who 0x6020 0 [byte 11] tableFree routeLookupApply ∧
    runsAs (.nhWrite who) who 0x6020 0 [byte 12] tableFree nhWriteApply ∧
    runsAs (.nhRead who) who 0x6020 0 [byte 13] tableFree nhReadApply

/-- CE_SELFTEST_NOW, KEY_CACHE_FLUSH, KEY_UPDATE, SEED_MODE_WRITE, TWIN_SWAP_NOW, TWIN_RESYNC (in FOLLOWER) and
SEQ_RESTART (band-sectors 1 to 9) run, each with its journal record, its own effect and status OK, in every state in
which CC0 runs and the write's checks and its rule pass; refused, each leaves all but the status its caller reads.
(R248, R259, R264, R266, R310, R311, R313) -/
def Obligations.KeyAndPairCommandsRun : Prop :=
  ∀ (who : Caller) (v : Nat) (o : Octets),
    runsAs (.ceSelftestNow who v) who 0x7002 0 (beOctets 1 v) (selftestNowCheck (v % 256)) (selftestNowApply (v % 256)) ∧
    runsAs (.keyCacheFlush who) who 0x7111 0 [byte 0] (fun _ => 0) (fun s => flushCache s 2 0xFFFF (fun _ => true)) ∧
    runsAs (.keyUpdate who o) who 0x7100 0 o (fun _ => 0) (fun s => kuArrive s who o) ∧
    runsAs (.seedModeWrite who v) who 0x7103 0 (beOctets 1 v) (seedCheck (v % 256)) (seedApply (v % 256)) ∧
    runsAs (.twinSwapNow who v) who 0x9007 0 (beOctets 1 v) swapRule requestSwap ∧
    runsAs (.twinResync who v) who 0x9009 0 (beOctets 1 v) (fun s => require (s.power.dev = .follower) stState) resync ∧
    runsAs (.seqRestart who v) who 0x9013 0 (beOctets 1 v) (fun _ => require (1 ≤ v && v ≤ 9) stRange)
      (fun s => requestRestart s v 1)

/-- UPDATE_DATA_WRITE (at the offset UPDATE_OFFSET holds), UPDATE_APPLY, UPDATE_ABORT, UPDATE_CLEAR_BUFFER, BANK_SWITCH,
BANK_CONFIRM (on trial alone), BANK_ROLLBACK, BANK_RESTART, CONFIG_SELECT and SESSION_CLOSE run, each with its
journal record, its own effect and status OK, in every state in which CC0 runs and the write's checks and its rule
pass; refused, each leaves all but the status its caller reads. COMMIT begins where its status is OK, and otherwise
answers its caller with the status that refuses it. (R327, R332, R335, R351, R375, R393) -/
def Obligations.ImageAndConfigCommandsRun : Prop :=
  ∀ (who : Caller) (v : Nat) (o : Octets),
    (∀ s : State, lsfStopped s = false →
      commandStatus s who 0x8011 0 o (fun s => updateDataCheck (objN s 0x8010 0) o) = 0 →
      exec (.updateDataWrite who o) s =
        .next (effected s who 0x8011 0 o (fun s => updateDataApply (objN s 0x8010 0) o s))) ∧
    runsAs (.updateApply who) who 0x8012 0 [byte 1] updateIdle updateApplyNow ∧
    runsAs (.updateAbort who) who 0x8012 0 [byte 2] (fun _ => 0) updateAbortNow ∧
    runsAs (.updateClearBuffer who) who 0x8012 0 [byte 3] updateIdle updateClearNow ∧
    runsAs (.bankSwitch who) who 0x8002 0 [byte 1] bankSwitchCheck bankSwitchApply ∧
    runsAs (.bankConfirm who) who 0x8002 0 [byte 2] (fun s => require (onTrialNow s) stState) confirmTrial ∧
    runsAs (.bankRollback who) who 0x8002 0 [byte 3] bankRollbackCheck (fun s => runFrom s (notRunning s) false) ∧
    runsAs (.bankRestart who) who 0x8002 0 [byte 4] (fun _ => 0) (fun s => internalReset s 5) ∧
    runsAs (.configSelect who v) who 0x8021 0 (beOctets 1 v) (selectCheck (v % 256)) (selectApply (v % 256)) ∧
    runsAs (.sessionClose who v) who 0x1115 0 (beOctets 1 v) (closeCheck (v % 256)) (fun s => endSession s 3 (v % 256)) ∧
    (∀ s : State, commitStatus s who = 0 → exec (.commit who v) s = .next (commitApply s who v)) ∧
    (∀ s : State, commitStatus s who ≠ 0 →
      exec (.commit who v) s =
        .next (respond (setStatus s who (commitStatus s who)) who 8 v (commitStatus s who) 0xFF []))

/-- STAGE_DATA_WRITE (at the offset STAGE_OFFSET holds), STAGE_VERIFY_ENCODE and STAGE_CLEAR (on a slot no campaign
uses), CAMPAIGN_CFG_WRITE, CAMPAIGN_START, CAMPAIGN_PAUSE (from RUNNING), CAMPAIGN_RESUME (from PAUSED),
CAMPAIGN_CANCEL, CAMPAIGN_ACTIVATE (from DELIVERED or EXPIRED) and CAMPAIGN_CLEAR (from CLOSED or CANCELLED) run,
each with its journal record, its own effect and status OK, in every state in which CC0 runs and the write's checks
and its rule pass; refused, each leaves all but the status its caller reads. (R341, R347, R351) -/
def Obligations.CampaignCommandsRun : Prop :=
  ∀ (who : Caller) (k : Nat) (o : Octets),
    (∀ s : State, lsfStopped s = false →
      commandStatus s who 0x8032 k o (fun s => stageDataCheck k (objN s 0x8031 k) o s) = 0 →
      exec (.stageDataWrite who k o) s =
        .next (effected s who 0x8032 k o (fun s => stageDataApply k (objN s 0x8031 k) o s))) ∧
    runsAs (.stageVerifyEncode who k) who 0x8033 k [byte 1] (fun s => slotFree s k) (stageVerifyApply k) ∧
    runsAs (.stageClear who k) who 0x8033 k [byte 2] (fun s => slotFree s k) (stageClearApply k) ∧
    runsAs (.campaignCfgWrite who k o) who 0x8040 k o (campaignCfgCheck k o) (campaignCfgApply k o) ∧
    runsAs (.campaignStart who k) who 0x8041 k [byte 1] (campaignStartCheck k) (campaignStartApply k) ∧
    runsAs (.campaignPause who k) who 0x8041 k [byte 2] (inState k [.running]) (fun s => changeCampaign s k .paused) ∧
    runsAs (.campaignResume who k) who 0x8041 k [byte 3] (inState k [.paused]) (campaignResumeApply k) ∧
    runsAs (.campaignCancel who k) who 0x8041 k [byte 4] (inState k cancellable) (campaignCancelApply k) ∧
    runsAs (.campaignActivate who k) who 0x8041 k [byte 5] (inState k [.delivered, .expired]) (activateCampaign k) ∧
    runsAs (.campaignClear who k) who 0x8041 k [byte 6] (inState k [.closed, .cancelled]) (campaignClearApply k)

/-- THREAD_SUSPEND (from READY, RUNNING or BLOCKED), THREAD_RESUME (from SUSPENDED), THREAD_KILL (from any state in
use), THREAD_PRIORITY_CMD (8 to 31), THREAD_AFFINITY_CMD (a mask that names a core) and APP_RESTART run, each with
its journal record, its own effect and status OK, in every state in which CC0 runs and the write's checks and its
rule pass; refused, each leaves all but the status its caller reads. (R354, R357, R365) -/
def Obligations.ThreadCommandsRun : Prop :=
  ∀ (who : Caller) (tid a v : Nat),
    runsAs (.threadSuspend who tid) who 0xB002 0 [byte tid, byte 1, byte 0]
      (fun s => firstOf [threadCheck tid [.ready, .running, .blocked] s, require true stRange]) (suspendThread tid) ∧
    runsAs (.threadResume who tid) who 0xB002 0 [byte tid, byte 2, byte 0]
      (fun s => firstOf [threadCheck tid [.suspended] s, require true stRange]) (resumeThread tid) ∧
    runsAs (.threadKill who tid) who 0xB002 0 [byte tid, byte 3, byte 0]
      (fun s => firstOf [threadCheck tid usedStates s, require true stRange]) (fun s => killThread s tid) ∧
    runsAs (.threadPriorityCmd who tid a) who 0xB002 0 [byte tid, byte 4, byte a]
      (fun s => firstOf [threadCheck tid usedStates s, require (8 ≤ a && a ≤ 31) stRange]) (fun s => setPriority s tid a) ∧
    runsAs (.threadAffinityCmd who tid a) who 0xB002 0 [byte tid, byte 5, byte a]
      (fun s => firstOf [threadCheck tid usedStates s, require (!(affinityOf a).isEmpty) stRange]) (setAffinity tid a) ∧
    runsAs (.appRestart who v) who 0xB012 0 (beOctets 1 v) (fun _ => 0) (fun s => startApplication s 2)

/-- BYPASS_RELEASE in LOAD opens the bypass and takes EAST and WEST down for a fresh start; FATAL_TO_ROLE_FAULT in LOAD,
MAINTENANCE, ACTIVE, FOLLOWER or RECOVERY resets into BOOT with the claim withdrawn and the bypass on, with start
cause 3, or 6 out of RECOVERY; THERMAL_READING with VIN present runs the rows of Table 1-15 on the reading;
THERMAL_RESTORE_TIMER 60 s after a forced chip cooled gives the selected profile back at its slot;
PROFILE_CHANGE_EFFECTIVE at its boundary puts the selected profiles in force, records the change, and restores the
cause in DEGRADED unless Economy is forced. (R22, R23, R28, R29, R30, R312) -/
def Obligations.BypassThermalAndProfileEvents : Prop :=
  (∀ s : State, s.power.dev = .load → s.power.bypassOn = true →
    exec .bypassRelease s =
      .next (portDown (portDown { s with power := { s.power with bypassOn := false } } 1) 2)) ∧
  (∀ s : State, (lsfRuns s.power.dev = true ∨ s.power.dev = .recovery) →
    ∃ t, exec .fatalToRoleFault s = .next t ∧ t.power.dev = .boot ∧ t.power.claimOut = false ∧ t.power.txGate = false ∧
      t.power.bypassOn = true ∧ t.power.rails = false ∧ t.power.startCause = causeFrom s.power.dev 3 ∧
      t.power.latchedState = s.power.dev ∧ t.power.lifecycle = s.power.lifecycle ∧ t.power.vin = s.power.vin) ∧
  (∀ (s : State) (x : Int), s.power.vin = true →
    exec (.thermalReading x) s =
      .next (thermalRow5 (thermalRow4 (thermalRow3 (thermalCool (thermalRow1
        { s with power := { s.power with junction := x } })))))) ∧
  (∀ (s : State) (t : Nat), s.power.coolSince = some t → s.power.thermForced = true → t + 60000000000 ≤ s.now →
    exec .thermalRestoreTimer s =
      .next (thermalEvent (dueProfile { s with power := { s.power with thermForced := false, coolSince := none } }) 2)) ∧
  (∀ (s : State) (a : Nat), s.power.profileDue = some a → lsfRuns s.power.dev = true → a ≤ refAsn s →
    exec .profileChangeEffective s =
      let t := putProfiles s
      let u := if s.power.effective = t.power.effective ∧ s.power.chipProfile ≠ t.power.chipProfile then
          record t 0x0030 0 s.power.chipProfile t.power.chipProfile
        else profileEvents t s.power.effective t.power.effective
      .next (raiseAll (if u.power.thermForced then u else setCause u 1 false) 5))

/-- A unit written to a FIFO below its 64 words that drops nothing is packed; at 64 words a FIFO from a sampled source
(FIFO 0 to 8) overflows and any other stalls; after an overflow units are dropped until the last one of their
packet. A word whose data and side bits are sound is delivered and frees its place. A flush outside a packet empties
the FIFO at once; inside one it is remembered from its first request; 64 us after, the FIFO is emptied with a
closing word, which the spec leaves open, and event 0x0021 tells the words lost. A corrected memory error is
counted; an uncorrectable one poisons its packet or FIFO word, does nothing to an L1 line, and anywhere else is a
fatal-to-role fault, which gives up DRAM retention when DRAM itself failed (memory code 13). (R15, R16, R17, R18,
R19, R20) -/
def Obligations.CrossingFifosAndMemoryErrors : Prop :=
  (∀ (s : State) (n lane : Nat) (u : Octets) (last poison : Bool), n < 64 → (fifoOf s n).dropToLast = false →
    (fifoOf s n).words.length < 64 →
    exec (.fifoWriteUnit n lane u last poison) s = .next (updFifo s n (fun f => packUnit f u last poison))) ∧
  (∀ (s : State) (n lane : Nat) (u : Octets) (last poison : Bool), n < 9 → (fifoOf s n).dropToLast = false →
    64 ≤ (fifoOf s n).words.length →
    exec (.fifoWriteUnit n lane u last poison) s = .next (sampleOverflow s n lane)) ∧
  (∀ (s : State) (n lane : Nat) (u : Octets) (last poison : Bool), 9 ≤ n → n < 64 → (fifoOf s n).dropToLast = false →
    64 ≤ (fifoOf s n).words.length →
    exec (.fifoWriteUnit n lane u last poison) s = .next (updFifo s n (fun f => { f with stalled := true }))) ∧
  (∀ (s : State) (n : Nat) (w : Octets) (rest : List Octets), (fifoOf s n).words = w :: rest →
    (fifoOf s n).skipping = false → sideGood (flipBits w []) = true → dataGood (flipBits w []) = true →
    exec (.fifoReadWord n []) s =
      .next (deliver (updFifo s n (fun f => { f with words := rest, stalled := false })) n (flipBits w []))) ∧
  (∀ (s : State) (n : Nat), n < 64 → (fifoOf s n).midPacket = false →
    exec (.fifoFlushRequest n) s = .next (flushNow s n)) ∧
  (∀ (s : State) (n : Nat), n < 64 → (fifoOf s n).midPacket = true →
    exec (.fifoFlushRequest n) s = .next (updFifo s n (fun f => { f with flushAt := some (f.flushAt.getD s.now) }))) ∧
  (∀ (s : State) (n t : Nat), (fifoOf s n).flushAt = some t → t + 64000 ≤ s.now →
    exec (.fifoFlushTimeout n) s =
      .next (record (flushNow (emit (drewFree s) (.fifo n (closingWord s))) n) 0x0021 n (fifoOf s n).words.length 0)) ∧
  (∀ (s : State) (m : Nat) (p : MemoryPlace), exec (.memoryError m false p) s = .next (correctedError s m)) ∧
  (∀ (s : State) (m k : Nat), exec (.memoryError m true (.packetPool k)) s = .next (poisonPacket s k)) ∧
  (∀ (s : State) (m : Nat), exec (.memoryError m true .l1Line) s = .next s) ∧
  (∀ (s : State) (m n : Nat) (w : Octets) (rest : List Octets), (fifoOf s n).words = w :: rest →
    exec (.memoryError m true (.fifoWord n)) s =
      .next (updFifo s n (fun f => { f with words := poisonWord w false :: rest }))) ∧
  (∀ (s : State) (m : Nat), exec (.memoryError m true .elsewhere) s = .next (fatalToRole s 3 (m != 13)))

/-- CORRELATOR_DETECTION of a bin and mode in the listen set with no lane on overlapping bins, no partner detection and
a free lane assigns that lane; LANE_DETECTION_POINT takes ACQUIRE to SHR with the RSSI; DIVERSITY_WINDOW_CLOSE
selects the chain once; SFD_FOUND takes SHR to PHR with the arrival stamp and runs the guard check; SFD_TIMEOUT at
its deadline frees the lane and counts it; PHR_CHECK takes PHR to PAYLOAD with the descriptor where the header
passes and frees the lane where it does not; PAYLOAD_END frees the lane, counted as bad where the CRC fails;
LANE_TEST_TURN pulls the next idle lane into TEST; LANE_TEST_RESULT gives back a lane that passes, counts a first
failure and withdraws at the second with event 0x1101; LANE_HOURLY_RETEST counts passes and gives the lane back at
the third with event 0x1102. (R37, R40, R48, R51, R52, R63, R71) -/
def Obligations.LanesTakeAFrameThrough : Prop :=
  (∀ (s : State) (d : Detection) (n : Nat), receives s d.bandSector = true →
    (listenSet s d.bandSector).contains ⟨d.firstBin, d.mode⟩ = true →
    (heldLanes (countRx s d.bandSector 0)).find? (fun p => p.2.bandSector = d.bandSector &&
      spansMeet d.firstBin (spanOf d.mode) p.2.firstBin (spanOf p.2.mode)) = none →
    mergePartner (countRx s d.bandSector 0) d = none → laneFor (countRx s d.bandSector 0) (bandOf d.bandSector) = some n →
    exec (.correlatorDetection d) s =
      .next (assignLane (countRx s d.bandSector 0) d
        (detectionClass (countRx s d.bandSector 0) d.bandSector d.firstBin d.mode).1
        (detectionClass (countRx s d.bandSector 0) d.bandSector d.firstBin d.mode).2 n)) ∧
  (∀ (s : State) (n : Nat) (rssi : Int), (laneOf s n).state = .acquire →
    exec (.laneDetectionPoint n rssi) s = .next (updLane s n (fun l => { l with state := .shr, rssi := rssi }))) ∧
  (∀ (s : State) (n : Nat) (a b : Int), (laneOf s n).state = .shr → (laneOf s n).selected = false →
    exec (.diversityWindowClose n a b) s = .next (updLane s n (fun l => { l with
      selected := true, chainB := selectB (objN s 0x2140 0) (laneOf s n).chainB a b
      corrSnr := if selectB (objN s 0x2140 0) (laneOf s n).chainB a b then b else a }))) ∧
  (∀ (s : State) (n t x : Nat), (laneOf s n).state = .shr →
    exec (.sfdFound n t x) s = .next (guardCheck (updLane s n (fun l =>
      { l with state := .phr, selected := true, stamp := t * 16 + x % 16 })) n)) ∧
  (∀ (s : State) (n : Nat), (laneOf s n).state = .shr → sfdDeadline (laneOf s n) ≤ s.now →
    exec (.sfdTimeout n) s = .next (countRx (releaseLane s n) (laneOf s n).bandSector 6)) ∧
  (∀ (s : State) (n : Nat) (p : PhrResult), (laneOf s n).state = .phr → phrPasses s (laneOf s n) p = true →
    exec (.phrCheck n p) s = .next (updLane s n (fun l => { l with
      state := .payload, descriptor := descriptorOf s n (laneOf s n) p, mode := p.mode, clipped := p.clipped
      corrSnr := p.corrSnr }))) ∧
  (∀ (s : State) (n : Nat) (p : PhrResult), (laneOf s n).state = .phr → phrPasses s (laneOf s n) p = false →
    familyOf p.mode ≠ .bl →
    exec (.phrCheck n p) s = .next (countRx (releaseLane s n) (laneOf s n).bandSector 6)) ∧
  (∀ (s : State) (n : Nat) (psdu trailer : Octets) (late : Bool), (laneOf s n).state = .payload →
    exec (.payloadEnd n false psdu trailer late) s = .next (countRx (releaseLane s n) (laneOf s n).bandSector 7)) ∧
  (∀ (s : State) (n : Nat) (psdu trailer : Octets) (late : Bool), (laneOf s n).state = .payload →
    linkOfLane (countGood s (laneOf s n) late) (laneOf s n) = none → carriesTrailer (laneOf s n).mode = false →
    exec (.payloadEnd n true psdu trailer late) s =
      .next (releaseLane (updLane (countGood s (laneOf s n) late) n
        (fun l => { l with descriptor := l.descriptor.take 32 ++ psdu ++ [] })) n)) ∧
  (∀ (s : State) (n : Nat), objN s 0x2114 0 ≠ 0 → s.rx.testDue ≤ s.now → nextTestLane s s.rx.testNext = some n →
    (laneOf s n).state = .idle →
    exec .laneTestTurn s = .next (updLane { s with rx := { s.rx with
      testNext := (n + 1) % 128, testDue := s.now + objN s 0x2114 0 * 1000000000 } } n
      (fun l => { l with state := .test, fails := 0 }))) ∧
  (∀ (s : State) (n bits : Nat), (laneOf s n).state = .test →
    exec (.laneTestResult n 0 bits) s = .next (updLane s n (fun l => { idleLane l with fails := 0 }))) ∧
  (∀ (s : State) (n mask bits : Nat), (laneOf s n).state = .test → mask ≠ 0 → (laneOf s n).fails ≠ 0 →
    exec (.laneTestResult n mask bits) s = .next (laneCause (record
      (updLane (countLaneFailure s (laneOf s n)) n (fun l =>
        { l with state := .withdrawn, fails := 0, passes := 0
                 retestAt := (countLaneFailure s (laneOf s n)).now + 3600000000000 })) 0x1101 n mask bits))) ∧
  (∀ (s : State) (n : Nat), (laneOf s n).state = .withdrawn → (laneOf s n).retestAt ≤ s.now →
    (laneOf s n).passes < 2 →
    exec (.laneHourlyRetest n 0) s =
      .next (updLane s n (fun l => { l with passes := l.passes + 1, retestAt := s.now + 3600000000000 }))) ∧
  (∀ (s : State) (n : Nat), (laneOf s n).state = .withdrawn → (laneOf s n).retestAt ≤ s.now →
    2 ≤ (laneOf s n).passes →
    exec (.laneHourlyRetest n 0) s =
      .next (laneCause (record (updLane s n (fun l => { idleLane l with passes := 0, retestAt := 0 })) 0x1102 n 0 0)))

/-- GAIN_ANNOUNCE on a receiving band-sector announces the gain of chain A and then of chain B; NOISE_FLOOR_PUBLISH at
the end of a pass of the noise slotframe publishes every enabled band-sector and starts a new sum; SLOT_BOUNDARY in
a state in which LSF runs, on a slot of its band not yet begun, begins the slot, finishes what its predecessor left,
abandons ranging exchanges without cells, and on the reference band runs the pair's boundary. (R49, R61, R135) -/
def Obligations.GainNoiseAndSlotBoundary : Prop :=
  (∀ (s : State) (bs ca cb : Nat) (a b : Int), receives s bs = true →
    exec (.gainAnnounce bs a b ca cb) s = .next (announceChain (announceChain s bs a ca) (bs + 16) b cb)) ∧
  (∀ s : State, lsfRuns s.power.dev = true → passEnds s (objN s 0x2160 0) = true →
    ∃ t, exec .noiseFloorPublish s = .next t ∧ SameStanding s t ∧ t.rx.noiseSum = [] ∧
      t.rx.noisePasses = ((allBandSectors.filter (fun bs => bandEnabled s (bandOf bs))).foldl publishSector s).rx.noisePasses
        + 1) ∧
  (∀ (s : State) (band : Band) (idle : List (Nat × BinMeasure)), lsfRuns s.power.dev = true →
    FMap.find s.sched.slotNow (bandCode band) ≠ some (asnNow s (bandCode band)) →
    exec (.slotBoundary band idle) s =
      let a := asnNow s (bandCode band)
      let t := finishPassed (slotBegins (haltWaiting s (bandCode band)) (bandCode band) a idle) (bandCode band) a
      let u := abandonRanges t (fun h => !rangingCells t h)
      .next (if bandCode band = refBand u then pairBoundary u else u))

/-- MASK_CAPTURE on an ACTIVE chip's band-sector that is not suspended acts on an excess and otherwise clears its
default failures; BL_RECOMPUTE recomputes the link's map; MAP_IE_RX in a secured frame of a known node with a map
that parses and passes every check holds the map as the user's pending one and owes status 8 in acknowledgement, one
that does not parse owes status 1; MAP_ACK_RX acts on the acknowledgement; MAP_ACTIVATE_SLOT at the activation slot
of a map that is acknowledged activates it, of one that is not sends it again, at most three times; CAPABILITY_IE_RX
keeps a node's capability and drops its links where the capability no longer allows one, and keeps its ranging
capability. (R75, R83, R85, R86, R87) -/
def Obligations.MaskAndBitLoadingEvents : Prop :=
  (∀ (s : State) (bs : Nat) (x : Int), allBandSectors.contains bs = true → s.power.dev = .active →
    s.modem.suspended.contains bs = false → 0 < x → exec (.maskCapture bs x) s = .next (maskFailed s bs x)) ∧
  (∀ (s : State) (bs : Nat) (x : Int), allBandSectors.contains bs = true → s.power.dev = .active →
    s.modem.suspended.contains bs = false → x ≤ 0 →
    exec (.maskCapture bs x) s =
      .next { s with modem := { s.modem with defaultFails := FMap.del s.modem.defaultFails bs } }) ∧
  (∀ (s : State) (h : Nat) (band : Band), exec (.blRecompute h band) s = .next (recompute s h (bandCode band))) ∧
  (∀ (s : State) (h : Nat) (band : Band) (c : Octets) (ack : Bool) (m : BlMap) (bits : Nat), (nodeOf s h).isSome = true →
    c.length = 45 → fieldOf c 0 1 = 1 → parseMap c = some (m, bits) → mapReason s h (bandCode band) m bits = 0 →
    exec (.mapIeRx h band c true ack) s =
      .next (oweMapAck (updBl s h (bandCode band) (fun r => { r with userPending := some m, userFallback := some m.fallback }))
        h (bandCode band) (fieldOf c 1 1 / 16 * 16 + 8) ack)) ∧
  (∀ (s : State) (h : Nat) (band : Band) (c : Octets) (ack : Bool), (nodeOf s h).isSome = true → c.length = 45 →
    fieldOf c 0 1 = 1 → parseMap c = none →
    exec (.mapIeRx h band c true ack) s = .next (oweMapAck s h (bandCode band) (fieldOf c 1 1 / 16 * 16 + 1) ack)) ∧
  (∀ (s : State) (h : Nat) (band : Band) (c : Octets) (secured : Bool),
    exec (.mapAckRx h band c secured) s = .next (mapAck s h (bandCode band) c secured)) ∧
  (∀ (s : State) (h : Nat) (band : Band) (n : BlMap), (blLink s h (bandCode band)).next = some n →
    (blLink s h (bandCode band)).author = .offered → (blLink s h (bandCode band)).sendMap = false →
    0 < (blLink s h (bandCode band)).sends → (blLink s h (bandCode band)).acked = true →
    n.activate + activationInterval s h (bandCode band) ≤ asnNow s (bandCode band) →
    exec (.mapActivateSlot h band) s = .next (updBl s h (bandCode band) BlLink.activate)) ∧
  (∀ (s : State) (h : Nat) (band : Band) (n : BlMap), (blLink s h (bandCode band)).next = some n →
    (blLink s h (bandCode band)).author = .offered → (blLink s h (bandCode band)).sendMap = false →
    0 < (blLink s h (bandCode band)).sends → (blLink s h (bandCode band)).sends < 3 →
    (blLink s h (bandCode band)).acked = false → n.activate ≤ asnNow s (bandCode band) →
    exec (.mapActivateSlot h band) s = .next (updBl s h (bandCode band) (fun r => { r with sendMap := true }))) ∧
  (∀ (s : State) (h : Nat) (c : Octets), c.length = 2 → fieldOf c 0 1 = 3 → (nodeOf s h).isSome = true →
    exec (.capabilityIeRx h c) s =
      let t := updNode s (localIndex h) (fun n => { n with blCap := true, cap := fieldOf c 1 1 })
      .next (if bitOf (fieldOf c 1 1) 7 || bitOf (fieldOf c 1 1) 6 then t else dropLinks t h)) ∧
  (∀ (s : State) (h : Nat) (c : Octets), c.length = 2 → fieldOf c 0 1 = 0x12 →
    exec (.capabilityIeRx h c) s = .next (updNode s (localIndex h) (fun n => { n with rangeCap := fieldOf c 1 1 })))

/-- With a plan whose next phase is due, TX_RETUNE retunes the chain of a sector in service, TX_COMMAND settles power
and duty, LOCK_DEADLINE makes a locked plan READY and skips one that did not lock after recording 0x1200 and
scheduling the calibration, XPA_EN_RISE enables an external amplifier, GNT_LBT_SAMPLE with the grant and a free
channel makes it SAMPLED and without the grant skips it after recording 0x1240, XPA_TXON_RISE raises TXON,
PA_RAMP_UP puts a secured frame on the air where the chip may transmit. During the frame POWER_LOOP_CORRECTION
corrects the internal amplifier's power, REFLECTED_POWER_TRIP cuts the frame above 800 and trips its port,
SYNTH_LOSS_OF_LOCK schedules the calibration and cuts a frame on the air, GNT_WITHDRAWN acts on every band-sector of
the channel; FRAME_END_RAMP_DOWN ends a frame at its end, and XPA_EN_FALL drops EN 20 us after TXON where no frame
follows soon. (R56, R91, R92, R93, R96, R98, R101, R104, R105, R113) -/
def Obligations.TransmissionPhasesAdvance : Prop :=
  (∀ (s : State) (bs : Nat) (p : TxPlan), (chainOf s bs).plan = some p → planDue s p .planned 160000 = true →
    serviceState s bs = 0 → (chainOf s bs).skipNext = none →
    exec (.txRetune bs) s = .next (updChain s bs (fun c => { c with
      settling := true, locked := false, plan := some { p with phase := .retuned, port := portNow s bs } }))) ∧
  (∀ (s : State) (bs : Nat) (p : TxPlan), (chainOf (restoreDuty s) bs).plan = some p →
    planDue (restoreDuty s) p .retuned 100000 = true →
    exec (.txCommand bs) s = .next (commandPlan (restoreDuty s) bs p)) ∧
  (∀ (s : State) (bs m : Nat) (p : TxPlan), (chainOf s bs).plan = some p → planDue s p .commanded 50000 = true →
    exec (.lockDeadline bs true m) s =
      .next (updPlan (updChain s bs (fun c => { c with settling := false, locked := true })) bs
        (fun p => { p with phase := .ready }))) ∧
  (∀ (s : State) (bs m : Nat) (p : TxPlan), (chainOf s bs).plan = some p → planDue s p .commanded 50000 = true →
    exec (.lockDeadline bs false m) s =
      let t := updChain s bs (fun c => { c with settling := false, locked := false })
      .next (skipTx (scheduleCal (record t 0x1200 bs
        (asnAt t (bandOf bs) (p.startAt + domainTime t - t.now) % 2 ^ 32) m) bs 1) bs 2 1)) ∧
  (∀ (s : State) (bs : Nat) (p : TxPlan), (chainOf s bs).plan = some p → planDue s p .ready 38000 = true →
    xpaOn s bs = true → (chainOf s bs).xpaTxon = false →
    exec (.xpaEnRise bs) s = .next (updChain s bs (fun c => { c with
      xpaEn := true, xpaByp := ((xpaChoice s bs p.target).map (·.byp)).getD c.xpaByp
      xpaGsel := ((xpaChoice s bs p.target).map (·.gsel)).getD c.xpaGsel }))) ∧
  (∀ (s : State) (bs : Nat) (power : Int) (p : TxPlan), (chainOf s bs).plan = some p → planDue s p .ready 20000 = true →
    (lbtApplies s bs p && channelBusy s bs p power) = false →
    exec (.gntLbtSample bs true power) s = .next (updPlan s bs (fun p => { p with phase := .sampled }))) ∧
  (∀ (s : State) (bs ch : Nat) (power : Int) (p : TxPlan), (chainOf s bs).plan = some p →
    planDue s p .ready 20000 = true → coexChannel s bs = some ch →
    exec (.gntLbtSample bs false power) s =
      .next (skipTx (record s 0x1240 ch bs p.cls) bs (if p.kind = .ack then 5 else 4) 3)) ∧
  (∀ (s : State) (bs : Nat) (p : TxPlan), (chainOf s bs).plan = some p → planDue s p .sampled 18000 = true →
    xpaOn s bs = true →
    exec (.xpaTxonRise bs) s =
      .next (updChain s bs (fun c => { c with xpaTxon := true, plan := some { p with phase := .txon } }))) ∧
  (∀ (s : State) (bs : Nat) (p : TxPlan), (chainOf s bs).plan = some p →
    planDue s p (if xpaOn s bs then .txon else .sampled) 10000 = true → p.secured = true → mayTransmit s = true →
    ∃ t, exec (.paRampUp bs) s = .next t ∧ t = rampUp s bs p ∧ SameStanding s t ∧
      t.out.head? = some (.air bs p.startAt p.target p.octets)) ∧
  (∀ (s : State) (bs mv : Nat) (f : Int) (p : TxPlan), (chainOf s bs).plan = some p → p.phase = .onAir →
    p.startAt + 40000 ≤ s.now → p.cut = false → xpaOn s bs = false →
    exec (.powerLoopCorrection bs f mv) s = .next (loopCorrect s bs p f)) ∧
  (∀ (s : State) (bs v : Nat) (p : TxPlan), (chainOf s bs).plan = some p → p.phase = .onAir → planEnd p ≤ s.now →
    exec (.frameEndRampDown bs v) s = .next (rampDown s bs p v)) ∧
  (∀ (s : State) (bs t : Nat), (chainOf s bs).txonFell = some t → (chainOf s bs).plan = none → t + 20000 ≤ s.now →
    (chainOf s bs).xpaTxon = false →
    exec (.xpaEnFall bs) s = .next (updChain s bs (fun c => { c with xpaEn := false, txonFell := none }))) ∧
  (∀ (s : State) (bs v : Nat) (p : TxPlan), (chainOf s bs).plan = some p → p.phase = .onAir → p.cut = false → 800 < v →
    (portOf s p.port).state ≠ .disabled →
    exec (.reflectedPowerTrip bs v) s = .next (tripPort (countTx (cutChain s bs) bs 12) p.port v)) ∧
  (∀ (s : State) (bs : Nat) (p : TxPlan),
    (chainOf (scheduleCal (updChain s bs (fun c => { c with locked := false })) bs 1) bs).plan = some p →
    p.phase = .onAir →
    exec (.synthLossOfLock bs) s =
      .next (cutChain (scheduleCal (updChain s bs (fun c => { c with locked := false })) bs 1) bs)) ∧
  (∀ (s : State) (ch : Nat), exec (.gntWithdrawn ch) s = .next (allBandSectors.foldl (gntLost ch) s))

/-- CALIBRATION_START on an ACTIVE chip's band-sector begins a calibration that is due and may start, for its duration;
CALIBRATION_DONE at its end notes when and at which temperature it ran; CAL_MAX_WAIT_EXPIRY skips the frame ahead
for a calibration that has waited CAL_MAX_WAIT, or marks the next; DUTY_BUCKET_TICK drops duty buckets 3,600 s old,
DWELL_BUCKET_TICK dwell entries 20 s old, and DUTY_MINUTE_PERSIST writes the minute sums once a minute. (R94, R95,
R114, R115, R118) -/
def Obligations.CalibrationAndDutyTimers : Prop :=
  (∀ (s : State) (bs k : Nat), allBandSectors.contains bs = true → 1 ≤ k → k ≤ 3 → s.power.dev = .active →
    (calDueAt s bs k).isSome = true → calMayStart s bs = true →
    exec (.calibrationStart bs k) s = .next (updChain s bs (fun c => { c with
      calRun := some (k, s.now + calDuration k * 1000)
      skipNext := if c.skipNext = some k then none else c.skipNext }))) ∧
  (∀ (s : State) (bs k t : Nat), (chainOf s bs).calRun = some (k, t) → t ≤ s.now →
    exec (.calibrationDone bs) s = .next (updChain s bs (fun c => { c with
      calRun := none, calDue := FMap.del c.calDue k, calLast := FMap.put c.calLast k (s.now, rfTemp s) }))) ∧
  (∀ (s : State) (bs k t : Nat), calDueAt s bs k = some t → 1 ≤ k → k ≤ 3 → t + objN s 0x2222 0 * 1000000000 ≤ s.now →
    (chainOf s bs).calRun = none → (chainOf s bs).plan = none →
    exec (.calMaxWaitExpiry bs k) s = .next (updChain s bs (fun c => { c with skipNext := some k }))) ∧
  (∀ s : State, ∃ t, exec .dutyBucketTick s = .next t ∧ SameStanding s t ∧
    t.front.dutySecond = dutySecondNow (restoreDuty s) ∧ t.front.chains = (restoreDuty s).front.chains ∧
    t.out = (restoreDuty s).out) ∧
  (∀ s : State, exec .dwellBucketTick s = .next { s with front := { s.front with
    dwell := (s.front.dwell.mapVals (fun _ x => x.filter (fun p => dutySecondNow s < p.1 + 20))).filter
      (fun p => !p.2.isEmpty) } }) ∧
  (∀ s : State, (restoreDuty s).front.dutyRestored = true →
    (restoreDuty s).front.minuteLast ≠ some (dutySecondNow (restoreDuty s) / 60) →
    ∃ t, exec .dutyMinutePersist s = .next t ∧ SameStanding s t ∧
      t.front.minuteLast = some (dutySecondNow (restoreDuty s) / 60) ∧
      t.front.minutes = (restoreDuty s).front.duty.mapVals
        (fun _ x => minuteSums (dutySecondNow (restoreDuty s)) x.buckets))

/-- TIME_SOURCE_EVENT for an enabled entry of a chip that selects its time, not late for the entry or after it
qualified, and good, is journaled, advances the entry and slews the clock by its offset where it is the active
source in LOCKED; TIME_SOURCE_MISS past its delay makes a qualified entry with two misses lost and unqualified, and
otherwise counts one more; TIME_STATE_CHANGE in UNACQUIRED with a best entry steps the clock by its offset, locks to
it and records 0x3004; TIME_ROOT_TIMER makes a permitted root of time ROOT 10 s after LOAD; UNACQUIRED_REPORT_TIMER
records 0x3006 and sets the next report 600 s on; GUARD_CAP_REACHED records 0x3003 once a band in HOLDOVER;
TIME_PERSIST keeps domain time once a minute; PPS_OUT_PULSE puts out a pulse once a second; PTP_SYNC_TX and
PTP_DELAY_REQUEST_RX serve PTP with the domain time; TIME_SLEW_COMPLETE makes a finished slew part of the offset.
(R122, R125, R126, R128, R130, R131, 05_time_and_schedule.md) -/
def Obligations.TimeSourcesMoveTheClock : Prop :=
  (∀ (s : State) (i bs : Nat) (t : Int) (sec : Bool), i < 4 → (sourceCfg s i).enable = true → selectsTime s = true →
    (timeEntry s i).expected = none → goodEvent s (sourceCfg s i) (timeEntry s i) t sec = true →
    exec (.timeSourceEvent i t sec bs) s =
      let off := t - domainTime s
      let a := journalTime s i (sourceCfg s i) false off
      let b := updEntry a i (fun e => advanceEntry a (sourceCfg s i) e off)
      let c := if (sourceCfg s i).typ = 3 then count b 0x4150 bs 7 else b
      .next (if c.time.mode = .locked ∧ c.time.active = some i then startSlew c off else c)) ∧
  (∀ (s : State) (i t : Nat), (timeEntry s i).expected = some t → i < 4 → (sourceCfg s i).enable = true →
    selectsTime s = true → t + missDelay s (sourceCfg s i) ≤ s.now → (timeEntry s i).qualified = true →
    (timeEntry s i).lost = false → 2 ≤ (timeEntry s i).misses →
    exec (.timeSourceMiss i) s = .next (updEntry (journalTime s i (sourceCfg s i) true 0) i (fun e =>
      { e with qualified := false, lost := true, good := 0, misses := 0, expected := none }))) ∧
  (∀ (s : State) (i t : Nat), (timeEntry s i).expected = some t → i < 4 → (sourceCfg s i).enable = true →
    selectsTime s = true → t + missDelay s (sourceCfg s i) ≤ s.now → (timeEntry s i).qualified = true →
    (timeEntry s i).lost = false → (timeEntry s i).misses < 2 →
    exec (.timeSourceMiss i) s = .next (updEntry (journalTime s i (sourceCfg s i) true 0) i (fun e =>
      { e with good := 0, misses := e.misses + 1
               expected := some (t + sourcePeriod (sourceCfg s i)) }))) ∧
  (∀ (s : State) (i : Nat), selectsTime s = true → s.time.mode = .unacquired → bestEntry s = some i →
    exec .timeStateChange s =
      let off := (timeEntry s i).offset
      let a := stepTime s off
      .next (record (setMode { a with time := { a.time with active := some i, lockedAt := some a.now } } .locked)
        0x3004 1 i (argOf (off / 1000)))) ∧
  (∀ s : State, s.time.mode = .unacquired → lsfRuns s.power.dev = true → selectsTime s = true →
    objB s 0x4013 0 = true → bestEntry s = none → s.time.loadAt + 10000000000 ≤ s.now →
    exec .timeRootTimer s = .next (record (setMode s .root) 0x3004 3 0xFF 0)) ∧
  (∀ s : State, s.time.mode = .unacquired → lsfRuns s.power.dev = true → objB s 0x4013 0 = false → bestEntry s = none →
    s.time.reportDue ≤ s.now →
    ∃ t, exec .unacquiredReportTimer s = .next t ∧ SameStanding s t ∧ t.time.reportDue = s.now + 600000000000 ∧
      t.time.mode = .unacquired ∧ t.vals = s.vals ∧ t.out = s.out) ∧
  (∀ (s : State) (band : Band) (t : Nat), s.time.mode = .holdover → s.time.holdoverAt = some t →
    guardUs s (bandCode band) = slotField s (bandCode band) 3 / 2 → s.time.capReached.contains (bandCode band) = false →
    ∃ u, exec (.guardCapReached band) s = .next u ∧ SameStanding s u ∧
      u.time.capReached = bandCode band :: s.time.capReached ∧ u.vals = s.vals ∧ u.out = s.out) ∧
  (∀ s : State, timeAcquired s = true → lsfRuns s.power.dev = true → s.time.persisted = none →
    exec .timePersist s = .next { s with time := { s.time with
      persisted := some (domainTime s, s.time.mode.code, s.now) } }) ∧
  (∀ s : State, trialState s.power.dev = true → timeAcquired s = true → bitOf (objField s 0x4019 0 0 1) 0 = true →
    s.time.ppsSecond ≠ some (domainTime s / 1000000000) →
    exec .ppsOutPulse s = .next (emit { s with time := { s.time with ppsSecond := some (domainTime s / 1000000000) } }
      (.pps (domainTime s / 1000000000)))) ∧
  (∀ (s : State) (port : Nat), servesPtp s port = true →
    ∃ t, exec (.ptpSyncTx port) s = .next t ∧ SameStanding s t ∧ t.vals = s.vals ∧
      t.out = .ptp port 0 (FMap.getD s.time.ptpSeq port 0) (domainTime s) [] :: s.out) ∧
  (∀ (s : State) (port n : Nat) (req : Octets), servesPtp s port = true →
    exec (.ptpDelayRequestRx port req n) s = .next (emit s (.ptp port 1 n (domainTime s) req))) ∧
  (∀ s : State, slewDone s = s.time.slew →
    exec .timeSlewComplete s = .next { s with time := { s.time with
      offset := s.time.offset + s.time.slew, slew := 0, slewAt := s.now, guardKept := none } })

/-- LOOKAHEAD_RESOLVED in time gives every entry of the band-sector's slot its channel and counts them, and too late
skips the slot; QUEUE_LATCH of an idle band-sector in service before its latch instant judges the candidates of the
slot and latches one; SECURE_DEADLINE marks a planned frame of a chip that is no follower as secured where its
counter is free, and drops one that is not secured by 100 us before its start with outcome 7. (R137, R138, R139) -/
def Obligations.SlotLookaheadAndLatch : Prop :=
  (∀ (s : State) (bs asn : Nat),
    (s.sched.look.filter (fun e => e.bandSector = bs && e.asn = asn && !e.resolved)).isEmpty = false →
    asnNow s (bandOf bs) + 1 < asn →
    exec (.lookaheadResolved bs asn) s = .next (countBy
      { s with sched := { s.sched with look := s.sched.look.map (fun e =>
        if e.bandSector = bs && e.asn = asn then { e with firstBin := cellChannel s e.cell asn, resolved := true } else e) } }
      0x4150 bs 0 (s.sched.look.filter (fun e => e.bandSector = bs && e.asn = asn && !e.resolved)).length)) ∧
  (∀ (s : State) (bs asn : Nat),
    (s.sched.look.filter (fun e => e.bandSector = bs && e.asn = asn && !e.resolved)).isEmpty = false →
    asn ≤ asnNow s (bandOf bs) + 1 → exec (.lookaheadResolved bs asn) s = .next (skipLate s bs asn)) ∧
  (∀ (s : State) (bs : Nat), mayTransmit s = true → s.power.pasWait.contains (bandOf bs) = false →
    allBandSectors.contains bs = true → bandEnabled s (bandOf bs) = true → seqHalted s bs = false →
    debugHalts s bs = false → (chainOf s bs).plan = none →
    domainTime s + 160000 <
      slotStart s (bandOf bs) (latchAsn s (bandOf bs)) + slotField s (bandOf bs) 1 * 1000 →
    s.modem.suspended.contains bs = false →
    exec (.queueLatch bs) s = .next (latchSlot s bs (latchAsn s (bandOf bs)))) ∧
  (∀ (s : State) (bs : Nat) (p : TxPlan), (chainOf s bs).plan = some p → s.power.dev ≠ .follower → p.kind = .frame →
    p.secured = false → p.phase = .planned → fcAwaited s (p.peer.getD 0xFFFFFFFF) = false →
    exec (.secureDeadline bs true) s =
      .next (updChain s bs (fun c => { c with plan := some { p with secured := true } }))) ∧
  (∀ (s : State) (bs : Nat) (p : TxPlan), (chainOf s bs).plan = some p → s.power.dev ≠ .follower → p.kind = .frame →
    p.secured = false → p.phase = .planned → p.startAt ≤ s.now + 100000 →
    exec (.secureDeadline bs false) s =
      .next (dropPlan (count (addOutcome s (p.cell.getD 0) bs 7 0) 0x4150 bs 4) bs))

/-- ACK_RX on a band-sector that awaits one is journaled and ends the plan; ACK_WINDOW_CLOSE past the window ends it as
unacknowledged; AIR_RX_JOB on an ACTIVE chip is journaled and processed; ACK_DECISION_DEADLINE decides the
acknowledgements 700 us after their frames, in order; JOIN_REQUEST_RX, JOIN_CONFIRM_RX with the node's challenge and
a fresh counter, JOIN_CONFIRM_TIMEOUT, DEPARTURE_IE_RX and NODE_TIMEOUT_EXPIRY move a node through its states;
PEER_ANNOUNCEMENT_TX at its ten-second turn counts the announcement, sends it sealed and repeats the Node Moved
messages that are still due; PEER_MESSAGE_RX is processed; PEER_ANNOUNCEMENT_MISS counts a miss and at the third
forgets the peer and records 0x3111. (R146, R147, R148, R157, R165, R171, R172, R173) -/
def Obligations.AirExchangesAreAnswered : Prop :=
  (∀ (s : State) (bs : Nat) (a : AckFrame) (p : TxPlan), awaitingAck s bs = some p →
    exec (.ackRx bs a) s = .next (ackAccepted (journal s 0 (ackRecord s bs p a)) bs p a)) ∧
  (∀ (s : State) (bs : Nat) (p : TxPlan), awaitingAck s bs = some p → ackCloses s bs p ≤ s.now →
    exec (.ackWindowClose bs) s = .next (unackedPlan s bs p)) ∧
  (∀ (s : State) (f : AirFrame), s.power.dev = .active →
    exec (.airRxJob f) s = .next (airProcess (journal s 0 (.airRx (laneOf s f.lane).descriptor f)) f)) ∧
  (∀ (s : State) (bs : Nat),
    exec (.ackDecisionDeadline bs) s =
      .next (((s.link.acksDue.filter (fun a => a.bandSector = bs && a.endNs + 700000 ≤ s.now)).foldl
          (fun l a => insertAck a l) []).foldl decideAck
        { s with link := { s.link with
          acksDue := s.link.acksDue.filter (fun a => !(a.bandSector = bs && a.endNs + 700000 ≤ s.now)) } })) ∧
  (∀ (s : State) (r : JoinRequest), handlesAir s = true → r.content.length = 9 → fieldOf r.content 0 1 = 0x20 →
    exec (.joinRequestRx r) s = .next (joinProcess s r)) ∧
  (∀ (s : State) (eui cap : Octets) (ctr i : Nat) (n : Node), nodeByEui s eui = some (i, n) → handlesAir s = true →
    n.state = .joining → n.held = false → n.rxFc < ctr →
    exec (.joinConfirmRx eui ctr (byte 0x22 :: n.challenge) cap) s = .next (confirmJoin s i ctr cap n)) ∧
  (∀ (s : State) (h : Nat) (n : Node), nodeOf s h = some n → n.state = .joining →
    n.joiningAt + objN s 0x4212 0 * 1000000000 ≤ s.now →
    exec (.joinConfirmTimeout h) s =
      .next (record (departureActions (countL s (max 1 n.joinBs) 18) (localIndex h) 2) 0x3102 h 0 0)) ∧
  (∀ (s : State) (h ctr cause : Nat) (n : Node), nodeOf s h = some n → handlesAir s = true → n.state = .joined →
    n.rxFc ≤ ctr →
    exec (.departureIeRx h ctr cause) s = .next (departureFrom s (localIndex h) ctr cause n)) ∧
  (∀ (s : State) (h : Nat) (n : Node), nodeOf s h = some n → n.state = .joined →
    n.heardAt + objN s 0x4214 0 * 1000000000 ≤ s.now → handlesAir s = true →
    exec (.nodeTimeoutExpiry h) s = .next (departureActions s (localIndex h) 2)) ∧
  (∀ s : State, timeAcquired s = true → trialState s.power.dev = true →
    s.link.announced < (domainTime s - 2000000 * chipIndex s) / 10000000000 + 1 →
    let a := { s with link := { s.link with announced := (domainTime s - 2000000 * chipIndex s) / 10000000000 + 1 } }
    ∀ m, peerSealed a (peerHeader a 1 68 ++ announcementBody a) = some m →
      let b := sendPeer a m 0 true
      let c := b.link.moved.foldl sendMoved b
      exec .peerAnnouncementTx s = .next { c with link := { c.link with
        moved := (c.link.moved.map (fun x => (x.1, x.2.1, x.2.2 - 1))).filter (fun x => 0 < x.2.2) } }) ∧
  (∀ (s : State) (m : Octets), trialState s.power.dev = true → exec (.peerMessageRx m) s = .next (peerProcess s m)) ∧
  (∀ (s : State) (k : Nat) (p : Peer), FMap.find s.link.peers k = some p → p.known = true →
    p.heardAt + (15 + 10 * p.misses) * 1000000000 ≤ s.now → p.misses < 2 →
    exec (.peerAnnouncementMiss k) s = .next (setPeer s k { p with misses := p.misses + 1 })) ∧
  (∀ (s : State) (k : Nat) (p : Peer), FMap.find s.link.peers k = some p → p.known = true →
    p.heardAt + (15 + 10 * p.misses) * 1000000000 ≤ s.now → 2 ≤ p.misses →
    exec (.peerAnnouncementMiss k) s =
      .next (record (setPeer s k { p with misses := 0, known := false }) 0x3111 k p.accepted 0))

/-- QUEUE_ADMISSION of a packet not yet linked marks it complete, keeps its POISON and judges it whole; of a linked
packet whose last word is poisoned it ends a started frame bad with cause 1, or drops an unstarted one and counts
word 5 of its port; of a linked packet with a good last word it ends a started frame well, and completes one not
started. CUT_THROUGH_ADMISSION of a packet that may be cut through, is not linked and is no follower's to drop links
it incomplete where the buffers accept it, and drops it, counted, with an answer to its sender where they do not.
WIRED_EGRESS_SELECT of a ready port with nothing on its wire starts the frame picked, and sends a transit frame
before any. CUT_THROUGH_UNDERRUN of a port that sends ends its frame bad, with cause 1 where poisoned and 2 where
missing. GATE_CYCLE_START puts a pending gate list in force and records 0x4031. (R182, R184, R189, R190, R199) -/
def Obligations.QueuesAdmitAndSend : Prop :=
  (∀ (s : State) (k : Nat) (p : QPacket) (bad : Bool), packetOf s k = some p → linked s k = false →
    exec (.queueAdmission k bad) s =
      let q := { p with poison := p.poison || bad, complete := true }
      .next (admitWhole (updPacket s k (fun _ => q)) k q)) ∧
  (∀ (s : State) (k : Nat) (p : QPacket) (bad : Bool), packetOf s k = some p → linked s k = true →
    (p.poison || bad) = true → p.started = true →
    exec (.queueAdmission k bad) s =
      .next (endBad s (p.target % 16) k { p with poison := true, complete := true } 1)) ∧
  (∀ (s : State) (k : Nat) (p : QPacket) (bad : Bool), packetOf s k = some p → linked s k = true →
    (p.poison || bad) = true → p.started = false →
    exec (.queueAdmission k bad) s = .next (removePacket (countQ s (p.target % 16) 5) k)) ∧
  (∀ (s : State) (k : Nat) (p : QPacket), packetOf s k = some p → linked s k = true → p.poison = false →
    p.started = true →
    exec (.queueAdmission k false) s = .next (endWell s (p.target % 16) k { p with complete := true })) ∧
  (∀ (s : State) (k : Nat) (p : QPacket), packetOf s k = some p → linked s k = true → p.poison = false →
    p.started = false →
    exec (.queueAdmission k false) s = .next (updPacket s k (fun _ => { p with complete := true }))) ∧
  (∀ (s s' : State) (k : Nat) (p : QPacket), packetOf s k = some p → mayCutThrough s p = true → linked s k = false →
    followerDrops s p = false → judgeBuffers s p = (.accept, s') →
    exec (.cutThroughAdmission k) s = .next (linkPacket (updPacket s' k (fun q => { q with complete := false })) k)) ∧
  (∀ (s s' : State) (k w : Nat) (refused : Bool) (p : QPacket), packetOf s k = some p → mayCutThrough s p = true →
    linked s k = false → followerDrops s p = false → judgeBuffers s p = (.out w refused, s') →
    exec (.cutThroughAdmission k) s =
      .next (answerAir (dropUnlinked (countQ s' (p.target % 16) w) k) p w refused)) ∧
  (∀ (s s' : State) (port : Nat) (w : WirePick), 9 ≤ port → port ≤ 14 → lsfRuns s.power.dev = true →
    s.queues.sending.has port = false → portReady s port = true → sendTransit s (port - 10) = none →
    pickHead s port = (s', some w) → exec (.wiredEgressSelect port) s = .next (startWire s' port w)) ∧
  (∀ (s t : State) (port : Nat), 11 ≤ port → port ≤ 14 → lsfRuns s.power.dev = true →
    s.queues.sending.has port = false → portReady s port = true → sendTransit s (port - 10) = some t →
    exec (.wiredEgressSelect port) s = .next t) ∧
  (∀ (s : State) (port k : Nat) (p : QPacket) (bad : Bool), FMap.find s.queues.sending port = some k →
    packetOf s k = some p →
    exec (.cutThroughUnderrun port bad) s = .next (endBad s port k p (if bad then 1 else 2))) ∧
  (∀ (s : State) (port : Nat) (g : Octets), FMap.find s.queues.gatesPending (port + 8) = some g → 9 ≤ port →
    exec (.gateCycleStart port) s =
      .next (record { s with queues := { s.queues with
          gates := FMap.put s.queues.gates (port + 8) g, gatesPending := FMap.del s.queues.gatesPending (port + 8) } }
        0x4031 port (fieldOf g 8 4) (fieldOf g 12 1))) ∧
  (∀ (s : State) (bs : Nat) (g : Octets), FMap.find s.queues.gatesPending (bs + 1) = some g → bs < 9 →
    exec (.gateCycleStart bs) s =
      .next (record { s with queues := { s.queues with
          gates := FMap.put s.queues.gates (bs + 1) g, gatesPending := FMap.del s.queues.gatesPending (bs + 1) } }
        0x4031 bs (fieldOf g 0 2) (fieldOf g 2 1)))

/-- FORWARD_PACKET on an ACTIVE chip or in MAINTENANCE journals a wired packet and takes it through the pipeline; a
shadowing follower forwards the packets of the journal's air frames. REASSEMBLY_TIMEOUT drops an overdue context.
LEARN_INSERT takes the oldest request and starts its insertion where the key is new. A DAO of a joined sender and
parent sets the next hop of a target that is an own node. A DIS is answered with a DIO to its source. The Trickle
timer starts its next interval with nothing heard. SWEEP_VISIT of the next bucket sweeps it and moves on, and ends
the pass after bucket 65,535. An even update cycle applies the pending hits of its bucket; an odd one with at most
192 hits pending runs the oldest step. A mismatching shadow check counts word 11, records 0x5030, and a second
within 60 s is fatal to the role. Neighbor Discovery on an Ethernet port starts the entry's insertion, or replaces
it. (R201, R205, R207, R209, R210, R215, R217, R221, R222, R227, R305) -/
def Obligations.ForwardingAndTablesAdvance : Prop :=
  (∀ (s : State) (p : Packet) (n : Nat), takesPackets s = true → p.ingress = .eth n →
    exec (.forwardPacket p) s = .next (takePacket (journal s (bitNat p.poison) (.wiredRx p.data p)) p)) ∧
  (∀ (s : State) (p : Packet) (n : Nat), takesPackets s = true → p.ingress = .air n →
    exec (.forwardPacket p) s = .next (takePacket s p)) ∧
  (∀ (s : State) (p : Packet) (n : Nat), s.power.dev = .follower → shadows s = true → p.ingress = .air n →
    exec (.forwardPacket p) s = .next (shadowPacket s p)) ∧
  (∀ (s : State) (source tag size : Nat) (c : Reassembly), FMap.find s.fwd.reasm (reasmKey source tag size) = some c →
    c.startedAt + objN s 0x6002 0 * 1000000000 ≤ s.now →
    exec (.reassemblyTimeout source tag size) s = .next (dropReasm s (reasmKey source tag size) source)) ∧
  (∀ (s : State) (r : LearnRequest) (rest : List LearnRequest), s.fwd.learnQ = r :: rest → findKey s r.key = none →
    exec .learnInsert s = .next (startInsert { s with fwd := { s.fwd with learnQ := rest } }
      { key := r.key, kind := r.kind, port := r.port, learnBs := r.learnBs, handle := r.handle } false)) ∧
  (∀ (s : State) (target parent sender : Nat) (a b t : Node), nodeOf s sender = some a → a.state = .joined →
    nodeOf s parent = some b → b.state = .joined → nodeOf s target = some t →
    exec (.daoRx target parent sender false) s = .next (updNode s (localIndex target) (fun n =>
      { n with nextHop := if objN s 0x6010 0 = 0 then sender else parent }))) ∧
  (∀ (s : State) (target parent sender : Nat) (a t : Node), nodeOf s sender = some a → a.state = .joined →
    nodeOf s target = some t →
    exec (.daoRx target parent sender true) s =
      .next (updNode s (localIndex target) (fun n => { n with nextHop := target }))) ∧
  (∀ (s : State) (source : Octets), handlesAir s = true →
    exec (.disRx source) s = .next (forward s (rplPacket s source 1 (dioBody s) none))) ∧
  (∀ s : State, handlesAir s = true → s.fwd.trickleDue ≤ s.now → objField s 0x6012 0 2 1 ≠ 0 →
    objField s 0x6012 0 2 1 ≤ s.fwd.trickleHeard →
    exec .dioTrickleTimer s =
      let step := min (s.fwd.trickleStep + 1) (objField s 0x6012 0 1 1)
      .next { s with fwd := { s.fwd with trickleStep := step, trickleDue := s.now + trickleNs s step, trickleHeard := 0 } }) ∧
  (∀ (s : State) (b : Nat), s.fwd.sweepNext = b → b < 65535 → sweepReached s b = true → s.fwd.steps = [] →
    exec (.sweepVisit b) s =
      .next { sweepBucket s b with fwd := { (sweepBucket s b).fwd with sweepNext := b + 1 } }) ∧
  (∀ (s : State), s.fwd.sweepNext = 65535 → sweepReached s 65535 = true → s.fwd.steps = [] →
    exec (.sweepVisit 65535) s =
      let t := sweepBucket s 65535
      .next { t with fwd := { t.fwd with sweepNext := 0, sweepLast := t.fwd.sweepRemoved, sweepRemoved := 0 } }) ∧
  (∀ (s : State) (b : Nat), exec (.updatePortHitCycle b) s = .next (applyHits s b)) ∧
  (∀ (s : State) (t : TableStep) (rest : List TableStep), s.fwd.pendingHits.length ≤ 192 → s.fwd.steps = t :: rest →
    exec .updatePortStructuralCycle s = .next (runStep { s with fwd := { s.fwd with steps := rest } } t)) ∧
  (∀ (s : State) (trie : Bool) (key : Octets) (r : Option Nat), objN s 0x6050 0 ≠ 0 → shadowResult s trie key ≠ r →
    s.fwd.mismatchAt = none →
    ∃ t, exec (.shadowCheck trie key r) s = .next t ∧ t.power = s.power ∧ t.fwd.mismatchAt = some s.now ∧
      t.fwd.lookups = 0 ∧ t.out = s.out) ∧
  (∀ (s : State) (trie : Bool) (key : Octets) (r : Option Nat) (m : Nat), objN s 0x6050 0 ≠ 0 →
    shadowResult s trie key ≠ r → s.fwd.mismatchAt = some m → s.now ≤ m + 60000000000 →
    (lsfRuns s.power.dev = true ∨ s.power.dev = .recovery) →
    ∃ t, exec (.shadowCheck trie key r) s = .next t ∧ t.power.dev = .boot ∧ t.power.startCause = causeFrom s.power.dev 3 ∧
      t.power.claimOut = false ∧ t.power.bypassOn = true) ∧
  (∀ (s : State) (address mac : Octets) (port : Nat), (port = 9 ∨ port = 10) → address.length = 16 →
    lsfRuns s.power.dev = true → findKey s address = none →
    exec (.neighborDiscoveryRx address mac port) s = .next (startInsert s
      { key := address, confirmed := true, kind := 2, port := port, destMac := mac } false)) ∧
  (∀ (s : State) (address mac : Octets) (port : Nat), (port = 9 ∨ port = 10) → address.length = 16 →
    lsfRuns s.power.dev = true → (findKey s address).isSome = true →
    exec (.neighborDiscoveryRx address mac port) s = .next (queueStep s (.replace address
      { key := address, confirmed := true, kind := 2, port := port, destMac := mac } false)))

/-- CIPHER_JOB_START in a serving engine of a running chip puts the job there, under the next job number.
CIPHER_JOB_COMPLETE of a job of that engine removes it, counts it, gives a mailbox its result and puts out the
result block, followed by the output with status 0 and by nothing with any other. CE_SELFTEST_TURN past its due time
begins the next engine's test, names the other engine next and sets the next turn one CE_SELFTEST_PERIOD on.
CE_SELFTEST_DONE gives back an engine that passes, counts a first failure of the ROM vectors and keeps it under
test, withdraws it at the second, and treats a disagreement of the TRNG jobs as such. CE_HOURLY_RETEST of a
withdrawn engine counts a pass, restores the engine at the third in a row with 0x6001, and forgets its passes at a
failure. LONE_ENGINE_SLICE leaves a passing lone engine as it is, and a failure is fatal to the role. (R238, R240,
R241, R248, R249) -/
def Obligations.CipherJobsAndEngineTests : Prop :=
  (∀ (s : State) (e : Nat) (job : CipherRequest), e < 2 → (engineOf s e).mode = 0 → lsfRuns s.power.dev = true →
    exec (.cipherJobStart e job) s = .next (startJob s e job) ∧
      (startJob s e job).cipher.nextJob = (jobStart s e job).1.cipher.nextJob + 1) ∧
  (∀ (s : State) (e n : Nat) (j : CipherJob), FMap.find s.cipher.jobs n = some j → j.engine = e →
    exec (.cipherJobComplete e n) s =
      let st := jobStatus j
      let out := if st = 0 then jobOutput j.key j.request else []
      let a := { s with cipher := { s.cipher with jobs := FMap.del s.cipher.jobs n } }
      .next (emit (mailResult (countJob a j st) n st out) (.cipher n st (resultBlock j st false ++ out)))) ∧
  (∀ s : State, lsfRuns s.power.dev = true → s.cipher.testDue ≤ s.now →
    exec .ceSelftestTurn s = .next (beginTest { s with cipher := { s.cipher with
      testNext := 1 - s.cipher.testNext % 2, testDue := s.now + objN s 0x7001 0 * 1000000000 } }
      (s.cipher.testNext % 2))) ∧
  (∀ (s : State) (e op size : Nat), e < 2 → (engineOf s e).mode = 1 →
    exec (.ceSelftestDone e true true op size) s =
      .next (updEngine (countC s e 11) e (fun g => { g with mode := 0, fails := 0 }))) ∧
  (∀ (s : State) (e op size : Nat) (agree : Bool), e < 2 → (engineOf s e).mode = 1 → (engineOf s e).fails = 0 →
    exec (.ceSelftestDone e false agree op size) s =
      .next (updEngine (countC s e 12) e (fun g => { g with fails := g.fails + 1 }))) ∧
  (∀ (s : State) (e op size : Nat) (agree : Bool), e < 2 → (engineOf s e).mode = 1 → 1 ≤ (engineOf s e).fails →
    exec (.ceSelftestDone e false agree op size) s = .next (withdrawEngine (countC s e 12) e op size)) ∧
  (∀ (s : State) (e op size : Nat), e < 2 → (engineOf s e).mode = 1 →
    exec (.ceSelftestDone e true false op size) s = .next (crossDisagrees s e op)) ∧
  (∀ (s : State) (e : Nat), e < 2 → (engineOf s e).mode = 2 → (engineOf s e).retestAt ≤ s.now →
    exec (.ceHourlyRetest e false) s =
      .next (updEngine (countC (updEngine s e (fun g => { g with retestAt := s.now + 3600000000000 })) e 12) e
        (fun g => { g with passes := 0 }))) ∧
  (∀ (s : State) (e : Nat), e < 2 → (engineOf s e).mode = 2 → (engineOf s e).retestAt ≤ s.now →
    let a := countC (updEngine s e (fun g => { g with retestAt := s.now + 3600000000000 })) e 11
    exec (.ceHourlyRetest e true) s =
      .next (if (engineOf a e).passes < 2 then updEngine a e (fun g => { g with passes := g.passes + 1 })
        else record (engineCause (updEngine a e (fun g => { g with mode := 0, passes := 0, retestAt := 0 })))
          0x6001 e 0 0)) ∧
  (∀ (s : State) (e : Nat), e < 2 → (engineOf s e).mode = 0 → (engineOf s (1 - e)).mode = 2 →
    exec (.loneEngineSlice e true) s = .next s ∧
    exec (.loneEngineSlice e false) s = .next (fatalToRole (countC s e 12)))

/-- KEY_RESOLVE on a running chip resolves its reference and, where it can, puts out the cache handle of the entry and
fills its chain. MACSEC_FRAME_TX on a secured port of a running chip sends the frame through its association.
MACSEC_FRAME_RX discards a frame of an unknown association or one whose packet number is behind the replay window,
at the end of the number space or unencrypted on a strict port; any other is accepted where its ICV verifies and
counted as failed where it does not. KEY_UPDATE_COMMIT commits a pending update with VIN present that waits for no
partner; KEY_UPDATE_PARTNER_TIMEOUT 60 s after an update that still waits discards its shadow with status 11 and
event 0x6203. HEDGEHOG_SAMPLE with AON powered counts the sample, and sources that newly reach their alarm raise the
alarm. ZEROIZE_OVERWRITE_DONE leaves the secure partition all zero, the provisioning generation one higher up to 32
and the zeroize flag clear, with event 0x6301. (R251, R252, R263, R267, R270, R275, R276, R278) -/
def Obligations.KeysMacsecAndTamper : Prop :=
  (∀ (s a : State) (reference : Octets) (e : Nat), lsfRuns s.power.dev = true → resolveRef s reference = (a, some e) →
    exec (.keyResolve reference) s = .next (fillChain (emit a (.keyHandle reference (cacheHandle e))) reference)) ∧
  (∀ (s a : State) (reference : Octets), lsfRuns s.power.dev = true → resolveRef s reference = (a, none) →
    exec (.keyResolve reference) s = .next a) ∧
  (∀ (s : State) (port : Nat) (frame : Octets), port < 2 → macsecOn s port = true → lsfRuns s.power.dev = true →
    exec (.macsecFrameTx port frame) s = .next (macsecSend s port frame).1) ∧
  (∀ (s : State) (port an pn : Nat) (ec : Bool) (frame : Sealed), port < 2 → macsecOn s port = true →
    lsfRuns s.power.dev = true → rxSa s port an = none →
    exec (.macsecFrameRx port an pn ec frame) s = .next (macsecDiscard s)) ∧
  (∀ (s : State) (port an pn : Nat) (ec : Bool) (frame : Sealed) (a : MacsecSa), port < 2 → macsecOn s port = true →
    lsfRuns s.power.dev = true → rxSa s port an = some a →
    (pn < (pnOf s port 0 a).next ∨ 2 ^ 32 ≤ pn ∨ (!ec && macsecStrict s port) = true) →
    exec (.macsecFrameRx port an pn ec frame) s = .next (macsecDiscard s)) ∧
  (∀ (s t : State) (port an pn : Nat) (ec : Bool) (frame : Sealed) (a : MacsecSa) (key : Octets), port < 2 →
    macsecOn s port = true → lsfRuns s.power.dev = true → rxSa s port an = some a →
    (pnOf s port 0 a).next ≤ pn → pn < 2 ^ 32 → (!ec && macsecStrict s port) = false →
    macsecKey s port a 4 1 = (t, some key) →
    exec (.macsecFrameRx port an pn ec frame) s =
      .next (if macsecVerifies key (macsecSci t port) pn ec frame
        then macsecAccept t port pn a (pnOf s port 0 a) key ec frame else macsecFails t port frame)) ∧
  (∀ (s : State) (slot : Nat) (p : KeyPending), FMap.find s.keys.pending slot = some p → s.power.vin = true →
    (p.waiting = false ∨ p.partner = true ∨ s.twin.absent = true) →
    exec (.keyUpdateCommit slot) s = .next (kuCommit s slot p)) ∧
  (∀ (s : State) (slot : Nat) (p : KeyPending), FMap.find s.keys.pending slot = some p → p.waiting = true →
    p.partner = false → s.twin.absent = false → p.acceptedAt + 60000000000 ≤ s.now →
    exec (.keyUpdatePartnerTimeout slot) s =
      .next (record (countK { s with keys := { s.keys with pending := FMap.del s.keys.pending slot, status := 11 } } 2)
        0x6203 slot p.counter 0)) ∧
  (∀ (s : State) (x : TamperSample), s.power.aonValid = true →
    exec (.hedgehogSample x) s =
      let a := countSample s x
      let new := alarmMask a
      let b := { a with keys := { a.keys with atAlarm := new } }
      .next (if new &&& (new ^^^ a.keys.atAlarm) = 0 then b else tamperAlarm b new)) ∧
  (∀ (s : State) (t cause : Nat), s.keys.overwrite = some (t, cause) →
    ∃ u, exec .zeroizeOverwriteDone s = .next u ∧ (∀ a, u.keys.partition.read a = byte 0) ∧
      u.keys.provGen = min 32 (s.keys.provGen + 1) ∧ u.keys.zeroizeFlag = false ∧ u.keys.overwrite = none ∧
      u.power = s.power ∧ u.vals = s.vals ∧ u.out = s.out)

/-- SETT_PORT_UP of an enabled port that is not up on a running chip puts it up with event 0x7010, SETT_PORT_DOWN takes
a port down, and SETT_ABORT_RX on a carrying port counts word 4. SETT_FRAME_RX of type 0 to 2 off TWIN is taken and
passed on, and types from 7 are counted in word 5. CENSUS_TX 10 ms after the last on a forwarding chip elects, sends
the own census with TTL 7 on EAST, WEST and SPUR and counts it. CENSUS_RX of the chip itself closes the ring on a
ring port, its chip index under another EUI records 0x7014, any other is taken as a member's. CENSUS_MISS counts a
miss and loses the member at the third. LINK_DELAY_REQUEST stamps and sends a request where none waits;
LINK_FRAME_RX answers a request and takes the delay of a response. MARK_TX sends a new 100-ms mark once; MARK_RX on
TWIN steers a follower, and elsewhere reaches the SETT time source where the sender follows the same master. (R282,
R283, R287, R289, R290, R291, R293, R294, R299, R308) -/
def Obligations.SettPortsCensusAndMarks : Prop :=
  (∀ (s : State) (p : Nat), 1 ≤ p → p ≤ 4 → lsfRuns s.power.dev = true → bitOf (objN s 0x9010 p) 0 = true →
    (settPort s p).state ≠ .up →
    exec (.settPortUp p) s = .next (record (updPort s p (fun x => { x with state := .up })) 0x7010 p 2 0)) ∧
  (∀ (s : State) (p : Nat), 1 ≤ p → p ≤ 4 → (settPort s p).state = .up →
    exec (.settPortDown p) s = .next (record (countS (updPort s p (fun x =>
      { x with state := .down, downs := x.downs + 1, transit := [], request := none })) p 9) 0x7010 p 0 0)) ∧
  (∀ (s : State) (p : Nat), 1 ≤ p → p ≤ 4 → portCarries s p = true →
    exec (.settAbortRx p) s = .next (countS s p 4)) ∧
  (∀ (s : State) (p : Nat) (f : SettFrame), 1 ≤ p → p ≤ 4 → p ≠ 3 → lsfRuns s.power.dev = true →
    portCarries s p = true → f.typ ≤ 2 →
    exec (.settFrameRx p f) s = .next (settPass (settTake s p f) p f)) ∧
  (∀ (s : State) (p : Nat) (f : SettFrame), 1 ≤ p → p ≤ 4 → lsfRuns s.power.dev = true →
    portCarries s p = true → 7 ≤ f.typ → exec (.settFrameRx p f) s = .next (countS s p 5)) ∧
  (∀ (s : State), settForwards s = true → (∀ t, s.sett.censusAt = some t → t + 10000000 ≤ s.now) →
    exec .censusTx s =
      let a := elect (refreshRing s)
      let b := settOriginate a [1, 2, 4] 2 false 0 0 true 7 0xFFFFFFFF (censusOctets (ownCensus a))
      .next { b with sett := { b.sett with censusNo := (b.sett.censusNo + 1) % 2 ^ 32, censusAt := some b.now } }) ∧
  (∀ (s : State) (p hops : Nat) (c : Census), settForwards s = true → (p = 1 ∨ p = 2) → c.chipIndex = chipIndex s →
    c.deviceEui = Config.deviceEui →
    exec (.censusRx p hops c) s = .next (setRing { s with sett := { s.sett with returnedAt := some s.now } } true)) ∧
  (∀ (s : State) (p hops : Nat) (c : Census), settForwards s = true → (p = 1 ∨ p = 2 ∨ p = 4) →
    c.chipIndex = chipIndex s → c.deviceEui ≠ Config.deviceEui →
    exec (.censusRx p hops c) s =
      .next (record s 0x7014 c.chipIndex (fieldOf Config.deviceEui 4 4) (fieldOf c.deviceEui 4 4))) ∧
  (∀ (s : State) (p hops : Nat) (c : Census), settForwards s = true → (p = 1 ∨ p = 2 ∨ p = 4) →
    c.chipIndex ≠ chipIndex s → exec (.censusRx p hops c) s = .next (censusOther s p hops c)) ∧
  (∀ (s : State) (chip : Nat) (m : Member), FMap.find s.sett.members chip = some m →
    m.heardAt + 15000000 + 10000000 * m.misses ≤ s.now →
    exec (.censusMiss chip) s =
      .next (if m.misses < 2 then setMember s { m with misses := m.misses + 1 }
        else refreshRing (loseMember s chip m))) ∧
  (∀ (s : State) (p : Nat), 1 ≤ p → p ≤ 4 → lsfRuns s.power.dev = true → portCarries s p = true →
    (∀ t, (settPort s p).request = some t → t + 16000000000 ≤ stamp s) →
    exec (.linkDelayRequest p) s =
      .next (sendLink (updPort s p (fun x => { x with request := some (stamp s) })) p (.request (stamp s) 0))) ∧
  (∀ (s : State) (p t1 t2 : Nat), 1 ≤ p → p ≤ 4 → lsfRuns s.power.dev = true → portCarries s p = true →
    exec (.linkFrameRx p (.request t1 t2) none) s = .next (sendLink s p (.response t1 t2 (stamp s) 0))) ∧
  (∀ (s : State) (p t1 t2 t3 t4 : Nat), 1 ≤ p → p ≤ 4 → lsfRuns s.power.dev = true → portCarries s p = true →
    exec (.linkFrameRx p (.response t1 t2 t3 t4) none) s = .next (noteDelay s p t1 t2 t3 t4)) ∧
  (∀ (s : State) (d : Declaration) (t1 t2 : Nat), lsfRuns s.power.dev = true → portCarries s 3 = true →
    hasPartner s = true →
    exec (.linkFrameRx 3 (.request t1 t2) (some d)) s =
      .next (sendLink (noteDeclaration s d) 3 (.response t1 t2 (stamp (noteDeclaration s d)) 0))) ∧
  (∀ (s : State), timeAcquired s = true → settForwards s = true → s.sett.markSent ≠ some (markNow s) →
    exec .markTx s =
      let a := { s with sett := { s.sett with markSent := some (markNow s) } }
      .next (((markPorts a).filter (portCarries a)).foldl
        (fun b p => emit b (.settMark p (ownHops b) (b.sett.master.getD 0xFFFF) (markNow s))) a)) ∧
  (∀ (s : State) (hops master n at' : Nat), lsfRuns s.power.dev = true → portCarries s 3 = true →
    s.power.dev = .follower → hasPartner s = true →
    exec (.markRx 3 hops master n at') s =
      let a := updPort s 3 (fun x => { x with mark := some (hops, master, n, s.now) })
      .next (startSlew a (markImplied s 3 n at' - domainTime a))) ∧
  (∀ (s : State) (p hops master n at' i : Nat), 1 ≤ p → p ≤ 4 → p ≠ 3 → lsfRuns s.power.dev = true →
    portCarries s p = true →
    settEntry (updPort s p (fun x => { x with mark := some (hops, master, n, s.now) })) = some i →
    s.sett.master = some master → hops < 0xFF →
    exec (.markRx p hops master n at') s =
      .next (takeMark (updPort s p (fun x => { x with mark := some (hops, master, n, s.now) })) i p hops n
        (markImplied s p n at')))

/-- CLAIM_BACKOFF_EXPIRE of a contending chip makes it FOLLOWER where the partner's claim is seen, ACTIVE where it is
not, and an unready takeover on a follower. PARTNER_CLAIM_SEEN on a running chip of a pair makes a contending chip
FOLLOWER and a claimed one release and contend; in both cases its claim is off and its transmit gate closed.
PARTNER_CLAIM_WITHDRAWN on a follower records 0x7001 with its lag and makes a ready one claim at the next reference
slot, another contend. INTERLOCK_FAULT_CLEAR 10 s after the last disagreement ends the fault.
TWIN_SWAP_PERIOD_EXPIRY that passes the swap rule asks for a swap; SWAP_SLOT_START at its slot with SWAP_READY
releases the role, and otherwise goes on searching; SWAP_SEARCH_TIMEOUT after 600 s postpones the swap by an hour
with event 0x7008. (R301, R302, R303, R310) -/
def Obligations.ClaimsDecideTheRoles : Prop :=
  (∀ (s : State) (t : Nat), s.twin.claim = .contend → s.twin.backoffDue = some t → t ≤ s.now →
    lsfRuns s.power.dev = true →
    exec .claimBackoffExpire s =
      .next (if s.power.claimIn = true then becomeFollower s
        else if s.power.dev = .follower then takeoverUnready s else becomeActive s 0x14)) ∧
  (∀ s : State, hasPartner s = true → lsfRuns s.power.dev = true → (s.twin.claim = .contend ∨ s.twin.claim = .claimed) →
    ∃ t, exec .partnerClaimSeen s = .next t ∧ t.power.claimOut = false ∧ t.power.txGate = false ∧
      t.power.dev = (if s.twin.claim = .contend then .follower else s.power.dev)) ∧
  (∀ s : State, hasPartner s = true → s.twin.claim = .released →
    exec .partnerClaimSeen s = .next { s with
      power := { s.power with claimIn := true }
      twin := if lsfRuns s.power.dev then { s.twin with claimAsn := none } else s.twin }) ∧
  (∀ s : State, hasPartner s = true → s.power.dev = .follower → s.twin.claim = .released →
    exec .partnerClaimWithdrawn s =
      let a := { s with power := { s.power with claimIn := false, txGate := s.power.claimOut } }
      let b := record a 0x7001 (lagSlots a) (bitNat (ownReady a)) 0
      .next (if ownReady a = true then updTwin b (fun t => { t with claimAsn := some (refAsn b + 1) }) else startContend b)) ∧
  (∀ s : State, s.twin.interlock = true → s.twin.disagree = 0 → s.twin.agreeSince + 10000000000 ≤ s.now →
    ∃ t, exec .interlockFaultClear s = .next t ∧ t.twin.interlock = false ∧ t.power = s.power ∧ t.vals = s.vals ∧
      t.out = s.out) ∧
  (∀ s : State, swapRule s = 0 → 0 < objN s 0x9006 0 → s.twin.roleAt + objN s 0x9006 0 * 1000000000 ≤ s.now →
    exec .twinSwapPeriodExpiry s = .next (requestSwap s)) ∧
  (∀ (s : State) (m : Nat), s.twin.swapAsn = some m → s.power.dev = .active → m ≤ refAsn s →
    exec .swapSlotStart s =
      .next (if m = refAsn s ∧ s.twin.swapReady = true then stepDown s else updTwin s (fun t => { t with swapAsn := none }))) ∧
  (∀ (s : State) (t : Nat), s.twin.swapSince = some t → s.power.dev = .active → s.twin.swapAsn = none → t ≤ s.now →
    (t + 600000000000 ≤ s.now ∨ partnerReady s = false) →
    exec .swapSearchTimeout s =
      .next (record (updTwin s (fun w => { w with swapSince := some (s.now + 3600000000000) })) 0x7008 1
        (refAsn s % 2 ^ 32) 0))

/-- PARTNER_MISS counts a millisecond without the partner, and the third makes it absent: an ACTIVE chip drops the
journal, sets DEGRADED bit 6, records 0x7004 and releases the waiting answers; a follower stops applying records.
JOURNAL_FRAME_SEND sends a due JOURNAL frame of an ACTIVE chip, or a follower's JACK after 1 ms; JOURNAL_FRAME_RX on
a matched follower applies the records in order and answers with a JACK; JACK_RX on the ACTIVE chip takes the
acknowledgement. DIGEST_PASS_END journals the digest of the pass, or compares it on a follower. SNAPSHOT_REQUEST
fixes the next reference slot boundary as s0; SNAPSHOT_FRAME_RX stores the chunk, and the last of all puts the state
in force. SEQUENCER_WATCHDOG_EXPIRY asks for a restart and is fatal the second time in 60 s;
SEQUENCER_RESTART_BOUNDARY cuts the chain, skips two slots and records 0x3030; SEQUENCER_RESUME ends the halt at its
slot. DRAM_SCRUB_PASS counts what it corrected; RF_LOOPBACK_TEST once an hour sets the sector's loopback bit or
counts the failure. (R306, R307, R308, R311, R312, R313, R314) -/
def Obligations.JournalDigestsAndRestarts : Prop :=
  (∀ s : State, hasPartner s = true → s.twin.absent = false → (s.power.dev = .active ∨ s.power.dev = .follower) →
    s.twin.heardAt + 1000000 * (s.twin.misses + 1) ≤ s.now → s.twin.misses < 2 →
    exec .partnerMiss s = .next (updTwin (checkLag s) (fun t => { t with misses := t.misses + 1 }))) ∧
  (∀ s : State, hasPartner s = true → s.twin.absent = false → s.power.dev = .follower →
    s.twin.heardAt + 1000000 * (s.twin.misses + 1) ≤ s.now → 2 ≤ s.twin.misses →
    exec .partnerMiss s =
      .next (updTwin s (fun t => { t with absent := true, misses := 0, ready := false, stopped := true }))) ∧
  (∀ s : State, hasPartner s = true → s.twin.absent = false → s.power.dev = .active →
    s.twin.heardAt + 1000000 * (s.twin.misses + 1) ≤ s.now → 2 ≤ s.twin.misses →
    exec .partnerMiss s =
      .next (releaseAnswers (record (setCause (updTwin s (fun t => { t with
        absent := true, misses := 0, ready := false, kept := [], sendFrom := t.nextJseq, lagging := false
        fromS0 := false, snapshot := none })) 6 true) 0x7004 0 0 0) none)) ∧
  (∀ s : State, hasPartner s = true → s.power.dev = .active → journalDue s = true →
    exec .journalFrameSend s = .next (checkLag (sendJournal s))) ∧
  (∀ s : State, hasPartner s = true → s.power.dev = .follower → s.twin.sentAt + 1000000 ≤ s.now →
    exec .journalFrameSend s = .next (sendJack s)) ∧
  (∀ (s : State) (claim : Bool) (rs : List JournalRecord), hasPartner s = true → portCarries s 3 = true →
    s.power.dev = .follower →
    let a := checkInterlock (partnerHeard s) claim
    a.power.dev = .follower → a.twin.mismatch = false →
    exec (.journalFrameRx claim rs) s = .next (sendJack (noticeSilence (rs.foldl takeRecord a) rs))) ∧
  (∀ (s : State) (j : Jack), hasPartner s = true → portCarries s 3 = true → s.power.dev = .active →
    let a := checkInterlock (partnerHeard s) j.claim
    a.power.dev = .active → a.twin.mismatch = false →
    exec (.jackRx j) s = .next (checkLag (noteJack (resendGap a j) j))) ∧
  (∀ s : State, journals s = true →
    exec .digestPassEnd s =
      .next (journal (beginPass s (s.twin.pass + 1) (nextDigest s) []) 0 (.digest s.twin.pass ((nextDigest s).take 16)))) ∧
  (∀ (s : State) (k : Nat), journals s = false → s.power.dev = .follower → s.twin.digestDue = some (k, true) →
    exec .digestPassEnd s =
      .next (updTwin s (fun t => { t with digestDue := none, agreed := true, pass := max t.pass (k + 1) }))) ∧
  (∀ (s : State) (k : Nat), journals s = false → s.power.dev = .follower → s.twin.digestDue = some (k, false) →
    exec .digestPassEnd s =
      .next (resync (record (updTwin s (fun t => { t with digestDue := none, agreed := false })) 0x7006 k 0 0))) ∧
  (∀ s : State, hasPartner s = true → s.power.dev = .active → s.twin.mismatch = false → portCarries s 3 = true →
    exec .snapshotRequest s =
      .next (updTwin s (fun t => { t with snapWanted := false, snapshot := some (refAsn s + 1, s.now, 0) }))) ∧
  (∀ (s : State) (n region offset : Nat) (data : Octets) (last : Bool), hasPartner s = true → s.power.dev = .follower →
    s.twin.mismatch = false → s.twin.snapWanted = true → portCarries s 3 = true →
    exec (.snapshotFrameRx n region offset data last) s =
      let a := updTwin (partnerHeard s) (fun t => { t with chunks := FMap.put t.chunks n (region, offset, data) })
      .next (if last = true ∧ a.twin.chunks.length = n + 1 then snapshotDone a else a)) ∧
  (∀ (s : State) (bs : Nat), allBandSectors.contains bs = true → lsfRuns s.power.dev = true → debugHalts s bs = false →
    (∀ t, FMap.find s.twin.watchdogAt bs = some t → t + 60000000000 ≤ s.now) →
    exec (.sequencerWatchdogExpiry bs) s =
      .next (requestRestart (updTwin s (fun t => { t with watchdogAt := FMap.put t.watchdogAt bs s.now })) bs 2)) ∧
  (∀ (s : State) (bs t : Nat), allBandSectors.contains bs = true → lsfRuns s.power.dev = true →
    debugHalts s bs = false → FMap.find s.twin.watchdogAt bs = some t → s.now < t + 60000000000 →
    exec (.sequencerWatchdogExpiry bs) s = .next (fatalToRole s)) ∧
  (∀ (s : State) (bs : Nat) (r : SeqRestart), FMap.find s.twin.restarts bs = some r → r.halted = false →
    exec (.sequencerRestartBoundary bs) s =
      let a := asnNow s (bandOf bs)
      .next (record (updTwin ([a, a + 1].foldl (skipHalted bs) (cutChain s bs)) (fun t => { t with
        restarts := FMap.put t.restarts bs { r with halted := true, resumeAsn := a + 2 } })) 0x3030 bs r.cause 2)) ∧
  (∀ (s : State) (bs : Nat) (r : SeqRestart), FMap.find s.twin.restarts bs = some r → r.halted = true →
    r.resumeAsn ≤ asnNow s (bandOf bs) →
    exec (.sequencerResume bs) s =
      let a := updTwin s (fun t => { t with restarts := FMap.del t.restarts bs })
      .next (if a.twin.restarts.isEmpty then setCause a 7 false else a)) ∧
  (∀ (s : State) (n : Nat) (es : List (Nat × Nat × Option Nat)), lsfRuns s.power.dev = true →
    s.twin.scrubAt + objN s 0x9014 0 * 1000000000 ≤ s.now →
    exec (.dramScrubPass n es) s = .next (es.foldl scrubAct (es.foldl scrubRecord { s with
      power := { s.power with corrected := FMap.put s.power.corrected 13 (FMap.getD s.power.corrected 13 0 + n) }
      twin := { s.twin with scrubAt := s.now } }))) ∧
  (∀ (s : State) (bs : Nat) (pass : Bool), allBandSectors.contains bs = true →
    (s.power.dev = .active ∨ s.power.dev = .follower) →
    (∀ t, FMap.find s.twin.loopAt bs = some t → t + 3600000000000 ≤ s.now) →
    exec (.rfLoopbackTest bs pass) s =
      let a := updTwin s (fun t => { t with loopAt := FMap.put t.loopAt bs s.now })
      .next (if pass then updTwin a (fun t => { t with
          loopFails := FMap.del t.loopFails bs, loopback := BitVec.ofNat 9 (withBit t.loopback.toNat (chainBit bs)) })
        else loopbackFailed a bs))

/-- UE0_BLOCK_BUILT in state BUILDING on a chip that serves SOP builds the next block not done; UPDATE_FINAL_VERIFY in
VERIFYING verifies the whole target; UPDATE_RESUME of an interrupted build waits for its buffer.
BANK_TRIAL_TIME_EXPIRY after BANK_TRIAL_TIME in service confirms the bank on trial. COMMIT_COMPLETE on a running
chip past LOAD ends the commit. The six RECOVERY rows HELLO, BAUD, SELECT, WRITE, VERIFY and BOOT hand their command
code, sequence number and payload to RECOVERY, which leaves everything as it is outside that state.
RECOVERY_IDLE_TIMEOUT restarts a session entered on request 600 s after its last frame where the running bank is
CONFIRMED. SPI_RECOVERY_WRITE takes the frame it finds, SPI_RECOVERY_READ puts the pending response out once, and
SPI_RECOVERY_REQUEST in BOOT remembers the request. (R325, R333, R334, R335, R337, R338, R339) -/
def Obligations.ImagesBanksAndCommits : Prop :=
  (∀ (s : State) (j : DeltaJournal), s.image.journal = some j → s.image.updState = 2 → servesSop s = true →
    nextBlock j < j.blocks → exec .ue0BlockBuilt s = .next (buildBlock s j (nextBlock j))) ∧
  (∀ (s : State) (j : DeltaJournal), s.image.journal = some j → s.image.updState = 3 → servesSop s = true →
    exec .updateFinalVerify s = .next (verifyBuilt s j)) ∧
  (∀ (s : State) (j : DeltaJournal), s.image.journal = some j → s.image.updState = 6 → servesSop s = true →
    exec .updateResume s = .next (updateAwaited s j)) ∧
  (∀ (s : State) (t : Nat), s.image.trialSince = some t → onTrialNow s = true → trialState s.power.dev = true →
    t + objN s 0x8003 0 * 1000000000 ≤ s.now → exec .bankTrialTimeExpiry s = .next (confirmTrial s)) ∧
  (∀ (s : State) (j : CommitJob), s.image.commit = some j → lsfRuns s.power.dev = true → s.power.dev ≠ .load →
    lsfStopped s = false → exec .commitComplete s = .next (commitEnds s j)) ∧
  (∀ (s : State) (seq rate bank offset : Nat) (data : Octets), s.power.dev = .recovery →
    exec (.recoveryHello seq) s = .next (recoveryTake s false 1 (seq % 256) []) ∧
    exec (.recoveryBaud seq rate) s = .next (recoveryTake s false 2 (seq % 256) (beOctets 4 rate)) ∧
    exec (.recoverySelect seq bank) s = .next (recoveryTake s false 3 (seq % 256) (beOctets 1 bank)) ∧
    exec (.recoveryWrite seq offset data) s = .next (recoveryTake s false 4 (seq % 256) (beOctets 4 offset ++ data)) ∧
    exec (.recoveryVerify seq) s = .next (recoveryTake s false 5 (seq % 256) []) ∧
    exec (.recoveryBoot seq) s = .next (recoveryTake s false 6 (seq % 256) [])) ∧
  (∀ (s : State) (seq rate bank offset : Nat) (data : Octets), s.power.dev ≠ .recovery →
    exec (.recoveryHello seq) s = .next s ∧ exec (.recoveryBaud seq rate) s = .next s ∧
    exec (.recoverySelect seq bank) s = .next s ∧ exec (.recoveryWrite seq offset data) s = .next s ∧
    exec (.recoveryVerify seq) s = .next s ∧ exec (.recoveryBoot seq) s = .next s) ∧
  (∀ (s : State) (r : Recovery), s.image.recovery = some r → s.power.dev = .recovery → r.cause ≠ 1 →
    (bankAt s s.image.runBank).state = .confirmed → r.frameAt + 600000000000 ≤ s.now →
    exec .recoveryIdleTimeout s = .next (internalReset s 6)) ∧
  (∀ (s : State) (frame p : Octets) (cmd seq : Nat), s.power.dev = .recovery →
    findFrame (frame.length + 1) frame = some (cmd, seq, p) →
    exec (.spiRecoveryWrite frame) s = .next (recoveryTake s true cmd seq p)) ∧
  (∀ (s : State) (r : Recovery), s.image.recovery = some r → s.power.dev = .recovery →
    exec .spiRecoveryRead s = .next { s with
      image := { s.image with recovery := some { r with response := [] } }
      out := .spi r.response :: s.out }) ∧
  (∀ s : State, s.power.dev = .boot → s.power.rails = true →
    exec (.spiRecoveryRequest (octetsOf [0x52, 0x45])) s = .next { s with image := { s.image with spiRequest := true } })

/-- STAGE_ENCODE_DONE of an encoding slot makes it READY, tells its event and wakes the campaigns that wait for it.
CAMPAIGN_FRAME_GENERATE of a running campaign on one of its band-sectors with fewer than two frames queued generates
the next. CAMPAIGN_REPORT_RX of a joined target node of five octets updates its bits. CAMPAIGN_PASS_END ends the
pass of every campaign of the slotframe that has not counted it. CAMPAIGN_END_ASN_REACHED expires a running
campaign, CAMPAIGN_ACTIVATE_ASN_REACHED activates a delivered or expired one under policy 1, and
CAMPAIGN_ACTIVATING_TIMEOUT 24 h after ACTIVATE_ASN closes it. (R341, R343, R346, R347, R348) -/
def Obligations.CampaignsMove : Prop :=
  (∀ (s : State) (k : Nat), (stageAt s k).status = 3 →
    exec (.stageEncodeDone k) s = .next (wakeCampaigns (stageEvent (updStage s k (fun x => { x with status := 4 })) k))) ∧
  (∀ (s : State) (bs k : Nat), handlesAir s = true → (campaignAt s k).state = .running →
    (campaignAt s k).sectors.contains bs = true → (campaignQueued s (campaignAt s k) bs).length < 2 →
    exec (.campaignFrameGenerate bs k) s = .next (generateFrame s k bs)) ∧
  (∀ (s : State) (h k : Nat) (n : Node) (content : Octets), nodeOf s h = some n → n.state = .joined →
    handlesAir s = true → content.length = 5 → fieldOf content 0 1 = 0x31 →
    campaignById s (fieldOf content 1 1) = some k → (campaignAt s k).target.contains (localIndex h) = true →
    exec (.campaignReportRx h content) s = .next (takeReport s k (localIndex h) (fieldOf content 2 1))) ∧
  (∀ (s : State) (f : Nat), handlesAir s = true → timeAcquired s = true →
    exec (.campaignPassEnd f) s =
      .next ((allCampaigns.filter (fun k => (campaignAt s k).state != .free && (campaignAt s k).frame = f &&
        (campaignAt s k).pass != passNow s (campaignAt s k))).foldl passEnd s)) ∧
  (∀ (s : State) (k : Nat), (campaignAt s k).state = .running → (campaignAt s k).endAsn ≠ 0 → timeAcquired s = true →
    (campaignAt s k).endAsn ≤ campaignAsn s (campaignAt s k) →
    exec (.campaignEndAsnReached k) s = .next (changeCampaign s k .expired)) ∧
  (∀ (s : State) (k : Nat), ((campaignAt s k).state = .delivered ∨ (campaignAt s k).state = .expired) →
    (campaignAt s k).policy = 1 → timeAcquired s = true →
    (campaignAt s k).activateAsn ≤ campaignAsn s (campaignAt s k) →
    exec (.campaignActivateAsnReached k) s = .next (activateCampaign k s)) ∧
  (∀ (s : State) (k : Nat), (campaignAt s k).state = .activating → timeAcquired s = true →
    slotStart s (campaignBand s (campaignAt s k)) (campaignAt s k).activateAsn + 86400000000000 ≤ domainTime s →
    exec (.campaignActivatingTimeout k) s = .next (changeCampaign s k .closed))

/-- For a thread running on a core that is not halted: THREAD_CREATE makes a thread of its block, from inside its
window, and gives it the new TID or 0xFF; EXIT orphans its requests and frees it; YIELD puts it behind its rivals;
BLOCK returns the bits of its mask that are pending, or blocks it; FLAGS_SET ORs flags into an existing thread and
raises its source 4; FLAGS_TAKE returns and clears its flags; TIMER_SET arms its timer; a PRIO write inside the
range of its kind changes its priority, outside it nothing; DTIME returns domain time and journals it, on a follower
the journaled reading; RANDOM returns two TRNG words; SLICE_EXPIRE rotates it with a rival eligible; an exception of
an application thread records 0x0050 and makes it FAULTED. THREAD_TIMER_EXPIRY clears a reached timer and raises
source 3, WAKE_SOURCE_RAISE raises a source from 0 and 2 to 6, STAT_WINDOW_END publishes the statistics of every
core. (R352, R354, R357, R359, R360, R364, R369) -/
def Obligations.ThreadsUseTheScheduler : Prop :=
  (∀ (s : State) (core addr tid : Nat) (t : Thread), core ≠ 0 → runsOn s core tid t → inWindow addr 32 = true →
    exec (.threadCreate core addr) s =
      .next (updThread (createThread s t.lsf (appRead s addr 32)).1 tid (fun x =>
        { x with createResult := (createThread s t.lsf (appRead s addr 32)).2.getD 0xFF }))) ∧
  (∀ (s : State) (addr : Nat), lsfRuns s.power.dev = true →
    exec (.threadCreate 0 addr) s = .next (createThread s true (appRead s addr 32)).1) ∧
  (∀ (s : State) (core tid : Nat) (t : Thread), runsOn s core tid t →
    exec (.threadExit core) s = .next (yieldCore (orphanMail s tid) core 0 tid (fun a => freeThread a tid))) ∧
  (∀ (s : State) (core tid : Nat) (t : Thread), runsOn s core tid t →
    exec (.threadYield core) s =
      .next (if rivalReady s core t.prio = true then yieldCore s core 1 tid (fun a => readyTail a tid) else s)) ∧
  (∀ (s : State) (core mask tid : Nat) (t : Thread), runsOn s core tid t → mask < 2 ^ 16 →
    exec (.threadBlock core mask) s =
      .next (if t.pending &&& mask = 0
        then yieldCore s core 0 tid (fun a => updThread a tid (fun x => { x with state := .blocked, waitMask := mask }))
        else updThread s tid (fun x =>
          { x with pending := x.pending ^^^ (t.pending &&& mask), result := t.pending &&& mask }))) ∧
  (∀ (s : State) (core value tid : Nat) (t : Thread), runsOn s core tid t →
    (threadOf s (value / 2 ^ 56 % 256)).isSome = true →
    exec (.flagsSet core value) s =
      .next (raiseSource (updThread s (value / 2 ^ 56 % 256) (fun x => { x with flags := x.flags ||| value % 2 ^ 32 }))
        (value / 2 ^ 56 % 256) 4)) ∧
  (∀ (s : State) (core tid : Nat) (t : Thread), runsOn s core tid t →
    exec (.flagsTake core) s = .next (updThread s tid (fun x => { x with result := x.flags, flags := 0 }))) ∧
  (∀ (s : State) (core time tid : Nat) (t : Thread), runsOn s core tid t →
    exec (.timerSet core time) s = .next (updThread s tid (fun x => { x with timer := time % 2 ^ 64 }))) ∧
  (∀ (s : State) (tid : Nat) (t : Thread), threadOf s tid = some t → t.timer ≠ 0 → t.timer ≤ domainTime s →
    exec (.threadTimerExpiry tid) s = .next (raiseSource (updThread s tid (fun x => { x with timer := 0 })) tid 3)) ∧
  (∀ (s : State) (core prio tid : Nat) (t : Thread), runsOn s core tid t →
    exec (.threadPrioWrite core prio) s =
      .next (if (t.lsf = true ∧ prio ≤ 7) ∨ (t.lsf = false ∧ 8 ≤ prio ∧ prio ≤ 31) then setPriority s tid prio else s)) ∧
  (∀ (s : State) (core tid : Nat) (t : Thread), runsOn s core tid t → shadows s = false →
    exec (.dtimeRead core) s =
      .next (updThread (journal s 0 (.reading 1 (domainTime s))) tid (fun x =>
        { x with result := domainTime s % 2 ^ 64 }))) ∧
  (∀ (s : State) (core tid : Nat) (t : Thread), runsOn s core tid t → shadows s = true →
    exec (.dtimeRead core) s =
      .next (updThread (takeReading s 1).2 tid (fun x => { x with result := (takeReading s 1).1 }))) ∧
  (∀ (s : State) (core tid : Nat) (t : Thread), runsOn s core tid t →
    exec (.randomRead core) s =
      .next (updThread (drawWords s 4 2).2 tid (fun x => { x with
        result := ((drawWords s 4 2).1.getD 0 0 % 2 ^ 32) * 2 ^ 32 + (drawWords s 4 2).1.getD 1 0 % 2 ^ 32 }))) ∧
  (∀ (s : State) (tid source : Nat) (t : Thread), threadOf s tid = some t → t.lsf = false → source < 7 → source ≠ 1 →
    exec (.wakeSourceRaise tid source) s = .next (raiseSource s tid source)) ∧
  (∀ (s : State) (core tid : Nat) (t : Thread), runsOn s core tid t → t.slice ≠ 0 →
    t.runSince + t.slice * 100000 ≤ s.now → (readyList s t.prio).any (eligible s core) = true →
    exec (.sliceExpire core) s = .next (yieldCore s core 3 tid (fun a => readyTail a tid))) ∧
  (∀ (s : State) (core mcause pc tid : Nat) (t : Thread), runsOn s core tid t → t.lsf = false →
    exec (.threadException core mcause pc) s =
      .next (yieldCore (recordFrom (ptraceRec s 1 core tid pc mcause) 0x0050 (Config.eventSeverity 0x0050 % 8) 31 tid
        tid mcause (pc % 2 ^ 32)) core 6 tid (fun a => updThread a tid (fun x => { x with state := .faulted })))) ∧
  (∀ s : State, objN s 0xB020 0 = 2 → s.threads.windowAt + objN s 0xB030 0 * 1000000 ≤ s.now →
    exec .statWindowEnd s =
      let a := accountAll s
      .next { a with threads := { a.threads with
        published := schedCores.map (fun c => (c, (FMap.getD a.threads.stats c {}).octets a.threads.windowNo))
        stats := schedCores.map (fun c => (c, { since := a.now }))
        windowAt := a.now, windowNo := (a.threads.windowNo + 1) % 2 ^ 32 } })

/-- APQ_TAKE of a queue that is not the thread's, or to an address outside its window, gives 0xFFFF; of an empty queue
0; of a queue with a frame it writes the header and the frame to the address, unlinks the packet and gives the
octets written. ENQ_SUBMIT of a class other than 2 to 7 or of a frame too long gives 1; on a follower a good one
gives 0 and is discarded; elsewhere it enters the packet, journals it and gives 0, or gives 2 where the packet is
refused. The mailbox submits of the SEC, OD and EVT engines hand the request in the block to mailSubmit with the
engine's own service. MAILBOX_COMPLETE of a request with its result writes status and output, and raises source 2.
WAKE_SOURCE_RAISE of source 1 is raised once for a refused ENQ_SUBMIT. (R177, R305, R360, R362, R363, R364) -/
def Obligations.QueuesAndMailboxesServeThreads : Prop :=
  (∀ (s : State) (core q addr tid : Nat) (t : Thread), runsOn s core tid t → q < 64 →
    (boundTid s q ≠ some tid ∨ inWindow addr 2080 = false) →
    exec (.apqTake core q addr) s = .next (apqResult s tid q 0xFFFF)) ∧
  (∀ (s : State) (core q addr tid : Nat) (t : Thread), runsOn s core tid t → q < 64 → boundTid s q = some tid →
    inWindow addr 2080 = true → FMap.getD s.threads.queues q [] = [] →
    exec (.apqTake core q addr) s = .next (apqResult s tid q 0)) ∧
  (∀ (s : State) (core q addr tid k : Nat) (l : List Nat) (t : Thread) (p : QPacket), runsOn s core tid t → q < 64 →
    boundTid s q = some tid → inWindow addr 2080 = true → FMap.getD s.threads.queues q [] = k :: l →
    packetOf s k = some p →
    exec (.apqTake core q addr) s =
      let a := appWrite (drewFree s) addr
        (appHeader p (if l.isEmpty then 0xFFFFFFFF else freeNow s % 2 ^ 32) ++ p.data)
      .next (apqResult (dropUnlinked { a with threads := { a.threads with
        queues := FMap.putD a.threads.queues q l [] } } k) tid q (32 + p.data.length))) ∧
  (∀ (s : State) (core addr tid : Nat) (t : Thread), runsOn s core tid t →
    (fieldOf (appRead s addr 8) 0 1 < 2 ∨ 7 < fieldOf (appRead s addr 8) 0 1 ∨ 2047 < fieldOf (appRead s addr 8) 2 2) →
    exec (.enqSubmit core addr) s = .next (updThread s tid (fun x => { x with enqResult := 1 }))) ∧
  (∀ (s : State) (core addr tid : Nat) (t : Thread), runsOn s core tid t → 2 ≤ fieldOf (appRead s addr 8) 0 1 →
    fieldOf (appRead s addr 8) 0 1 ≤ 7 → fieldOf (appRead s addr 8) 2 2 ≤ 2047 →
    inWindow addr (8 + fieldOf (appRead s addr 8) 2 2) = true → s.power.dev = .follower →
    exec (.enqSubmit core addr) s = .next (updThread s tid (fun x => { x with enqResult := 0 }))) ∧
  (∀ (s a : State) (core addr tid : Nat) (t : Thread), runsOn s core tid t → 2 ≤ fieldOf (appRead s addr 8) 0 1 →
    fieldOf (appRead s addr 8) 0 1 ≤ 7 → fieldOf (appRead s addr 8) 2 2 ≤ 2047 →
    inWindow addr (8 + fieldOf (appRead s addr 8) 2 2) = true → s.power.dev ≠ .follower →
    let cls := fieldOf (appRead s addr 8) 0 1
    let data := appRead s (addr + 8) (fieldOf (appRead s addr 8) 2 2)
    submitPacket s (threadPacket cls data) = (a, false) →
    exec (.enqSubmit core addr) s =
      .next (updThread (journal a 0 (.threadOut false (beOctets 1 cls ++ data))) tid (fun x => { x with enqResult := 0 }))) ∧
  (∀ (s a : State) (core addr tid : Nat) (t : Thread), runsOn s core tid t → 2 ≤ fieldOf (appRead s addr 8) 0 1 →
    fieldOf (appRead s addr 8) 0 1 ≤ 7 → fieldOf (appRead s addr 8) 2 2 ≤ 2047 →
    inWindow addr (8 + fieldOf (appRead s addr 8) 2 2) = true → s.power.dev ≠ .follower →
    submitPacket s (threadPacket (fieldOf (appRead s addr 8) 0 1)
      (appRead s (addr + 8) (fieldOf (appRead s addr 8) 2 2))) = (a, true) →
    exec (.enqSubmit core addr) s =
      .next (updThread a tid (fun x => { x with enqResult := 2, enqWait := some (fieldOf (appRead s addr 8) 0 1) }))) ∧
  (∀ (s : State) (core addr tid : Nat) (t : Thread), runsOn s core tid t →
    exec (.mailboxSecSubmit core addr) s = .next (mailSubmit s core tid addr 0 (fun a =>
      (secRequest a (appRead a addr 64)).map (fun r =>
        (startJob (drewFree a) (macsecEngine a) r, some a.cipher.nextJob, none))))) ∧
  (∀ (s : State) (core addr tid : Nat) (t : Thread), runsOn s core tid t →
    exec (.mailboxOdSubmit core addr) s = .next (mailSubmit s core tid addr 1 (fun a =>
      let b := appRead a addr 64
      if mailPlaces b = true ∧ lsfStopped a = false then
        if fieldOf b 0 1 = 1 then
          let r := mailRead a (.mailbox tid) (fieldOf b 36 2) (fieldOf b 38 1) (fieldOf b 32 4)
          some (r.1, none, some r.2)
        else if fieldOf b 0 1 = 2 then
          let r := mailWrite a (.mailbox tid) (fieldOf b 36 2) (fieldOf b 38 1) (mailInput a b)
          some (r.1, none, some r.2)
        else none
      else none))) ∧
  (∀ (s : State) (core addr tid : Nat) (t : Thread), runsOn s core tid t →
    exec (.mailboxEvtSubmit core addr) s = .next (mailSubmit s core tid addr 2 (fun a =>
      let b := appRead a addr 64
      if fieldOf b 0 1 = 1 ∧ 0x0F00 ≤ fieldOf b 40 2 ∧ fieldOf b 40 2 ≤ 0x0FFF then
        some (recordFrom a (fieldOf b 40 2) 6 31 tid (fieldOf b 42 4) (fieldOf b 46 4) (fieldOf b 50 4), none, some (0, []))
      else none))) ∧
  (∀ (s : State) (n st : Nat) (v : Octets) (m : MailRequest), FMap.find s.threads.mail n = some m →
    m.result = some (st, v) →
    exec (.mailboxComplete n) s =
      let a := { s with threads := { s.threads with mail := FMap.del s.threads.mail n } }
      .next (raiseSource (mailOutput (mailStatus a m.addr st) m.addr v) m.tid 2)) ∧
  (∀ (s : State) (tid : Nat) (t : Thread), threadOf s tid = some t → t.lsf = false → t.enqWait.isSome = true →
    exec (.wakeSourceRaise tid 1) s =
      .next (raiseSource (updThread s tid (fun x => { x with enqWait := none })) tid 1))

/-- SOP_FRAME_CHECK takes the oldest frame: one that a check stops leaves what the check says, any other is counted,
advances its session's SEQ and runs its operation. READ answers every value at once, with RESOURCE where they do not
fit. WRITE applies every item or none and answers the position of the first that fails. A segmented read latches the
value and answers its length, then its octets; a segmented write collects contiguous data and applies the value with
its last octet; a transfer without a segment for 30 s is dropped. EXECUTE whose last item is a command waits while
it runs and answers when it has ended, or with TIMEOUT after 1 s. SUBSCRIBE gives the next free SUB_ID, UNSUBSCRIBE
frees one or all, NOTIFY_INTERVAL samples. In states that serve no such operation the answer is STATE. (R380, R382,
R384, R385, R386, R387, R394) -/
def Obligations.SopOperationsAnswer : Prop :=
  (∀ (s : State) (e : Endpoint) (f : Octets) (rest : List (Endpoint × Octets)), s.sop.inbox = (e, f) :: rest →
    takesSop s = true →
    let a := { s with sop := { s.sop with inbox := rest } }
    (∀ t, frameStop a e f = some t → exec .sopFrameCheck s = .next t) ∧
    (frameStop a e f = none → vendorNamed a (frameCaller e (frSid f)) (namedBy (frOp f) (frBody f)) = false →
      exec .sopFrameCheck s =
        .next (runOp (acceptFrame a e f) e (frSid f) (frOp f) (frSeq f) (frBody f) (frTail f)))) ∧
  (∀ (s : State) (who : Caller) (seq : Nat) (items : List (Nat × Nat)), takesSop s = true →
    vendorNamed s who (items.map (·.1)) = false →
    (∀ i st, firstBad (fun (x : Nat × Nat) => readStatus s who x.1 x.2) 0 items = some (i, st) →
      exec (.sopRead who seq items) s = .next (respond (drewFree s) who 1 seq st i [])) ∧
    (firstBad (fun (x : Nat × Nat) => readStatus s who x.1 x.2) 0 items = none →
      exec (.sopRead who seq items) s =
        .next (if (readItems s who items).length + 2 ≤ bodyRoom s who
          then respond (drewFree s) who 1 seq 0 0xFF (readItems s who items)
          else respond (drewFree s) who 1 seq stResource 0xFF []))) ∧
  (∀ (s : State) (who : Caller) (seq : Nat) (items : List (Nat × Nat × Octets)), takesSop s = true → servesSop s = true →
    vendorNamed s who (items.map (·.1)) = false →
    (∀ i st, writeRefused s who items = some (i, st) →
      exec (.sopWrite who seq items) s = .next (respond (setStatus (noteItems s who items) who st) who 2 seq st i [])) ∧
    (writeRefused s who items = none →
      exec (.sopWrite who seq items) s =
        .next (answerEnded s (setStatus (applyItems (noteItems s who items) who items) who 0) s.twin.nextJseq who 2 seq
          0 0xFF []))) ∧
  (∀ (s : State) (who : Caller) (seq i sub : Nat), takesSop s = true → servesSop s = true →
    vendorNamed s who [i] = false → readStatus s who i sub = 0 →
    exec (.sopSegReadStart who seq i sub) s =
      let v := readValue s who i sub
      .next (respond (setTransfer (drewFree s) who (some
        { write := false, index := i, sub := sub, total := v.length, data := v, operand := 0, segAt := s.now })) who 3 seq
        0 0xFF (beOctets 4 v.length))) ∧
  (∀ (s : State) (who : Caller) (seq offset most : Nat) (t : Transfer), takesSop s = true → servesSop s = true →
    (viewsOf s who).transfer = some t → t.write = false → offset ≤ t.total →
    exec (.sopSegRead who seq offset most) s =
      .next (respond (setTransfer s who (some { t with segAt := s.now })) who 4 seq 0 0xFF
        (beOctets 4 offset ++ sliceOf t.data offset (min most (bodyRoom s who - 6))))) ∧
  (∀ (s : State) (who : Caller) (seq i sub total : Nat), takesSop s = true → servesSop s = true →
    vendorNamed s who [i] = false → segWriteStatus s who i sub total = 0 →
    exec (.sopSegWriteStart who seq i sub total) s =
      .next (respond (setTransfer s who (some { write := true, index := i, sub := sub, total := total, data := []
                                                operand := operandNow s i sub, segAt := s.now })) who 5 seq 0 0xFF
        (beOctets 2 (maxSegment s who)))) ∧
  (∀ (s : State) (who : Caller) (seq : Nat) (data : Octets) (t : Transfer), takesSop s = true → servesSop s = true →
    (viewsOf s who).transfer = some t → t.write = true → t.data.length + data.length < t.total →
    exec (.sopSegWrite who seq t.data.length data) s =
      .next (respond (setTransfer s who (some { t with data := t.data ++ data, segAt := s.now })) who 6 seq 0 0xFF [])) ∧
  (∀ (s : State) (who : Caller) (seq : Nat) (data : Octets) (t : Transfer), takesSop s = true → servesSop s = true →
    (viewsOf s who).transfer = some t → t.write = true → t.data.length + data.length = t.total →
    exec (.sopSegWrite who seq t.data.length data) s =
      let u := writeAt (setTransfer s who none) who t.index t.sub (t.data ++ data) t.operand
      .next (answerEnded s u s.twin.nextJseq who 6 seq (viewsOf u who).status
        (if (viewsOf u who).status = 0 then 0xFF else 0) [])) ∧
  (∀ (s : State) (who : Caller) (t : Transfer), (viewsOf s who).transfer = some t → t.segAt + 30000000000 ≤ s.now →
    exec (.segTransferIdleTimeout who) s = .next (setTransfer s who none)) ∧
  (∀ (s t : State) (who : Caller) (seq i sub : Nat) (v : Octets) (ws : List (Nat × Nat × Octets))
    (reads : List (Nat × Nat)), takesSop s = true → servesSop s = true →
    vendorNamed s who (ws.map (·.1) ++ reads.map (·.1)) = false → (viewsOf s who).execute = none →
    ws.getLast? = some (i, sub, v) → isCmd i sub = true → writeItems s who ws = (t, none) →
    exec (.sopExecute who seq ws reads) s =
      .next (if commandBusy t i sub = true then setExecute t who (some
          { seq := seq, index := i, sub := sub, reads := reads, base := ws.length, startedAt := s.now })
        else answerEnded s (drewFree t) s.twin.nextJseq who 7 seq (readAnswer t who ws.length reads).1
          (readAnswer t who ws.length reads).2.1 (readAnswer t who ws.length reads).2.2)) ∧
  (∀ (s : State) (who : Caller) (w : ExecuteWait), (viewsOf s who).execute = some w → takesSop s = true →
    commandBusy s w.index w.sub = false → exec (.executeCompletion who) s = .next (executeEnds s who w)) ∧
  (∀ (s : State) (who : Caller) (w : ExecuteWait), (viewsOf s who).execute = some w → takesSop s = true →
    commandBusy s w.index w.sub = true → w.startedAt + 1000000000 ≤ s.now →
    exec (.executeTimeout who) s =
      .next (respondFrom (setExecute s who none) (receiptStart s) who 7 w.seq stTimeout 0xFF [])) ∧
  (∀ (s : State) (who : Caller) (seq i sub mode interval : Nat), takesSop s = true → servesSop s = true →
    vendorNamed s who [i] = false → subscribeStatus s who i sub mode interval = (0, 0xFF) →
    exec (.sopSubscribe who seq i sub mode interval) s =
      let w := viewsOf s who
      let x : Subscription := { index := i, sub := sub, mode := mode, interval := interval
                                due := s.now + interval * 1000000, sent := none, waiting := none, lost := false }
      .next (respond (setViews s who { w with subs := FMap.put w.subs (freeSub w) x, nextSub := (freeSub w + 1) % 255 })
        who 9 seq 0 0xFF [byte (freeSub w)])) ∧
  (∀ (s : State) (who : Caller) (seq k : Nat), takesSop s = true → servesSop s = true →
    (k = 0xFF ∨ (viewsOf s who).subs.has k = true) →
    exec (.sopUnsubscribe who seq k) s =
      .next (respond (setViews s who { viewsOf s who with
        subs := if k = 0xFF then [] else FMap.del (viewsOf s who).subs k }) who 10 seq 0 0xFF [])) ∧
  (∀ (s : State) (who : Caller) (k : Nat) (x : Subscription), FMap.find (viewsOf s who).subs k = some x →
    takesSop s = true → x.due ≤ s.now → exec (.notifyInterval who k) s = .next (sampleSub s who k x)) ∧
  (∀ (s : State) (who : Caller) (seq i k : Nat), takesSop s = true → servesSop s = false →
    exec (.sopSegRead who seq i k) s = .next (respond s who 4 seq stState 0xFF []) ∧
    exec (.sopSegWrite who seq i []) s = .next (respond s who 6 seq stState 0xFF []) ∧
    exec (.sopUnsubscribe who seq k) s = .next (respond s who 10 seq stState 0xFF []))

/-- OPEN that passes its checks puts a half-open session with a CHIP_NONCE of sixteen TRNG octets in the lowest free SID
and answers both and SESSION_IDLE. AUTH with the proof opens it under its key, clears the transport's failures,
records 0xA000 and answers; without it the answer is AUTH, the failure is counted and the session ends. CLOSE
answers and ends an open session. A half-open session without AUTH for 10 s and an open one without a request for
SESSION_IDLE end, and a lockout ends when its time is over. OBJECT_WRITE of an object outside the vendor range runs
the checks of a write and applies the value, or leaves only the status. (R373, R391, R393, R394) -/
def Obligations.SessionsOpenAndEnd : Prop :=
  (∀ (s : State) (e : Endpoint) (seq role method sid : Nat) (nonce : Octets), takesSop s = true → servesSop s = true →
    openStatus s e.transport role method = 0 → FMap.lowestFree s.sop.sessions 1 8 = some sid →
    exec (.sopOpen e seq role method nonce) s =
      let x : Session := { endpoint := e, role := role, method := method, half := true, activeAt := s.now, hostNonce := nonce
                           chipNonce := trngNow s 16, key := [], slot := if method = 0 then roleSlot s role else 0
                           lastSeq := none, response := none, views := {} }
      let a := drewTrng { s with sop := { s.sop with sessions := FMap.put s.sop.sessions sid x } }
      .next (respond a (.endpoint e) 16 seq 0 0xFF
        ([byte sid, byte 0] ++ trngNow s 16 ++ beOctets 2 (min 65535 (objN a 0x1110 0))))) ∧
  (∀ (s : State) (sid seq : Nat) (sig tag k : Octets) (x : Session), takesSop s = true → servesSop s = true →
    FMap.find s.sop.sessions sid = some x → x.half = true → authProof s sid seq x sig tag = some k →
    exec (.sopAuth sid seq sig tag) s =
      let a := if x.method = 0 then cacheRoom s else s
      let b := { a with sop := { a.sop with failures := FMap.del a.sop.failures x.endpoint.transport } }
      let c := updSession b sid (fun y =>
        { y with half := false, key := k, activeAt := b.now, lastSeq := some seq, response := none })
      .next (respond (record c 0xA000 sid x.role x.endpoint.transport) (.session sid) 17 seq 0 0xFF [])) ∧
  (∀ (s : State) (sid seq : Nat) (sig tag : Octets) (x : Session), takesSop s = true → servesSop s = true →
    FMap.find s.sop.sessions sid = some x → x.half = true → authProof s sid seq x sig tag = none →
    exec (.sopAuth sid seq sig tag) s =
      .next (endSession (noteFailure (respond s (.session sid) 17 seq stAuth 0xFF []) x.endpoint.transport x.role) 8 sid)) ∧
  (∀ (s : State) (sid seq : Nat) (x : Session), takesSop s = true → servesSop s = true →
    FMap.find s.sop.sessions sid = some x → x.half = false →
    exec (.sopClose sid seq) s = .next (endSession (respond s (.session sid) 18 seq 0 0xFF []) 1 sid)) ∧
  (∀ (s : State) (sid : Nat) (x : Session), FMap.find s.sop.sessions sid = some x → x.half = true →
    x.activeAt + 10000000000 ≤ s.now → lsfStopped s = false →
    exec (.halfOpenTimeout sid) s = .next (endSession s 7 sid)) ∧
  (∀ (s : State) (sid : Nat) (x : Session), FMap.find s.sop.sessions sid = some x → x.half = false →
    x.activeAt + objN s 0x1110 0 * 1000000000 ≤ s.now → lsfStopped s = false →
    exec (.sessionIdleTimeout sid) s = .next (endSession s 2 sid)) ∧
  (∀ (s : State) (n t : Nat), FMap.find s.sop.lockout n = some t → t ≤ s.now →
    exec (.authLockoutExpire n) s = .next { s with sop := { s.sop with lockout := FMap.del s.sop.lockout n } }) ∧
  (∀ (s : State) (who : Caller) (i sub : Nat) (v : Octets), vendorTouch s who i = false → lsfStopped s = false →
    exec (.objectWrite who i sub v) s = .next (writeObject s who i sub v))

/-- In a state that serves SOP, OPEN with METHOD 1 from an endpoint of UDP (transports 2 to 4: ETH0, ETH1, sett and
mesh) answers OP and opens no session, whatever its role and nonce. From a transport numbered 0 to 6, an OPEN with
METHOD 1 that adds a session came over CAN0, CAN1, MB0 or SPI (transports 0, 1, 5 and 6). (R392) -/
def Obligations.MethodOneStaysOffUdp : Prop :=
  (∀ (s : State) (e : Endpoint) (seq role : Nat) (nonce : Octets), takesSop s = true → servesSop s = true →
    2 ≤ e.transport → e.transport ≤ 4 →
    exec (.sopOpen e seq role 1 nonce) s = .next (respond s (.endpoint e) 16 seq stOp 0xFF []) ∧
      (respond s (.endpoint e) 16 seq stOp 0xFF []).sop.sessions = s.sop.sessions) ∧
  (∀ (s t : State) (e : Endpoint) (seq role : Nat) (nonce : Octets), e.transport ≤ 6 →
    exec (.sopOpen e seq role 1 nonce) s = .next t → s.sop.sessions.length < t.sop.sessions.length →
    e.transport = 0 ∨ e.transport = 1 ∨ e.transport = 5 ∨ e.transport = 6)

/-- The spec gives the objects 0xF000 to 0xFFFF to Wenram's Vendor role and does not describe them. For a caller with
that role and an index in the range, OBJECT_WRITE, SEG_READ_START, SEG_WRITE_START, SUBSCRIBE, READ, WRITE and
EXECUTE with such an item, and SOP_FRAME_CHECK of an accepted frame that names one, are refused as vendorRange.
(R377, R389, 00_scope.md, 14_object_dictionary.md) -/
def Obligations.VendorRangeRefuses : Prop :=
  (∀ (s : State) (who : Caller) (i sub : Nat) (v : Octets), callerRole s who = some 3 → 0xF000 ≤ i → i ≤ 0xFFFF →
    exec (.objectWrite who i sub v) s = .refused .vendorRange ∧
    (∀ seq total mode interval, exec (.sopSegReadStart who seq i sub) s = .refused .vendorRange ∧
      exec (.sopSegWriteStart who seq i sub total) s = .refused .vendorRange ∧
      exec (.sopSubscribe who seq i sub mode interval) s = .refused .vendorRange) ∧
    (∀ seq (items : List (Nat × Nat)), (i, sub) ∈ items → exec (.sopRead who seq items) s = .refused .vendorRange) ∧
    (∀ seq (items : List (Nat × Nat × Octets)) reads, (i, sub, v) ∈ items →
      exec (.sopWrite who seq items) s = .refused .vendorRange ∧
      exec (.sopExecute who seq items reads) s = .refused .vendorRange)) ∧
  (∀ (s : State) (e : Endpoint) (f : Octets) (rest : List (Endpoint × Octets)) (i : Nat), s.sop.inbox = (e, f) :: rest →
    takesSop s = true → frameStop { s with sop := { s.sop with inbox := rest } } e f = none →
    callerRole s (.session (frSid f)) = some 3 → frSid f ≠ 0 → i ∈ namedBy (frOp f) (frBody f) → 0xF000 ≤ i →
    i ≤ 0xFFFF → exec .sopFrameCheck s = .refused .vendorRange)

/-- In the states that take SOP frames: CAN_FRAME_RX of a fragment for this chip on an enabled bus joins the frame in
assembly of its host, a first and only one of an idle host waits for its check at once, and on a disabled bus it is
counted in word 7; CAN_ASSEMBLY_TIMEOUT 10 ms after the last fragment discards the assembly; CAN_DOMINANT_TIMEOUT
holds the transmitter off. UDP_SOP_DATAGRAM_RX to SOP's port and an own address is received where the rules allow
it, and counted where they do not. MB0_H2C_LEN_WRITE of 1 to 8,192 octets submits the padded buffer with MSI vector
2, MB0_C2H_ACK_WRITE frees the buffer and tells the next response, MB0_NTF_TAIL_WRITE frees slots and sends what
waits. SPI_WRITE_FRAME submits a frame or sets OVERRUN, SPI_READ_FRAME gives and frees the oldest frame or length 0,
SPI_STATUS gives the flags and clears OVERRUN. (R395, R396, R397, R398, R399, R443) -/
def Obligations.TransportsCarryFrames : Prop :=
  (∀ (s : State) (bus id : Nat) (data : Octets), sopUp s = true → bus ≤ 1 → s.sop.canHeld.contains bus = false →
    bitOf id 25 = false → bitsOf id 24 18 = fieldOf (FMap.getD s.sop.canCfg bus []) 0 1 → bitsOf id 17 11 ≠ 0 →
    data ≠ [] → transportOn s bus = true →
    exec (.canFrameRx bus id data) s = .next (canTake s bus (bitsOf id 17 11) (bitsOf id 28 26) data)) ∧
  (∀ (s : State) (bus id : Nat) (data : Octets), sopUp s = true → bus ≤ 1 → s.sop.canHeld.contains bus = false →
    bitOf id 25 = false → bitsOf id 24 18 = fieldOf (FMap.getD s.sop.canCfg bus []) 0 1 → bitsOf id 17 11 ≠ 0 →
    data ≠ [] → transportOn s bus = false → exec (.canFrameRx bus id data) s = .next (discardFrame s bus)) ∧
  (∀ (s : State) (bus host : Nat) (a : CanAssembly), FMap.find s.sop.can (128 * bus + host) = some a →
    a.lastAt + 10000000 ≤ s.now →
    exec (.canAssemblyTimeout bus host) s = .next (discardFrame (setAssembly s (128 * bus + host) none) bus)) ∧
  (∀ (s : State) (bus : Nat), sopUp s = true → bus ≤ 1 → s.sop.canHeld.contains bus = false →
    exec (.canDominantTimeout bus) s = .next { s with sop := { s.sop with canHeld := bus :: s.sop.canHeld } }) ∧
  (∀ (s : State) (ingress port : Nat) (src dest payload : Octets) (frag : Bool), sopUp s = true →
    (sopAddresses s).contains dest = true → udpAllowed s ingress frag payload = true →
    exec (.udpSopDatagramRx ingress src port dest (objField s 0x1102 0 0 2) frag payload) s =
      let e : Endpoint := { transport := udpTransport ingress, address := src, port := port }
      .next { s with sop := { s.sop with
        udpLocal := (e, dest, objField s 0x1102 0 0 2) :: s.sop.udpLocal.filter (fun p => p.1 ≠ e)
        inbox := s.sop.inbox ++ [(e, payload)] } }) ∧
  (∀ (s : State) (ingress port : Nat) (src dest payload : Octets) (frag : Bool), sopUp s = true →
    (sopAddresses s).contains dest = true → udpAllowed s ingress frag payload = false →
    exec (.udpSopDatagramRx ingress src port dest (objField s 0x1102 0 0 2) frag payload) s =
      .next (discardFrame s (udpTransport ingress))) ∧
  (∀ (s : State) (n : Nat) (buf : Octets), sopUp s = true → 1 ≤ n → n ≤ 8192 → transportOn s 5 = true →
    exec (.mb0H2cLenWrite n buf) s =
      .next (msi { s with sop := { s.sop with
        inbox := s.sop.inbox ++ [(mb0Endpoint, (padTo n buf).take n)] } } 2)) ∧
  (∀ (s : State), exec .mb0C2hAckWrite s =
    let a := { s with sop := { s.sop with mbOut := s.sop.mbOut.drop 1 } }
    .next (if (s.sop.mbOut.drop 1).isEmpty then a else msi a 0)) ∧
  (∀ (s : State) (tail : Nat), takesSop s = true →
    exec (.mb0NtfTailWrite tail) s =
      .next (flushPending { s with sop := { s.sop with ntfTail := tail % 64 } } 5)) ∧
  (∀ (s : State) (f : Octets), sopUp s = true → transportOn s 6 = true →
    exec (.spiWriteFrame f) s =
      .next (if spiFull s = true then { s with sop := { s.sop with overrun := true } }
        else { s with sop := { s.sop with inbox := s.sop.inbox ++ [(spiEndpoint, f)] } })) ∧
  (∀ (s : State) (f : Octets) (rest : List Octets), sopUp s = true → s.sop.spiOut = f :: rest →
    exec .spiReadFrame s = .next { s with
      sop := { s.sop with spiOut := rest }
      out := .spi (beOctets 2 f.length ++ f) :: s.out }) ∧
  (∀ (s : State), sopUp s = true → s.sop.spiOut = [] →
    exec .spiReadFrame s = .next { s with out := .spi (zeros 2) :: s.out }) ∧
  (∀ (s : State), sopUp s = true →
    exec .spiStatus s = .next (emit { s with sop := { s.sop with overrun := false } } (.spi [byte (spiStatus s)])))

/-- SURVEY_PERIOD_END after SURVEY_PERIOD publishes the value of every bin of the sectors that receive, with the time,
and starts the next period. NF_HISTORY_HOURLY at a new hour puts the published noise floor in front of at most 24
copies. RANGING_CELL of a running exchange in its cell, not skipped, sends the Poll and keeps the chip's tones where
the cell counts. RANGE_REPORT_RX with the exchange's number and a cell of its own combines both ends and, after K
Reports, finishes the exchange. SUPPLY_SAMPLE keeps the five values and records an excursion of VIN and of a present
VBAT once, TEMPERATURE_SAMPLE keeps the six temperatures, AIN_SAMPLE of an enabled input that is due keeps the
rounded mean, its millivolts and its thresholds. (R403, R404, R406, R407, R408, R411, R412) -/
def Obligations.MeasurementsAndRanging : Prop :=
  (∀ (s : State) (bins : List SurveyBin), measures s = true →
    s.measure.surveyAt + surveyPeriod s * 1000000000 ≤ s.now →
    exec (.surveyPeriodEnd bins) s =
      let on := allBandSectors.filter (fun bs => bandEnabled s (bandOf bs) && objB s 0x2100 bs)
      let kept := bins.filter (fun x => on.contains x.bandSector && x.bin < binCount s (bandOf x.bandSector))
      let a := { s with measure := { s.measure with
        survey := kept.foldl (fun (m : FMap (Nat × Nat)) x => FMap.put m (65536 * x.bandSector + x.bin) (surveyValue x)) []
        surveyTime := domainTime s, surveyAt := s.now } }
      .next (on.foldl surveyEvent a)) ∧
  (∀ s : State, lsfRuns s.power.dev = true → s.measure.nfHour ≠ some (domainTime s / 3600000000000) →
    exec .nfHistoryHourly s = .next { s with measure := { s.measure with
      nfHour := some (domainTime s / 3600000000000), nfHistory := (s.rx.noise :: s.measure.nfHistory).take 24 } }) ∧
  (∀ (s : State) (bs cell : Nat) (tones : List ToneMeasure) (r x : RangeRun) (n : Node),
    FMap.find s.measure.ranges (cellAt s cell).peer = some r → nodeOf s (cellAt s cell).peer = some n →
    mayTransmit s = true → rangesIn s (cellAt s cell).peer n (cellAt s cell) = true →
    (cellAt s cell).bandSector = bs → serviceState s bs = 0 → r.cellsPassed < 2 * r.k →
    let a := sendPoll s cell (cellAt s cell).peer (cellAt s cell) r
    FMap.find a.measure.ranges (cellAt s cell).peer = some x →
    exec (.rangingCell bs cell false tones) s =
      .next (if x.cellsPassed = r.cellsPassed then a else updRange a (cellAt s cell).peer (fun y => { y with
        chipTones := FMap.put y.chipTones r.cellsPassed (tones.map (fun z => (z.freq, z.phase, z.snr))) }))) ∧
  (∀ (s : State) (h : Nat) (content : Octets) (r : RangeRun), FMap.find s.measure.ranges h = some r →
    content.length = 28 → fieldOf content 0 1 = 0x11 → fieldOf content 1 1 = r.rangeId →
    r.chipTones.has (fieldOf content 2 1) = true →
    let f := fun (y : RangeRun) => { y with
      reports := y.reports + 1, chipTones := FMap.del y.chipTones (fieldOf content 2 1)
      tones := if fieldOf content 3 1 = 0 then FMap.put y.tones (fieldOf content 2 1)
          (reportTones (objField s 0xA300 0 2 1) content (FMap.getD r.chipTones (fieldOf content 2 1) []))
        else y.tones }
    exec (.rangeReportRx h content) s =
      .next (if r.k ≤ r.reports + 1 then finishRange (updRange s h f) h (f r) else updRange s h f)) ∧
  (∀ (s : State) (vin vbat vio core power : Nat), measures s = true →
    ∃ t, exec (.supplySample vin vbat vio core power) s = .next t ∧ SameStanding s t ∧
      t.measure.supply = [vin % 65536, vbat % 65536, vio % 65536, core % 65536, power % 2 ^ 32] ∧
      t.measure.temps = s.measure.temps ∧ t.vals = s.vals ∧ t.out = s.out) ∧
  (∀ (s : State) (temps : List Int), measures s = true → temps.length = 6 →
    exec (.temperatureSample temps) s = .next { s with measure := { s.measure with temps := temps } }) ∧
  (∀ (s : State) (ch : Nat) (codes : List Nat), ch < 8 → measures s = true → bitOf (ainCfg s ch 0 1) 0 = true →
    codes.length = ainCfg s ch 3 1 → codes ≠ [] →
    (∀ t, (FMap.getD s.measure.ain (ch + 1) {}).sampledAt = some t →
      t + 1000000000 / max 1 (ainCfg s ch 1 2) ≤ s.now) →
    exec (.ainSample ch codes) s =
      let x := FMap.getD s.measure.ain (ch + 1) {}
      let raw := openRound s (sumOf codes / codes.length) (sumOf codes % codes.length = 0) % 65536
      let y := ainThresholds (drewFree s) ch
        { x with raw := raw, mv := ainMv s ch raw, time := domainTime s, sampledAt := some s.now }
      .next { y.2 with measure := { y.2.measure with ain := FMap.put y.2.measure.ain (ch + 1) y.1 } })

/-- With the rails up, a frame with start bits 1010 and a wrong CRC is answered ERROR, whatever its operation. A good
one runs its operation: DEBUG_SELECT of module 0, 1 or 15 selects it, DEBUG_IDLE answers OK, DEBUG_READ and
DEBUG_WRITE act on the module selected, and with none selected answer ERROR, with level 0 and a debug module LOCKED.
On the authentication module, DEBUG_CHALLENGE_READ draws a challenge valid for 60 s and answers its first word,
DEBUG_RESPONSE_SUBMIT submits the response with its last word, DEBUG_AUTH_LOCK locks and answers OK.
DEBUG_TRANSPORT_RESET deselects every module, and DEBUG_UNLOCK_EXPIRY locks when the minutes have run out. (R422,
R423, R424, R425, R426) -/
def Obligations.DebugTransportAnswers : Prop :=
  (∀ (s : State) (f : Nat), debugServed s = true → bitsOf f 63 60 = 10 → frameGood f = false →
    exec (.debugRead f) s = .next (debugAnswer s 2 0) ∧ exec (.debugWrite f) s = .next (debugAnswer s 2 0) ∧
    exec (.debugSelect f) s = .next (debugAnswer s 2 0) ∧ exec (.debugIdle f) s = .next (debugAnswer s 2 0) ∧
    exec (.debugChallengeRead f) s = .next (debugAnswer s 2 0) ∧
    exec (.debugResponseSubmit f) s = .next (debugAnswer s 2 0) ∧
    exec (.debugAuthLock f) s = .next (debugAnswer s 2 0)) ∧
  (∀ (s : State) (f : Nat), debugServed s = true → bitsOf f 63 60 = 10 → frameGood f = true →
    (frameOp f = 2 → (frameData f % 16 = 0 ∨ frameData f % 16 = 1 ∨ frameData f % 16 = 15) →
      exec (.debugSelect f) s =
        .next (debugAnswer { s with dbg := { s.dbg with selected := some (frameData f % 16) } } 0 0)) ∧
    (frameOp f = 3 → exec (.debugIdle f) s = .next (debugAnswer s 0 0)) ∧
    (frameOp f = 0 → s.dbg.selected = none → exec (.debugRead f) s = .next (debugAnswer s 2 0)) ∧
    (frameOp f = 1 → s.dbg.selected = none → exec (.debugWrite f) s = .next (debugAnswer s 2 0))) ∧
  (∀ (s : State) (f m : Nat), debugServed s = true → bitsOf f 63 60 = 10 → frameGood f = true → m ≤ 1 →
    s.dbg.selected = some m →
    (frameOp f = 0 → exec (.debugRead f) s =
      .next (if debugLevel s = 0 then debugAnswer s 3 0 else moduleRead s m (frameAddr f))) ∧
    (frameOp f = 1 → exec (.debugWrite f) s =
      .next (if debugLevel s = 0 then debugAnswer s 3 0 else moduleWrite s m (frameAddr f) (frameData f)))) ∧
  (∀ (s : State) (f : Nat), debugServed s = true → bitsOf f 63 60 = 10 → frameGood f = true →
    s.dbg.selected = some 15 → s.power.lifecycle ≠ .retired →
    (frameOp f = 0 → frameAddr f ≠ 1 → exec (.debugRead f) s = .next (authRead s (frameAddr f))) ∧
    (frameOp f = 1 → frameAddr f ≠ 12 → frameAddr f ≠ 15 →
      exec (.debugWrite f) s = .next (authWrite s (frameAddr f) (frameData f))) ∧
    (frameOp f = 0 → frameAddr f = 1 → exec (.debugChallengeRead f) s =
      .next (debugAnswer (drewTrng { s with dbg := { s.dbg with
        challenge := trngNow s 16, challengeUntil := some (s.now + 60000000000) } }) 0 (fieldOf (trngNow s 16) 0 4))) ∧
    (frameOp f = 1 → frameAddr f = 12 → exec (.debugResponseSubmit f) s =
      .next (submitResponse { s with dbg := { s.dbg with
        response := listSet s.dbg.response 3 (frameData f) } })) ∧
    (frameOp f = 1 → frameAddr f = 15 → exec (.debugAuthLock f) s = .next (debugAnswer (lockDebug s 2) 0 0))) ∧
  (∀ s : State, exec .debugTransportReset s = .next { s with dbg := { s.dbg with selected := none } }) ∧
  (∀ (s : State) (t : Nat), s.dbg.expires = some t → t ≤ s.now →
    exec .debugUnlockExpiry s = .next (lockDebug s 1))

/-- TIME_PERSIST on a running chip whose time state is not UNACQUIRED, with no copy or one a minute old, writes domain
time, the time state and the instant to the persistent journal area, and changes nothing else. Within the minute it
writes nothing. While UNACQUIRED it leaves every state as it is. (R130) -/
def Obligations.TimePersistsOnceAMinute : Prop :=
  (∀ s : State, s.time.mode ≠ .unacquired → lsfRuns s.power.dev = true →
    (∀ d m w, s.time.persisted = some (d, m, w) → w + 60000000000 ≤ s.now) →
    exec .timePersist s =
      .next { s with time := { s.time with persisted := some (domainTime s, s.time.mode.code, s.now) } }) ∧
  (∀ (s : State) (d m w : Nat), s.time.persisted = some (d, m, w) → s.now < w + 60000000000 →
    exec .timePersist s = .next s) ∧
  (∀ s : State, s.time.mode = .unacquired → exec .timePersist s = .next s)

/-- A unit written to a FIFO that drops nothing and holds fewer than 64 words, with at most 48 octets under
construction: a 16-byte unit that neither is the fourth nor ends its packet joins the word under construction. The
fourth unit, or the last of its packet, completes the word: its data are the units of the word in order and zeros to
64 octets, it carries LAST exactly where it ends the packet and FIRST where it begins one, VALID counts its valid
octets, and the next unit starts a new word. (R17) -/
def Obligations.FifoPacksUnitsIntoWords : Prop :=
  (∀ (s : State) (n lane : Nat) (u : Octets) (poison : Bool), n < 64 → (fifoOf s n).dropToLast = false →
    (fifoOf s n).words.length < 64 → u.length = 16 → (fifoOf s n).packing.length < 48 →
    ∃ t, exec (.fifoWriteUnit n lane u false poison) s = .next t ∧ (fifoOf t n).words = (fifoOf s n).words ∧
      (fifoOf t n).packing = (fifoOf s n).packing ++ u ∧ (fifoOf t n).atStart = (fifoOf s n).atStart) ∧
  (∀ (s : State) (n lane : Nat) (u : Octets) (last poison : Bool), n < 64 → (fifoOf s n).dropToLast = false →
    (fifoOf s n).words.length < 64 → 1 ≤ u.length → u.length ≤ 16 → (fifoOf s n).packing.length ≤ 48 →
    (last = true ∨ (u.length = 16 ∧ (fifoOf s n).packing.length = 48)) →
    ∃ t w, exec (.fifoWriteUnit n lane u last poison) s = .next t ∧ (fifoOf t n).words = (fifoOf s n).words ++ [w] ∧
      w.length = 68 ∧
      w.take 64 = (fifoOf s n).packing ++ u ++ zeros (64 - ((fifoOf s n).packing.length + u.length)) ∧
      wordLast w = last ∧ wordFirst w = (fifoOf s n).atStart ∧
      fieldOf w 65 1 % 128 = (fifoOf s n).packing.length + u.length ∧
      (fifoOf t n).packing = [] ∧ (fifoOf t n).atStart = last)

/-- A word whose parities check leaves as it stands. One whose data parity fails leaves with POISON set, and event
0x0020 is recorded. One whose side parity fails leaves with POISON and LAST set, and the FIFO then discards. While
it discards, a word without FIRST is counted and delivers nothing; a sound word with FIRST ends the discarding,
records 0x0020 with the words counted, and is delivered. A poisoned word of 68 octets reads POISON, and LAST where
it closes a packet. (R18) -/
def Obligations.DamagedWordsCloseTheirPackets : Prop :=
  (∀ (s : State) (n : Nat) (w : Octets) (rest : List Octets) (flips : List Nat), (fifoOf s n).words = w :: rest →
    (fifoOf s n).skipping = false →
    let x := flipBits w flips
    let a := updFifo s n (fun f => { f with words := rest, stalled := false })
    exec (.fifoReadWord n flips) s =
      .next (if sideGood x = true then
          if dataGood x = true then deliver a n x else deliver (record a 0x0020 n 0 0) n (poisonWord x false)
        else deliver (updFifo a n (fun f => { f with skipping := true, discarded := 0 })) n (poisonWord x true))) ∧
  (∀ (s : State) (n : Nat) (w : Octets) (rest : List Octets) (flips : List Nat), (fifoOf s n).words = w :: rest →
    (fifoOf s n).skipping = true → wordFirst (flipBits w flips) = false →
    ∃ t, exec (.fifoReadWord n flips) s = .next t ∧ (fifoOf t n).discarded = (fifoOf s n).discarded + 1 ∧
      (fifoOf t n).words = rest ∧ (fifoOf t n).skipping = true ∧ t.out = s.out) ∧
  (∀ (s : State) (n : Nat) (w : Octets) (rest : List Octets) (flips : List Nat), (fifoOf s n).words = w :: rest →
    (fifoOf s n).skipping = true → wordFirst (flipBits w flips) = true → sideGood (flipBits w flips) = true →
    dataGood (flipBits w flips) = true →
    exec (.fifoReadWord n flips) s =
      let a := updFifo s n (fun f => { f with words := rest, stalled := false })
      .next (deliver (updFifo (record a 0x0020 n 1 (fifoOf s n).discarded) n (fun f =>
        { f with skipping := false, discarded := 0 })) n (flipBits w flips))) ∧
  (∀ (w : Octets) (last : Bool), w.length = 68 →
    wordPoison (poisonWord w last) = true ∧ wordLast (poisonWord w last) = (last || wordLast w))

/-- For any two first bins and any two modes, the model's overlap test of the two channels holds exactly where some bin
lies in both spans, each span reaching from its first bin over as many bins as its mode takes. (R34) -/
def Obligations.ChannelsOverlapWhereSpansMeet : Prop :=
  ∀ a b m k : Nat, spansMeet a (spanOf m) b (spanOf k) = true ↔
    ∃ bin, a ≤ bin ∧ bin < a + spanOf m ∧ b ≤ bin ∧ bin < b + spanOf k

/-- A lookup answers a location exactly where that location holds the key and none before it does, in the order slots 0
to 3 of the first bucket, slots 0 to 3 of the second, stash entries 0 to 63. A key that one of these locations holds
is always found, and every location found is one that TABLE_LOC encodes: a bucket below 65,536 with a slot, or a
stash entry under bit 31. (R213, R214, R230) -/
def Obligations.LookupTakesTheFirstMatch : Prop :=
  (∀ (s : State) (key : Octets) (l : Nat), findKey s key = some l ↔
    ∃ before after, (List.range 4).map (fun i => 4 * bucket1 key + i) ++ (List.range 4).map (fun i => 4 * bucket2 key + i) ++
        (List.range 64).map (fun i => 2 ^ 31 + i) = before ++ l :: after ∧
      (∃ e, entryAt s l = some e ∧ e.key = key) ∧ ∀ x ∈ before, ∀ e, entryAt s x = some e → e.key ≠ key) ∧
  (∀ (s : State) (key : Octets) (l : Nat) (e : HostEntry), l ∈ lookupOrder key → entryAt s l = some e → e.key = key →
    (findKey s key).isSome = true) ∧
  (∀ (s : State) (key : Octets) (l : Nat), findKey s key = some l →
    (l < 4 * 65536 ∧ (l / 4 = bucket1 key ∨ l / 4 = bucket2 key)) ∨ (2 ^ 31 ≤ l ∧ l < 2 ^ 31 + 64))

/-- EVT_CLEAR that passes its checks leaves EVT_OLDEST at the sequence number that was next, no record of an earlier
number in the ring or the archive, and at most one record, with that number, in the ring: event 0x0060, which the
running image's severity or the overload limit may keep out. The chip's standing, its objects and what has left it
are as before. (R415, R417, R420) -/
def Obligations.EventClearEmptiesTheRecorder : Prop :=
  ∀ (s : State) (who : Caller) (v : Nat), lsfStopped s = false →
    commandStatus s who 0xA006 0 (beOctets 1 v) (fun _ => 0) = 0 →
    ∃ t, exec (.evtClear who v) s = .next t ∧ SameStanding s t ∧ t.out = s.out ∧
      s.recorder.nextSeq ≤ t.recorder.nextSeq ∧ s.recorder.nextSeq ≤ t.recorder.oldest ∧
      (∀ q ∈ t.recorder.ring, q.1 = s.recorder.nextSeq ∧ (q.2.code = 0x0060 ∨ q.2.code = 0x0061)) ∧
      (∀ q ∈ t.recorder.archive, q.1 = s.recorder.nextSeq)

/-- ENQ_SUBMIT by a running application thread of a block with class 0 or 1 gives the thread status 1, the range error,
and changes nothing else. With a class from 2 to 7, a length of at most 2,047 octets and its block inside the
thread's window, the thread's status is 0 or 2, and is not the range error. (R177) -/
def Obligations.ThreadsMayNotEnqueueTheTopClasses : Prop :=
  (∀ (s : State) (core addr tid : Nat) (t : Thread), runsOn s core tid t → t.lsf = false →
    fieldOf (appRead s addr 8) 0 1 ≤ 1 →
    exec (.enqSubmit core addr) s = .next (updThread s tid (fun x => { x with enqResult := 1 }))) ∧
  (∀ (s : State) (core addr tid : Nat) (t : Thread), runsOn s core tid t → t.lsf = false →
    2 ≤ fieldOf (appRead s addr 8) 0 1 → fieldOf (appRead s addr 8) 0 1 ≤ 7 → fieldOf (appRead s addr 8) 2 2 ≤ 2047 →
    inWindow addr (8 + fieldOf (appRead s addr 8) 2 2) = true →
    ∃ (a : State) (n : Nat) (w : Option (Option Nat)), (n = 0 ∨ n = 2) ∧
      exec (.enqSubmit core addr) s = .next (updThread a tid (fun x => { x with enqResult := n, enqWait := w.getD x.enqWait })))

/-- The memories of the model list addresses strictly rising and no octet equal to what an unlisted address reads as.
Writing one octet, writing a string of octets and clearing a range keep that form; after one write the octet reads
back and every other address reads as before; after a write of a string its octets read back in order and every
address outside reads as before; after a clear the range reads as unwritten and the rest as before. That an unlisted
octet reads 0 is the model's choice (log entry 5). (R13, R14, 01_architecture.md) -/
def Obligations.MemoryKeepsItsFormAndItsValues : Prop :=
  ∀ m : Memory, m.wf = true →
    (∀ a v, (m.write a v).wf = true ∧ (m.write a v).read a = v ∧ ∀ b, b ≠ a → (m.write a v).read b = m.read b) ∧
    (∀ a l, (m.writeAll a l).wf = true ∧ (m.writeAll a l).readAll a l.length = l ∧
      ∀ b, (b < a ∨ a + l.length ≤ b) → (m.writeAll a l).read b = m.read b) ∧
    (∀ a n, (m.clear a n).wf = true ∧ (∀ b, a ≤ b → b < a + n → (m.clear a n).read b = Memory.blank) ∧
      ∀ b, (b < a ∨ a + n ≤ b) → (m.clear a n).read b = m.read b)

end
end

