-- ==== Sys2Proof/Laws/Cipher.lean ====
section
/-! SUPPORT. The lengths of what the ciphers and the hash answer. -/

namespace Sys2Proof.Laws

open Sys2Proof Sys2Proof.Machine

/-- `beOctets` answers as many octets as asked. -/
@[simp] theorem beOctets_length (w v : Nat) : (beOctets w v).length = w := by
  induction w generalizing v with
  | zero => rfl
  | succ w ih => simp [beOctets, ih]

/-- A block is 16 octets, whatever the key. -/
@[simp] theorem aesCipher_length (key block : Octets) : (aesCipher key block).length = 16 := by
  unfold aesCipher
  simp [aesOctets]

/-- A deciphered block is 16 octets. -/
@[simp] theorem aesInverse_length (key block : Octets) : (aesInverse key block).length = 16 := by
  unfold aesInverse
  simp [aesOctets]

/-- A CMAC is 16 octets. -/
@[simp] theorem cmac_length (key data : Octets) : (cmac key data).length = 16 := by
  unfold cmac
  exact aesCipher_length _ _

theorem shaRound_length (v : List Nat) (kw : Nat × Nat) (h : v.length = 8) : (shaRound v kw).length = 8 := by
  unfold shaRound
  split
  · rfl
  · exact h

theorem shaRounds_length (l : List (Nat × Nat)) (v : List Nat) (h : v.length = 8) : (l.foldl shaRound v).length = 8 := by
  induction l generalizing v with
  | nil => exact h
  | cons a l ih => exact ih _ (shaRound_length v a h)

theorem shaBlocks_length (m : Octets) (l : List Nat) (v : List Nat) (h : v.length = 8) :
    (l.foldl (fun h i => shaBlock h (sliceOf m (64 * i) 64)) v).length = 8 := by
  induction l generalizing v with
  | nil => exact h
  | cons a l ih =>
    refine ih _ ?_
    unfold shaBlock
    rw [List.length_zipWith, shaRounds_length _ _ h, h]
    rfl

theorem flatten_fours (l : List Nat) : (l.map (beOctets 4)).flatten.length = 4 * l.length := by
  induction l with
  | nil => rfl
  | cons a l ih => simp [ih]; omega

/-- A digest is 32 octets. -/
@[simp] theorem sha256_length (l : Octets) : (sha256 l).length = 32 := by
  unfold sha256
  rw [flatten_fours, shaBlocks_length _ _ _ (by rfl)]

end Sys2Proof.Laws
end

