-- ==== Sys2Proof/Laws/Frame.lean ====
section
/-! SUPPORT. The frame of a state: the parts that almost every operation leaves as they are. Each shared operation has one
lemma that says so, and what a command does to the frame follows from the operations it calls. -/

namespace Sys2Proof.Laws

open Sys2Proof.Machine

/-- The queue, the clock, the device state with its outputs, the lifecycle, and what is on the air. -/
structure Frame where
  pending : List Instr
  now : Nat
  dev : DevState
  lifecycle : Lifecycle
  vin : Bool
  rstLow : Bool
  rails : Bool
  bypassOn : Bool
  claimOut : Bool
  txGate : Bool
  airs : List Out

/-- The frame of a state. -/
def frame (s : State) : Frame :=
  { pending := s.pending, now := s.now, dev := s.power.dev, lifecycle := s.power.lifecycle, vin := s.power.vin,
    rstLow := s.power.rstLow, rails := s.power.rails, bypassOn := s.power.bypassOn, claimOut := s.power.claimOut,
    txGate := s.power.txGate, airs := aerialLog s }

/-- An update of the other parts of the state leaves the frame. -/
@[simp] theorem frame_parts (s : State) (freeCtr trngCtr : Nat) (vals : FMap Octets) (fifos : FMap Fifo) (recorder : Recorder)
    (measure : Measure) (ptrace : Ptrace) (debug : Debug) (rx : Receiver) (modem : Modem) (front : FrontEnd)
    (time : DomainTime) (sched : Schedule) (link : Link) (queues : Queues) (fwd : Forwarding) (cipher : Cipher) (keys : Keys)
    (sett : Sett) (twin : Twin) (image : Image) (fleet : Fleet) (threads : Sched) (sop : Sop) :
    frame { pending := s.pending, now := s.now, freeCtr := freeCtr, trngCtr := trngCtr, out := s.out, vals := vals,
            power := s.power, fifos := fifos, recorder := recorder, measure := measure, ptrace := ptrace, dbg := debug,
            rx := rx, modem := modem, front := front, time := time, sched := sched, link := link, queues := queues,
            fwd := fwd, cipher := cipher, keys := keys, sett := sett, twin := twin, image := image, fleet := fleet,
            threads := threads, sop := sop } = frame s := rfl

/-- An update of the other parts of the supply record leaves the frame. -/
@[simp] theorem frame_power (s : State) (degraded : BitVec 32) (vbat aonValid vioOut vioLimit rolePrefPin rolePref recRx ppsIn
      thermForced pasHeld thermReset claimIn : Bool) (aonSince startAt startCause endOfStart stateTime chipProfile : Nat)
    (latchedState : DevState) (clockLock : BitVec 32) (junction : Int) (coolSince profileDue retireArmed : Option Nat)
    (pasWait effective : List Nat) (corrected : FMap Nat) (freeCtr trngCtr : Nat) (vals : FMap Octets) (fifos : FMap Fifo)
    (recorder : Recorder) (measure : Measure) (ptrace : Ptrace) (debug : Debug) (rx : Receiver) (modem : Modem)
    (front : FrontEnd) (time : DomainTime) (sched : Schedule) (link : Link) (queues : Queues) (fwd : Forwarding)
    (cipher : Cipher) (keys : Keys) (sett : Sett) (twin : Twin) (image : Image) (fleet : Fleet) (threads : Sched) (sop : Sop) :
    frame { pending := s.pending, now := s.now, freeCtr := freeCtr, trngCtr := trngCtr, out := s.out, vals := vals,
            power := { dev := s.power.dev, lifecycle := s.power.lifecycle, degraded := degraded, vin := s.power.vin,
                       vbat := vbat, rstLow := s.power.rstLow, aonSince := aonSince, aonValid := aonValid,
                       startAt := startAt, startCause := startCause, latchedState := latchedState,
                       endOfStart := endOfStart, stateTime := stateTime, bypassOn := s.power.bypassOn,
                       txGate := s.power.txGate, rails := s.power.rails, vioOut := vioOut, vioLimit := vioLimit,
                       rolePrefPin := rolePrefPin, rolePref := rolePref, recRx := recRx, ppsIn := ppsIn,
                       clockLock := clockLock, junction := junction, thermForced := thermForced, coolSince := coolSince,
                       pasHeld := pasHeld, pasWait := pasWait, thermReset := thermReset, chipProfile := chipProfile,
                       effective := effective, profileDue := profileDue, retireArmed := retireArmed,
                       corrected := corrected, claimOut := s.power.claimOut, claimIn := claimIn },
            fifos := fifos, recorder := recorder, measure := measure, ptrace := ptrace, dbg := debug,
            rx := rx, modem := modem, front := front, time := time, sched := sched, link := link, queues := queues,
            fwd := fwd, cipher := cipher, keys := keys, sett := sett, twin := twin, image := image, fleet := fleet,
            threads := threads, sop := sop } = frame s := rfl

/-- The frame of either branch of a condition. -/
@[simp] theorem frame_ite (c : Prop) [Decidable c] (a b : State) :
    frame (if c then a else b) = if c then frame a else frame b := by split <;> rfl

/-- A fold whose steps leave the frame leaves it. -/
theorem frame_foldl {α : Type} (f : State → α → State) (h : ∀ s a, frame (f s a) = frame s) (l : List α) (s : State) :
    frame (l.foldl f s) = frame s := by
  induction l generalizing s with
  | nil => rfl
  | cons a l ih => simp [ih, h]

/- Outputs other than frames and bursts on an aerial port. -/

@[simp] theorem aerial_sop (dest : Endpoint) (address : Octets) (port : Nat) (frame : Octets) : aerial (.sop dest address port frame) = false := rfl
@[simp] theorem aerial_can (bus id : Nat) (data : Octets) : aerial (.can bus id data) = false := rfl
@[simp] theorem aerial_msi (vector : Nat) : aerial (.msi vector) = false := rfl
@[simp] theorem aerial_spi (octets : Octets) : aerial (.spi octets) = false := rfl
@[simp] theorem aerial_debug (frame : Nat) : aerial (.debug frame) = false := rfl
@[simp] theorem aerial_eth (port : Nat) (data : Octets) (bad : Bool) : aerial (.eth port data bad) = false := rfl
@[simp] theorem aerial_macsec (port an pn : Nat) (frame : Sealed) : aerial (.macsec port an pn frame) = false := rfl
@[simp] theorem aerial_macsecRx (port : Nat) (frame : Octets) : aerial (.macsecRx port frame) = false := rfl
@[simp] theorem aerial_sett (port : Nat) (f : SettFrame) : aerial (.sett port f) = false := rfl
@[simp] theorem aerial_settAbort (port : Nat) : aerial (.settAbort port) = false := rfl
@[simp] theorem aerial_settMark (port hops master markNo : Nat) : aerial (.settMark port hops master markNo) = false := rfl
@[simp] theorem aerial_settRx (port : Nat) (f : SettFrame) : aerial (.settRx port f) = false := rfl
@[simp] theorem aerial_link (port : Nat) (m : LinkMessage) (declaration : Option Declaration) : aerial (.link port m declaration) = false := rfl
@[simp] theorem aerial_journal (claim : Bool) (records : List JournalRecord) : aerial (.journal claim records) = false := rfl
@[simp] theorem aerial_jack (jack : Jack) : aerial (.jack jack) = false := rfl
@[simp] theorem aerial_snapshotRequest : aerial (.snapshotRequest) = false := rfl
@[simp] theorem aerial_snapshot (chunkNo region offset : Nat) (data : Octets) (last : Bool) : aerial (.snapshot chunkNo region offset data last) = false := rfl
@[simp] theorem aerial_pps (second : Nat) : aerial (.pps second) = false := rfl
@[simp] theorem aerial_ptp (port kind sequence time : Nat) (requester : Octets) : aerial (.ptp port kind sequence time requester) = false := rfl
@[simp] theorem aerial_recovery (frame : Octets) : aerial (.recovery frame) = false := rfl
@[simp] theorem aerial_coex (channel : Nat) (req pri : Bool) : aerial (.coex channel req pri) = false := rfl
@[simp] theorem aerial_fifo (number : Nat) (word : Octets) : aerial (.fifo number word) = false := rfl
@[simp] theorem aerial_local (packet : Octets) : aerial (.local packet) = false := rfl
@[simp] theorem aerial_keyHandle (reference : Octets) (handle : Nat) : aerial (.keyHandle reference handle) = false := rfl
@[simp] theorem aerial_cipher (job status : Nat) (octets : Octets) : aerial (.cipher job status octets) = false := rfl

/-- A command's outcome leaves the frame: every next state has the frame of `s`. -/
def Stays (o : Host.Outcome State Fault Refusal) (s : State) : Prop := ∀ t, o = .next t → frame t = frame s

@[simp] theorem stays_done (t s : State) : Stays (done t) s ↔ frame t = frame s := by
  constructor
  · intro h; exact h t rfl
  · intro h u hu; cases hu; exact h

@[simp] theorem stays_refused (r : Refusal) (s : State) : Stays (.refused r) s := by intro t h; cases h

end Sys2Proof.Laws
end

