-- ==== Sys2Proof/Laws/FrameShared.lean ====
section
/-! SUPPORT. The operations of these files of Machine leave the frame (Laws/Frame.lean) as it is: Ops, Scheduler,
Shaper, Coex, Ranges, Role, Operands, KeyCache, Keys, Listen, Service, Schedule, Queue, Table, BitLoad, Forward,
Campaign. -/

namespace Sys2Proof.Laws

open Sys2Proof.Machine

/- Machine/Ops.lean -/

@[simp] theorem setObj_frame (s : State) (idx sub : Nat) (v : Octets) :
    frame (setObj s idx sub v) = frame s := by
  unfold setObj
  simp

@[simp] theorem setObjN_frame (s : State) (idx sub w n : Nat) :
    frame (setObjN s idx sub w n) = frame s := by
  unfold setObjN
  simp

@[simp] theorem drewFree_frame (s : State) :
    frame (drewFree s) = frame s := by
  unfold drewFree
  simp

@[simp] theorem drewTrng_frame (s : State) :
    frame (drewTrng s) = frame s := by
  unfold drewTrng
  simp

@[simp] theorem emit_frame (s : State) (o : Out) (h : ¬ aerial o = true) :
    frame (emit s o) = frame s := by
  simp only [Bool.not_eq_true] at h
  simp [emit, frame, aerialLog, h]

@[simp] theorem putEvent_frame (s : State) (rc : Recorder) (code sev island inst count a0 a1 a2 : Nat) :
    frame (putEvent s rc code sev island inst count a0 a1 a2) = frame s := by
  unfold putEvent
  simp

@[simp] theorem repeatRecord_frame (s : State) (r : EvtRecord) (count : Nat) :
    frame (repeatRecord s r count) = frame s := by
  unfold repeatRecord
  simp

@[simp] theorem refuseRecord_frame (s : State) (rc : Recorder) :
    frame (refuseRecord s rc) = frame s := by
  simp only [refuseRecord]
  (repeat' split) <;> simp [*]

@[simp] theorem newRecord_frame (s : State) (code sev island inst count a0 a1 a2 : Nat) :
    frame (newRecord s code sev island inst count a0 a1 a2) = frame s := by
  unfold newRecord
  simp

@[simp] theorem recordFrom_frame (s : State) (code sev island inst a0 a1 a2 : Nat) :
    frame (recordFrom s code sev island inst a0 a1 a2) = frame s := by
  simp only [recordFrom]
  (repeat' split) <;> simp [*]

@[simp] theorem record_frame (s : State) (code a0 a1 a2 : Nat) :
    frame (record s code a0 a1 a2) = frame s := by
  unfold record
  simp

@[simp] theorem countBy_frame (s : State) (idx sub word n : Nat) :
    frame (countBy s idx sub word n) = frame s := by
  unfold countBy
  simp

@[simp] theorem count_frame (s : State) (idx sub word : Nat) :
    frame (count s idx sub word) = frame s := by
  unfold count
  simp

@[simp] theorem clearCounters_frame (s : State) (idx : Nat) :
    frame (clearCounters s idx) = frame s := by
  unfold clearCounters
  simp

@[simp] theorem setCause_frame (s : State) (bit : Nat) (on : Bool) :
    frame (setCause s bit on) = frame s := by
  unfold setCause
  simp

@[simp] theorem setViews_frame (s : State) (who : Caller) (v : Views) :
    frame (setViews s who v) = frame s := by
  unfold setViews
  (repeat' split) <;> simp [*]

@[simp] theorem setCursor_frame (s : State) (who : Caller) (idx : Nat) (v : Octets) :
    frame (setCursor s who idx v) = frame s := by
  unfold setCursor
  simp

@[simp] theorem setWindow_frame (s : State) (who : Caller) (idx : Nat) (v : Octets) :
    frame (setWindow s who idx v) = frame s := by
  unfold setWindow
  simp

@[simp] theorem setStatus_frame (s : State) (who : Caller) (st : Nat) :
    frame (setStatus s who st) = frame s := by
  unfold setStatus
  simp

@[simp] theorem journalIn_frame (s : State) (asn flags : Nat) (body : JournalBody) :
    frame (journalIn s asn flags body) = frame s := by
  unfold journalIn
  simp

@[simp] theorem journal_frame (s : State) (flags : Nat) (body : JournalBody) :
    frame (journal s flags body) = frame s := by
  unfold journal
  simp

@[simp] theorem drawWords_frame (s : State) (consumer n : Nat) :
    frame (drawWords s consumer n).2 = frame s := by
  unfold drawWords
  (repeat' split) <;> simp [*]

theorem drawWords_step {s : State} {consumer n : Nat} {res : List Nat × State}
    (h : drawWords s consumer n = res) : frame res.2 = frame s := by
  subst h; simp

@[simp] theorem journalWrite_frame (s : State) (who : Caller) (idx sub : Nat) (value : Octets) :
    frame (journalWrite s who idx sub value) = frame s := by
  unfold journalWrite
  (repeat' split) <;> simp [*]

@[simp] theorem command_frame (s : State) (who : Caller) (idx sub : Nat) (v : Octets) (rule : State → Nat)
    (act : State → State) (h : ∀ t, frame (act t) = frame t) : frame (command s who idx sub v rule act) = frame s := by
  unfold command
  dsimp only
  split
  · rfl
  · rw [frame_ite]
    split <;> simp [h]

/- Machine/Scheduler.lean -/

@[simp] theorem updThread_frame (s : State) (tid : Nat) (f : Thread → Thread) :
    frame (updThread s tid f) = frame s := by
  unfold updThread
  simp

@[simp] theorem setReadyList_frame (s : State) (p : Nat) (l : List Nat) :
    frame (setReadyList s p l) = frame s := by
  unfold setReadyList
  simp

@[simp] theorem refillSlots_frame (s : State) :
    frame (refillSlots s) = frame s := by
  unfold refillSlots
  simp

@[simp] theorem traceRec_frame (s : State) (kind core sources tidOut tidIn : Nat) (fast : Bool) :
    frame (traceRec s kind core sources tidOut tidIn fast) = frame s := by
  unfold traceRec
  simp

@[simp] theorem accountCore_frame (s : State) (core : Nat) :
    frame (accountCore s core) = frame s := by
  unfold accountCore
  simp

@[simp] theorem accountAll_frame (s : State) :
    frame (accountAll s) = frame s := by
  unfold accountAll
  simp [frame_foldl]

@[simp] theorem noteDispatch_frame (s : State) (core wait : Nat) (preempt : Bool) :
    frame (noteDispatch s core wait preempt) = frame s := by
  unfold noteDispatch
  simp

@[simp] theorem unlist_frame (s : State) (tid : Nat) :
    frame (unlist s tid) = frame s := by
  unfold unlist
  simp

@[simp] theorem readyTail_frame (s : State) (tid : Nat) :
    frame (readyTail s tid) = frame s := by
  unfold readyTail
  simp

@[simp] theorem readyHead_frame (s : State) (tid : Nat) :
    frame (readyHead s tid) = frame s := by
  unfold readyHead
  simp

@[simp] theorem leaveCore_frame (s : State) (core : Nat) :
    frame (leaveCore s core) = frame s := by
  simp only [leaveCore]
  (repeat' split) <;> simp [*]

@[simp] theorem ptraceRec_frame (s : State) (kind engine tid source target : Nat) :
    frame (ptraceRec s kind engine tid source target) = frame s := by
  unfold ptraceRec
  simp

@[simp] theorem haltHart_frame (s : State) (hart tid : Nat) :
    frame (haltHart s hart tid) = frame s := by
  unfold haltHart
  simp

@[simp] theorem haltAtDispatch_frame (s : State) (core : Nat) :
    frame (haltAtDispatch s core) = frame s := by
  unfold haltAtDispatch
  simp

@[simp] theorem takeNext_frame (s : State) (core kind tidOut : Nat) :
    frame (takeNext s core kind tidOut) = frame s := by
  simp only [takeNext]
  (repeat' split) <;> simp [*]

@[simp] theorem preemptCore_frame (s : State) (core : Nat) :
    frame (preemptCore s core) = frame s := by
  unfold preemptCore
  (repeat' split) <;> simp [*]

theorem settleStep_step {s t : State} (h : settleStep s = some t) : frame t = frame s := by
  unfold settleStep at h
  split at h
  · simp only [Option.map_eq_some_iff] at h
    obtain ⟨c, _, rfl⟩ := h
    simp
  · cases h

@[simp] theorem settleGo_frame (n : Nat) (s : State) : frame (settleGo n s) = frame s := by
  induction n generalizing s with
  | zero => rfl
  | succ n ih =>
    simp only [settleGo]
    split
    · rename_i t h
      rw [ih, settleStep_step h]
    · rfl

@[simp] theorem settle_frame (s : State) :
    frame (settle s) = frame s := by
  unfold settle
  simp

@[simp] theorem raiseNow_frame (s : State) (tid src : Nat) :
    frame (raiseNow s tid src) = frame s := by
  unfold raiseNow
  (repeat' split) <;> simp [*]

@[simp] theorem raiseSource_frame (s : State) (tid src : Nat) :
    frame (raiseSource s tid src) = frame s := by
  unfold raiseSource
  simp

@[simp] theorem releaseDeferred_frame (s : State) :
    frame (releaseDeferred s) = frame s := by
  unfold releaseDeferred
  simp [frame_foldl]

@[simp] theorem raiseAll_frame (s : State) (src : Nat) :
    frame (raiseAll s src) = frame s := by
  unfold raiseAll
  simp [frame_foldl]

/- Machine/Shaper.lean -/

@[simp] theorem updShaper_frame (s : State) (n : Nat) (f : Shaper → Shaper) :
    frame (updShaper s n f) = frame s := by
  unfold updShaper
  simp

@[simp] theorem returnCharge_frame (s : State) (bs : Nat) :
    frame (returnCharge s bs) = frame s := by
  unfold returnCharge
  (repeat' split) <;> simp [*]

@[simp] theorem keepCharge_frame (s : State) (bs : Nat) :
    frame (keepCharge s bs) = frame s := by
  unfold keepCharge
  simp

/- Machine/Coex.lean -/

@[simp] theorem driveCoex_frame (s : State) (ch : Nat) :
    frame (driveCoex s ch) = frame s := by
  unfold driveCoex
  simp

@[simp] theorem raiseReq_frame (s : State) (bs cls : Nat) :
    frame (raiseReq s bs cls) = frame s := by
  unfold raiseReq
  (repeat' split) <;> simp [*]

@[simp] theorem dropReq_frame (s : State) (bs : Nat) :
    frame (dropReq s bs) = frame s := by
  unfold dropReq
  simp
  (repeat' split) <;> simp [*]

/- Machine/Ranges.lean -/

@[simp] theorem endRange_frame (s : State) (handle status : Nat) :
    frame (endRange s handle status) = frame s := by
  unfold endRange
  (repeat' split) <;> simp [*]

@[simp] theorem abandonRanges_frame (s : State) (which : Nat → Bool) :
    frame (abandonRanges s which) = frame s := by
  unfold abandonRanges
  simp [frame_foldl]

@[simp] theorem finishRange_frame (s : State) (handle : Nat) (r : RangeRun) :
    frame (finishRange s handle r) = frame s := by
  simp only [finishRange]
  (repeat' split) <;> simp [*]

/- Machine/Role.lean -/

@[simp] theorem updChain_frame (s : State) (bs : Nat) (f : TxChain → TxChain) :
    frame (updChain s bs f) = frame s := by
  unfold updChain
  simp

@[simp] theorem updPacket_frame (s : State) (p : Nat) (f : QPacket → QPacket) :
    frame (updPacket s p f) = frame s := by
  unfold updPacket
  simp

@[simp] theorem unreserve_frame (s : State) (account amount : Nat) :
    frame (unreserve s account amount) = frame s := by
  unfold unreserve
  simp

@[simp] theorem dropPlan_frame (s : State) (bs : Nat) :
    frame (dropPlan s bs) = frame s := by
  unfold dropPlan
  (repeat' split) <;> simp [*]

@[simp] theorem cutChain_frame (s : State) (bs : Nat) :
    frame (cutChain s bs) = frame s := by
  unfold cutChain
  (repeat' split) <;> simp [*]

@[simp] theorem silence_frame (s : State) :
    frame (silence s) = frame s := by
  unfold silence
  simp [frame_foldl]

@[simp] theorem updPort_frame (s : State) (p : Nat) (f : SettPort → SettPort) :
    frame (updPort s p f) = frame s := by
  unfold updPort
  simp

@[simp] theorem endSession_frame (s : State) (cause sid : Nat) :
    frame (endSession s cause sid) = frame s := by
  unfold endSession
  (repeat' split) <;> simp [*]

@[simp] theorem endSessions_frame (s : State) (cause : Nat) :
    frame (endSessions s cause) = frame s := by
  unfold endSessions
  simp [frame_foldl]

@[simp] theorem endTrace_frame (s : State) :
    frame (endTrace s) = frame s := by
  unfold endTrace
  simp

@[simp] theorem lockDebug_frame (s : State) (cause : Nat) :
    frame (lockDebug s cause) = frame s := by
  unfold lockDebug
  simp

@[simp] theorem tamperLog_frame (s : State) (sources action : Nat) :
    frame (tamperLog s sources action) = frame s := by
  unfold tamperLog
  simp

@[simp] theorem clearKek_frame (s : State) :
    frame (clearKek s) = frame s := by
  unfold clearKek
  simp

@[simp] theorem abortJob_frame (s : State) (k : Nat) (j : CipherJob) :
    frame (abortJob s k j) = frame s := by
  unfold abortJob
  simp

@[simp] theorem clearEngines_frame (s : State) :
    frame (clearEngines s) = frame s := by
  unfold clearEngines
  simp [frame_foldl]

@[simp] theorem leaveRecovery_frame (s : State) :
    frame (leaveRecovery s) = frame s := by
  unfold leaveRecovery
  (repeat' split) <;> simp [*]

@[simp] theorem noteUnlock_frame (s : State) :
    frame (noteUnlock s) = frame s := by
  unfold noteUnlock
  simp

/- Machine/Operands.lean -/

@[simp] theorem setCell_frame (s : State) (i : Nat) (c : Cell) :
    frame (setCell s i c) = frame s := by
  unfold setCell
  simp

@[simp] theorem updNode_frame (s : State) (i : Nat) (f : Node → Node) :
    frame (updNode s i f) = frame s := by
  unfold updNode
  simp

/- Machine/KeyCache.lean -/

@[simp] theorem dropRegisters_frame (s : State) (gone : Nat → Bool) :
    frame (dropRegisters s gone) = frame s := by
  unfold dropRegisters
  simp

@[simp] theorem stampNow_frame (s : State) :
    frame (stampNow s) = frame s := by
  unfold stampNow
  simp

theorem cachePlace_step {s t : State} {e : Nat} (h : cachePlace s = some (e, t)) : frame t = frame s := by
  unfold cachePlace at h
  split at h
  · cases h; rfl
  · simp only [Option.map_eq_some_iff, Prod.mk.injEq] at h
    obtain ⟨v, _, _, rfl⟩ := h
    simp

@[simp] theorem cacheRoom_frame (s : State) :
    frame (cacheRoom s) = frame s := by
  unfold cacheRoom
  simp
  (repeat' split) <;> simp [*]

@[simp] theorem putCache_frame (s : State) (e : Nat) (x : CacheEntry) :
    frame (putCache s e x) = frame s := by
  unfold putCache
  simp

@[simp] theorem resolveRef_frame (s : State) (r : Octets) :
    frame (resolveRef s r).1 = frame s := by
  simp only [resolveRef]
  (repeat' split) <;>
    first
    | (simp; done)
    | (simp [*]; done)
    | (simp [cachePlace_step (by assumption : cachePlace _ = _)]; done)
    | (simp [*, cachePlace_step (by assumption : cachePlace _ = _)]; done)
    | (simp [frame_foldl]; done)
    | (simp [*, frame_foldl]; done)
    | (simp [frame_foldl, cachePlace_step (by assumption : cachePlace _ = _)]; done)
    | (simp [*, frame_foldl, cachePlace_step (by assumption : cachePlace _ = _)]; done)

theorem resolveRef_step {s : State} {r : Octets} {res : State × Option Nat}
    (h : resolveRef s r = res) : frame res.1 = frame s := by
  subst h; simp

@[simp] theorem fillRef_frame (s : State) (r : Octets) :
    frame (fillRef s r) = frame s := by
  unfold fillRef
  (repeat' split) <;>
    first
    | (simp; done)
    | (simp [*]; done)
    | (simp [resolveRef_step (by assumption : resolveRef _ _ = _)]; done)
    | (simp [*, resolveRef_step (by assumption : resolveRef _ _ = _)]; done)
    | (simp [frame_foldl]; done)
    | (simp [*, frame_foldl]; done)
    | (simp [frame_foldl, resolveRef_step (by assumption : resolveRef _ _ = _)]; done)
    | (simp [*, frame_foldl, resolveRef_step (by assumption : resolveRef _ _ = _)]; done)

@[simp] theorem fillChain_frame (s : State) (r : Octets) :
    frame (fillChain s r) = frame s := by
  unfold fillChain
  simp [frame_foldl]

@[simp] theorem fillOwn_frame (s : State) :
    frame (fillOwn s) = frame s := by
  unfold fillOwn
  simp [frame_foldl]

@[simp] theorem flushCache_frame (s : State) (cause chip : Nat) (which : CacheEntry → Bool) :
    frame (flushCache s cause chip which) = frame s := by
  unfold flushCache
  simp

@[simp] theorem flushPeer_frame (s : State) (chip : Nat) (eui : Octets) :
    frame (flushPeer s chip eui) = frame s := by
  unfold flushPeer
  simp

@[simp] theorem loadHandle_frame (s : State) (h : Nat) :
    frame (loadHandle s h).1 = frame s := by
  unfold loadHandle
  (repeat' split) <;> simp [*]

theorem loadHandle_step {s : State} {h : Nat} {res : State × Option (Nat × Octets)}
    (h : loadHandle s h = res) : frame res.1 = frame s := by
  subst h; simp

@[simp] theorem updEngine_frame (s : State) (e : Nat) (f : Engine → Engine) :
    frame (updEngine s e f) = frame s := by
  unfold updEngine
  simp

@[simp] theorem countC_frame (s : State) (e word : Nat) :
    frame (countC s e word) = frame s := by
  unfold countC
  simp

@[simp] theorem registerKey_frame (s : State) (e h : Nat) :
    frame (registerKey s e h).1 = frame s := by
  simp only [registerKey]
  (repeat' split) <;>
    first
    | (simp; done)
    | (simp [*]; done)
    | (simp [loadHandle_step (by assumption : loadHandle _ _ = _)]; done)
    | (simp [*, loadHandle_step (by assumption : loadHandle _ _ = _)]; done)
    | (simp [frame_foldl]; done)
    | (simp [*, frame_foldl]; done)
    | (simp [frame_foldl, loadHandle_step (by assumption : loadHandle _ _ = _)]; done)
    | (simp [*, frame_foldl, loadHandle_step (by assumption : loadHandle _ _ = _)]; done)

theorem registerKey_step {s : State} {e h : Nat} {res : State × Option KeyRegister}
    (h : registerKey s e h = res) : frame res.1 = frame s := by
  subst h; simp

/- Machine/Keys.lean -/

@[simp] theorem setKeyStatus_frame (s : State) (st : Nat) :
    frame (setKeyStatus s st) = frame s := by
  unfold setKeyStatus
  simp

@[simp] theorem countK_frame (s : State) (word : Nat) :
    frame (countK s word) = frame s := by
  unfold countK
  simp

@[simp] theorem kuRefused_frame (s : State) (m : Octets) (st : Nat) :
    frame (kuRefused s m st) = frame s := by
  unfold kuRefused
  simp

@[simp] theorem writeShadow_frame (s : State) (m : Octets) :
    frame (writeShadow s m) = frame s := by
  unfold writeShadow
  (repeat' split) <;> simp [*]

@[simp] theorem kuAccept_frame (s : State) (who : Caller) (m : Octets) :
    frame (kuAccept s who m) = frame s := by
  unfold kuAccept
  simp

@[simp] theorem kuProcess_frame (s : State) (who : Caller) (m : Octets) :
    frame (kuProcess s who m) = frame s := by
  unfold kuProcess
  (repeat' split) <;> simp [*]

@[simp] theorem kmNext_frame (n : Nat) (s : State) : frame (kmNext n s) = frame s := by
  induction n generalizing s with
  | zero => rfl
  | succ n ih =>
    simp only [kmNext]
    (repeat' split) <;> simp [ih]

@[simp] theorem kuArrive_frame (s : State) (who : Caller) (m : Octets) :
    frame (kuArrive s who m) = frame s := by
  unfold kuArrive
  simp

theorem execKeyUpdate_frame (who : Caller) (message : Octets) (s : State) :
    Stays (execKeyUpdate who message s) s := by
  unfold execKeyUpdate
  simp

@[simp] theorem endRoleSessions_frame (s : State) (slot : Nat) :
    frame (endRoleSessions s slot) = frame s := by
  unfold endRoleSessions
  simp [frame_foldl]

theorem execKeyUpdatePartnerTimeout_frame (slot : Nat) (s : State) :
    Stays (execKeyUpdatePartnerTimeout slot s) s := by
  unfold execKeyUpdatePartnerTimeout
  (repeat' split) <;> simp [*]

@[simp] theorem partnerAccepted_frame (s : State) (slot counter : Nat) :
    frame (partnerAccepted s slot counter) = frame s := by
  unfold partnerAccepted
  simp

@[simp] theorem seedApply_frame (v : Nat) (s : State) :
    frame (seedApply v s) = frame s := by
  unfold seedApply
  simp

theorem execSeedModeWrite_frame (who : Caller) (value : Nat) (s : State) :
    Stays (execSeedModeWrite who value s) s := by
  unfold execSeedModeWrite
  simp

/- Machine/Listen.lean -/

@[simp] theorem updLane_frame (s : State) (n : Nat) (f : Lane → Lane) :
    frame (updLane s n f) = frame s := by
  unfold updLane
  simp

@[simp] theorem rebuildListen_frame (s : State) (bs : Nat) :
    frame (rebuildListen s bs) = frame s := by
  unfold rebuildListen
  simp

@[simp] theorem countRx_frame (s : State) (bs word : Nat) :
    frame (countRx s bs word) = frame s := by
  unfold countRx
  simp

@[simp] theorem releaseLane_frame (s : State) (n : Nat) :
    frame (releaseLane s n) = frame s := by
  unfold releaseLane
  simp

@[simp] theorem abortOwnTx_frame (s : State) (bs cls : Nat) :
    frame (abortOwnTx s bs cls) = frame s := by
  unfold abortOwnTx
  simp [frame_foldl]

@[simp] theorem setBlanked_frame (s : State) (l : List Nat) :
    frame (setBlanked s l) = frame s := by
  unfold setBlanked
  simp

/- Machine/Service.lean -/

@[simp] theorem oweCell_frame (s : State) (c : Cell) (delete : Bool) :
    frame (oweCell s c delete) = frame s := by
  unfold oweCell
  (repeat' split) <;> simp [*]

@[simp] theorem oweChange_frame (s : State) (old new : Cell) :
    frame (oweChange s old new) = frame s := by
  unfold oweChange
  simp

@[simp] theorem migrateCell_frame (s : State) (i : Nat) :
    frame (migrateCell s i) = frame s := by
  simp only [migrateCell]
  (repeat' split) <;> simp [*]

@[simp] theorem migrate_frame (s : State) (bs : Nat) :
    frame (migrate s bs) = frame s := by
  unfold migrate
  simp [frame_foldl]

@[simp] theorem restoreCells_frame (s : State) (bs : Nat) :
    frame (restoreCells s bs) = frame s := by
  unfold restoreCells
  simp

@[simp] theorem serviceCause_frame (s : State) :
    frame (serviceCause s) = frame s := by
  unfold serviceCause
  simp

@[simp] theorem refreshService_frame (s : State) (bs : Nat) :
    frame (refreshService s bs) = frame s := by
  unfold refreshService
  simp

/- Machine/Schedule.lean -/

@[simp] theorem schedStatus_frame (s : State) (code : Nat) :
    frame (schedStatus s code) = frame s := by
  unfold schedStatus
  simp

@[simp] theorem schedAccepted_frame (s : State) (b : Nat) :
    frame (schedAccepted s b) = frame s := by
  unfold schedAccepted
  simp

@[simp] theorem putCells_frame (s : State) (i : Nat) (l : List Cell) :
    frame (putCells s i l) = frame s := by
  unfold putCells
  simp [frame_foldl]

@[simp] theorem placeCell_frame (s : State) (i : Nat) :
    frame (placeCell s i) = frame s := by
  unfold placeCell
  simp

@[simp] theorem applyCells_frame (s : State) (i : Nat) (l : List Cell) :
    frame (applyCells s i l) = frame s := by
  unfold applyCells
  simp [frame_foldl]

@[simp] theorem cellWriteApply_frame (s : State) :
    frame (cellWriteApply s) = frame s := by
  simp only [cellWriteApply]
  (repeat' split) <;> simp [*]

theorem execSchedCellWrite_frame (who : Caller) (s : State) :
    Stays (execSchedCellWrite who s) s := by
  unfold execSchedCellWrite
  simp

@[simp] theorem cellReadApply_frame (s : State) :
    frame (cellReadApply s) = frame s := by
  unfold cellReadApply
  simp

theorem execSchedCellRead_frame (who : Caller) (s : State) :
    Stays (execSchedCellRead who s) s := by
  unfold execSchedCellRead
  simp

@[simp] theorem cellClearApply_frame (s : State) :
    frame (cellClearApply s) = frame s := by
  unfold cellClearApply
  simp

theorem execSchedCellClear_frame (who : Caller) (s : State) :
    Stays (execSchedCellClear who s) s := by
  unfold execSchedCellClear
  simp

@[simp] theorem cellBlockApply_frame (v : Octets) (s : State) :
    frame (cellBlockApply v s) = frame s := by
  unfold cellBlockApply
  simp

theorem execSchedCellBlockWrite_frame (who : Caller) (block : Octets) (s : State) :
    Stays (execSchedCellBlockWrite who block s) s := by
  unfold execSchedCellBlockWrite
  simp

@[simp] theorem lengthChange_frame (s : State) (h : Nat) (value : Octets) :
    frame (lengthChange s h value) = frame s := by
  unfold lengthChange
  simp

@[simp] theorem tableApply_frame (index sub : Nat) (value : Octets) (s : State) :
    frame (tableApply index sub value s) = frame s := by
  unfold tableApply
  simp

theorem execScheduleTableWrite_frame (who : Caller) (index sub : Nat) (value : Octets) (s : State) :
    Stays (execScheduleTableWrite who index sub value s) s := by
  unfold execScheduleTableWrite
  (repeat' split) <;> simp [*]

@[simp] theorem sectorServiceApply_frame (bandSector : Nat) (value : Octets) (s : State) :
    frame (sectorServiceApply bandSector value s) = frame s := by
  unfold sectorServiceApply
  simp

theorem execSectorServiceWrite_frame (who : Caller) (bandSector value : Nat) (s : State) :
    Stays (execSectorServiceWrite who bandSector value s) s := by
  unfold execSectorServiceWrite
  simp

theorem execSchedCountersClear_frame (who : Caller) (s : State) :
    Stays (execSchedCountersClear who s) s := by
  unfold execSchedCountersClear
  simp

/- Machine/Queue.lean -/

@[simp] theorem countQ_frame (s : State) (port word : Nat) :
    frame (countQ s port word) = frame s := by
  unfold countQ
  simp

@[simp] theorem newPacket_frame (s : State) (p : QPacket) :
    frame (newPacket s p) = frame s := by
  unfold newPacket
  simp

@[simp] theorem updActive_frame (s : State) (i : Nat) :
    frame (updActive s i) = frame s := by
  simp only [updActive]
  (repeat' split) <;> simp [*]

@[simp] theorem setNodeQueue_frame (s : State) (i : Nat) (l : List Nat) :
    frame (setNodeQueue s i l) = frame s := by
  unfold setNodeQueue
  simp

@[simp] theorem setClassQueue_frame (s : State) (port cls : Nat) (l : List Nat) :
    frame (setClassQueue s port cls l) = frame s := by
  unfold setClassQueue
  simp

@[simp] theorem removePacket_frame (s : State) (k : Nat) :
    frame (removePacket s k) = frame s := by
  unfold removePacket
  (repeat' split) <;> simp [*]

@[simp] theorem frameAdmitted_frame (s : State) (i : Nat) :
    frame (frameAdmitted s i) = frame s := by
  unfold frameAdmitted
  (repeat' split) <;> simp [*]

@[simp] theorem settleFrame_frame (s : State) (i : Nat) :
    frame (settleFrame s i) = frame s := by
  unfold settleFrame
  simp

@[simp] theorem linkPacket_frame (s : State) (k : Nat) :
    frame (linkPacket s k) = frame s := by
  unfold linkPacket
  (repeat' split) <;> simp [*]

@[simp] theorem consult_frame (s : State) (port : Nat) (p : QPacket) (lc : Nat) :
    frame (consult s port p lc).2 = frame s := by
  unfold consult
  (repeat' split) <;> simp [*]

theorem consult_step {s : State} {port : Nat} {p : QPacket} {lc : Nat} {res : Colour × State}
    (h : consult s port p lc = res) : frame res.2 = frame s := by
  subst h; simp

@[simp] theorem chargeFrame_frame (s : State) (port : Nat) (p : QPacket) (lc : Nat) (c : Colour) :
    frame (chargeFrame s port p lc c) = frame s := by
  unfold chargeFrame
  (repeat' split) <;> simp [*]

@[simp] theorem dropExpired_frame (s : State) (l : List Nat) : frame (dropExpired s l) = frame s := by
  induction l generalizing s with
  | nil => rfl
  | cons k l ih =>
    simp only [dropExpired]
    (repeat' split) <;> simp [ih]

@[simp] theorem freshNodeQueue_frame (s : State) (i : Nat) :
    frame (freshNodeQueue s i) = frame s := by
  unfold freshNodeQueue
  simp

@[simp] theorem flushPacket_frame (s : State) (k : Nat) :
    frame (flushPacket s k) = frame s := by
  unfold flushPacket
  (repeat' split) <;> simp [*]

@[simp] theorem flushAll_frame (s : State) (l : List Nat) :
    frame (flushAll s l) = frame s := by
  unfold flushAll
  simp [frame_foldl]

/- Machine/Table.lean -/

@[simp] theorem countF_frame (s : State) (word : Nat) :
    frame (countF s word) = frame s := by
  unfold countF
  simp

@[simp] theorem setEntry_frame (s : State) (loc : Nat) (e : Option HostEntry) :
    frame (setEntry s loc e) = frame s := by
  unfold setEntry
  simp

@[simp] theorem pushSteps_frame (s : State) (l : List TableStep) :
    frame (pushSteps s l) = frame s := by
  unfold pushSteps
  simp

@[simp] theorem queueStep_frame (s : State) (t : TableStep) :
    frame (queueStep s t) = frame s := by
  unfold queueStep
  simp

@[simp] theorem finishTable_frame (s : State) (status loc : Nat) :
    frame (finishTable s status loc) = frame s := by
  unfold finishTable
  simp

@[simp] theorem expandInsert_frame (s : State) (e : HostEntry) (register : Bool) :
    frame (expandInsert s e register) = frame s := by
  unfold expandInsert
  (repeat' split) <;> simp [*]

@[simp] theorem startInsert_frame (s : State) (e : HostEntry) (register : Bool) :
    frame (startInsert s e register) = frame s := by
  unfold startInsert
  simp

@[simp] theorem setHit_frame (s : State) (loc : Nat) :
    frame (setHit s loc) = frame s := by
  unfold setHit
  (repeat' split) <;> simp [*]

@[simp] theorem applyHits_frame (s : State) (bucket : Nat) :
    frame (applyHits s bucket) = frame s := by
  unfold applyHits
  simp [frame_foldl]

@[simp] theorem hitAt_frame (s : State) (loc : Nat) :
    frame (hitAt s loc) = frame s := by
  unfold hitAt
  simp

@[simp] theorem removeAt_frame (s : State) (loc : Nat) :
    frame (removeAt s loc) = frame s := by
  unfold removeAt
  simp

@[simp] theorem sweepEntry_frame (s : State) (loc : Nat) :
    frame (sweepEntry s loc) = frame s := by
  unfold sweepEntry
  (repeat' split) <;> simp [*]

@[simp] theorem sweepBucket_frame (s : State) (b : Nat) :
    frame (sweepBucket s b) = frame s := by
  unfold sweepBucket
  simp [frame_foldl]

@[simp] theorem endStep_frame (register : Bool) (s : State) (status loc : Nat) :
    frame (endStep register s status loc) = frame s := by
  unfold endStep
  simp

@[simp] theorem runStep_frame (s : State) (t : TableStep) : frame (runStep s t) = frame s := by
  cases t <;> simp only [runStep] <;> (repeat' split) <;> simp

/- Machine/BitLoad.lean -/

@[simp] theorem updBl_frame (s : State) (h b : Nat) (f : BlLink → BlLink) :
    frame (updBl s h b f) = frame s := by
  unfold updBl
  simp

@[simp] theorem countModem_frame (s : State) (bs word : Nat) :
    frame (countModem s bs word) = frame s := by
  unfold countModem
  simp

@[simp] theorem blFull_frame (s : State) (h b : Nat) :
    frame (blFull s h b) = frame s := by
  unfold blFull
  simp

@[simp] theorem receiveTrailer_frame (s : State) (h b mode : Nat) (trailer : Octets) :
    frame (receiveTrailer s h b mode trailer) = frame s := by
  unfold receiveTrailer
  simp

@[simp] theorem offerMap_frame (s : State) (h b : Nat) (m : BlMap) :
    frame (offerMap s h b m) = frame s := by
  unfold offerMap
  simp

@[simp] theorem recompute_frame (s : State) (h b : Nat) :
    frame (recompute s h b) = frame s := by
  simp only [recompute]
  (repeat' split) <;> simp [*]

@[simp] theorem dropLink_frame (s : State) (h b : Nat) :
    frame (dropLink s h b) = frame s := by
  unfold dropLink
  simp

@[simp] theorem dropLinks_frame (s : State) (h : Nat) :
    frame (dropLinks s h) = frame s := by
  unfold dropLinks
  simp

@[simp] theorem oweMapAck_frame (s : State) (h b octet : Nat) (ackRequested : Bool) :
    frame (oweMapAck s h b octet ackRequested) = frame s := by
  unfold oweMapAck
  simp

@[simp] theorem userActivate_frame (s : State) (h b asn : Nat) :
    frame (userActivate s h b asn) = frame s := by
  unfold userActivate
  (repeat' split) <;> simp [*]

@[simp] theorem blUnacked_frame (s : State) (h b bs : Nat) :
    frame (blUnacked s h b bs) = frame s := by
  simp only [blUnacked]
  (repeat' split) <;> simp [*]

/- Machine/Forward.lean -/

@[simp] theorem learnRequest_frame (s : State) (sub : Nat) (r : LearnRequest) :
    frame (learnRequest s sub r) = frame s := by
  unfold learnRequest
  simp

@[simp] theorem learnFrom_frame (s : State) (p : Packet) (key : Octets) :
    frame (learnFrom s p key) = frame s := by
  unfold learnFrom
  (repeat' split) <;> simp [*]

@[simp] theorem sourceLookup_frame (s : State) (p : Packet) :
    frame (sourceLookup s p) = frame s := by
  simp only [sourceLookup]
  (repeat' split) <;> simp [*]

@[simp] theorem countLookup_frame (s : State) :
    frame (countLookup s) = frame s := by
  unfold countLookup
  simp

@[simp] theorem resolve_frame (s : State) (p : Packet) :
    frame (resolve s p).2 = frame s := by
  simp only [resolve]
  (repeat' split) <;> simp [*]

theorem resolve_step {s : State} {p : Packet} {res : Egress × State}
    (h : resolve s p = res) : frame res.2 = frame s := by
  subst h; simp

@[simp] theorem enqueue_frame (s : State) (p : Packet) (classQ : Bool) (target cls : Nat) (mac data : Octets) (ack : Bool) :
    frame (enqueue s p classQ target cls mac data ack) = frame s := by
  unfold enqueue
  simp

@[simp] theorem enqueueAir_frame (s : State) (p : Packet) (classQ : Bool) (target cls room : Nat) (data : Octets) (ack : Bool) :
    frame (enqueueAir s p classQ target cls room data ack) = frame s := by
  unfold enqueueAir
  simp [frame_foldl]

@[simp] theorem icmpAllowed_frame (s : State) :
    frame (icmpAllowed s).2 = frame s := by
  simp only [icmpAllowed]
  (repeat' split) <;> simp [*]

theorem icmpAllowed_step {s : State} {res : Bool × State}
    (h : icmpAllowed s = res) : frame res.2 = frame s := by
  subst h; simp

@[simp] theorem forwardGo_frame (n : Nat) (s : State) (p : Packet) : frame (forwardGo n s p) = frame s := by
  induction n generalizing s p with
  | zero => rfl
  | succ n ih =>
    simp only [forwardGo]
    (repeat' split) <;>
      first
      | (simp; done)
      | (simp [ih, icmpAllowed_step (by assumption : icmpAllowed _ = _), resolve_step (by assumption : resolve _ _ = _)]; done)
      | (simp [ih, icmpAllowed_step (by assumption : icmpAllowed _ = _)]; done)
      | (simp [ih]; done)

@[simp] theorem forward_frame (s : State) (p : Packet) :
    frame (forward s p) = frame s := by
  unfold forward
  simp

@[simp] theorem dropReasm_frame (s : State) (key handle : Nat) :
    frame (dropReasm s key handle) = frame s := by
  unfold dropReasm
  simp

@[simp] theorem reassemble_frame (s : State) (p : Packet) (tag size off : Nat) :
    frame (reassemble s p tag size off) = frame s := by
  unfold reassemble
  (repeat' split) <;> simp [*]

@[simp] theorem pipeline_frame (s : State) (p : Packet) :
    frame (pipeline s p) = frame s := by
  unfold pipeline
  (repeat' split) <;> simp [*]

/- Machine/Campaign.lean -/

@[simp] theorem updCampaign_frame (s : State) (k : Nat) (f : Campaign → Campaign) :
    frame (updCampaign s k f) = frame s := by
  unfold updCampaign
  simp

@[simp] theorem persistCampaign_frame (s : State) (k : Nat) :
    frame (persistCampaign s k) = frame s := by
  unfold persistCampaign
  simp

@[simp] theorem changeCampaign_frame (s : State) (k : Nat) (new : CampaignState) :
    frame (changeCampaign s k new) = frame s := by
  unfold changeCampaign
  simp

@[simp] theorem settleCampaign_frame (s : State) (k : Nat) :
    frame (settleCampaign s k) = frame s := by
  unfold settleCampaign
  simp

@[simp] theorem clearBits_frame (s : State) (i : Nat) :
    frame (clearBits s i) = frame s := by
  unfold clearBits
  simp [frame_foldl]

@[simp] theorem joinCampaigns_frame (s : State) (i : Nat) (eui : Octets) :
    frame (joinCampaigns s i eui) = frame s := by
  unfold joinCampaigns
  simp [frame_foldl]

end Sys2Proof.Laws
end

