-- ==== Sys2Proof/Laws/FrameLink.lean ====
section
/-! SUPPORT. The operations of these files of Machine leave the frame (Laws/Frame.lean) as it is: Link, Receive, Slot,
Modem, Exchange, Ceiling, Tuner, Mask, Tamper, SettLink, TimeSource, PeerMessage, Latch. -/

namespace Sys2Proof.Laws

open Sys2Proof.Machine

/- Machine/Link.lean -/

@[simp] theorem countL_frame (s : State) (bs word : Nat) :
    frame (countL s bs word) = frame s := by
  unfold countL
  simp

@[simp] theorem raiseFc_frame (s : State) (i : Nat) :
    frame (raiseFc s i) = frame s := by
  unfold raiseFc
  simp

@[simp] theorem reserveFc_frame (s : State) (i : Nat) :
    frame (reserveFc s i) = frame s := by
  simp only [reserveFc]
  (repeat' split) <;> simp [*]

@[simp] theorem useFc_frame (s : State) (i : Nat) :
    frame (useFc s i) = frame s := by
  unfold useFc
  simp

@[simp] theorem markExhausted_frame (s : State) (i : Nat) :
    frame (markExhausted s i) = frame s := by
  unfold markExhausted
  (repeat' split) <;> simp [*]

@[simp] theorem reserveNet_frame (s : State) :
    frame (reserveNet s) = frame s := by
  unfold reserveNet
  simp

@[simp] theorem useNet_frame (s : State) :
    frame (useNet s) = frame s := by
  unfold useNet
  simp

@[simp] theorem clearOwed_frame (s : State) (h b : Nat) :
    frame (clearOwed s h b) = frame s := by
  unfold clearOwed
  simp

@[simp] theorem clearPeerCells_frame (s : State) (h : Nat) :
    frame (clearPeerCells s h) = frame s := by
  unfold clearPeerCells
  simp

@[simp] theorem freeNode_frame (s : State) (i : Nat) :
    frame (freeNode s i) = frame s := by
  unfold freeNode
  simp

@[simp] theorem departureActions_frame (s : State) (i cause : Nat) :
    frame (departureActions s i cause) = frame s := by
  unfold departureActions
  (repeat' split) <;> simp [*]

@[simp] theorem drawBackoff_frame (s : State) (i be : Nat) :
    frame (drawBackoff s i be) = frame s := by
  unfold drawBackoff
  simp

@[simp] theorem resetBackoff_frame (s : State) (i : Nat) :
    frame (resetBackoff s i) = frame s := by
  unfold resetBackoff
  simp

@[simp] theorem frameGone_frame (s : State) (i : Nat) (p : TxPlan) :
    frame (frameGone s i p) = frame s := by
  unfold frameGone
  (repeat' split) <;> simp [*]

@[simp] theorem noteEtx_frame (s : State) (i : Nat) (acked : Bool) :
    frame (noteEtx s i acked) = frame s := by
  unfold noteEtx
  simp

@[simp] theorem retryHandling_frame (s : State) (i : Nat) (p : TxPlan) :
    frame (retryHandling s i p) = frame s := by
  unfold retryHandling
  (repeat' split) <;> simp [*]

@[simp] theorem endPlan_frame (s : State) (bs : Nat) :
    frame (endPlan s bs) = frame s := by
  unfold endPlan
  simp

@[simp] theorem unackedPlan_frame (s : State) (bs : Nat) (p : TxPlan) :
    frame (unackedPlan s bs p) = frame s := by
  unfold unackedPlan
  simp

@[simp] theorem completePlan_frame (s : State) (bs : Nat) (p : TxPlan) (nack : Bool) :
    frame (completePlan s bs p nack) = frame s := by
  simp only [completePlan]
  (repeat' split) <;> simp [*]

@[simp] theorem answerWithout_frame (s : State) (bs : Nat) (eui home : Octets) (fc status hopSeq : Nat) :
    frame (answerWithout s bs eui home fc status hopSeq) = frame s := by
  unfold answerWithout
  simp

@[simp] theorem queueToNode_frame (s : State) (i cls : Nat) (ack : Bool) (data : Octets) :
    frame (queueToNode s i cls ack data) = frame s := by
  unfold queueToNode
  simp

@[simp] theorem answerJoin_frame (s : State) (i status : Nat) :
    frame (answerJoin s i status) = frame s := by
  unfold answerJoin
  (repeat' split) <;> simp [*]

/- Machine/Receive.lean -/

@[simp] theorem assignLane_frame (s : State) (d : Detection) (cls : Nat) (cell : Option Nat) (n : Nat) :
    frame (assignLane s d cls cell n) = frame s := by
  unfold assignLane
  simp

@[simp] theorem refuseDetection_frame (s : State) (bs cls : Nat) :
    frame (refuseDetection s bs cls) = frame s := by
  unfold refuseDetection
  simp

@[simp] theorem exhausted_frame (s : State) (d : Detection) (cls : Nat) (cell : Option Nat) :
    frame (exhausted s d cls cell) = frame s := by
  unfold exhausted
  (repeat' split) <;> simp [*]

@[simp] theorem mergeDetection_frame (s : State) (d : Detection) (cls : Nat) (cell : Option Nat) (n : Nat) :
    frame (mergeDetection s d cls cell n) = frame s := by
  unfold mergeDetection
  simp

@[simp] theorem captureOrBlock_frame (s : State) (d : Detection) (cls : Nat) (cell : Option Nat) (n : Nat) :
    frame (captureOrBlock s d cls cell n) = frame s := by
  unfold captureOrBlock
  simp

theorem execCorrelatorDetection_frame (d : Detection) (s : State) :
    Stays (execCorrelatorDetection d s) s := by
  simp only [execCorrelatorDetection]
  (repeat' split) <;> simp [*]

theorem execLaneDetectionPoint_frame (lane : Nat) (rssi : Int) (s : State) :
    Stays (execLaneDetectionPoint lane rssi s) s := by
  unfold execLaneDetectionPoint
  (repeat' split) <;> simp [*]

theorem execDiversityWindowClose_frame (lane : Nat) (snrA snrB : Int) (s : State) :
    Stays (execDiversityWindowClose lane snrA snrB s) s := by
  simp only [execDiversityWindowClose]
  (repeat' split) <;> simp [*]

@[simp] theorem guardCheck_frame (s : State) (lane : Nat) :
    frame (guardCheck s lane) = frame s := by
  simp only [guardCheck]
  (repeat' split) <;> simp [*]

theorem execSfdFound_frame (lane arrivalNs sixteenths : Nat) (s : State) :
    Stays (execSfdFound lane arrivalNs sixteenths s) s := by
  unfold execSfdFound
  (repeat' split) <;> simp [*]

theorem execSfdTimeout_frame (lane : Nat) (s : State) :
    Stays (execSfdTimeout lane s) s := by
  simp only [execSfdTimeout]
  (repeat' split) <;> simp [*]

theorem execPhrCheck_frame (lane : Nat) (phr : PhrResult) (s : State) :
    Stays (execPhrCheck lane phr s) s := by
  simp only [execPhrCheck]
  (repeat' split) <;> simp [*]

@[simp] theorem countGood_frame (s : State) (l : Lane) (clippedLater : Bool) :
    frame (countGood s l clippedLater) = frame s := by
  unfold countGood
  simp

theorem execPayloadEnd_frame (lane : Nat) (crcGood : Bool) (psdu snrTrailer : Octets) (clippedLater : Bool) (s : State) :
    Stays (execPayloadEnd lane crcGood psdu snrTrailer clippedLater s) s := by
  simp only [execPayloadEnd]
  (repeat' split) <;> simp [*]

@[simp] theorem laneCause_frame (s : State) :
    frame (laneCause s) = frame s := by
  unfold laneCause
  simp

theorem execLaneTestTurn_frame (s : State) :
    Stays (execLaneTestTurn s) s := by
  simp only [execLaneTestTurn]
  (repeat' split) <;> simp [*]

@[simp] theorem countLaneFailure_frame (s : State) (l : Lane) :
    frame (countLaneFailure s l) = frame s := by
  unfold countLaneFailure
  simp

theorem execLaneTestResult_frame (lane failMask bitErrors : Nat) (s : State) :
    Stays (execLaneTestResult lane failMask bitErrors s) s := by
  simp only [execLaneTestResult]
  (repeat' split) <;> simp [*]

theorem execLaneHourlyRetest_frame (lane failMask : Nat) (s : State) :
    Stays (execLaneHourlyRetest lane failMask s) s := by
  simp only [execLaneHourlyRetest]
  (repeat' split) <;> simp [*]

@[simp] theorem announceChain_frame (s : State) (chain : Nat) (peak : Int) (clipped : Nat) :
    frame (announceChain s chain peak clipped) = frame s := by
  unfold announceChain
  simp

theorem execGainAnnounce_frame (bandSector : Nat) (peakA peakB : Int) (clippedA clippedB : Nat) (s : State) :
    Stays (execGainAnnounce bandSector peakA peakB clippedA clippedB s) s := by
  unfold execGainAnnounce
  (repeat' split) <;> simp [*]

@[simp] theorem commitGain_frame (s : State) (chain : Nat) :
    frame (commitGain s chain) = frame s := by
  unfold commitGain
  (repeat' split) <;> simp [*]

@[simp] theorem commitGains_frame (s : State) (b : Nat) :
    frame (commitGains s b) = frame s := by
  unfold commitGains
  simp [frame_foldl]

@[simp] theorem enterNoise_frame (s : State) (x : Nat × BinMeasure) :
    frame (enterNoise s x) = frame s := by
  unfold enterNoise
  simp

@[simp] theorem publishSector_frame (s : State) (bs : Nat) :
    frame (publishSector s bs) = frame s := by
  unfold publishSector
  simp

theorem execNoiseFloorPublish_frame (s : State) :
    Stays (execNoiseFloorPublish s) s := by
  simp only [execNoiseFloorPublish]
  (repeat' split) <;> simp [*, frame_foldl]

@[simp] theorem nfCursorApply_frame (who : Caller) (value : Nat) (s : State) :
    frame (nfCursorApply who value s) = frame s := by
  unfold nfCursorApply
  simp

theorem execNfCursorWrite_frame (who : Caller) (value : Nat) (s : State) :
    Stays (execNfCursorWrite who value s) s := by
  unfold execNfCursorWrite
  simp

theorem execRxCountersClear_frame (who : Caller) (s : State) :
    Stays (execRxCountersClear who s) s := by
  unfold execRxCountersClear
  simp

/- Machine/Slot.lean -/

@[simp] theorem addOutcome_frame (s : State) (cell bs code onTime : Nat) :
    frame (addOutcome s cell bs code onTime) = frame s := by
  unfold addOutcome
  simp

@[simp] theorem journalSlotEnd_frame (s : State) :
    frame (journalSlotEnd s) = frame s := by
  unfold journalSlotEnd
  simp

@[simp] theorem countSuspended_frame (s : State) (bs asn : Nat) :
    frame (countSuspended s bs asn) = frame s := by
  unfold countSuspended
  simp

@[simp] theorem skipLate_frame (s : State) (bs asn : Nat) :
    frame (skipLate s bs asn) = frame s := by
  unfold skipLate
  simp [frame_foldl]

@[simp] theorem lookStep_frame (a : Nat) (s : State) (bs : Nat) :
    frame (lookStep a s bs) = frame s := by
  unfold lookStep
  simp

@[simp] theorem slotBegins_frame (s : State) (b a : Nat) (idle : List (Nat × BinMeasure)) :
    frame (slotBegins s b a idle) = frame s := by
  unfold slotBegins
  simp [frame_foldl]

theorem execLookaheadResolved_frame (bandSector asn : Nat) (s : State) :
    Stays (execLookaheadResolved bandSector asn s) s := by
  simp only [execLookaheadResolved]
  (repeat' split) <;> simp [*]

/- Machine/Modem.lean -/

theorem execBlRecompute_frame (handle : Nat) (band : Band) (s : State) :
    Stays (execBlRecompute handle band s) s := by
  unfold execBlRecompute
  simp

theorem execMapIeRx_frame (handle : Nat) (band : Band) (content : Octets) (secured ackRequested : Bool) (s : State) :
    Stays (execMapIeRx handle band content secured ackRequested s) s := by
  simp only [execMapIeRx]
  (repeat' split) <;> simp [*]

@[simp] theorem mapAck_frame (s : State) (handle b : Nat) (content : Octets) (secured : Bool) :
    frame (mapAck s handle b content secured) = frame s := by
  unfold mapAck
  simp

theorem execMapAckRx_frame (handle : Nat) (band : Band) (content : Octets) (secured : Bool) (s : State) :
    Stays (execMapAckRx handle band content secured s) s := by
  unfold execMapAckRx
  simp

theorem execMapActivateSlot_frame (handle : Nat) (band : Band) (s : State) :
    Stays (execMapActivateSlot handle band s) s := by
  simp only [execMapActivateSlot]
  (repeat' split) <;> simp [*]

theorem execCapabilityIeRx_frame (handle : Nat) (content : Octets) (s : State) :
    Stays (execCapabilityIeRx handle content s) s := by
  unfold execCapabilityIeRx
  (repeat' split) <;> simp [*]

theorem execModemCountersClear_frame (who : Caller) (s : State) :
    Stays (execModemCountersClear who s) s := by
  unfold execModemCountersClear
  simp

/- Machine/Exchange.lean -/

@[simp] theorem ackAccepted_frame (s : State) (bs : Nat) (p : TxPlan) (a : AckFrame) :
    frame (ackAccepted s bs p a) = frame s := by
  unfold ackAccepted
  (repeat' split) <;> simp [*]

theorem execAckRx_frame (bandSector : Nat) (ack : AckFrame) (s : State) :
    Stays (execAckRx bandSector ack s) s := by
  unfold execAckRx
  (repeat' split) <;> simp [*]

theorem execAckWindowClose_frame (bandSector : Nat) (s : State) :
    Stays (execAckWindowClose bandSector s) s := by
  unfold execAckWindowClose
  (repeat' split) <;> simp [*]

@[simp] theorem oweAck_frame (s : State) (f : AirFrame) (i : Nat) :
    frame (oweAck s f i) = frame s := by
  unfold oweAck
  simp

@[simp] theorem noteHeard_frame (s : State) (f : AirFrame) (i : Nat) :
    frame (noteHeard s f i) = frame s := by
  unfold noteHeard
  simp

@[simp] theorem fcCheck_frame (s : State) (f : AirFrame) (i : Nat) (n : Node) :
    frame (fcCheck s f i n) = frame s := by
  unfold fcCheck
  simp

@[simp] theorem netFcCheck_frame (s : State) (f : AirFrame) :
    frame (netFcCheck s f) = frame s := by
  unfold netFcCheck
  (repeat' split) <;> simp [*]

@[simp] theorem airProcess_frame (s : State) (f : AirFrame) :
    frame (airProcess s f) = frame s := by
  simp only [airProcess]
  (repeat' split) <;> simp [*]

theorem execAirRxJob_frame (f : AirFrame) (s : State) :
    Stays (execAirRxJob f s) s := by
  unfold execAirRxJob
  (repeat' split) <;> simp [*]

@[simp] theorem decideAck_frame (s : State) (a : AckDue) :
    frame (decideAck s a) = frame s := by
  simp only [decideAck]
  (repeat' split) <;> simp [*]

theorem execAckDecisionDeadline_frame (bandSector : Nat) (s : State) :
    Stays (execAckDecisionDeadline bandSector s) s := by
  unfold execAckDecisionDeadline
  simp [frame_foldl]

theorem execLinkCountersClear_frame (who : Caller) (s : State) :
    Stays (execLinkCountersClear who s) s := by
  unfold execLinkCountersClear
  simp

/- Machine/Ceiling.lean -/

@[simp] theorem updPortState_frame (s : State) (p : Nat) (f : Port → Port) :
    frame (updPortState s p f) = frame s := by
  unfold updPortState
  simp

/- Machine/Tuner.lean -/

@[simp] theorem countTx_frame (s : State) (bs word : Nat) :
    frame (countTx s bs word) = frame s := by
  unfold countTx
  simp

@[simp] theorem portCause_frame (s : State) :
    frame (portCause s) = frame s := by
  unfold portCause
  simp

@[simp] theorem derate_frame (s : State) (p vswr cause : Nat) :
    frame (derate s p vswr cause) = frame s := by
  unfold derate
  simp

@[simp] theorem disablePort_frame (s : State) (p vswr : Nat) :
    frame (disablePort s p vswr) = frame s := by
  unfold disablePort
  simp

@[simp] theorem mismatchCount_frame (s : State) (p vswr : Nat) :
    frame (mismatchCount s p vswr) = frame s := by
  simp only [mismatchCount]
  (repeat' split) <;> simp [*]

@[simp] theorem warnPort_frame (s : State) (p vswr : Nat) :
    frame (warnPort s p vswr) = frame s := by
  unfold warnPort
  simp

@[simp] theorem measurePort_frame (s : State) (p vswr : Nat) :
    frame (measurePort s p vswr) = frame s := by
  simp only [measurePort]
  (repeat' split) <;> simp [*]

@[simp] theorem tripPort_frame (s : State) (p vswr : Nat) :
    frame (tripPort s p vswr) = frame s := by
  unfold tripPort
  simp

@[simp] theorem restorePort_frame (p : Nat) (s : State) :
    frame (restorePort p s) = frame s := by
  unfold restorePort
  simp

theorem execTunerRestore_frame (who : Caller) (port : Nat) (s : State) :
    Stays (execTunerRestore who port s) s := by
  unfold execTunerRestore
  simp

/- Machine/Mask.lean -/

@[simp] theorem liftMask_frame (s : State) (b : Nat) :
    frame (liftMask s b) = frame s := by
  unfold liftMask
  simp [frame_foldl]

@[simp] theorem maskApply_frame (b : Nat) (coef : Bool) (v : Octets) (s : State) :
    frame (maskApply b coef v s) = frame s := by
  unfold maskApply
  simp

theorem execTxMaskWrite_frame (who : Caller) (band : Band) (coefWrite : Bool) (value : Octets) (s : State) :
    Stays (execTxMaskWrite who band coefWrite value s) s := by
  unfold execTxMaskWrite
  simp

@[simp] theorem maskSuspend_frame (s : State) (bs set : Nat) :
    frame (maskSuspend s bs set) = frame s := by
  unfold maskSuspend
  simp

@[simp] theorem maskFailed_frame (s : State) (bs : Nat) (worst : Int) :
    frame (maskFailed s bs worst) = frame s := by
  unfold maskFailed
  simp

theorem execMaskCapture_frame (bandSector : Nat) (worstExcess : Int) (s : State) :
    Stays (execMaskCapture bandSector worstExcess s) s := by
  unfold execMaskCapture
  (repeat' split) <;> simp [*]

/- Machine/Tamper.lean -/

@[simp] theorem countSample_frame (s : State) (x : TamperSample) :
    frame (countSample s x) = frame s := by
  unfold countSample
  simp

theorem execZeroizeOverwriteDone_frame (s : State) :
    Stays (execZeroizeOverwriteDone s) s := by
  unfold execZeroizeOverwriteDone
  (repeat' split) <;> simp [*]

/- Machine/SettLink.lean -/

@[simp] theorem reserveSender_frame (s : State) :
    frame (reserveSender s) = frame s := by
  unfold reserveSender
  simp

@[simp] theorem useSender_frame (s : State) :
    frame (useSender s) = frame s := by
  unfold useSender
  simp

@[simp] theorem countS_frame (s : State) (port word : Nat) :
    frame (countS s port word) = frame s := by
  unfold countS
  simp

@[simp] theorem settPut_frame (s : State) (p : Nat) (f : SettFrame) :
    frame (settPut s p f) = frame s := by
  unfold settPut
  simp

@[simp] theorem settOriginate_frame (s : State) (ports : List Nat) (typ : Nat) (enc : Bool) (cls dest : Nat) (bcast : Bool) (ttl handle : Nat) (payload : Octets) :
    frame (settOriginate s ports typ enc cls dest bcast ttl handle payload) = frame s := by
  unfold settOriginate
  (repeat' split) <;> simp [*, frame_foldl]

/- Machine/TimeSource.lean -/

@[simp] theorem updEntry_frame (s : State) (i : Nat) (f : TimeEntry → TimeEntry) :
    frame (updEntry s i f) = frame s := by
  unfold updEntry
  simp

@[simp] theorem startSlew_frame (s : State) (offset : Int) :
    frame (startSlew s offset) = frame s := by
  unfold startSlew
  simp

@[simp] theorem stepTime_frame (s : State) (offset : Int) :
    frame (stepTime s offset) = frame s := by
  unfold stepTime
  simp

@[simp] theorem journalTime_frame (s : State) (i : Nat) (c : SourceCfg) (miss : Bool) (offset : Int) :
    frame (journalTime s i c miss offset) = frame s := by
  unfold journalTime
  simp

@[simp] theorem timeEvent_frame (s : State) (entry : Nat) (implied : Int) (secured : Bool) (bandSector : Nat) :
    frame (timeEvent s entry implied secured bandSector) = frame s := by
  unfold timeEvent
  simp

theorem execTimeSourceEvent_frame (entry : Nat) (implied : Int) (secured : Bool) (bandSector : Nat) (s : State) :
    Stays (execTimeSourceEvent entry implied secured bandSector s) s := by
  unfold execTimeSourceEvent
  simp

theorem execTimeSourceMiss_frame (entry : Nat) (s : State) :
    Stays (execTimeSourceMiss entry s) s := by
  simp only [execTimeSourceMiss]
  (repeat' split) <;> simp [*]

@[simp] theorem setMode_frame (s : State) (m : TimeMode) :
    frame (setMode s m) = frame s := by
  unfold setMode
  simp

@[simp] theorem lockTo_frame (s : State) (i : Nat) :
    frame (lockTo s i) = frame s := by
  unfold lockTo
  simp

@[simp] theorem sourceLost_frame (s : State) (i : Nat) :
    frame (sourceLost s i) = frame s := by
  unfold sourceLost
  simp

theorem execTimeStateChange_frame (s : State) :
    Stays (execTimeStateChange s) s := by
  simp only [execTimeStateChange]
  (repeat' split) <;> simp [*]

theorem execTimeRootTimer_frame (s : State) :
    Stays (execTimeRootTimer s) s := by
  unfold execTimeRootTimer
  (repeat' split) <;> simp [*]

theorem execUnacquiredReportTimer_frame (s : State) :
    Stays (execUnacquiredReportTimer s) s := by
  unfold execUnacquiredReportTimer
  (repeat' split) <;> simp [*]

theorem execGuardCapReached_frame (band : Band) (s : State) :
    Stays (execGuardCapReached band s) s := by
  simp only [execGuardCapReached]
  (repeat' split) <;> simp [*]

theorem execTimePersist_frame (s : State) :
    Stays (execTimePersist s) s := by
  simp only [execTimePersist]
  (repeat' split) <;> simp [*]

theorem execPpsOutPulse_frame (s : State) :
    Stays (execPpsOutPulse s) s := by
  simp only [execPpsOutPulse]
  (repeat' split) <;> simp [*]

theorem execPtpSyncTx_frame (port : Nat) (s : State) :
    Stays (execPtpSyncTx port s) s := by
  unfold execPtpSyncTx
  (repeat' split) <;> simp [*]

theorem execPtpDelayRequestRx_frame (port : Nat) (requester : Octets) (sequence : Nat) (s : State) :
    Stays (execPtpDelayRequestRx port requester sequence s) s := by
  unfold execPtpDelayRequestRx
  (repeat' split) <;> simp [*]

theorem execTimeSlewComplete_frame (s : State) :
    Stays (execTimeSlewComplete s) s := by
  unfold execTimeSlewComplete
  (repeat' split) <;> simp [*]

/- Machine/PeerMessage.lean -/

@[simp] theorem sendPeer_frame (s : State) (m : Octets) (dest : Nat) (bcast : Bool) :
    frame (sendPeer s m dest bcast) = frame s := by
  unfold sendPeer
  simp

@[simp] theorem sendMoved_frame (s : State) (x : Nat × Octets × Nat) :
    frame (sendMoved s x) = frame s := by
  unfold sendMoved
  (repeat' split) <;> simp [*]

/- Machine/Latch.lean -/

@[simp] theorem freshenFor_frame (s : State) (bs : Nat) (entries : List LookEntry) :
    frame (freshenFor s bs entries) = frame s := by
  unfold freshenFor
  simp [frame_foldl]

@[simp] theorem judgeCell_frame (bs asn : Nat) (entries : List LookEntry) (x : State × List Candidate) (e : LookEntry) :
    frame (judgeCell bs asn entries x e).1 = frame x.1 := by
  simp only [judgeCell]
  (repeat' split) <;>
    first
    | (simp; done)
    | (simp [*]; done)
    | (simp [consult_step (by assumption : consult _ _ _ _ = _)]; done)
    | (simp [*, consult_step (by assumption : consult _ _ _ _ = _)]; done)
    | (simp [frame_foldl]; done)
    | (simp [*, frame_foldl]; done)
    | (simp [frame_foldl, consult_step (by assumption : consult _ _ _ _ = _)]; done)
    | (simp [*, frame_foldl, consult_step (by assumption : consult _ _ _ _ = _)]; done)

theorem judgeCell_step {bs asn : Nat} {entries : List LookEntry} {x : State × List Candidate} {e : LookEntry} {res : State × List Candidate}
    (h : judgeCell bs asn entries x e = res) : frame res.1 = frame x.1 := by
  subst h; simp

@[simp] theorem backoffCell_frame (bs : Nat) (s : State) (e : LookEntry) :
    frame (backoffCell bs s e) = frame s := by
  unfold backoffCell
  simp

@[simp] theorem dropLong_frame (s : State) (bs mode k : Nat) :
    frame (dropLong s bs mode k) = frame s := by
  unfold dropLong
  simp

@[simp] theorem setPlan_frame (s : State) (bs : Nat) (p : TxPlan) :
    frame (setPlan s bs p) = frame s := by
  unfold setPlan
  simp

@[simp] theorem latchPacket_frame (s : State) (bs k : Nat) (p : QPacket) (c : Candidate) :
    frame (latchPacket s bs k p c) = frame s := by
  simp only [latchPacket]
  (repeat' split) <;> simp [*]

@[simp] theorem latchNode_frame (s : State) (bs m k : Nat) (p : QPacket) (c : Candidate) :
    frame (latchNode s bs m k p c) = frame s := by
  simp only [latchNode]
  (repeat' split) <;> simp [*]

@[simp] theorem latchClass_frame (s : State) (bs m k : Nat) (p : QPacket) (c : Candidate) :
    frame (latchClass s bs m k p c) = frame s := by
  unfold latchClass
  simp

@[simp] theorem latchBeacon_frame (s : State) (bs m : Nat) (c : Candidate) :
    frame (latchBeacon s bs m c) = frame s := by
  unfold latchBeacon
  simp

@[simp] theorem noteSending_frame (s : State) (bs : Nat) (p : TxPlan) :
    frame (noteSending s bs p) = frame s := by
  unfold noteSending
  simp

@[simp] theorem latchCandidate_frame (s : State) (bs m : Nat) (c : Candidate) :
    frame (latchCandidate s bs m c) = frame s := by
  unfold latchCandidate
  (repeat' split) <;> simp [*]

@[simp] theorem activateMaps_frame (s : State) (bs m : Nat) (entries : List LookEntry) :
    frame (activateMaps s bs m entries) = frame s := by
  unfold activateMaps
  simp [frame_foldl]

theorem judgeCells_frame (bs asn : Nat) (entries l : List LookEntry) (x : State × List Candidate) :
    frame (l.foldl (judgeCell bs asn entries) x).1 = frame x.1 := by
  induction l generalizing x with
  | nil => rfl
  | cons e l ih => rw [List.foldl_cons, ih, judgeCell_frame]

@[simp] theorem latchSlot_frame (s : State) (bs m : Nat) : frame (latchSlot s bs m) = frame s := by
  unfold latchSlot
  dsimp only
  split <;> simp [frame_foldl, judgeCells_frame]

theorem execQueueLatch_frame (bandSector : Nat) (s : State) :
    Stays (execQueueLatch bandSector s) s := by
  simp only [execQueueLatch]
  (repeat' split) <;> simp [*]

theorem execSecureDeadline_frame (bandSector : Nat) (secured : Bool) (s : State) :
    Stays (execSecureDeadline bandSector secured s) s := by
  simp only [execSecureDeadline]
  (repeat' split) <;> simp [*]

end Sys2Proof.Laws
end

