-- ==== Sys2Proof/Laws/FrameCipher.lean ====
section
/-! SUPPORT. The operations of these files of Machine leave the frame (Laws/Frame.lean) as it is: Cipher, Macsec,
Wire, Admission, Duty, Copies, Region, SopFrame, Commit, Joins, Peers. -/

namespace Sys2Proof.Laws

open Sys2Proof.Machine

/- Machine/Cipher.lean -/

@[simp] theorem jobStart_frame (s : State) (e : Nat) (r : CipherRequest) :
    frame (jobStart s e r).1 = frame s := by
  unfold jobStart
  (repeat' split) <;>
    first
    | (simp; done)
    | (simp [*]; done)
    | (simp [registerKey_step (by assumption : registerKey _ _ _ = _)]; done)
    | (simp [*, registerKey_step (by assumption : registerKey _ _ _ = _)]; done)
    | (simp [frame_foldl]; done)
    | (simp [*, frame_foldl]; done)
    | (simp [frame_foldl, registerKey_step (by assumption : registerKey _ _ _ = _)]; done)
    | (simp [*, frame_foldl, registerKey_step (by assumption : registerKey _ _ _ = _)]; done)

theorem jobStart_step {s : State} {e : Nat} {r : CipherRequest} {res : State × Nat × Octets}
    (h : jobStart s e r = res) : frame res.1 = frame s := by
  subst h; simp

@[simp] theorem startJob_frame (s : State) (e : Nat) (r : CipherRequest) :
    frame (startJob s e r) = frame s := by
  unfold startJob
  simp

theorem execCipherJobStart_frame (engine : Nat) (job : CipherRequest) (s : State) :
    Stays (execCipherJobStart engine job s) s := by
  unfold execCipherJobStart
  (repeat' split) <;> simp [*]

@[simp] theorem countJob_frame (s : State) (j : CipherJob) (st : Nat) :
    frame (countJob s j st) = frame s := by
  simp only [countJob]
  (repeat' split) <;> simp [*]

@[simp] theorem mailResult_frame (s : State) (n st : Nat) (octets : Octets) :
    frame (mailResult s n st octets) = frame s := by
  unfold mailResult
  simp

theorem execCipherJobComplete_frame (engine number : Nat) (s : State) :
    Stays (execCipherJobComplete engine number s) s := by
  unfold execCipherJobComplete
  (repeat' split) <;> simp [*]

@[simp] theorem engineCause_frame (s : State) :
    frame (engineCause s) = frame s := by
  unfold engineCause
  simp

@[simp] theorem beginTest_frame (s : State) (e : Nat) :
    frame (beginTest s e) = frame s := by
  unfold beginTest
  simp

theorem execCeSelftestTurn_frame (s : State) :
    Stays (execCeSelftestTurn s) s := by
  unfold execCeSelftestTurn
  (repeat' split) <;> simp [*]

@[simp] theorem withdrawEngine_frame (s : State) (e op keySize : Nat) :
    frame (withdrawEngine s e op keySize) = frame s := by
  unfold withdrawEngine
  simp

@[simp] theorem selftestNowApply_frame (v : Nat) (s : State) :
    frame (selftestNowApply v s) = frame s := by
  unfold selftestNowApply
  simp

theorem execCeSelftestNow_frame (who : Caller) (engine : Nat) (s : State) :
    Stays (execCeSelftestNow who engine s) s := by
  unfold execCeSelftestNow
  simp

theorem execCeHourlyRetest_frame (engine : Nat) (pass : Bool) (s : State) :
    Stays (execCeHourlyRetest engine pass s) s := by
  simp only [execCeHourlyRetest]
  (repeat' split) <;> simp [*]

theorem execCeCountersClear_frame (who : Caller) (s : State) :
    Stays (execCeCountersClear who s) s := by
  unfold execCeCountersClear
  simp

theorem execKeyResolve_frame (reference : Octets) (s : State) :
    Stays (execKeyResolve reference s) s := by
  unfold execKeyResolve
  (repeat' split) <;>
    first
    | (simp; done)
    | (simp [*]; done)
    | (simp [resolveRef_step (by assumption : resolveRef _ _ = _)]; done)
    | (simp [*, resolveRef_step (by assumption : resolveRef _ _ = _)]; done)
    | (simp [frame_foldl]; done)
    | (simp [*, frame_foldl]; done)
    | (simp [frame_foldl, resolveRef_step (by assumption : resolveRef _ _ = _)]; done)
    | (simp [*, frame_foldl, resolveRef_step (by assumption : resolveRef _ _ = _)]; done)

theorem execKeyCacheFlush_frame (who : Caller) (s : State) :
    Stays (execKeyCacheFlush who s) s := by
  unfold execKeyCacheFlush
  simp

/- Machine/Macsec.lean -/

@[simp] theorem setPn_frame (s : State) (port dir an : Nat) (x : MacsecPn) :
    frame (setPn s port dir an x) = frame s := by
  unfold setPn
  simp

@[simp] theorem macsecKey_frame (s : State) (port : Nat) (a : MacsecSa) (op use : Nat) :
    frame (macsecKey s port a op use).1 = frame s := by
  simp only [macsecKey]
  (repeat' split) <;>
    first
    | (simp; done)
    | (simp [*]; done)
    | (simp [registerKey_step (by assumption : registerKey _ _ _ = _)]; done)
    | (simp [*, registerKey_step (by assumption : registerKey _ _ _ = _)]; done)
    | (simp [frame_foldl]; done)
    | (simp [*, frame_foldl]; done)
    | (simp [frame_foldl, registerKey_step (by assumption : registerKey _ _ _ = _)]; done)
    | (simp [*, frame_foldl, registerKey_step (by assumption : registerKey _ _ _ = _)]; done)

theorem macsecKey_step {s : State} {port : Nat} {a : MacsecSa} {op use : Nat} {res : State × Option Octets}
    (h : macsecKey s port a op use = res) : frame res.1 = frame s := by
  subst h; simp

@[simp] theorem macsecSend_frame (s : State) (port : Nat) (frm : Octets) : frame (macsecSend s port frm).1 = frame s := by
  unfold macsecSend
  dsimp only
  (repeat' split) <;>
    first
    | (simp; done)
    | (simp [macsecKey_step (by assumption : macsecKey _ _ _ _ _ = _)]; done)

theorem macsecSend_step {s t : State} {port : Nat} {frm : Octets} {b : Bool} (h : macsecSend s port frm = (t, b)) :
    frame t = frame s := by
  have e := macsecSend_frame s port frm
  rw [h] at e
  exact e

theorem execMacsecFrameTx_frame (port : Nat) (frame : Octets) (s : State) :
    Stays (execMacsecFrameTx port frame s) s := by
  unfold execMacsecFrameTx
  (repeat' split) <;> simp [*]

@[simp] theorem macsecDiscard_frame (s : State) :
    frame (macsecDiscard s) = frame s := by
  unfold macsecDiscard
  simp

@[simp] theorem macsecAccept_frame (s : State) (port pn : Nat) (a : MacsecSa) (x : MacsecPn) (key : Octets) (ec : Bool) (f : Sealed) :
    frame (macsecAccept s port pn a x key ec f) = frame s := by
  unfold macsecAccept
  simp

@[simp] theorem macsecFails_frame (s : State) (port : Nat) (f : Sealed) :
    frame (macsecFails s port f) = frame s := by
  unfold macsecFails
  simp

theorem execMacsecFrameRx_frame (port an pn : Nat) (ec : Bool) (frame : Sealed) (s : State) :
    Stays (execMacsecFrameRx port an pn ec frame s) s := by
  simp only [execMacsecFrameRx]
  (repeat' split) <;>
    first
    | (simp; done)
    | (simp [*]; done)
    | (simp [macsecKey_step (by assumption : macsecKey _ _ _ _ _ = _)]; done)
    | (simp [*, macsecKey_step (by assumption : macsecKey _ _ _ _ _ = _)]; done)
    | (simp [frame_foldl]; done)
    | (simp [*, frame_foldl]; done)
    | (simp [frame_foldl, macsecKey_step (by assumption : macsecKey _ _ _ _ _ = _)]; done)
    | (simp [*, frame_foldl, macsecKey_step (by assumption : macsecKey _ _ _ _ _ = _)]; done)

@[simp] theorem macsecSaApply_frame (s : State) (port : Nat) (v : Octets) :
    frame (macsecSaApply s port v) = frame s := by
  unfold macsecSaApply
  simp

@[simp] theorem macsecStart_frame (s : State) : frame (macsecStart s) = frame s := by
  unfold macsecStart
  dsimp only
  rw [frame_foldl]
  · simp
  · intro u a
    (repeat' split) <;> simp

/- Machine/Wire.lean -/

@[simp] theorem wireOut_frame (s : State) (port : Nat) (p : QPacket) :
    frame (wireOut s port p).1 = frame s := by
  unfold wireOut
  (repeat' split) <;> simp [*]

theorem wireOut_step {s : State} {port : Nat} {p : QPacket} {res : State × Bool}
    (h : wireOut s port p = res) : frame res.1 = frame s := by
  subst h; simp

@[simp] theorem clearSending_frame (s : State) (port : Nat) :
    frame (clearSending s port) = frame s := by
  unfold clearSending
  simp

@[simp] theorem endBad_frame (s : State) (port k : Nat) (p : QPacket) (cause : Nat) :
    frame (endBad s port k p cause) = frame s := by
  unfold endBad
  simp

@[simp] theorem endWell_frame (s : State) (port k : Nat) (p : QPacket) :
    frame (endWell s port k p) = frame s := by
  unfold endWell
  simp

/- Machine/Admission.lean -/

theorem makeRoom_step {s : State} {p : QPacket} {t : State}
    (h : makeRoom s p = some t) : frame t = frame s := by
  unfold makeRoom at h
  (repeat' split at h) <;> simp at h <;> (subst h; simp)

@[simp] theorem judgeBuffers_frame (s : State) (p : QPacket) :
    frame (judgeBuffers s p).2 = frame s := by
  unfold judgeBuffers
  (repeat' split) <;>
    first
    | (simp; done)
    | (simp [*]; done)
    | (simp [makeRoom_step (by assumption : makeRoom _ _ = _)]; done)
    | (simp [*, makeRoom_step (by assumption : makeRoom _ _ = _)]; done)
    | (simp [frame_foldl]; done)
    | (simp [*, frame_foldl]; done)
    | (simp [frame_foldl, makeRoom_step (by assumption : makeRoom _ _ = _)]; done)
    | (simp [*, frame_foldl, makeRoom_step (by assumption : makeRoom _ _ = _)]; done)

theorem judgeBuffers_step {s : State} {p : QPacket} {res : Verdict × State}
    (h : judgeBuffers s p = res) : frame res.2 = frame s := by
  subst h; simp

@[simp] theorem judge_frame (s : State) (p : QPacket) :
    frame (judge s p).2 = frame s := by
  unfold judge
  (repeat' split) <;> simp [*]

theorem judge_step {s : State} {p : QPacket} {res : Verdict × State}
    (h : judge s p = res) : frame res.2 = frame s := by
  subst h; simp

@[simp] theorem answerAir_frame (s : State) (p : QPacket) (word : Nat) (refused : Bool) :
    frame (answerAir s p word refused) = frame s := by
  unfold answerAir
  simp

@[simp] theorem dropUnlinked_frame (s : State) (k : Nat) :
    frame (dropUnlinked s k) = frame s := by
  unfold dropUnlinked
  simp

@[simp] theorem linkLocal15_frame (s : State) (k : Nat) (p : QPacket) :
    frame (linkLocal15 s k p) = frame s := by
  simp only [linkLocal15]
  (repeat' split) <;> simp [*]

@[simp] theorem admitPacket_frame (s : State) (k : Nat) (p : QPacket) :
    frame (admitPacket s k p) = frame s := by
  unfold admitPacket
  simp

@[simp] theorem preempt_frame (s : State) (k : Nat) :
    frame (preempt s k) = frame s := by
  simp only [preempt]
  (repeat' split) <;>
    first
    | (simp; done)
    | (simp [*]; done)
    | (simp [consult_step (by assumption : consult _ _ _ _ = _)]; done)
    | (simp [*, consult_step (by assumption : consult _ _ _ _ = _)]; done)
    | (simp [frame_foldl]; done)
    | (simp [*, frame_foldl]; done)
    | (simp [frame_foldl, consult_step (by assumption : consult _ _ _ _ = _)]; done)
    | (simp [*, frame_foldl, consult_step (by assumption : consult _ _ _ _ = _)]; done)

@[simp] theorem admitWhole_frame (s : State) (k : Nat) (p : QPacket) :
    frame (admitWhole s k p) = frame s := by
  unfold admitWhole
  (repeat' split) <;>
    first
    | (simp; done)
    | (simp [*]; done)
    | (simp [judge_step (by assumption : judge _ _ = _)]; done)
    | (simp [*, judge_step (by assumption : judge _ _ = _)]; done)
    | (simp [frame_foldl]; done)
    | (simp [*, frame_foldl]; done)
    | (simp [frame_foldl, judge_step (by assumption : judge _ _ = _)]; done)
    | (simp [*, frame_foldl, judge_step (by assumption : judge _ _ = _)]; done)

theorem execQueueAdmission_frame (packet : Nat) (poison : Bool) (s : State) :
    Stays (execQueueAdmission packet poison s) s := by
  simp only [execQueueAdmission]
  (repeat' split) <;> simp [*]

theorem execCutThroughAdmission_frame (packet : Nat) (s : State) :
    Stays (execCutThroughAdmission packet s) s := by
  unfold execCutThroughAdmission
  (repeat' split) <;>
    first
    | (simp; done)
    | (simp [*]; done)
    | (simp [judgeBuffers_step (by assumption : judgeBuffers _ _ = _)]; done)
    | (simp [*, judgeBuffers_step (by assumption : judgeBuffers _ _ = _)]; done)
    | (simp [frame_foldl]; done)
    | (simp [*, frame_foldl]; done)
    | (simp [frame_foldl, judgeBuffers_step (by assumption : judgeBuffers _ _ = _)]; done)
    | (simp [*, frame_foldl, judgeBuffers_step (by assumption : judgeBuffers _ _ = _)]; done)

/- Machine/Duty.lean -/

@[simp] theorem updDuty_frame (s : State) (a : Nat) (f : DutyAccount → DutyAccount) :
    frame (updDuty s a f) = frame s := by
  unfold updDuty
  simp

@[simp] theorem reserveDuty_frame (s : State) (a onTime : Nat) :
    frame (reserveDuty s a onTime) = frame s := by
  unfold reserveDuty
  simp

@[simp] theorem dutyFailed_frame (s : State) (a cls : Nat) :
    frame (dutyFailed s a cls) = frame s := by
  unfold dutyFailed
  simp

@[simp] theorem settleDuty_frame (s : State) (a reserved onTime : Nat) :
    frame (settleDuty s a reserved onTime) = frame s := by
  unfold settleDuty
  simp

@[simp] theorem addDwell_frame (s : State) (b mode firstBin onTime : Nat) :
    frame (addDwell s b mode firstBin onTime) = frame s := by
  unfold addDwell
  simp

@[simp] theorem restoreDuty_frame (s : State) :
    frame (restoreDuty s) = frame s := by
  unfold restoreDuty
  (repeat' split) <;> simp [*, frame_foldl]

theorem execDutyBucketTick_frame (s : State) :
    Stays (execDutyBucketTick s) s := by
  unfold execDutyBucketTick
  simp

theorem execDwellBucketTick_frame (s : State) :
    Stays (execDwellBucketTick s) s := by
  unfold execDwellBucketTick
  simp

theorem execDutyMinutePersist_frame (s : State) :
    Stays (execDutyMinutePersist s) s := by
  simp only [execDutyMinutePersist]
  (repeat' split) <;> simp [*]

@[simp] theorem carryDuty_frame (s : State) (b : Nat) (old new : Octets) :
    frame (carryDuty s b old new) = frame s := by
  unfold carryDuty
  simp [frame_foldl]

/- Machine/Copies.lean -/

@[simp] theorem writeLocked_frame (s : State) :
    frame (writeLocked s) = frame s := by
  unfold writeLocked
  simp

/- Machine/Region.lean -/

@[simp] theorem putProfile_frame (s : State) (r : Octets) :
    frame (putProfile s r) = frame s := by
  unfold putProfile
  simp [frame_foldl]

theorem execRegionProfileWrite_frame (who : Caller) (record_ : Octets) (s : State) :
    Stays (execRegionProfileWrite who record_ s) s := by
  unfold execRegionProfileWrite
  simp

@[simp] theorem recommissionApply_frame (m : Octets) (s : State) :
    frame (recommissionApply m s) = frame s := by
  unfold recommissionApply
  simp

@[simp] theorem recommissionNote_frame (who : Caller) (m : Octets) (s : State) :
    frame (recommissionNote who m s) = frame s := by
  unfold recommissionNote
  simp

theorem execRegionRecommission_frame (who : Caller) (message : Octets) (s : State) :
    Stays (execRegionRecommission who message s) s := by
  unfold execRegionRecommission
  simp

/- Machine/SopFrame.lean -/

@[simp] theorem canOut_frame (s : State) (bus host prio : Nat) (f : Octets) :
    frame (canOut s bus host prio f) = frame s := by
  unfold canOut
  simp [frame_foldl]

@[simp] theorem msi_frame (s : State) (v : Nat) :
    frame (msi s v) = frame s := by
  unfold msi
  simp

@[simp] theorem mbPut_frame (s : State) (f : Octets) :
    frame (mbPut s f) = frame s := by
  unfold mbPut
  simp

@[simp] theorem sopOut_frame (s : State) (e : Endpoint) (f : Octets) :
    frame (sopOut s e f) = frame s := by
  unfold sopOut
  simp

@[simp] theorem countSop_frame (s : State) (transport word : Nat) :
    frame (countSop s transport word) = frame s := by
  unfold countSop
  simp

@[simp] theorem updSession_frame (s : State) (sid : Nat) (f : Session → Session) :
    frame (updSession s sid f) = frame s := by
  unfold updSession
  simp

@[simp] theorem answerFrame_frame (s : State) (from_ : Nat) (e : Endpoint) (f : Octets) :
    frame (answerFrame s from_ e f) = frame s := by
  unfold answerFrame
  (repeat' split) <;> simp [*]

@[simp] theorem respondFrom_frame (s : State) (from_ : Nat) (who : Caller) (op seq status item : Nat) (rest : Octets) :
    frame (respondFrom s from_ who op seq status item rest) = frame s := by
  unfold respondFrom
  (repeat' split) <;> simp [*]

@[simp] theorem respond_frame (s : State) (who : Caller) (op seq status item : Nat) (rest : Octets) :
    frame (respond s who op seq status item rest) = frame s := by
  unfold respond
  simp

/- Machine/Commit.lean -/

@[simp] theorem putRecord_frame (s : State) (p : Nat × Octets) :
    frame (putRecord s p) = frame s := by
  unfold putRecord
  simp

@[simp] theorem writeCopies_frame (s : State) (j : CommitJob) (ks : List Nat) :
    frame (writeCopies s j ks) = frame s := by
  unfold writeCopies
  simp

@[simp] theorem beginCommit_frame (s : State) (records : FMap Octets) (select : Bool) :
    frame (beginCommit s records select) = frame s := by
  unfold beginCommit
  simp

@[simp] theorem settleCommit_frame (s : State) :
    frame (settleCommit s) = frame s := by
  unfold settleCommit
  (repeat' split) <;> simp [*]

@[simp] theorem commitApply_frame (s : State) (who : Caller) (seq : Nat) :
    frame (commitApply s who seq) = frame s := by
  unfold commitApply
  simp

@[simp] theorem commitRequest_frame (s : State) (who : Caller) (seq : Nat) :
    frame (commitRequest s who seq) = frame s := by
  unfold commitRequest
  (repeat' split) <;> simp [*]

theorem execCommit_frame (who : Caller) (value : Nat) (s : State) :
    Stays (execCommit who value s) s := by
  unfold execCommit
  simp

@[simp] theorem putLocked_frame (s : State) (v : Option (Octets × Bool)) :
    frame (putLocked s v) = frame s := by
  unfold putLocked
  (repeat' split) <;> simp [*]

@[simp] theorem resolveConfig_frame (s : State) :
    frame (resolveConfig s) = frame s := by
  unfold resolveConfig
  simp [frame_foldl]

@[simp] theorem repairCopies_frame (s : State) :
    frame (repairCopies s) = frame s := by
  unfold repairCopies
  simp

/- Machine/Joins.lean -/

@[simp] theorem learnJoin_frame (s : State) (bs : Nat) (eui : Octets) :
    frame (learnJoin s bs eui) = frame s := by
  unfold learnJoin
  simp

@[simp] theorem nameEntry_frame (s : State) (key : Octets) (h : Nat) :
    frame (nameEntry s key h) = frame s := by
  unfold nameEntry
  simp

@[simp] theorem forgetSource_frame (s : State) (key : Octets) :
    frame (forgetSource s key) = frame s := by
  unfold forgetSource
  simp

@[simp] theorem drawChallenge_frame (s : State) :
    frame (drawChallenge s).2 = frame s := by
  unfold drawChallenge
  simp

theorem drawChallenge_step {s : State} {res : Octets × State}
    (h : drawChallenge s = res) : frame res.2 = frame s := by
  subst h; simp

@[simp] theorem holdOrAnswer_frame (s : State) (i : Nat) (eui : Octets) :
    frame (holdOrAnswer s i eui) = frame s := by
  unfold holdOrAnswer
  simp

@[simp] theorem newJoin_frame (s : State) (r : JoinRequest) (i : Nat) :
    frame (newJoin s r i) = frame s := by
  unfold newJoin
  simp

@[simp] theorem rejoin_frame (s : State) (r : JoinRequest) (i : Nat) :
    frame (rejoin s r i) = frame s := by
  unfold rejoin
  simp

@[simp] theorem joinProcess_frame (s : State) (r : JoinRequest) :
    frame (joinProcess s r) = frame s := by
  simp only [joinProcess]
  (repeat' split) <;> simp [*]

theorem execJoinRequestRx_frame (r : JoinRequest) (s : State) :
    Stays (execJoinRequestRx r s) s := by
  unfold execJoinRequestRx
  (repeat' split) <;> simp [*]

@[simp] theorem oweMoved_frame (s : State) (prev : Nat) (eui : Octets) (h t : Nat) :
    frame (oweMoved s prev eui h t) = frame s := by
  unfold oweMoved
  simp

@[simp] theorem confirmJoin_frame (s : State) (i counter : Nat) (capability : Octets) (n : Node) :
    frame (confirmJoin s i counter capability n) = frame s := by
  unfold confirmJoin
  simp

theorem execJoinConfirmRx_frame (eui : Octets) (counter : Nat) (content capability : Octets) (s : State) :
    Stays (execJoinConfirmRx eui counter content capability s) s := by
  unfold execJoinConfirmRx
  (repeat' split) <;> simp [*]

theorem execJoinConfirmTimeout_frame (handle : Nat) (s : State) :
    Stays (execJoinConfirmTimeout handle s) s := by
  unfold execJoinConfirmTimeout
  (repeat' split) <;> simp [*]

@[simp] theorem joinApproveApply_frame (handle approve : Nat) (s : State) :
    frame (joinApproveApply handle approve s) = frame s := by
  simp only [joinApproveApply]
  (repeat' split) <;> simp [*]

theorem execJoinApprove_frame (who : Caller) (handle approve : Nat) (s : State) :
    Stays (execJoinApprove who handle approve s) s := by
  unfold execJoinApprove
  simp

@[simp] theorem departureFrom_frame (s : State) (i counter cause : Nat) (n : Node) :
    frame (departureFrom s i counter cause n) = frame s := by
  unfold departureFrom
  simp [frame_foldl]

theorem execDepartureIeRx_frame (handle counter cause : Nat) (s : State) :
    Stays (execDepartureIeRx handle counter cause s) s := by
  unfold execDepartureIeRx
  (repeat' split) <;> simp [*]

theorem execNodeTimeoutExpiry_frame (handle : Nat) (s : State) :
    Stays (execNodeTimeoutExpiry handle s) s := by
  unfold execNodeTimeoutExpiry
  (repeat' split) <;> simp [*]

@[simp] theorem nodeDepartApply_frame (handle : Nat) (s : State) :
    frame (nodeDepartApply handle s) = frame s := by
  unfold nodeDepartApply
  simp

theorem execNodeDepart_frame (who : Caller) (handle : Nat) (s : State) :
    Stays (execNodeDepart who handle s) s := by
  unfold execNodeDepart
  simp

@[simp] theorem nodeCursorApply_frame (who : Caller) (handle : Nat) (s : State) :
    frame (nodeCursorApply who handle s) = frame s := by
  unfold nodeCursorApply
  simp

@[simp] theorem nodeLookupApply_frame (who : Caller) (eui : Octets) (s : State) :
    frame (nodeLookupApply who eui s) = frame s := by
  unfold nodeLookupApply
  simp

theorem execNodeLookup_frame (who : Caller) (eui : Octets) (s : State) :
    Stays (execNodeLookup who eui s) s := by
  unfold execNodeLookup
  simp

/- Machine/Peers.lean -/

theorem execPeerAnnouncementTx_frame (s : State) :
    Stays (execPeerAnnouncementTx s) s := by
  simp only [execPeerAnnouncementTx]
  (repeat' split) <;> simp [*, frame_foldl]

@[simp] theorem setPeer_frame (s : State) (k : Nat) (p : Peer) :
    frame (setPeer s k p) = frame s := by
  unfold setPeer
  simp

@[simp] theorem noteMetric_frame (s : State) (eui : Octets) (metric : Nat) :
    frame (noteMetric s eui metric) = frame s := by
  unfold noteMetric
  (repeat' split) <;> simp [*]

@[simp] theorem acceptAnnouncement_frame (s : State) (k : Nat) (p : Peer) (m : Octets) :
    frame (acceptAnnouncement s k p m) = frame s := by
  unfold acceptAnnouncement
  simp

@[simp] theorem acceptMoved_frame (s : State) (m : Octets) :
    frame (acceptMoved s m) = frame s := by
  unfold acceptMoved
  (repeat' split) <;> simp [*]

@[simp] theorem peerProcess_frame (s : State) (m : Octets) :
    frame (peerProcess s m) = frame s := by
  unfold peerProcess
  simp

theorem execPeerMessageRx_frame (message : Octets) (s : State) :
    Stays (execPeerMessageRx message s) s := by
  unfold execPeerMessageRx
  (repeat' split) <;> simp [*]

theorem execPeerAnnouncementMiss_frame (chip : Nat) (s : State) :
    Stays (execPeerAnnouncementMiss chip s) s := by
  unfold execPeerAnnouncementMiss
  (repeat' split) <;> simp [*]

end Sys2Proof.Laws
end

