-- ==== Sys2Proof/Laws/FrameFront.lean ====
section
/-! SUPPORT. The operations of these files of Machine leave the frame (Laws/Frame.lean) as it is: Image, Recover,
Ptrace, Calibrate, FrontEnd, Sett, JournalCode, Tables, Crossing. -/

namespace Sys2Proof.Laws

open Sys2Proof.Machine

/- Machine/Image.lean -/

@[simp] theorem updBank_frame (s : State) (k : Nat) (f : Bank → Bank) :
    frame (updBank s k f) = frame s := by
  unfold updBank
  simp

@[simp] theorem writeBoot_frame (s : State) :
    frame (writeBoot s) = frame s := by
  unfold writeBoot
  simp

@[simp] theorem setBankState_frame (s : State) (k : Nat) (b : BankState) :
    frame (setBankState s k b) = frame s := by
  unfold setBankState
  simp

/- Machine/Recover.lean -/

@[simp] theorem updRecovery_frame (s : State) (f : Recovery → Recovery) :
    frame (updRecovery s f) = frame s := by
  unfold updRecovery
  simp

@[simp] theorem recoveryAct_frame (s : State) (r : Recovery) (cmd : Nat) (p : Octets) :
    frame (recoveryAct s r cmd p).2.2 = frame s := by
  simp only [recoveryAct]
  (repeat' split) <;> simp [*]

theorem recoveryAct_step {s : State} {r : Recovery} {cmd : Nat} {p : Octets} {res : Nat × Octets × State}
    (h : recoveryAct s r cmd p = res) : frame res.2.2 = frame s := by
  subst h; simp

@[simp] theorem recoveryOut_frame (s : State) (spi : Bool) (f : Octets) :
    frame (recoveryOut s spi f) = frame s := by
  unfold recoveryOut
  simp

@[simp] theorem settleBaud_frame (s : State) :
    frame (settleBaud s) = frame s := by
  unfold settleBaud
  simp

theorem execSpiRecoveryRead_frame (s : State) :
    Stays (execSpiRecoveryRead s) s := by
  unfold execSpiRecoveryRead
  (repeat' split) <;> simp [*]

theorem execSpiRecoveryRequest_frame (data : Octets) (s : State) :
    Stays (execSpiRecoveryRequest data s) s := by
  unfold execSpiRecoveryRequest
  (repeat' split) <;> simp [*]

/- Machine/Ptrace.lean -/

@[simp] theorem ptraceApply_frame (v : Octets) (s : State) :
    frame (ptraceApply v s) = frame s := by
  unfold ptraceApply
  simp

theorem execPtraceCfgWrite_frame (who : Caller) (value : Octets) (s : State) :
    Stays (execPtraceCfgWrite who value s) s := by
  unfold execPtraceCfgWrite
  simp

@[simp] theorem ptraceCursorApply_frame (who : Caller) (v : Nat) (s : State) :
    frame (ptraceCursorApply who v s) = frame s := by
  unfold ptraceCursorApply
  simp

theorem execPtraceCursorWrite_frame (who : Caller) (value : Nat) (s : State) :
    Stays (execPtraceCursorWrite who value s) s := by
  unfold execPtraceCursorWrite
  simp

/- Machine/Calibrate.lean -/

@[simp] theorem scheduleCal_frame (s : State) (bs k : Nat) :
    frame (scheduleCal s bs k) = frame s := by
  unfold scheduleCal
  simp

@[simp] theorem calTempDue_frame (s : State) (bs : Nat) :
    frame (calTempDue s bs) = frame s := by
  unfold calTempDue
  simp

theorem execCalibrationStart_frame (bandSector calibration : Nat) (s : State) :
    Stays (execCalibrationStart bandSector calibration s) s := by
  unfold execCalibrationStart
  (repeat' split) <;> simp [*]

theorem execCalibrationDone_frame (bandSector : Nat) (s : State) :
    Stays (execCalibrationDone bandSector s) s := by
  unfold execCalibrationDone
  (repeat' split) <;> simp [*]

@[simp] theorem skipTx_frame (s : State) (bs word code : Nat) :
    frame (skipTx s bs word code) = frame s := by
  unfold skipTx
  (repeat' split) <;> simp [*]

@[simp] theorem skipForCal_frame (s : State) (bs k : Nat) :
    frame (skipForCal s bs k) = frame s := by
  unfold skipForCal
  simp

theorem execCalMaxWaitExpiry_frame (bandSector calibration : Nat) (s : State) :
    Stays (execCalMaxWaitExpiry bandSector calibration s) s := by
  simp only [execCalMaxWaitExpiry]
  (repeat' split) <;> simp [*]

/- Machine/FrontEnd.lean -/

@[simp] theorem updPlan_frame (s : State) (bs : Nat) (f : TxPlan → TxPlan) :
    frame (updPlan s bs f) = frame s := by
  unfold updPlan
  simp

theorem execTxRetune_frame (bandSector : Nat) (s : State) :
    Stays (execTxRetune bandSector s) s := by
  simp only [execTxRetune]
  (repeat' split) <;> simp [*]

@[simp] theorem lowCeiling_frame (s : State) (bs : Nat) (p : TxPlan) :
    frame (lowCeiling s bs p) = frame s := by
  unfold lowCeiling
  simp

@[simp] theorem commandPlan_frame (s : State) (bs : Nat) (p : TxPlan) :
    frame (commandPlan s bs p) = frame s := by
  unfold commandPlan
  simp

theorem execTxCommand_frame (bandSector : Nat) (s : State) :
    Stays (execTxCommand bandSector s) s := by
  simp only [execTxCommand]
  (repeat' split) <;> simp [*]

theorem execLockDeadline_frame (bandSector : Nat) (locked : Bool) (microsShort : Nat) (s : State) :
    Stays (execLockDeadline bandSector locked microsShort s) s := by
  unfold execLockDeadline
  (repeat' split) <;> simp [*]

theorem execXpaEnRise_frame (bandSector : Nat) (s : State) :
    Stays (execXpaEnRise bandSector s) s := by
  unfold execXpaEnRise
  (repeat' split) <;> simp [*]

theorem execGntLbtSample_frame (bandSector : Nat) (granted : Bool) (channelPower : Int) (s : State) :
    Stays (execGntLbtSample bandSector granted channelPower s) s := by
  unfold execGntLbtSample
  (repeat' split) <;> simp [*]

theorem execXpaTxonRise_frame (bandSector : Nat) (s : State) :
    Stays (execXpaTxonRise bandSector s) s := by
  unfold execXpaTxonRise
  (repeat' split) <;> simp [*]

@[simp] theorem loopCorrect_frame (s : State) (bs : Nat) (p : TxPlan) (forward : Int) :
    frame (loopCorrect s bs p forward) = frame s := by
  unfold loopCorrect
  simp

@[simp] theorem detCheck_frame (s : State) (bs : Nat) (p : TxPlan) (mv : Nat) :
    frame (detCheck s bs p mv) = frame s := by
  simp only [detCheck]
  (repeat' split) <;> simp [*]

theorem execPowerLoopCorrection_frame (bandSector : Nat) (forwardPower : Int) (detMillivolts : Nat) (s : State) :
    Stays (execPowerLoopCorrection bandSector forwardPower detMillivolts s) s := by
  unfold execPowerLoopCorrection
  (repeat' split) <;> simp [*]

@[simp] theorem finishPlan_frame (s : State) (bs : Nat) (p : TxPlan) :
    frame (finishPlan s bs p) = frame s := by
  unfold finishPlan
  (repeat' split) <;> simp [*]

@[simp] theorem afterFrame_frame (s : State) (bs : Nat) (p : TxPlan) :
    frame (afterFrame s bs p) = frame s := by
  unfold afterFrame
  (repeat' split) <;> simp [*]

@[simp] theorem rampDown_frame (s : State) (bs : Nat) (p : TxPlan) (vswr : Nat) :
    frame (rampDown s bs p vswr) = frame s := by
  unfold rampDown
  simp

theorem execFrameEndRampDown_frame (bandSector vswr : Nat) (s : State) :
    Stays (execFrameEndRampDown bandSector vswr s) s := by
  unfold execFrameEndRampDown
  (repeat' split) <;> simp [*]

theorem execXpaEnFall_frame (bandSector : Nat) (s : State) :
    Stays (execXpaEnFall bandSector s) s := by
  simp only [execXpaEnFall]
  (repeat' split) <;> simp [*]

theorem execReflectedPowerTrip_frame (bandSector vswr : Nat) (s : State) :
    Stays (execReflectedPowerTrip bandSector vswr s) s := by
  unfold execReflectedPowerTrip
  (repeat' split) <;> simp [*]

theorem execSynthLossOfLock_frame (bandSector : Nat) (s : State) :
    Stays (execSynthLossOfLock bandSector s) s := by
  simp only [execSynthLossOfLock]
  (repeat' split) <;> simp [*]

@[simp] theorem gntLost_frame (ch : Nat) (s : State) (bs : Nat) :
    frame (gntLost ch s bs) = frame s := by
  unfold gntLost
  (repeat' split) <;> simp [*]

theorem execGntWithdrawn_frame (coex : Nat) (s : State) :
    Stays (execGntWithdrawn coex s) s := by
  unfold execGntWithdrawn
  simp [frame_foldl]

theorem execTxCountersClear_frame (who : Caller) (s : State) :
    Stays (execTxCountersClear who s) s := by
  unfold execTxCountersClear
  simp

/- Machine/Sett.lean -/

@[simp] theorem portDown_frame (s : State) (p : Nat) :
    frame (portDown s p) = frame s := by
  unfold portDown
  simp

theorem execSettPortUp_frame (port : Nat) (s : State) :
    Stays (execSettPortUp port s) s := by
  unfold execSettPortUp
  (repeat' split) <;> simp [*]

theorem execSettPortDown_frame (port : Nat) (s : State) :
    Stays (execSettPortDown port s) s := by
  unfold execSettPortDown
  (repeat' split) <;> simp [*]

theorem execSettAbortRx_frame (port : Nat) (s : State) :
    Stays (execSettAbortRx port s) s := by
  unfold execSettAbortRx
  (repeat' split) <;> simp [*]

@[simp] theorem settTransit_frame (f : SettFrame) (s : State) (p : Nat) :
    frame (settTransit f s p) = frame s := by
  unfold settTransit
  simp

@[simp] theorem settPass_frame (s : State) (port : Nat) (f : SettFrame) :
    frame (settPass s port f) = frame s := by
  unfold settPass
  simp [frame_foldl]

@[simp] theorem settTake_frame (s : State) (port : Nat) (f : SettFrame) :
    frame (settTake s port f) = frame s := by
  unfold settTake
  (repeat' split) <;> simp [*]

theorem execSettFrameRx_frame (port : Nat) (f : SettFrame) (s : State) :
    Stays (execSettFrameRx port f s) s := by
  unfold execSettFrameRx
  (repeat' split) <;> simp [*]

@[simp] theorem elect_frame (s : State) :
    frame (elect s) = frame s := by
  unfold elect
  simp

@[simp] theorem setRing_frame (s : State) (closed : Bool) :
    frame (setRing s closed) = frame s := by
  unfold setRing
  simp

@[simp] theorem refreshRing_frame (s : State) :
    frame (refreshRing s) = frame s := by
  simp only [refreshRing]
  (repeat' split) <;> simp [*]

theorem execCensusTx_frame (s : State) :
    Stays (execCensusTx s) s := by
  simp only [execCensusTx]
  (repeat' split) <;> simp [*]

@[simp] theorem checkNeighbour_frame (s : State) (p hops : Nat) (c : Census) :
    frame (checkNeighbour s p hops c) = frame s := by
  unfold checkNeighbour
  simp

@[simp] theorem setMember_frame (s : State) (m : Member) :
    frame (setMember s m) = frame s := by
  unfold setMember
  simp

@[simp] theorem censusOther_frame (s : State) (p hops : Nat) (c : Census) :
    frame (censusOther s p hops c) = frame s := by
  unfold censusOther
  (repeat' split) <;> simp [*]

@[simp] theorem censusOwn_frame (s : State) (p : Nat) :
    frame (censusOwn s p) = frame s := by
  unfold censusOwn
  simp

theorem execCensusRx_frame (port hops : Nat) (c : Census) (s : State) :
    Stays (execCensusRx port hops c s) s := by
  unfold execCensusRx
  (repeat' split) <;> simp [*]

@[simp] theorem loseMember_frame (s : State) (chip : Nat) (m : Member) :
    frame (loseMember s chip m) = frame s := by
  unfold loseMember
  simp [frame_foldl]

theorem execCensusMiss_frame (chip : Nat) (s : State) :
    Stays (execCensusMiss chip s) s := by
  unfold execCensusMiss
  (repeat' split) <;> simp [*]

@[simp] theorem sendLink_frame (s : State) (p : Nat) (m : LinkMessage) :
    frame (sendLink s p m) = frame s := by
  unfold sendLink
  simp

theorem execLinkDelayRequest_frame (port : Nat) (s : State) :
    Stays (execLinkDelayRequest port s) s := by
  simp only [execLinkDelayRequest]
  (repeat' split) <;> simp [*]

@[simp] theorem noteDelay_frame (s : State) (p t1 t2 t3 t4 : Nat) :
    frame (noteDelay s p t1 t2 t3 t4) = frame s := by
  unfold noteDelay
  simp

@[simp] theorem noteDeclaration_frame (s : State) (d : Declaration) :
    frame (noteDeclaration s d) = frame s := by
  unfold noteDeclaration
  simp

theorem execLinkFrameRx_frame (port : Nat) (m : LinkMessage) (declaration : Option Declaration) (s : State) :
    Stays (execLinkFrameRx port m declaration s) s := by
  unfold execLinkFrameRx
  (repeat' split) <;> simp [*]

theorem execMarkTx_frame (s : State) :
    Stays (execMarkTx s) s := by
  simp only [execMarkTx]
  (repeat' split) <;> simp [*, frame_foldl]

@[simp] theorem takeMark_frame (s : State) (i p hops markNo : Nat) (implied : Int) :
    frame (takeMark s i p hops markNo implied) = frame s := by
  unfold takeMark
  (repeat' split) <;> simp [*]

theorem execMarkRx_frame (port hops master markNo arrival : Nat) (s : State) :
    Stays (execMarkRx port hops master markNo arrival s) s := by
  simp only [execMarkRx]
  (repeat' split) <;> simp [*]

theorem execSettCountersClear_frame (who : Caller) (s : State) :
    Stays (execSettCountersClear who s) s := by
  unfold execSettCountersClear
  simp

/- Machine/JournalCode.lean -/

@[simp] theorem beginPass_frame (s : State) (pass : Nat) (digest : Octets) (records : List JournalRecord) :
    frame (beginPass s pass digest records) = frame s := by
  unfold beginPass
  simp

/- Machine/Tables.lean -/

@[simp] theorem takePacket_frame (s : State) (p : Packet) :
    frame (takePacket s p) = frame s := by
  unfold takePacket
  (repeat' split) <;> simp [*]

@[simp] theorem shadowPacket_frame (s : State) (p : Packet) :
    frame (shadowPacket s p) = frame s := by
  unfold shadowPacket
  simp

theorem execForwardPacket_frame (p : Packet) (s : State) :
    Stays (execForwardPacket p s) s := by
  unfold execForwardPacket
  (repeat' split) <;> simp [*]

theorem execReassemblyTimeout_frame (source tag size : Nat) (s : State) :
    Stays (execReassemblyTimeout source tag size s) s := by
  simp only [execReassemblyTimeout]
  (repeat' split) <;> simp [*]

theorem execLearnInsert_frame (s : State) :
    Stays (execLearnInsert s) s := by
  simp only [execLearnInsert]
  (repeat' split) <;> simp [*]

theorem execDaoRx_frame (target parent sender : Nat) (noPath : Bool) (s : State) :
    Stays (execDaoRx target parent sender noPath s) s := by
  simp only [execDaoRx]
  (repeat' split) <;> simp [*]

theorem execDisRx_frame (source : Octets) (s : State) :
    Stays (execDisRx source s) s := by
  unfold execDisRx
  (repeat' split) <;> simp [*]

theorem execDioTrickleTimer_frame (s : State) :
    Stays (execDioTrickleTimer s) s := by
  unfold execDioTrickleTimer
  (repeat' split) <;> simp [*, frame_foldl]

theorem execSweepVisit_frame (bucket : Nat) (s : State) :
    Stays (execSweepVisit bucket s) s := by
  unfold execSweepVisit
  (repeat' split) <;> simp [*]

theorem execUpdatePortHitCycle_frame (bucket : Nat) (s : State) :
    Stays (execUpdatePortHitCycle bucket s) s := by
  unfold execUpdatePortHitCycle
  simp

theorem execUpdatePortStructuralCycle_frame (s : State) :
    Stays (execUpdatePortStructuralCycle s) s := by
  unfold execUpdatePortStructuralCycle
  (repeat' split) <;> simp [*]

@[simp] theorem tableStatusNow_frame (s : State) (status : Nat) :
    frame (tableStatusNow s status) = frame s := by
  unfold tableStatusNow
  simp

@[simp] theorem tableDataNow_frame (s : State) (data : Octets) :
    frame (tableDataNow s data) = frame s := by
  unfold tableDataNow
  simp

@[simp] theorem tableRuns_frame (s : State) :
    frame (tableRuns s) = frame s := by
  unfold tableRuns
  simp

@[simp] theorem tableInsertApply_frame (s : State) :
    frame (tableInsertApply s) = frame s := by
  unfold tableInsertApply
  simp

@[simp] theorem tableUpdateApply_frame (s : State) :
    frame (tableUpdateApply s) = frame s := by
  unfold tableUpdateApply
  simp

@[simp] theorem tableDeleteApply_frame (s : State) :
    frame (tableDeleteApply s) = frame s := by
  unfold tableDeleteApply
  simp

@[simp] theorem tableReadKeyApply_frame (s : State) :
    frame (tableReadKeyApply s) = frame s := by
  unfold tableReadKeyApply
  (repeat' split) <;> simp [*]

@[simp] theorem tableMoved_frame (s : State) (loc : Nat) :
    frame (tableMoved s loc) = frame s := by
  unfold tableMoved
  simp

@[simp] theorem tableReadLocApply_frame (s : State) :
    frame (tableReadLocApply s) = frame s := by
  simp only [tableReadLocApply]
  (repeat' split) <;> simp [*]

@[simp] theorem tableConfirmApply_frame (s : State) :
    frame (tableConfirmApply s) = frame s := by
  unfold tableConfirmApply
  simp

@[simp] theorem routeAddApply_frame (s : State) :
    frame (routeAddApply s) = frame s := by
  unfold routeAddApply
  simp

@[simp] theorem routeDelApply_frame (s : State) :
    frame (routeDelApply s) = frame s := by
  unfold routeDelApply
  simp

@[simp] theorem routeReadApply_frame (s : State) :
    frame (routeReadApply s) = frame s := by
  unfold routeReadApply
  (repeat' split) <;> simp [*]

@[simp] theorem routeLookupApply_frame (s : State) :
    frame (routeLookupApply s) = frame s := by
  unfold routeLookupApply
  (repeat' split) <;> simp [*]

@[simp] theorem nhWriteApply_frame (s : State) :
    frame (nhWriteApply s) = frame s := by
  unfold nhWriteApply
  simp

@[simp] theorem nhReadApply_frame (s : State) :
    frame (nhReadApply s) = frame s := by
  unfold nhReadApply
  simp

@[simp] theorem tableCommand_frame (s : State) (who : Caller) (code : Nat) (act : State → State)
    (h : ∀ t, frame (act t) = frame t) : frame (tableCommand s who code act) = frame s := by
  unfold tableCommand
  simp [h]

theorem execTableInsert_frame (who : Caller) (s : State) :
    Stays (execTableInsert who s) s := by
  unfold execTableInsert
  simp

theorem execTableUpdate_frame (who : Caller) (s : State) :
    Stays (execTableUpdate who s) s := by
  unfold execTableUpdate
  simp

theorem execTableDelete_frame (who : Caller) (s : State) :
    Stays (execTableDelete who s) s := by
  unfold execTableDelete
  simp

theorem execTableReadKey_frame (who : Caller) (s : State) :
    Stays (execTableReadKey who s) s := by
  unfold execTableReadKey
  simp

theorem execTableReadLoc_frame (who : Caller) (s : State) :
    Stays (execTableReadLoc who s) s := by
  unfold execTableReadLoc
  simp

theorem execTableConfirm_frame (who : Caller) (s : State) :
    Stays (execTableConfirm who s) s := by
  unfold execTableConfirm
  simp

theorem execRouteAdd_frame (who : Caller) (s : State) :
    Stays (execRouteAdd who s) s := by
  unfold execRouteAdd
  simp

theorem execRouteDel_frame (who : Caller) (s : State) :
    Stays (execRouteDel who s) s := by
  unfold execRouteDel
  simp

theorem execRouteRead_frame (who : Caller) (s : State) :
    Stays (execRouteRead who s) s := by
  unfold execRouteRead
  simp

theorem execRouteLookup_frame (who : Caller) (s : State) :
    Stays (execRouteLookup who s) s := by
  unfold execRouteLookup
  simp

theorem execNhWrite_frame (who : Caller) (s : State) :
    Stays (execNhWrite who s) s := by
  unfold execNhWrite
  simp

theorem execNhRead_frame (who : Caller) (s : State) :
    Stays (execNhRead who s) s := by
  unfold execNhRead
  simp

theorem execFwdCountersClear_frame (who : Caller) (s : State) :
    Stays (execFwdCountersClear who s) s := by
  unfold execFwdCountersClear
  simp

theorem execNeighborDiscoveryRx_frame (address mac : Octets) (port : Nat) (s : State) :
    Stays (execNeighborDiscoveryRx address mac port s) s := by
  unfold execNeighborDiscoveryRx
  (repeat' split) <;> simp [*]

/- Machine/Crossing.lean -/

@[simp] theorem updFifo_frame (s : State) (n : Nat) (f : Fifo → Fifo) :
    frame (updFifo s n f) = frame s := by
  unfold updFifo
  simp

@[simp] theorem sampleOverflow_frame (s : State) (n lane : Nat) :
    frame (sampleOverflow s n lane) = frame s := by
  unfold sampleOverflow
  simp

theorem execFifoWriteUnit_frame (fifo lane : Nat) (unit : Octets) (last poison : Bool) (s : State) :
    Stays (execFifoWriteUnit fifo lane unit last poison s) s := by
  simp only [execFifoWriteUnit]
  (repeat' split) <;> simp [*]

@[simp] theorem flushNow_frame (s : State) (n : Nat) :
    frame (flushNow s n) = frame s := by
  unfold flushNow
  simp

@[simp] theorem deliver_frame (s : State) (n : Nat) (w : Octets) :
    frame (deliver s n w) = frame s := by
  unfold deliver
  simp

theorem execFifoReadWord_frame (fifo : Nat) (flipped : List Nat) (s : State) :
    Stays (execFifoReadWord fifo flipped s) s := by
  simp only [execFifoReadWord]
  (repeat' split) <;> simp [*]

theorem execFifoFlushRequest_frame (fifo : Nat) (s : State) :
    Stays (execFifoFlushRequest fifo s) s := by
  unfold execFifoFlushRequest
  (repeat' split) <;> simp [*]

theorem execFifoFlushTimeout_frame (fifo : Nat) (s : State) :
    Stays (execFifoFlushTimeout fifo s) s := by
  unfold execFifoFlushTimeout
  (repeat' split) <;> simp [*]

@[simp] theorem poisonPacket_frame (s : State) (k : Nat) :
    frame (poisonPacket s k) = frame s := by
  unfold poisonPacket
  simp

end Sys2Proof.Laws
end

