-- ==== Sys2Proof/Laws/FrameTwin.lean ====
section
/-! SUPPORT. The operations of these files of Machine leave the frame (Laws/Frame.lean) as it is: AppLife, TwinPair,
Device, Boundary, Debug, Update, Fleet. -/

namespace Sys2Proof.Laws

open Sys2Proof.Machine

/- Machine/AppLife.lean -/

@[simp] theorem appWrite_frame (s : State) (a : Nat) (v : Octets) :
    frame (appWrite s a v) = frame s := by
  unfold appWrite
  simp

@[simp] theorem mailStatus_frame (s : State) (addr st : Nat) :
    frame (mailStatus s addr st) = frame s := by
  unfold mailStatus
  simp

@[simp] theorem mailOutput_frame (s : State) (addr : Nat) (v : Octets) :
    frame (mailOutput s addr v) = frame s := by
  unfold mailOutput
  simp

@[simp] theorem abortMail_frame (s : State) (tid : Nat) :
    frame (abortMail s tid) = frame s := by
  unfold abortMail
  simp [frame_foldl]

@[simp] theorem orphanMail_frame (s : State) (tid : Nat) :
    frame (orphanMail s tid) = frame s := by
  unfold orphanMail
  simp

@[simp] theorem stopThread_frame (s : State) (tid kind : Nat) (f : State → State) (h : ∀ t, frame (f t) = frame t) :
    frame (stopThread s tid kind f) = frame s := by
  unfold stopThread
  split <;> simp [h]

@[simp] theorem freeThread_frame (s : State) (tid : Nat) :
    frame (freeThread s tid) = frame s := by
  unfold freeThread
  simp

@[simp] theorem killThread_frame (s : State) (tid : Nat) :
    frame (killThread s tid) = frame s := by
  unfold killThread
  simp

@[simp] theorem addThread_frame (s : State) (tid : Nat) (t : Thread) :
    frame (addThread s tid t) = frame s := by
  unfold addThread
  simp

@[simp] theorem createThread_frame (s : State) (lsf : Bool) (block : Octets) :
    frame (createThread s lsf block).1 = frame s := by
  simp only [createThread]
  (repeat' split) <;> simp [*]

theorem createThread_step {s : State} {lsf : Bool} {block : Octets} {res : State × Option Nat}
    (h : createThread s lsf block = res) : frame res.1 = frame s := by
  subst h; simp

@[simp] theorem endApplication_frame (s : State) :
    frame (endApplication s) = frame s := by
  unfold endApplication
  simp [frame_foldl]

@[simp] theorem loadApplication_frame (s : State) (cause : Nat) :
    frame (loadApplication s cause) = frame s := by
  simp only [loadApplication]
  (repeat' split) <;> simp [*, frame_foldl]

@[simp] theorem startApplication_frame (s : State) (cause : Nat) :
    frame (startApplication s cause) = frame s := by
  unfold startApplication
  simp

/- Machine/TwinPair.lean -/

@[simp] theorem updTwin_frame (s : State) (f : Twin → Twin) :
    frame (updTwin s f) = frame s := by
  unfold updTwin
  simp

@[simp] theorem advertise_frame (s : State) :
    frame (advertise s) = frame s := by
  unfold advertise
  simp [frame_foldl]

@[simp] theorem startContend_frame (s : State) :
    frame (startContend s) = frame s := by
  unfold startContend
  simp

@[simp] theorem resync_frame (s : State) :
    frame (resync s) = frame s := by
  unfold resync
  simp

@[simp] theorem chargeUnconfirmed_frame (s : State) (bs : Nat) :
    frame (chargeUnconfirmed s bs) = frame s := by
  unfold chargeUnconfirmed
  (repeat' split) <;> simp [*]

@[simp] theorem emptyWired_frame (s : State) :
    frame (emptyWired s) = frame s := by
  unfold emptyWired
  simp [frame_foldl]

@[simp] theorem sendAgain_frame (s : State) (p : Packet) :
    frame (sendAgain s p) = frame s := by
  unfold sendAgain
  (repeat' split) <;> simp [*]

@[simp] theorem oweRaises_frame (s : State) :
    frame (oweRaises s) = frame s := by
  unfold oweRaises
  simp

theorem execInterlockFaultClear_frame (s : State) :
    Stays (execInterlockFaultClear s) s := by
  simp only [execInterlockFaultClear]
  (repeat' split) <;> simp [*]

@[simp] theorem releaseAnswers_frame (s : State) (upTo : Option Nat) :
    frame (releaseAnswers s upTo) = frame s := by
  unfold releaseAnswers
  simp [frame_foldl]

@[simp] theorem partnerHeard_frame (s : State) :
    frame (partnerHeard s) = frame s := by
  unfold partnerHeard
  simp

@[simp] theorem checkLag_frame (s : State) :
    frame (checkLag s) = frame s := by
  unfold checkLag
  simp

theorem execPartnerMiss_frame (s : State) :
    Stays (execPartnerMiss s) s := by
  simp only [execPartnerMiss]
  (repeat' split) <;> simp [*]

@[simp] theorem sendJack_frame (s : State) :
    frame (sendJack s) = frame s := by
  unfold sendJack
  simp

@[simp] theorem sendJournal_frame (s : State) :
    frame (sendJournal s) = frame s := by
  unfold sendJournal
  simp

theorem execJournalFrameSend_frame (s : State) :
    Stays (execJournalFrameSend s) s := by
  unfold execJournalFrameSend
  (repeat' split) <;> simp [*]

@[simp] theorem resendGap_frame (s : State) (j : Jack) :
    frame (resendGap s j) = frame s := by
  unfold resendGap
  simp

@[simp] theorem noteJack_frame (s : State) (j : Jack) :
    frame (noteJack s j) = frame s := by
  unfold noteJack
  simp

theorem execDigestPassEnd_frame (s : State) :
    Stays (execDigestPassEnd s) s := by
  unfold execDigestPassEnd
  (repeat' split) <;> simp [*]

@[simp] theorem requestSwap_frame (s : State) :
    frame (requestSwap s) = frame s := by
  unfold requestSwap
  simp

theorem execTwinSwapNow_frame (who : Caller) (value : Nat) (s : State) :
    Stays (execTwinSwapNow who value s) s := by
  unfold execTwinSwapNow
  simp

theorem execTwinSwapPeriodExpiry_frame (s : State) :
    Stays (execTwinSwapPeriodExpiry s) s := by
  simp only [execTwinSwapPeriodExpiry]
  (repeat' split) <;> simp [*]

@[simp] theorem announceSwap_frame (s : State) :
    frame (announceSwap s) = frame s := by
  unfold announceSwap
  simp

theorem execSwapSearchTimeout_frame (s : State) :
    Stays (execSwapSearchTimeout s) s := by
  unfold execSwapSearchTimeout
  (repeat' split) <;> simp [*]

@[simp] theorem sendChunks_frame (s : State) (k : Nat) (l : List (Nat × Nat × Octets)) :
    frame (sendChunks s k l) = frame s := by
  induction l generalizing s k with
  | nil => rfl
  | cons c l ih => simp [sendChunks, ih]

@[simp] theorem snapshotAtBoundary_frame (s : State) :
    frame (snapshotAtBoundary s) = frame s := by
  unfold snapshotAtBoundary
  (repeat' split) <;> simp [*]

theorem execSnapshotRequest_frame (s : State) :
    Stays (execSnapshotRequest s) s := by
  unfold execSnapshotRequest
  (repeat' split) <;> simp [*]

@[simp] theorem queueFrom_frame (n : Nat) (l : Octets) (s : State) : frame (queueFrom n l s) = frame s := by
  induction n generalizing l s with
  | zero => rfl
  | succ n ih => simp [queueFrom, ih]

@[simp] theorem loadSnapshot_frame (s : State) : frame (loadSnapshot s) = frame s := by
  unfold loadSnapshot
  extract_lets
  rw [queueFrom_frame]
  rw [frame_foldl]
  · rfl
  · intro u a; rfl

@[simp] theorem snapshotDone_frame (s : State) :
    frame (snapshotDone s) = frame s := by
  unfold snapshotDone
  simp

theorem execSnapshotFrameRx_frame (chunkNo region offset : Nat) (data : Octets) (last : Bool) (s : State) :
    Stays (execSnapshotFrameRx chunkNo region offset data last s) s := by
  unfold execSnapshotFrameRx
  (repeat' split) <;> simp [*]

theorem execTwinResync_frame (who : Caller) (value : Nat) (s : State) :
    Stays (execTwinResync who value s) s := by
  unfold execTwinResync
  simp

@[simp] theorem lagAtBoundary_frame (s : State) :
    frame (lagAtBoundary s) = frame s := by
  unfold lagAtBoundary
  simp

@[simp] theorem requestRestart_frame (s : State) (bs cause : Nat) :
    frame (requestRestart s bs cause) = frame s := by
  unfold requestRestart
  simp

theorem execSeqRestart_frame (who : Caller) (bandSector : Nat) (s : State) :
    Stays (execSeqRestart who bandSector s) s := by
  unfold execSeqRestart
  simp

@[simp] theorem skipHalted_frame (bs : Nat) (s : State) (asn : Nat) :
    frame (skipHalted bs s asn) = frame s := by
  unfold skipHalted
  simp [frame_foldl]

theorem execSequencerRestartBoundary_frame (bandSector : Nat) (s : State) :
    Stays (execSequencerRestartBoundary bandSector s) s := by
  unfold execSequencerRestartBoundary
  (repeat' split) <;> simp [*]

theorem execSequencerResume_frame (bandSector : Nat) (s : State) :
    Stays (execSequencerResume bandSector s) s := by
  unfold execSequencerResume
  (repeat' split) <;> simp [*]

@[simp] theorem scrubRecord_frame (s : State) (e : Nat × Nat × Option Nat) :
    frame (scrubRecord s e) = frame s := by
  unfold scrubRecord
  simp

/- Machine/Device.lean -/

@[simp] theorem takeTemplates_frame (s : State) :
    frame (takeTemplates s) = frame s := by
  unfold takeTemplates
  simp

@[simp] theorem stepAtResume_frame (s : State) :
    frame (stepAtResume s) = frame s := by
  unfold stepAtResume
  (repeat' split) <;> simp [*]

@[simp] theorem dueProfile_frame (s : State) :
    frame (dueProfile s) = frame s := by
  unfold dueProfile
  simp

@[simp] theorem setSectorRx_frame (s : State) (n old new : Nat) :
    frame (setSectorRx s n old new) = frame s := by
  unfold setSectorRx
  simp

@[simp] theorem profileEvents_frame (s : State) (old new : List Nat) :
    frame (profileEvents s old new) = frame s := by
  unfold profileEvents
  simp [frame_foldl]

@[simp] theorem putProfiles_frame (s : State) :
    frame (putProfiles s) = frame s := by
  unfold putProfiles
  simp [frame_foldl]

theorem execProfileChangeEffective_frame (s : State) :
    Stays (execProfileChangeEffective s) s := by
  unfold execProfileChangeEffective
  (repeat' split) <;> simp [*]

@[simp] theorem thermalEvent_frame (s : State) (row : Nat) :
    frame (thermalEvent s row) = frame s := by
  unfold thermalEvent
  simp

@[simp] theorem thermalRow1_frame (s : State) :
    frame (thermalRow1 s) = frame s := by
  unfold thermalRow1
  simp

@[simp] theorem thermalCool_frame (s : State) :
    frame (thermalCool s) = frame s := by
  unfold thermalCool
  simp

@[simp] theorem thermalRow5_frame (s : State) :
    frame (thermalRow5 s) = frame s := by
  unfold thermalRow5
  simp

theorem execThermalRestoreTimer_frame (s : State) :
    Stays (execThermalRestoreTimer s) s := by
  unfold execThermalRestoreTimer
  (repeat' split) <;> simp [*]

/- Machine/Boundary.lean -/

@[simp] theorem finishPassed_frame (s : State) (b a : Nat) :
    frame (finishPassed s b a) = frame s := by
  unfold finishPassed
  simp [frame_foldl]

@[simp] theorem haltSeq_frame (s : State) (bs : Nat) :
    frame (haltSeq s bs) = frame s := by
  unfold haltSeq
  simp

@[simp] theorem haltWaiting_frame (s : State) (b : Nat) :
    frame (haltWaiting s b) = frame s := by
  unfold haltWaiting
  simp [frame_foldl]

/- Machine/Debug.lean -/

@[simp] theorem debugAnswer_frame (s : State) (ack data : Nat) :
    frame (debugAnswer s ack data) = frame s := by
  unfold debugAnswer
  simp

@[simp] theorem transaction_frame (s : State) (f : Nat) (mine : Bool) (act : State → State)
    (h : frame (act s) = frame s) : frame (transaction s f mine act) = frame s := by
  unfold transaction
  simp [h]

@[simp] theorem authRead_frame (s : State) (addr : Nat) :
    frame (authRead s addr) = frame s := by
  unfold authRead
  simp

@[simp] theorem authRequest_frame (s : State) (v : Nat) :
    frame (authRequest s v) = frame s := by
  unfold authRequest
  simp

@[simp] theorem authWrite_frame (s : State) (addr v : Nat) :
    frame (authWrite s addr v) = frame s := by
  unfold authWrite
  simp

@[simp] theorem openLevel_frame (s : State) :
    frame (openLevel s) = frame s := by
  unfold openLevel
  simp

theorem execDebugLock_frame (who : Caller) (value : Nat) (s : State) :
    Stays (execDebugLock who value s) s := by
  unfold execDebugLock
  simp

@[simp] theorem haltRole_frame (s : State) (hart : Nat) :
    frame (haltRole s hart) = frame s := by
  unfold haltRole
  simp

@[simp] theorem requestCore_frame (s : State) (core : Nat) :
    frame (requestCore s core) = frame s := by
  unfold requestCore
  simp

@[simp] theorem freeHart_frame (s : State) (hart : Nat) :
    frame (freeHart s hart) = frame s := by
  unfold freeHart
  simp

@[simp] theorem resumeHart_frame (s : State) (hart : Nat) :
    frame (resumeHart s hart) = frame s := by
  unfold resumeHart
  simp

@[simp] theorem setDmi_frame (s : State) (m addr v : Nat) :
    frame (setDmi s m addr v) = frame s := by
  unfold setDmi
  simp

@[simp] theorem busRead_frame (s : State) (a : Nat) :
    frame (busRead s a) = frame s := by
  unfold busRead
  simp

@[simp] theorem busWrite_frame (s : State) (a v : Nat) :
    frame (busWrite s a v) = frame s := by
  unfold busWrite
  simp

@[simp] theorem busControl_frame (s : State) (v : Nat) :
    frame (busControl s v) = frame s := by
  unfold busControl
  simp

@[simp] theorem busStep_frame (s : State) :
    frame (busStep s) = frame s := by
  unfold busStep
  simp

@[simp] theorem busTake_frame (s : State) :
    frame (busTake s) = frame s := by
  unfold busTake
  simp

@[simp] theorem abstractCommand_frame (s : State) (m : Nat) :
    frame (abstractCommand s m) = frame s := by
  unfold abstractCommand
  (repeat' split) <;> simp [*]

@[simp] theorem moduleRead_frame (s : State) (m addr : Nat) :
    frame (moduleRead s m addr) = frame s := by
  unfold moduleRead
  simp

@[simp] theorem onModule_frame (s : State) (auth : State → State) (dm : Nat → State → State)
    (ha : frame (auth s) = frame s) (hd : ∀ m, frame (dm m s) = frame s) : frame (onModule s auth dm) = frame s := by
  unfold onModule
  split <;> simp [ha, hd]

theorem execDebugRead_frame (frame : Nat) (s : State) :
    Stays (execDebugRead frame s) s := by
  unfold execDebugRead
  simp

theorem execDebugSelect_frame (frame : Nat) (s : State) :
    Stays (execDebugSelect frame s) s := by
  unfold execDebugSelect
  simp

theorem execDebugIdle_frame (frame : Nat) (s : State) :
    Stays (execDebugIdle frame s) s := by
  unfold execDebugIdle
  simp

theorem execDebugTransportReset_frame (s : State) :
    Stays (execDebugTransportReset s) s := by
  unfold execDebugTransportReset
  simp

theorem execDebugChallengeRead_frame (frame : Nat) (s : State) :
    Stays (execDebugChallengeRead frame s) s := by
  unfold execDebugChallengeRead
  simp

theorem execDebugAuthLock_frame (frame : Nat) (s : State) :
    Stays (execDebugAuthLock frame s) s := by
  unfold execDebugAuthLock
  simp

theorem execDebugUnlockExpiry_frame (s : State) :
    Stays (execDebugUnlockExpiry s) s := by
  unfold execDebugUnlockExpiry
  (repeat' split) <;> simp [*]

/- Machine/Update.lean -/

@[simp] theorem updateDataApply_frame (at_ : Nat) (data : Octets) (s : State) :
    frame (updateDataApply at_ data s) = frame s := by
  unfold updateDataApply
  simp

theorem execUpdateDataWrite_frame (who : Caller) (data : Octets) (s : State) :
    Stays (execUpdateDataWrite who data s) s := by
  unfold execUpdateDataWrite
  simp

@[simp] theorem updStatus_frame (s : State) (state code : Nat) :
    frame (updStatus s state code) = frame s := by
  unfold updStatus
  simp

@[simp] theorem updateEnds_frame (s : State) (code block : Nat) :
    frame (updateEnds s code block) = frame s := by
  unfold updateEnds
  simp

@[simp] theorem rejectBank_frame (s : State) (k : Nat) :
    frame (rejectBank s k) = frame s := by
  unfold rejectBank
  simp

@[simp] theorem startBuild_frame (s : State) :
    frame (startBuild s) = frame s := by
  unfold startBuild
  simp

@[simp] theorem resumeBuild_frame (s : State) (j : DeltaJournal) :
    frame (resumeBuild s j) = frame s := by
  unfold resumeBuild
  simp

@[simp] theorem updateApplyNow_frame (s : State) :
    frame (updateApplyNow s) = frame s := by
  unfold updateApplyNow
  (repeat' split) <;> simp [*]

theorem execUpdateApply_frame (who : Caller) (s : State) :
    Stays (execUpdateApply who s) s := by
  unfold execUpdateApply
  simp

@[simp] theorem updateAbortNow_frame (s : State) :
    frame (updateAbortNow s) = frame s := by
  unfold updateAbortNow
  (repeat' split) <;> simp [*]

theorem execUpdateAbort_frame (who : Caller) (s : State) :
    Stays (execUpdateAbort who s) s := by
  unfold execUpdateAbort
  simp

@[simp] theorem updateClearNow_frame (s : State) :
    frame (updateClearNow s) = frame s := by
  unfold updateClearNow
  simp

theorem execUpdateClearBuffer_frame (who : Caller) (s : State) :
    Stays (execUpdateClearBuffer who s) s := by
  unfold execUpdateClearBuffer
  simp

@[simp] theorem writeBlock_frame (s : State) (k i : Nat) (d : Octets) :
    frame (writeBlock s k i d) = frame s := by
  unfold writeBlock
  simp

@[simp] theorem blockDone_frame (s : State) (j : DeltaJournal) (i : Nat) :
    frame (blockDone s j i) = frame s := by
  unfold blockDone
  simp

@[simp] theorem buildBlock_frame (s : State) (j : DeltaJournal) (i : Nat) :
    frame (buildBlock s j i) = frame s := by
  unfold buildBlock
  simp

theorem execUe0BlockBuilt_frame (s : State) :
    Stays (execUe0BlockBuilt s) s := by
  unfold execUe0BlockBuilt
  (repeat' split) <;> simp [*]

@[simp] theorem verifyBuilt_frame (s : State) (j : DeltaJournal) :
    frame (verifyBuilt s j) = frame s := by
  unfold verifyBuilt
  simp

theorem execUpdateFinalVerify_frame (s : State) :
    Stays (execUpdateFinalVerify s) s := by
  unfold execUpdateFinalVerify
  (repeat' split) <;> simp [*]

@[simp] theorem updateAwaited_frame (s : State) (j : DeltaJournal) :
    frame (updateAwaited s j) = frame s := by
  unfold updateAwaited
  simp

theorem execUpdateResume_frame (s : State) :
    Stays (execUpdateResume s) s := by
  unfold execUpdateResume
  (repeat' split) <;> simp [*]

@[simp] theorem confirmTrial_frame (s : State) :
    frame (confirmTrial s) = frame s := by
  unfold confirmTrial
  simp

theorem execBankConfirm_frame (who : Caller) (s : State) :
    Stays (execBankConfirm who s) s := by
  unfold execBankConfirm
  simp

theorem execBankTrialTimeExpiry_frame (s : State) :
    Stays (execBankTrialTimeExpiry s) s := by
  unfold execBankTrialTimeExpiry
  (repeat' split) <;> simp [*]

/- Machine/Fleet.lean -/

@[simp] theorem updStage_frame (s : State) (slot : Nat) (f : Stage → Stage) :
    frame (updStage s slot f) = frame s := by
  unfold updStage
  simp

@[simp] theorem stageDataApply_frame (slot at_ : Nat) (data : Octets) (s : State) :
    frame (stageDataApply slot at_ data s) = frame s := by
  unfold stageDataApply
  simp

theorem execStageDataWrite_frame (who : Caller) (slot : Nat) (data : Octets) (s : State) :
    Stays (execStageDataWrite who slot data s) s := by
  unfold execStageDataWrite
  simp

@[simp] theorem stageEvent_frame (s : State) (slot : Nat) :
    frame (stageEvent s slot) = frame s := by
  unfold stageEvent
  simp

@[simp] theorem stageVerifyApply_frame (slot : Nat) (s : State) :
    frame (stageVerifyApply slot s) = frame s := by
  unfold stageVerifyApply
  simp

theorem execStageVerifyEncode_frame (who : Caller) (slot : Nat) (s : State) :
    Stays (execStageVerifyEncode who slot s) s := by
  unfold execStageVerifyEncode
  simp

@[simp] theorem stageClearApply_frame (slot : Nat) (s : State) :
    frame (stageClearApply slot s) = frame s := by
  unfold stageClearApply
  simp

theorem execStageClear_frame (who : Caller) (slot : Nat) (s : State) :
    Stays (execStageClear who slot s) s := by
  unfold execStageClear
  simp

@[simp] theorem generateFrame_frame (s : State) (k bs : Nat) :
    frame (generateFrame s k bs) = frame s := by
  unfold generateFrame
  simp

@[simp] theorem fillSector_frame (k : Nat) (s : State) (bs : Nat) :
    frame (fillSector k s bs) = frame s := by
  unfold fillSector
  simp

@[simp] theorem fillCampaign_frame (s : State) (k : Nat) :
    frame (fillCampaign s k) = frame s := by
  unfold fillCampaign
  simp [frame_foldl]

theorem execCampaignFrameGenerate_frame (bandSector campaign : Nat) (s : State) :
    Stays (execCampaignFrameGenerate bandSector campaign s) s := by
  simp only [execCampaignFrameGenerate]
  (repeat' split) <;> simp [*]

@[simp] theorem sendCampaign_frame (s : State) (i : Nat) (content : Octets) :
    frame (sendCampaign s i content) = frame s := by
  unfold sendCampaign
  simp

@[simp] theorem oweBroadcast_frame (s : State) (c : Campaign) (i : Nat) :
    frame (oweBroadcast s c i) = frame s := by
  unfold oweBroadcast
  (repeat' split) <;> simp [*, frame_foldl]

@[simp] theorem sendOffer_frame (k : Nat) (s : State) (i : Nat) :
    frame (sendOffer k s i) = frame s := by
  unfold sendOffer
  simp

@[simp] theorem dropTarget_frame (k : Nat) (s : State) (i : Nat) :
    frame (dropTarget k s i) = frame s := by
  unfold dropTarget
  simp

@[simp] theorem offerOrDrop_frame (k : Nat) (s : State) (i : Nat) :
    frame (offerOrDrop k s i) = frame s := by
  unfold offerOrDrop
  simp

@[simp] theorem sendActivate_frame (k : Nat) (s : State) (i : Nat) :
    frame (sendActivate k s i) = frame s := by
  unfold sendActivate
  simp

@[simp] theorem campaignCfgApply_frame (k : Nat) (v : Octets) (s : State) :
    frame (campaignCfgApply k v s) = frame s := by
  unfold campaignCfgApply
  simp

theorem execCampaignCfgWrite_frame (who : Caller) (campaign : Nat) (cfg : Octets) (s : State) :
    Stays (execCampaignCfgWrite who campaign cfg s) s := by
  unfold execCampaignCfgWrite
  simp

@[simp] theorem campaignStartApply_frame (k : Nat) (s : State) :
    frame (campaignStartApply k s) = frame s := by
  unfold campaignStartApply
  simp

theorem execCampaignStart_frame (who : Caller) (campaign : Nat) (s : State) :
    Stays (execCampaignStart who campaign s) s := by
  unfold execCampaignStart
  simp

theorem execCampaignPause_frame (who : Caller) (campaign : Nat) (s : State) :
    Stays (execCampaignPause who campaign s) s := by
  unfold execCampaignPause
  simp

@[simp] theorem campaignResumeApply_frame (k : Nat) (s : State) :
    frame (campaignResumeApply k s) = frame s := by
  unfold campaignResumeApply
  simp

theorem execCampaignResume_frame (who : Caller) (campaign : Nat) (s : State) :
    Stays (execCampaignResume who campaign s) s := by
  unfold execCampaignResume
  simp

@[simp] theorem campaignCancelApply_frame (k : Nat) (s : State) :
    frame (campaignCancelApply k s) = frame s := by
  unfold campaignCancelApply
  simp [frame_foldl]

theorem execCampaignCancel_frame (who : Caller) (campaign : Nat) (s : State) :
    Stays (execCampaignCancel who campaign s) s := by
  unfold execCampaignCancel
  simp

@[simp] theorem activateCampaign_frame (k : Nat) (s : State) :
    frame (activateCampaign k s) = frame s := by
  unfold activateCampaign
  simp [frame_foldl]

theorem execCampaignActivate_frame (who : Caller) (campaign : Nat) (s : State) :
    Stays (execCampaignActivate who campaign s) s := by
  unfold execCampaignActivate
  simp

@[simp] theorem campaignClearApply_frame (k : Nat) (s : State) :
    frame (campaignClearApply k s) = frame s := by
  unfold campaignClearApply
  simp

theorem execCampaignClear_frame (who : Caller) (campaign : Nat) (s : State) :
    Stays (execCampaignClear who campaign s) s := by
  unfold execCampaignClear
  simp

@[simp] theorem takeReport_frame (s : State) (k i status : Nat) :
    frame (takeReport s k i status) = frame s := by
  unfold takeReport
  (repeat' split) <;> simp [*]

theorem execCampaignReportRx_frame (handle : Nat) (content : Octets) (s : State) :
    Stays (execCampaignReportRx handle content s) s := by
  unfold execCampaignReportRx
  (repeat' split) <;> simp [*]

@[simp] theorem passEnd_frame (s : State) (k : Nat) :
    frame (passEnd s k) = frame s := by
  unfold passEnd
  simp [frame_foldl]

theorem execCampaignPassEnd_frame (slotframe : Nat) (s : State) :
    Stays (execCampaignPassEnd slotframe s) s := by
  unfold execCampaignPassEnd
  (repeat' split) <;> simp [*, frame_foldl]

theorem execCampaignEndAsnReached_frame (campaign : Nat) (s : State) :
    Stays (execCampaignEndAsnReached campaign s) s := by
  simp only [execCampaignEndAsnReached]
  (repeat' split) <;> simp [*]

theorem execCampaignActivateAsnReached_frame (campaign : Nat) (s : State) :
    Stays (execCampaignActivateAsnReached campaign s) s := by
  simp only [execCampaignActivateAsnReached]
  (repeat' split) <;> simp [*]

theorem execCampaignActivatingTimeout_frame (campaign : Nat) (s : State) :
    Stays (execCampaignActivatingTimeout campaign s) s := by
  simp only [execCampaignActivatingTimeout]
  (repeat' split) <;> simp [*]

@[simp] theorem resendCampaign_frame (s : State) (k : Nat) :
    frame (resendCampaign s k) = frame s := by
  unfold resendCampaign
  simp [frame_foldl]

@[simp] theorem wakeCampaigns_frame (s : State) :
    frame (wakeCampaigns s) = frame s := by
  unfold wakeCampaigns
  simp [frame_foldl]

theorem execStageEncodeDone_frame (slot : Nat) (s : State) :
    Stays (execStageEncodeDone slot s) s := by
  unfold execStageEncodeDone
  (repeat' split) <;> simp [*]

@[simp] theorem restoreCampaign_frame (s : State) (p : Nat × Nat × Campaign) :
    frame (restoreCampaign s p) = frame s := by
  unfold restoreCampaign
  simp

@[simp] theorem restoreCampaigns_frame (s : State) :
    frame (restoreCampaigns s) = frame s := by
  unfold restoreCampaigns
  simp [frame_foldl]

end Sys2Proof.Laws
end

