-- ==== Sys2Proof/Laws/FrameHost.lean ====
section
/-! SUPPORT. The operations of these files of Machine leave the frame (Laws/Frame.lean) as it is: Threads, Events,
Measure, Wired, ObjectWrite, SopOps, SopSession, SopWire, Boot, Mailbox, Select, Journal, Supply, Load. -/

namespace Sys2Proof.Laws

open Sys2Proof.Machine

/- Machine/Threads.lean -/

theorem onThread_frame (s : State) (core : Nat) (f : Nat → Thread → State) (h : ∀ tid t, frame (f tid t) = frame s) :
    Stays (onThread s core f) s := by
  unfold onThread
  (repeat' split) <;> simp [h]

@[simp] theorem yieldCore_frame (s : State) (core kind tid : Nat) (f : State → State) (h : ∀ t, frame (f t) = frame t) :
    frame (yieldCore s core kind tid f) = frame s := by
  unfold yieldCore
  simp [h]

theorem execThreadCreate_frame (core addr : Nat) (s : State) : Stays (execThreadCreate core addr s) s := by
  unfold execThreadCreate
  dsimp only
  split
  · simp
  · apply onThread_frame
    intro tid t
    split <;> simp

theorem execThreadExit_frame (core : Nat) (s : State) :
    Stays (execThreadExit core s) s := by
  unfold execThreadExit
  apply onThread_frame
  intro tid t
  simp

theorem execThreadYield_frame (core : Nat) (s : State) :
    Stays (execThreadYield core s) s := by
  unfold execThreadYield
  apply onThread_frame
  intro tid t
  simp

theorem execThreadBlock_frame (core mask : Nat) (s : State) :
    Stays (execThreadBlock core mask s) s := by
  unfold execThreadBlock
  apply onThread_frame
  intro tid t
  simp

theorem execFlagsSet_frame (core value : Nat) (s : State) :
    Stays (execFlagsSet core value s) s := by
  unfold execFlagsSet
  apply onThread_frame
  intro tid t
  simp

theorem execFlagsTake_frame (core : Nat) (s : State) :
    Stays (execFlagsTake core s) s := by
  unfold execFlagsTake
  apply onThread_frame
  intro tid t
  simp

theorem execTimerSet_frame (core time : Nat) (s : State) :
    Stays (execTimerSet core time s) s := by
  unfold execTimerSet
  apply onThread_frame
  intro tid t
  simp

theorem execThreadTimerExpiry_frame (tid : Nat) (s : State) :
    Stays (execThreadTimerExpiry tid s) s := by
  unfold execThreadTimerExpiry
  (repeat' split) <;> simp [*]

@[simp] theorem setPriority_frame (s : State) (tid prio : Nat) :
    frame (setPriority s tid prio) = frame s := by
  simp only [setPriority]
  (repeat' split) <;> simp [*]

theorem execThreadPrioWrite_frame (core prio : Nat) (s : State) :
    Stays (execThreadPrioWrite core prio s) s := by
  unfold execThreadPrioWrite
  apply onThread_frame
  intro tid t
  simp

@[simp] theorem takeReading_frame (s : State) (source : Nat) :
    frame (takeReading s source).2 = frame s := by
  unfold takeReading
  (repeat' split) <;> simp [*]

theorem takeReading_step {s : State} {source : Nat} {res : Nat × State}
    (h : takeReading s source = res) : frame res.2 = frame s := by
  subst h; simp

theorem execDtimeRead_frame (core : Nat) (s : State) :
    Stays (execDtimeRead core s) s := by
  unfold execDtimeRead
  apply onThread_frame
  intro tid t
  simp

theorem execRandomRead_frame (core : Nat) (s : State) :
    Stays (execRandomRead core s) s := by
  unfold execRandomRead
  apply onThread_frame
  intro tid t
  simp

@[simp] theorem apqResult_frame (s : State) (tid queue v : Nat) :
    frame (apqResult s tid queue v) = frame s := by
  unfold apqResult
  simp

theorem execApqTake_frame (core queue addr : Nat) (s : State) :
    Stays (execApqTake core queue addr s) s := by
  unfold execApqTake
  apply onThread_frame
  intro tid t
  (repeat' split) <;> simp

@[simp] theorem admitNew_frame (x : State × Bool) (k : Nat) : frame (admitNew x k).1 = frame x.1 := by
  unfold admitNew
  split <;> simp

theorem admitAll_frame (l : List Nat) (x : State × Bool) : frame (l.foldl admitNew x).1 = frame x.1 := by
  induction l generalizing x with
  | nil => rfl
  | cons k l ih => rw [List.foldl_cons, ih, admitNew_frame]

@[simp] theorem submitPacket_frame (s : State) (p : Packet) : frame (submitPacket s p).1 = frame s := by
  unfold submitPacket
  simp [admitAll_frame]

theorem submitPacket_step {s t : State} {p : Packet} {b : Bool} (h : submitPacket s p = (t, b)) : frame t = frame s := by
  have e := submitPacket_frame s p
  rw [h] at e
  exact e

theorem execEnqSubmit_frame (core addr : Nat) (s : State) : Stays (execEnqSubmit core addr s) s := by
  unfold execEnqSubmit
  apply onThread_frame
  intro tid t
  dsimp only
  split
  · simp
  · split
    · simp
    · split <;> simp [submitPacket_step (by assumption : submitPacket _ _ = _)]

theorem mailSubmit_frame (s : State) (core tid addr target : Nat)
    (job : State → Option (State × Option Nat × Option (Nat × Octets)))
    (h : ∀ u t j r, job u = some (t, j, r) → frame t = frame u) :
    frame (mailSubmit s core tid addr target job) = frame s := by
  unfold mailSubmit
  dsimp only
  (repeat' split) <;> first | (simp; done) | (simp [h _ _ _ _ (by assumption : job _ = _)]; done)

theorem execMailboxSecSubmit_frame (core addr : Nat) (s : State) : Stays (execMailboxSecSubmit core addr s) s := by
  unfold execMailboxSecSubmit
  apply onThread_frame
  intro tid t
  apply mailSubmit_frame
  intro u v j r h
  simp only [Option.map_eq_some_iff, Prod.mk.injEq] at h
  obtain ⟨q, _, rfl, _⟩ := h
  simp

theorem execMailboxEvtSubmit_frame (core addr : Nat) (s : State) : Stays (execMailboxEvtSubmit core addr s) s := by
  unfold execMailboxEvtSubmit
  apply onThread_frame
  intro tid t
  apply mailSubmit_frame
  intro u v j r h
  dsimp only at h
  split at h
  · simp only [Option.some.injEq, Prod.mk.injEq] at h
    obtain ⟨rfl, _⟩ := h
    simp
  · cases h

theorem execMailboxComplete_frame (number : Nat) (s : State) :
    Stays (execMailboxComplete number s) s := by
  unfold execMailboxComplete
  (repeat' split) <;> simp [*]

theorem execWakeSourceRaise_frame (tid source : Nat) (s : State) :
    Stays (execWakeSourceRaise tid source s) s := by
  unfold execWakeSourceRaise
  (repeat' split) <;> simp [*]

theorem execSliceExpire_frame (core : Nat) (s : State) :
    Stays (execSliceExpire core s) s := by
  unfold execSliceExpire
  apply onThread_frame
  intro tid t
  simp

theorem execThreadException_frame (core mcause pc : Nat) (s : State) :
    Stays (execThreadException core mcause pc s) s := by
  unfold execThreadException
  apply onThread_frame
  intro tid t
  simp

theorem threadCommand_frame (s : State) (who : Caller) (tid code arg : Nat) (from_ : List ThreadState) (ok : Bool)
    (act : State → State) (h : ∀ t, frame (act t) = frame t) :
    Stays (threadCommand s who tid code arg from_ ok act) s := by
  unfold threadCommand
  simp [h]

@[simp] theorem suspendThread_frame (tid : Nat) (s : State) :
    frame (suspendThread tid s) = frame s := by
  unfold suspendThread
  simp

@[simp] theorem resumeThread_frame (tid : Nat) (s : State) :
    frame (resumeThread tid s) = frame s := by
  unfold resumeThread
  (repeat' split) <;> simp [*]

@[simp] theorem setAffinity_frame (tid mask : Nat) (s : State) :
    frame (setAffinity tid mask s) = frame s := by
  simp only [setAffinity]
  (repeat' split) <;> simp [*]

theorem execThreadSuspend_frame (who : Caller) (tid : Nat) (s : State) :
    Stays (execThreadSuspend who tid s) s := by
  unfold execThreadSuspend
  apply threadCommand_frame
  intro t
  simp

theorem execThreadResume_frame (who : Caller) (tid : Nat) (s : State) :
    Stays (execThreadResume who tid s) s := by
  unfold execThreadResume
  apply threadCommand_frame
  intro t
  simp

theorem execThreadKill_frame (who : Caller) (tid : Nat) (s : State) :
    Stays (execThreadKill who tid s) s := by
  unfold execThreadKill
  apply threadCommand_frame
  intro t
  simp

theorem execThreadPriorityCmd_frame (who : Caller) (tid prio : Nat) (s : State) :
    Stays (execThreadPriorityCmd who tid prio s) s := by
  unfold execThreadPriorityCmd
  apply threadCommand_frame
  intro t
  simp

theorem execThreadAffinityCmd_frame (who : Caller) (tid mask : Nat) (s : State) :
    Stays (execThreadAffinityCmd who tid mask s) s := by
  unfold execThreadAffinityCmd
  apply threadCommand_frame
  intro t
  simp

theorem execAppRestart_frame (who : Caller) (value : Nat) (s : State) :
    Stays (execAppRestart who value s) s := by
  unfold execAppRestart
  simp

@[simp] theorem schedObsApply_frame (v : Nat) (s : State) :
    frame (schedObsApply v s) = frame s := by
  unfold schedObsApply
  simp

theorem execSchedObsWrite_frame (who : Caller) (value : Nat) (s : State) :
    Stays (execSchedObsWrite who value s) s := by
  unfold execSchedObsWrite
  simp

@[simp] theorem traceCursorApply_frame (who : Caller) (v : Nat) (s : State) :
    frame (traceCursorApply who v s) = frame s := by
  unfold traceCursorApply
  simp

theorem execTraceCursorWrite_frame (who : Caller) (value : Nat) (s : State) :
    Stays (execTraceCursorWrite who value s) s := by
  unfold execTraceCursorWrite
  simp

theorem execStatWindowEnd_frame (s : State) :
    Stays (execStatWindowEnd s) s := by
  unfold execStatWindowEnd
  (repeat' split) <;> simp [*]

/- Machine/Events.lean -/

@[simp] theorem evtLatch_frame (who : Caller) (from_ : Nat) (s : State) :
    frame (evtLatch who from_ s) = frame s := by
  unfold evtLatch
  simp

@[simp] theorem evtCursorApply_frame (who : Caller) (value : Nat) (s : State) :
    frame (evtCursorApply who value s) = frame s := by
  unfold evtCursorApply
  simp

theorem execEvtCursorWrite_frame (who : Caller) (value : Nat) (s : State) :
    Stays (execEvtCursorWrite who value s) s := by
  unfold execEvtCursorWrite
  simp

@[simp] theorem evtMarkApply_frame (who : Caller) (value : Nat) (s : State) :
    frame (evtMarkApply who value s) = frame s := by
  unfold evtMarkApply
  simp

theorem execEvtMarkWrite_frame (who : Caller) (value : Nat) (s : State) :
    Stays (execEvtMarkWrite who value s) s := by
  unfold execEvtMarkWrite
  simp

@[simp] theorem evtRewindApply_frame (who : Caller) (s : State) :
    frame (evtRewindApply who s) = frame s := by
  unfold evtRewindApply
  simp

theorem execEvtRewind_frame (who : Caller) (value : Nat) (s : State) :
    Stays (execEvtRewind who value s) s := by
  unfold execEvtRewind
  simp

@[simp] theorem evtClearApply_frame (who : Caller) (s : State) :
    frame (evtClearApply who s) = frame s := by
  unfold evtClearApply
  simp

theorem execEvtClear_frame (who : Caller) (value : Nat) (s : State) :
    Stays (execEvtClear who value s) s := by
  unfold execEvtClear
  simp

@[simp] theorem evtCodeApply_frame (who : Caller) (value : Nat) (s : State) :
    frame (evtCodeApply who value s) = frame s := by
  unfold evtCodeApply
  simp

theorem execEvtCodeCursorWrite_frame (who : Caller) (value : Nat) (s : State) :
    Stays (execEvtCodeCursorWrite who value s) s := by
  unfold execEvtCodeCursorWrite
  simp

/- Machine/Measure.lean -/

@[simp] theorem surveyEvent_frame (s : State) (bs : Nat) :
    frame (surveyEvent s bs) = frame s := by
  unfold surveyEvent
  simp

theorem execSurveyPeriodEnd_frame (bins : List SurveyBin) (s : State) :
    Stays (execSurveyPeriodEnd bins s) s := by
  unfold execSurveyPeriodEnd
  (repeat' split) <;> simp [*, frame_foldl]

@[simp] theorem surveyCursorApply_frame (who : Caller) (value : Nat) (s : State) :
    frame (surveyCursorApply who value s) = frame s := by
  unfold surveyCursorApply
  simp

theorem execSurveyCursorWrite_frame (who : Caller) (value : Nat) (s : State) :
    Stays (execSurveyCursorWrite who value s) s := by
  unfold execSurveyCursorWrite
  simp

theorem execNfHistoryHourly_frame (s : State) :
    Stays (execNfHistoryHourly s) s := by
  simp only [execNfHistoryHourly]
  (repeat' split) <;> simp [*]

@[simp] theorem historyApply_frame (who : Caller) (value : Nat) (s : State) :
    frame (historyApply who value s) = frame s := by
  unfold historyApply
  simp

theorem execNfHistoryCursorWrite_frame (who : Caller) (value : Nat) (s : State) :
    Stays (execNfHistoryCursorWrite who value s) s := by
  unfold execNfHistoryCursorWrite
  simp

@[simp] theorem rangeApply_frame (h k : Nat) (s : State) :
    frame (rangeApply h k s) = frame s := by
  unfold rangeApply
  simp

theorem execRangeRequest_frame (who : Caller) (handle k : Nat) (s : State) :
    Stays (execRangeRequest who handle k s) s := by
  unfold execRangeRequest
  simp

@[simp] theorem updRange_frame (s : State) (h : Nat) (f : RangeRun → RangeRun) :
    frame (updRange s h f) = frame s := by
  unfold updRange
  simp

theorem execRangeReportRx_frame (handle : Nat) (content : Octets) (s : State) :
    Stays (execRangeReportRx handle content s) s := by
  simp only [execRangeReportRx]
  (repeat' split) <;> simp [*]

@[simp] theorem excursion_frame (s : State) (i mv : Nat) (out : Bool) :
    frame (excursion s i mv out) = frame s := by
  unfold excursion
  simp

theorem execSupplySample_frame (vin vbat vioOut core power : Nat) (s : State) :
    Stays (execSupplySample vin vbat vioOut core power s) s := by
  unfold execSupplySample
  (repeat' split) <;> simp [*]

theorem execTemperatureSample_frame (temps : List Int) (s : State) :
    Stays (execTemperatureSample temps s) s := by
  unfold execTemperatureSample
  (repeat' split) <;> simp [*]

@[simp] theorem ainThresholds_frame (s : State) (n : Nat) (x : AinState) :
    frame (ainThresholds s n x).2 = frame s := by
  unfold ainThresholds
  simp

theorem ainThresholds_step {s : State} {n : Nat} {x : AinState} {res : AinState × State}
    (h : ainThresholds s n x = res) : frame res.2 = frame s := by
  subst h; simp

theorem execAinSample_frame (channel : Nat) (codes : List Nat) (s : State) :
    Stays (execAinSample channel codes s) s := by
  simp only [execAinSample]
  (repeat' split) <;>
    first
    | (simp; done)
    | (simp [*]; done)
    | (simp [ainThresholds_step (by assumption : ainThresholds _ _ _ = _)]; done)
    | (simp [*, ainThresholds_step (by assumption : ainThresholds _ _ _ = _)]; done)
    | (simp [frame_foldl]; done)
    | (simp [*, frame_foldl]; done)
    | (simp [frame_foldl, ainThresholds_step (by assumption : ainThresholds _ _ _ = _)]; done)
    | (simp [*, frame_foldl, ainThresholds_step (by assumption : ainThresholds _ _ _ = _)]; done)

/- Machine/Wired.lean -/

@[simp] theorem judgeHead_frame (port : Nat) (x : State × Option WirePick) (cls : Nat) :
    frame (judgeHead port x cls).1 = frame x.1 := by
  unfold judgeHead
  dsimp only
  (repeat' split) <;> simp

theorem judgeHeads_frame (port : Nat) (l : List Nat) (x : State × Option WirePick) :
    frame (l.foldl (judgeHead port) x).1 = frame x.1 := by
  induction l generalizing x with
  | nil => rfl
  | cons c l ih => rw [List.foldl_cons, ih, judgeHead_frame]

@[simp] theorem pickHead_frame (s : State) (port : Nat) : frame (pickHead s port).1 = frame s := by
  unfold pickHead
  rw [judgeHeads_frame]

theorem pickHead_step {s t : State} {port : Nat} {w : Option WirePick} (h : pickHead s port = (t, w)) :
    frame t = frame s := by
  have e := pickHead_frame s port
  rw [h] at e
  exact e

@[simp] theorem startWire_frame (s : State) (port : Nat) (w : WirePick) :
    frame (startWire s port w) = frame s := by
  simp only [startWire]
  (repeat' split) <;>
    first
    | (simp; done)
    | (simp [*]; done)
    | (simp [wireOut_step (by assumption : wireOut _ _ _ = _)]; done)
    | (simp [*, wireOut_step (by assumption : wireOut _ _ _ = _)]; done)
    | (simp [frame_foldl]; done)
    | (simp [*, frame_foldl]; done)
    | (simp [frame_foldl, wireOut_step (by assumption : wireOut _ _ _ = _)]; done)
    | (simp [*, frame_foldl, wireOut_step (by assumption : wireOut _ _ _ = _)]; done)

theorem sendTransit_step {s : State} {sett : Nat} {t : State}
    (h : sendTransit s sett = some t) : frame t = frame s := by
  unfold sendTransit at h
  (repeat' split at h) <;> simp at h <;> (subst h; simp)

theorem execWiredEgressSelect_frame (port : Nat) (s : State) :
    Stays (execWiredEgressSelect port s) s := by
  unfold execWiredEgressSelect
  (repeat' split) <;>
    first
    | (simp; done)
    | (simp [*]; done)
    | (simp [pickHead_step (by assumption : pickHead _ _ = _)]; done)
    | (simp [*, pickHead_step (by assumption : pickHead _ _ = _)]; done)
    | (simp [sendTransit_step (by assumption : sendTransit _ _ = _)]; done)
    | (simp [*, sendTransit_step (by assumption : sendTransit _ _ = _)]; done)
    | (simp [pickHead_step (by assumption : pickHead _ _ = _), sendTransit_step (by assumption : sendTransit _ _ = _)]; done)
    | (simp [*, pickHead_step (by assumption : pickHead _ _ = _), sendTransit_step (by assumption : sendTransit _ _ = _)]; done)
    | (simp [frame_foldl]; done)
    | (simp [*, frame_foldl]; done)
    | (simp [frame_foldl, pickHead_step (by assumption : pickHead _ _ = _)]; done)
    | (simp [*, frame_foldl, pickHead_step (by assumption : pickHead _ _ = _)]; done)
    | (simp [frame_foldl, sendTransit_step (by assumption : sendTransit _ _ = _)]; done)
    | (simp [*, frame_foldl, sendTransit_step (by assumption : sendTransit _ _ = _)]; done)
    | (simp [frame_foldl, pickHead_step (by assumption : pickHead _ _ = _), sendTransit_step (by assumption : sendTransit _ _ = _)]; done)
    | (simp [*, frame_foldl, pickHead_step (by assumption : pickHead _ _ = _), sendTransit_step (by assumption : sendTransit _ _ = _)]; done)

theorem execCutThroughUnderrun_frame (port : Nat) (poison : Bool) (s : State) :
    Stays (execCutThroughUnderrun port poison s) s := by
  unfold execCutThroughUnderrun
  (repeat' split) <;> simp [*]

theorem execQueueFlush_frame (who : Caller) (queue : Nat) (s : State) :
    Stays (execQueueFlush who queue s) s := by
  unfold execQueueFlush
  simp

@[simp] theorem storeShaper_frame (s : State) (n : Nat) (c : Octets) :
    frame (storeShaper s n c) = frame s := by
  unfold storeShaper
  simp

@[simp] theorem shaperApply_frame (n : Nat) (c : Octets) (s : State) :
    frame (shaperApply n c s) = frame s := by
  unfold shaperApply
  simp

theorem execShaperCfgWrite_frame (who : Caller) (config : Octets) (s : State) :
    Stays (execShaperCfgWrite who config s) s := by
  unfold execShaperCfgWrite
  simp

@[simp] theorem gateApply_frame (eth : Bool) (sub : Nat) (g : Octets) (s : State) :
    frame (gateApply eth sub g s) = frame s := by
  unfold gateApply
  simp

theorem execGateWrite_frame (who : Caller) (eth : Bool) (sub : Nat) (gate : Octets) (s : State) :
    Stays (execGateWrite who eth sub gate s) s := by
  unfold execGateWrite
  simp

theorem execGateCycleStart_frame (port : Nat) (s : State) :
    Stays (execGateCycleStart port s) s := by
  simp only [execGateCycleStart]
  (repeat' split) <;> simp [*]

theorem execQueueCountersClear_frame (who : Caller) (s : State) :
    Stays (execQueueCountersClear who s) s := by
  unfold execQueueCountersClear
  simp

/- Machine/ObjectWrite.lean -/

@[simp] theorem selectApply_frame (v : Nat) (s : State) :
    frame (selectApply v s) = frame s := by
  unfold selectApply
  simp

@[simp] theorem threadAct_frame (v : Octets) (s : State) : frame (threadAct v s) = frame s := by
  unfold threadAct
  dsimp only
  split <;> simp

@[simp] theorem campaignAct_frame (k code : Nat) (s : State) :
    frame (campaignAct k code s) = frame s := by
  unfold campaignAct
  (repeat' split) <;> simp [*]

@[simp] theorem tableAct_frame (code : Nat) (s : State) :
    frame (tableAct code s) = frame s := by
  unfold tableAct
  (repeat' split) <;> simp [*]

@[simp] theorem closeDisabled_frame (s : State) (v : Nat) :
    frame (closeDisabled s v) = frame s := by
  unfold closeDisabled
  simp [frame_foldl]

@[simp] theorem oweCapability_frame (s : State) :
    frame (oweCapability s) = frame s := by
  unfold oweCapability
  simp

@[simp] theorem dropAuthors_frame (s : State) :
    frame (dropAuthors s) = frame s := by
  unfold dropAuthors
  simp

@[simp] theorem restartSources_frame (s : State) (old new : Octets) :
    frame (restartSources s old new) = frame s := by
  unfold restartSources
  simp

@[simp] theorem changePartner_frame (s : State) (v : Octets) :
    frame (changePartner s v) = frame s := by
  unfold changePartner
  simp

@[simp] theorem afterStore_frame (idx sub : Nat) (old v : Octets) (s : State) :
    frame (afterStore idx sub old v s) = frame s := by
  unfold afterStore
  (repeat' split) <;> simp [*, frame_foldl]

@[simp] theorem cursorApply_frame (who : Caller) (idx : Nat) (v : Octets) (s : State) :
    frame (cursorApply who idx v s) = frame s := by
  unfold cursorApply
  (repeat' split) <;> simp [*]

@[simp] theorem storeApply_frame (idx sub : Nat) (v : Octets) (s : State) :
    frame (storeApply idx sub v s) = frame s := by
  unfold storeApply
  simp

@[simp] theorem objNote_frame (who : Caller) (idx sub : Nat) (v : Octets) (s : State) :
    frame (objNote who idx sub v s) = frame s := by
  unfold objNote
  simp

@[simp] theorem withOperand_frame (s : State) (idx sub n : Nat) :
    frame (withOperand s idx sub n) = frame s := by
  unfold withOperand
  (repeat' split) <;> simp [*]

theorem execSopCountersClear_frame (who : Caller) (s : State) :
    Stays (execSopCountersClear who s) s := by
  unfold execSopCountersClear
  simp

theorem execSessionClose_frame (who : Caller) (sid : Nat) (s : State) :
    Stays (execSessionClose who sid s) s := by
  unfold execSessionClose
  simp

theorem execConfigSelect_frame (who : Caller) (value : Nat) (s : State) :
    Stays (execConfigSelect who value s) s := by
  unfold execConfigSelect
  simp

/- Machine/SopOps.lean -/

@[simp] theorem answerEnded_frame (before s : State) (from_ : Nat) (who : Caller) (op seq status item : Nat)
    (rest : Octets) : frame (answerEnded before s from_ who op seq status item rest) = frame s := by
  unfold answerEnded
  (repeat' split) <;> simp

@[simp] theorem opRead_frame (s : State) (who : Caller) (seq : Nat) (items : List (Nat × Nat)) :
    frame (opRead s who seq items) = frame s := by
  unfold opRead
  simp

@[simp] theorem noteItems_frame (s : State) (who : Caller) (l : List (Nat × Nat × Octets)) :
    frame (noteItems s who l) = frame s := by
  induction l generalizing s with
  | nil => rfl
  | cons x l ih =>
    obtain ⟨idx, sub, v⟩ := x
    simp [noteItems, ih]

@[simp] theorem setExecute_frame (s : State) (who : Caller) (w : Option ExecuteWait) :
    frame (setExecute s who w) = frame s := by
  unfold setExecute
  simp

@[simp] theorem executeEnds_frame (s : State) (who : Caller) (w : ExecuteWait) :
    frame (executeEnds s who w) = frame s := by
  unfold executeEnds
  simp

@[simp] theorem setTransfer_frame (s : State) (who : Caller) (t : Option Transfer) :
    frame (setTransfer s who t) = frame s := by
  unfold setTransfer
  simp

@[simp] theorem opSegWriteStart_frame (s : State) (who : Caller) (seq idx sub total : Nat) :
    frame (opSegWriteStart s who seq idx sub total) = frame s := by
  unfold opSegWriteStart
  simp

@[simp] theorem segAbandon_frame (s : State) (who : Caller) (seq : Nat) :
    frame (segAbandon s who seq) = frame s := by
  unfold segAbandon
  simp

@[simp] theorem opSegReadStart_frame (s : State) (who : Caller) (seq idx sub : Nat) :
    frame (opSegReadStart s who seq idx sub) = frame s := by
  unfold opSegReadStart
  simp

@[simp] theorem opSegRead_frame (s : State) (who : Caller) (seq offset most : Nat) :
    frame (opSegRead s who seq offset most) = frame s := by
  unfold opSegRead
  (repeat' split) <;> simp [*]

@[simp] theorem opSubscribe_frame (s : State) (who : Caller) (seq idx sub mode interval : Nat) :
    frame (opSubscribe s who seq idx sub mode interval) = frame s := by
  unfold opSubscribe
  simp

@[simp] theorem opUnsubscribe_frame (s : State) (who : Caller) (seq k : Nat) :
    frame (opUnsubscribe s who seq k) = frame s := by
  unfold opUnsubscribe
  simp

@[simp] theorem notifyOut_frame (s : State) (e : Endpoint) (f : Octets) :
    frame (notifyOut s e f) = frame s := by
  unfold notifyOut
  simp

@[simp] theorem sendPending_frame (s : State) (who : Caller) (k : Nat) :
    frame (sendPending s who k) = frame s := by
  unfold sendPending
  (repeat' split) <;> simp [*]

@[simp] theorem noteLost_frame (s : State) (who : Caller) (k : Nat) :
    frame (noteLost s who k) = frame s := by
  unfold noteLost
  (repeat' split) <;> simp [*]

@[simp] theorem sampleSub_frame (s : State) (who : Caller) (k : Nat) (x : Subscription) :
    frame (sampleSub s who k x) = frame s := by
  unfold sampleSub
  simp

@[simp] theorem flushPending_frame (s : State) (t : Nat) :
    frame (flushPending s t) = frame s := by
  unfold flushPending
  simp [frame_foldl]

@[simp] theorem served_frame (s : State) (who : Caller) (op seq : Nat) (f : State → State)
    (h : frame (f s) = frame s) : frame (served s who op seq f) = frame s := by
  unfold served
  simp [h]

theorem execSopRead_frame (who : Caller) (seq : Nat) (items : List (Nat × Nat)) (s : State) :
    Stays (execSopRead who seq items s) s := by
  unfold execSopRead
  (repeat' split) <;> simp [*]

theorem execSopSegReadStart_frame (who : Caller) (seq index sub : Nat) (s : State) :
    Stays (execSopSegReadStart who seq index sub s) s := by
  unfold execSopSegReadStart
  (repeat' split) <;> simp [*]

theorem execSopSegRead_frame (who : Caller) (seq offset most : Nat) (s : State) :
    Stays (execSopSegRead who seq offset most s) s := by
  unfold execSopSegRead
  simp

theorem execSopSegWriteStart_frame (who : Caller) (seq index sub total : Nat) (s : State) :
    Stays (execSopSegWriteStart who seq index sub total s) s := by
  unfold execSopSegWriteStart
  (repeat' split) <;> simp [*]

theorem execSegTransferIdleTimeout_frame (who : Caller) (s : State) :
    Stays (execSegTransferIdleTimeout who s) s := by
  unfold execSegTransferIdleTimeout
  (repeat' split) <;> simp [*]

theorem execExecuteCompletion_frame (who : Caller) (s : State) :
    Stays (execExecuteCompletion who s) s := by
  unfold execExecuteCompletion
  (repeat' split) <;> simp [*]

theorem execExecuteTimeout_frame (who : Caller) (s : State) :
    Stays (execExecuteTimeout who s) s := by
  unfold execExecuteTimeout
  (repeat' split) <;> simp [*]

theorem execSopSubscribe_frame (who : Caller) (seq index sub mode interval : Nat) (s : State) :
    Stays (execSopSubscribe who seq index sub mode interval s) s := by
  unfold execSopSubscribe
  (repeat' split) <;> simp [*]

theorem execSopUnsubscribe_frame (who : Caller) (seq subId : Nat) (s : State) :
    Stays (execSopUnsubscribe who seq subId s) s := by
  unfold execSopUnsubscribe
  simp

theorem execNotifyInterval_frame (who : Caller) (subId : Nat) (s : State) :
    Stays (execNotifyInterval who subId s) s := by
  unfold execNotifyInterval
  (repeat' split) <;> simp [*]

/- Machine/SopSession.lean -/

@[simp] theorem opOpen_frame (s : State) (e : Endpoint) (seq role method : Nat) (hostNonce : Octets) :
    frame (opOpen s e seq role method hostNonce) = frame s := by
  unfold opOpen
  (repeat' split) <;> simp [*]

@[simp] theorem noteFailure_frame (s : State) (t role : Nat) :
    frame (noteFailure s t role) = frame s := by
  unfold noteFailure
  simp

@[simp] theorem opAuth_frame (s : State) (sid seq : Nat) (signature tag : Octets) :
    frame (opAuth s sid seq signature tag) = frame s := by
  unfold opAuth
  (repeat' split) <;> simp [*]

@[simp] theorem opClose_frame (s : State) (sid seq : Nat) :
    frame (opClose s sid seq) = frame s := by
  unfold opClose
  (repeat' split) <;> simp [*]

@[simp] theorem errorOut_frame (s : State) (e : Endpoint) (op sid seq st : Nat) :
    frame (errorOut s e op sid seq st) = frame s := by
  unfold errorOut
  simp

@[simp] theorem refuseOut_frame (s : State) (e : Endpoint) (op sid seq st : Nat) :
    frame (refuseOut s e op sid seq st) = frame s := by
  unfold refuseOut
  simp

theorem sequenceStop_step {s : State} {e : Endpoint} {f : Octets} {t : State}
    (h : sequenceStop s e f = some t) : frame t = frame s := by
  unfold sequenceStop at h
  (repeat' split at h) <;> simp at h <;> (subst h; simp)

theorem frameStop_step {s : State} {e : Endpoint} {f : Octets} {t : State}
    (h : frameStop s e f = some t) : frame t = frame s := by
  unfold frameStop at h
  split at h
  · cases h; simp
  split at h
  · cases h; simp
  split at h
  · cases h; simp
  split at h
  · cases h; simp
  · exact sequenceStop_step h

@[simp] theorem acceptFrame_frame (s : State) (e : Endpoint) (f : Octets) :
    frame (acceptFrame s e f) = frame s := by
  unfold acceptFrame
  simp

theorem execSopOpen_frame (e : Endpoint) (seq role method : Nat) (hostNonce : Octets) (s : State) :
    Stays (execSopOpen e seq role method hostNonce s) s := by
  unfold execSopOpen
  simp

theorem execSopAuth_frame (sid seq : Nat) (signature tag : Octets) (s : State) :
    Stays (execSopAuth sid seq signature tag s) s := by
  unfold execSopAuth
  simp

theorem execSopClose_frame (sid seq : Nat) (s : State) :
    Stays (execSopClose sid seq s) s := by
  unfold execSopClose
  simp

theorem execHalfOpenTimeout_frame (sid : Nat) (s : State) :
    Stays (execHalfOpenTimeout sid s) s := by
  unfold execHalfOpenTimeout
  (repeat' split) <;> simp [*]

theorem execSessionIdleTimeout_frame (sid : Nat) (s : State) :
    Stays (execSessionIdleTimeout sid s) s := by
  unfold execSessionIdleTimeout
  (repeat' split) <;> simp [*]

theorem execAuthLockoutExpire_frame (transport : Nat) (s : State) :
    Stays (execAuthLockoutExpire transport s) s := by
  unfold execAuthLockoutExpire
  (repeat' split) <;> simp [*]

/- Machine/SopWire.lean -/

@[simp] theorem receiveFrame_frame (s : State) (e : Endpoint) (f : Octets) :
    frame (receiveFrame s e f) = frame s := by
  unfold receiveFrame
  simp

@[simp] theorem discardFrame_frame (s : State) (t : Nat) :
    frame (discardFrame s t) = frame s := by
  unfold discardFrame
  simp

@[simp] theorem setAssembly_frame (s : State) (key : Nat) (a : Option CanAssembly) :
    frame (setAssembly s key a) = frame s := by
  unfold setAssembly
  simp

@[simp] theorem canJoin_frame (s : State) (bus host prio : Nat) (a : CanAssembly) (last : Bool) (data : Octets) :
    frame (canJoin s bus host prio a last data) = frame s := by
  unfold canJoin
  simp

@[simp] theorem canTake_frame (s : State) (bus host prio : Nat) (data : Octets) :
    frame (canTake s bus host prio data) = frame s := by
  simp only [canTake]
  (repeat' split) <;> simp [*]

@[simp] theorem canAlive_frame (s : State) (bus : Nat) :
    frame (canAlive s bus) = frame s := by
  unfold canAlive
  simp

theorem execCanFrameRx_frame (bus id : Nat) (data : Octets) (s : State) :
    Stays (execCanFrameRx bus id data s) s := by
  simp only [execCanFrameRx]
  (repeat' split) <;> simp [*]

theorem execCanAssemblyTimeout_frame (bus host : Nat) (s : State) :
    Stays (execCanAssemblyTimeout bus host s) s := by
  unfold execCanAssemblyTimeout
  (repeat' split) <;> simp [*]

theorem execCanDominantTimeout_frame (bus : Nat) (s : State) :
    Stays (execCanDominantTimeout bus s) s := by
  unfold execCanDominantTimeout
  (repeat' split) <;> simp [*]

theorem execUdpSopDatagramRx_frame (ingress : Nat) (source : Octets) (port : Nat) (dest : Octets) (destPort : Nat) (fragmented : Bool) (payload : Octets) (s : State) :
    Stays (execUdpSopDatagramRx ingress source port dest destPort fragmented payload s) s := by
  unfold execUdpSopDatagramRx
  (repeat' split) <;> simp [*]

theorem execMb0H2cLenWrite_frame (length : Nat) (buffer : Octets) (s : State) :
    Stays (execMb0H2cLenWrite length buffer s) s := by
  unfold execMb0H2cLenWrite
  (repeat' split) <;> simp [*]

theorem execMb0C2hAckWrite_frame (s : State) :
    Stays (execMb0C2hAckWrite s) s := by
  unfold execMb0C2hAckWrite
  simp

theorem execMb0NtfTailWrite_frame (tail : Nat) (s : State) :
    Stays (execMb0NtfTailWrite tail s) s := by
  unfold execMb0NtfTailWrite
  simp

theorem execSpiWriteFrame_frame (frame : Octets) (s : State) :
    Stays (execSpiWriteFrame frame s) s := by
  unfold execSpiWriteFrame
  (repeat' split) <;> simp [*]

theorem execSpiReadFrame_frame (s : State) :
    Stays (execSpiReadFrame s) s := by
  unfold execSpiReadFrame
  (repeat' split) <;> simp [*]

theorem execSpiStatus_frame (s : State) :
    Stays (execSpiStatus s) s := by
  unfold execSpiStatus
  (repeat' split) <;> simp [*]

/- Machine/Boot.lean -/

@[simp] theorem checkSlot_frame (s : State) (slot : Nat) :
    frame (checkSlot s slot) = frame s := by
  simp only [checkSlot]
  (repeat' split) <;> simp [*]

@[simp] theorem kmBootStage_frame (s : State) :
    frame (kmBootStage s) = frame s := by
  unfold kmBootStage
  simp [frame_foldl]

@[simp] theorem clearDram_frame (s : State) :
    frame (clearDram s) = frame s := by
  unfold clearDram
  simp

@[simp] theorem noteBoot_frame (s : State) (code a b c : Nat) :
    frame (noteBoot s code a b c) = frame s := by
  unfold noteBoot
  simp

@[simp] theorem rollBack_frame (s : State) :
    frame (rollBack s) = frame s := by
  unfold rollBack
  simp

@[simp] theorem bankFails_frame (s : State) (k reason : Nat) :
    frame (bankFails s k reason) = frame s := by
  unfold bankFails
  simp

/- Machine/Mailbox.lean -/

@[simp] theorem threadReading_frame (s : State) (idx : Nat) (v : Octets) :
    frame (threadReading s idx v).2 = frame s := by
  unfold threadReading
  (repeat' split) <;> simp [*]

theorem threadReading_step {s : State} {idx : Nat} {v : Octets} {res : Octets × State}
    (h : threadReading s idx v = res) : frame res.2 = frame s := by
  subst h; simp

@[simp] theorem mailRead_frame (s : State) (who : Caller) (idx sub room : Nat) :
    frame (mailRead s who idx sub room).1 = frame s := by
  simp only [mailRead]
  (repeat' split) <;>
    first
    | (simp; done)
    | (simp [*]; done)
    | (simp [threadReading_step (by assumption : threadReading _ _ _ = _)]; done)
    | (simp [*, threadReading_step (by assumption : threadReading _ _ _ = _)]; done)
    | (simp [frame_foldl]; done)
    | (simp [*, frame_foldl]; done)
    | (simp [frame_foldl, threadReading_step (by assumption : threadReading _ _ _ = _)]; done)
    | (simp [*, frame_foldl, threadReading_step (by assumption : threadReading _ _ _ = _)]; done)

theorem mailRead_step {s : State} {who : Caller} {idx sub room : Nat} {res : State × (Nat × Octets)}
    (h : mailRead s who idx sub room = res) : frame res.1 = frame s := by
  subst h; simp

/- Machine/Select.lean -/

@[simp] theorem dropShapers_frame (s : State) (records : FMap Octets) :
    frame (dropShapers s records) = frame s := by
  unfold dropShapers
  simp [frame_foldl]

@[simp] theorem answerCommit_frame (s : State) (gen : Nat) : frame (answerCommit s gen) = frame s := by
  unfold answerCommit
  apply frame_foldl
  intro u sid
  dsimp only
  split <;> simp

/- Machine/Journal.lean -/

@[simp] theorem chargePlan_frame (s : State) (bs : Nat) (p : TxPlan) (onTime : Nat) :
    frame (chargePlan s bs p onTime) = frame s := by
  unfold chargePlan
  simp

@[simp] theorem applyAck_frame (s : State) (bs : Nat) (a : AckFrame) :
    frame (applyAck s bs a) = frame s := by
  unfold applyAck
  (repeat' split) <;> simp [*]

@[simp] theorem applyAir_frame (s : State) (o : Octets) (f : AirFrame) :
    frame (applyAir s o f) = frame s := by
  unfold applyAir
  (repeat' split) <;> simp [*]

@[simp] theorem applyTime_frame (s : State) (entry : Nat) (miss : Bool) (code : Nat) (offset : Int) :
    frame (applyTime s entry miss code offset) = frame s := by
  unfold applyTime
  simp

@[simp] theorem applyPlanned_frame (s : State) (bs : Nat) (p : TxPlan) (code onTime : Nat) :
    frame (applyPlanned s bs p code onTime) = frame s := by
  unfold applyPlanned
  (repeat' split) <;> simp [*]

@[simp] theorem applyAckOut_frame (s : State) (a : AckDue) (code onTime : Nat) :
    frame (applyAckOut s a code onTime) = frame s := by
  unfold applyAckOut
  simp

@[simp] theorem applyRanging_frame (s : State) (cell bs time onTime : Nat) :
    frame (applyRanging s cell bs time onTime) = frame s := by
  unfold applyRanging
  simp

@[simp] theorem applyOutcome_frame (time : Nat) (s : State) (x : Nat × Nat × Nat × Nat) :
    frame (applyOutcome time s x) = frame s := by
  unfold applyOutcome
  (repeat' split) <;> simp [*]

@[simp] theorem applyFc_frame (s : State) (handle limit : Nat) :
    frame (applyFc s handle limit) = frame s := by
  unfold applyFc
  simp

@[simp] theorem applyReading_frame (s : State) (source value : Nat) :
    frame (applyReading s source value) = frame s := by
  unfold applyReading
  (repeat' split) <;> simp [*]

@[simp] theorem applyDigest_frame (s : State) (pass : Nat) (leading : Octets) :
    frame (applyDigest s pass leading) = frame s := by
  unfold applyDigest
  simp

@[simp] theorem beginSequence_frame (s : State) (r : JournalRecord) :
    frame (beginSequence s r) = frame s := by
  unfold beginSequence
  simp

@[simp] theorem noticeSilence_frame (s : State) (records : List JournalRecord) :
    frame (noticeSilence s records) = frame s := by
  unfold noticeSilence
  simp

/- Machine/Supply.lean -/

@[simp] theorem powerAon_frame (s : State) :
    frame (powerAon s) = frame s := by
  unfold powerAon
  simp

theorem execVioOutCurrentLimit_frame (milliamps : Nat) (s : State) :
    Stays (execVioOutCurrentLimit milliamps s) s := by
  unfold execVioOutCurrentLimit
  (repeat' split) <;> simp [*]

/- Machine/Load.lean -/

@[simp] theorem clearNodes_frame (s : State) :
    frame (clearNodes s) = frame s := by
  unfold clearNodes
  simp

@[simp] theorem clearRegion_frame (s : State) (k : Nat) :
    frame (clearRegion s k) = frame s := by
  unfold clearRegion
  (repeat' split) <;> simp [*]

@[simp] theorem checkRegions_frame (s : State) (bad : List Nat) :
    frame (checkRegions s bad) = frame s := by
  unfold checkRegions
  simp [frame_foldl]

@[simp] theorem settleStages_frame (s : State) :
    frame (settleStages s) = frame s := by
  unfold settleStages
  simp

@[simp] theorem raiseCounters_frame (s : State) :
    frame (raiseCounters s) = frame s := by
  unfold raiseCounters
  simp

@[simp] theorem startShapers_frame (s : State) :
    frame (startShapers s) = frame s := by
  unfold startShapers
  simp [frame_foldl]

@[simp] theorem startGates_frame (s : State) : frame (startGates s) = frame s := by
  unfold startGates
  dsimp only
  rw [frame_foldl, frame_foldl]
  · intro u i; rfl
  · intro u i; rfl

@[simp] theorem minimalSchedule_frame (s : State) :
    frame (minimalSchedule s) = frame s := by
  unfold minimalSchedule
  simp

@[simp] theorem startProfiles_frame (s : State) :
    frame (startProfiles s) = frame s := by
  unfold startProfiles
  simp

@[simp] theorem startPins_frame (s : State) :
    frame (startPins s) = frame s := by
  unfold startPins
  simp

@[simp] theorem startUpdate_frame (s : State) :
    frame (startUpdate s) = frame s := by
  unfold startUpdate
  (repeat' split) <;> simp [*]

@[simp] theorem configureLoad_frame (s : State) (bad : List Nat) :
    frame (configureLoad s bad) = frame s := by
  unfold configureLoad
  simp

@[simp] theorem finishLoad_frame (s : State) :
    frame (finishLoad s) = frame s := by
  unfold finishLoad
  simp

@[simp] theorem startEvents_frame (s : State) :
    frame (startEvents s) = frame s := by
  unfold startEvents
  simp [frame_foldl]

end Sys2Proof.Laws
end

