-- ==== Sys2Proof/Laws/Memory.lean ====
section
/-! SUPPORT. Sparse maps and memories: reading after writing, and the canonical form that every operation keeps. -/

namespace Sys2Proof.Laws

/- Reading after an operation. -/

theorem find_put {α : Type} (m : FMap α) (i j : Nat) (v : α) :
    FMap.find (FMap.put m i v) j = if j = i then some v else FMap.find m j := by
  induction m with
  | nil => simp [FMap.put, FMap.find]
  | cons p m ih =>
    obtain ⟨k, w⟩ := p
    simp only [FMap.put]
    (repeat' split) <;> simp_all [FMap.find]

/-- The keys of a map in canonical form all lie above a bound. -/
def above {α : Type} (b : Nat) (m : FMap α) : Prop := ∀ p ∈ m, b < p.1

theorem rising_cons {α : Type} (k : Nat) (v : α) (m : FMap α) :
    FMap.rising ((k, v) :: m) = true ↔ above k m ∧ FMap.rising m = true := by
  induction m generalizing k v with
  | nil => simp [FMap.rising, above]
  | cons p m ih =>
    obtain ⟨k', v'⟩ := p
    simp only [FMap.rising, Bool.and_eq_true, decide_eq_true_eq]
    constructor
    · rintro ⟨h, r⟩
      refine ⟨?_, r⟩
      intro q hq
      rcases List.mem_cons.mp hq with rfl | hq
      · exact h
      · exact Nat.lt_trans h (((ih k' v').mp r).1 q hq)
    · rintro ⟨h, r⟩
      exact ⟨h (k', v') (by simp), r⟩

theorem find_above {α : Type} {b i : Nat} {m : FMap α} (h : above b m) (hi : i ≤ b) : FMap.find m i = none := by
  induction m with
  | nil => rfl
  | cons p m ih =>
    obtain ⟨k, v⟩ := p
    have hk : b < k := h (k, v) (by simp)
    simp only [FMap.find]
    rw [if_neg (by omega)]
    exact ih (fun q hq => h q (by simp [hq]))

theorem find_del {α : Type} (m : FMap α) (i j : Nat) (h : FMap.rising m = true) :
    FMap.find (FMap.del m i) j = if j = i then none else FMap.find m j := by
  induction m with
  | nil => simp [FMap.del, FMap.find]
  | cons p m ih =>
    obtain ⟨k, w⟩ := p
    rw [rising_cons] at h
    simp only [FMap.del]
    split
    · rename_i hk
      subst hk
      split
      · rename_i hj
        subst hj
        exact find_above h.1 (Nat.le_refl _)
      · rename_i hj
        simp [FMap.find, hj]
    · simp only [FMap.find, ih h.2]
      grind

theorem find_putD {α : Type} [DecidableEq α] (m : FMap α) (i j : Nat) (v d : α) (h : FMap.rising m = true) :
    FMap.getD (FMap.putD m i v d) j d = if j = i then v else FMap.getD m j d := by
  unfold FMap.putD FMap.getD
  split
  · rename_i hv
    subst hv
    rw [find_del m i j h]
    split <;> simp
  · rw [find_put]
    split <;> simp

/- The canonical form. -/

theorem put_above {α : Type} {b i : Nat} {m : FMap α} {v : α} (h : above b m) (hi : b < i) : above b (FMap.put m i v) := by
  induction m with
  | nil => simpa [FMap.put, above] using hi
  | cons p m ih =>
    obtain ⟨k, w⟩ := p
    have hk : b < k := h (k, w) (by simp)
    have hm : above b m := fun q hq => h q (by simp [hq])
    simp only [FMap.put]
    (repeat' split) <;> intro q hq <;> simp only [List.mem_cons] at hq
    · rcases hq with rfl | rfl | hq
      · exact hi
      · exact hk
      · exact hm q hq
    · rcases hq with rfl | hq
      · exact hi
      · exact hm q hq
    · rcases hq with rfl | hq
      · exact hk
      · exact ih hm q hq

theorem put_rising {α : Type} (m : FMap α) (i : Nat) (v : α) (h : FMap.rising m = true) :
    FMap.rising (FMap.put m i v) = true := by
  induction m with
  | nil => rfl
  | cons p m ih =>
    obtain ⟨k, w⟩ := p
    have hc := (rising_cons k w m).mp h
    simp only [FMap.put]
    split
    · rename_i hi
      rw [rising_cons]
      refine ⟨?_, h⟩
      intro q hq
      rcases List.mem_cons.mp hq with rfl | hq
      · exact hi
      · exact Nat.lt_trans hi (hc.1 q hq)
    · split
      · rename_i hk
        subst hk
        rw [rising_cons]
        exact hc
      · rw [rising_cons]
        exact ⟨put_above hc.1 (by omega), ih hc.2⟩

theorem filter_rising {α : Type} (m : FMap α) (p : Nat × α → Bool) (h : FMap.rising m = true) :
    FMap.rising (m.filter p) = true := by
  induction m with
  | nil => rfl
  | cons q m ih =>
    obtain ⟨k, w⟩ := q
    have hc := (rising_cons k w m).mp h
    rw [List.filter_cons]
    split
    · rw [rising_cons]
      exact ⟨fun q hq => hc.1 q ((List.mem_filter.mp hq).1), ih hc.2⟩
    · exact ih hc.2

theorem del_above {α : Type} {b : Nat} {m : FMap α} (i : Nat) (h : above b m) : above b (FMap.del m i) := by
  induction m with
  | nil => exact h
  | cons p m ih =>
    obtain ⟨k, w⟩ := p
    have hm : above b m := fun q hq => h q (by simp [hq])
    simp only [FMap.del]
    split
    · exact hm
    · intro q hq
      rcases List.mem_cons.mp hq with rfl | hq
      · exact h (k, w) (by simp)
      · exact ih hm q hq

theorem del_rising {α : Type} (m : FMap α) (i : Nat) (h : FMap.rising m = true) : FMap.rising (FMap.del m i) = true := by
  induction m with
  | nil => rfl
  | cons p m ih =>
    obtain ⟨k, w⟩ := p
    have hc := (rising_cons k w m).mp h
    simp only [FMap.del]
    split
    · exact hc.2
    · rw [rising_cons]
      exact ⟨del_above i hc.1, ih hc.2⟩

theorem putD_rising {α : Type} [DecidableEq α] (m : FMap α) (i : Nat) (v d : α) (h : FMap.rising m = true) :
    FMap.rising (FMap.putD m i v d) = true := by
  unfold FMap.putD
  split
  · exact del_rising m i h
  · exact put_rising m i v h

/- Memories. -/

theorem wf_iff (m : Memory) : Memory.wf m = true ↔ FMap.rising m = true ∧ ∀ c ∈ m, c.2 ≠ Memory.blank := by
  simp [Memory.wf]

theorem mem_put {α : Type} {m : FMap α} {i : Nat} {v : α} {q : Nat × α} (h : q ∈ FMap.put m i v) : q = (i, v) ∨ q ∈ m := by
  induction m with
  | nil => simpa [FMap.put] using h
  | cons p m ih =>
    obtain ⟨k, w⟩ := p
    simp only [FMap.put] at h
    split at h
    · simpa using h
    · split at h
      · rcases List.mem_cons.mp h with h | h
        · exact Or.inl h
        · exact Or.inr (by simp [h])
      · rcases List.mem_cons.mp h with h | h
        · exact Or.inr (by simp [h])
        · rcases ih h with h | h
          · exact Or.inl h
          · exact Or.inr (by simp [h])

theorem mem_del {α : Type} {m : FMap α} {i : Nat} {q : Nat × α} (h : q ∈ FMap.del m i) : q ∈ m := by
  induction m with
  | nil => exact h
  | cons p m ih =>
    obtain ⟨k, w⟩ := p
    simp only [FMap.del] at h
    split at h
    · simp [h]
    · rcases List.mem_cons.mp h with h | h
      · simp [h]
      · simp [ih h]

/-- A write keeps the canonical form. -/
theorem write_wf (m : Memory) (a : Nat) (v : Byte) (h : Memory.wf m = true) : Memory.wf (Memory.write m a v) = true := by
  rw [wf_iff] at *
  refine ⟨putD_rising m a v _ h.1, ?_⟩
  intro c hc
  unfold Memory.write FMap.putD at hc
  split at hc
  · exact h.2 c (mem_del hc)
  · rcases mem_put hc with rfl | hc
    · assumption
    · exact h.2 c hc

/-- Writes of several octets keep the canonical form. -/
theorem writeAll_wf (l : Octets) (m : Memory) (a : Nat) (h : Memory.wf m = true) :
    Memory.wf (Memory.writeAll m a l) = true := by
  induction l generalizing m a with
  | nil => exact h
  | cons v l ih => exact ih _ _ (write_wf m a v h)

/-- Clearing keeps the canonical form. -/
theorem clear_wf (m : Memory) (a n : Nat) (h : Memory.wf m = true) : Memory.wf (Memory.clear m a n) = true := by
  rw [wf_iff] at *
  exact ⟨filter_rising m _ h.1, fun c hc => h.2 c ((List.mem_filter.mp hc).1)⟩

/-- What is read after a write: the octet written at its address, what stood there elsewhere. -/
theorem read_write (m : Memory) (a b : Nat) (v : Byte) (h : Memory.wf m = true) :
    Memory.read (Memory.write m a v) b = if b = a then v else Memory.read m b :=
  find_putD m a b v Memory.blank ((wf_iff m).mp h).1

/-- A memory that lists nothing is in canonical form. -/
theorem empty_wf : Memory.wf [] = true := rfl

end Sys2Proof.Laws
end

