-- ==== Sys2Proof/Laws/Role.lean ====
section
/-! SUPPORT. The operations that change the device state, the claim, the gate, the bypass or the lifecycle: what each does to
the frame, and what it keeps. -/

namespace Sys2Proof.Laws

open Sys2Proof.Machine

/-- Sys2Proof.Sound, said of a frame. -/
structure SoundF (f : Frame) : Prop where
  gate : f.txGate = true → f.claimOut = true
  role : f.claimOut = true → f.dev = .active
  bypass : bypassState f.dev = true → f.bypassOn = true
  supply : f.vin = false → aonOnly f.dev = true
  held : f.rstLow = true → bypassState f.dev = true ∧ f.dev ≠ .recovery
  rails : f.rails = true → f.vin = true ∧ f.rstLow = false ∧ aonOnly f.dev = false

theorem sound_iff (s : State) : Sound s ↔ SoundF (frame s) :=
  ⟨fun h => ⟨h.gate, h.role, h.bypass, h.supply, h.held, h.rails⟩,
   fun h => ⟨h.gate, h.role, h.bypass, h.supply, h.held, h.rails⟩⟩

/-- VIN present and RST_N high. -/
def Up (f : Frame) : Prop := f.vin = true ∧ f.rstLow = false

/-- A sound chip in which LSF runs, or in RECOVERY, has VIN and is not held in reset. -/
theorem SoundF.up {f : Frame} (h : SoundF f) (hd : lsfRuns f.dev = true ∨ f.dev = .recovery) : Up f := by
  obtain ⟨_, _, _, hs, hh, _⟩ := h
  constructor
  · cases hv : f.vin
    · have := hs hv
      rcases hd with hd | hd <;> cases hf : f.dev <;> simp_all [aonOnly, lsfRuns]
    · rfl
  · cases hv : f.rstLow
    · rfl
    · have := hh hv
      rcases hd with hd | hd <;> cases hf : f.dev <;> simp_all [bypassState, lsfRuns]

/-- What every operation keeps: the queue, the clock, the aerial log, VIN and RST_N; the lifecycle never goes back; and the
outputs stay sound under the premise `p`. -/
structure KeepsIf (p : Frame → Prop) (a b : Frame) : Prop where
  pending : b.pending = a.pending
  now : b.now = a.now
  airs : b.airs = a.airs
  vin : b.vin = a.vin
  rstLow : b.rstLow = a.rstLow
  life : a.lifecycle.code ≤ b.lifecycle.code
  sound : SoundF a → p a → SoundF b

/-- Kept whatever the frame. -/
abbrev Keeps (a b : Frame) : Prop := KeepsIf (fun _ => True) a b

/-- Kept while VIN is present and RST_N high. -/
abbrev Live (a b : Frame) : Prop := KeepsIf Up a b

theorem Keeps.rfl' {p : Frame → Prop} (a : Frame) : KeepsIf p a a :=
  ⟨rfl, rfl, rfl, rfl, rfl, Nat.le_refl _, fun h _ => h⟩

theorem Keeps.of_eq {p : Frame → Prop} {a b : Frame} (h : b = a) : KeepsIf p a b := by subst h; exact Keeps.rfl' _

theorem Keeps.trans {a b c : Frame} (h : Keeps a b) (k : Keeps b c) : Keeps a c :=
  ⟨k.pending.trans h.pending, k.now.trans h.now, k.airs.trans h.airs, k.vin.trans h.vin, k.rstLow.trans h.rstLow,
   Nat.le_trans h.life k.life, fun s _ => k.sound (h.sound s trivial) trivial⟩

theorem Keeps.live {a b : Frame} (h : Keeps a b) : Live a b :=
  ⟨h.pending, h.now, h.airs, h.vin, h.rstLow, h.life, fun s _ => h.sound s trivial⟩

theorem Live.up {a b : Frame} (h : Live a b) (u : Up a) : Up b := ⟨h.vin.trans u.1, h.rstLow.trans u.2⟩

theorem Live.trans {a b c : Frame} (h : Live a b) (k : Live b c) : Live a c :=
  ⟨k.pending.trans h.pending, k.now.trans h.now, k.airs.trans h.airs, k.vin.trans h.vin, k.rstLow.trans h.rstLow,
   Nat.le_trans h.life k.life, fun s u => k.sound (h.sound s u) (h.up u)⟩

/-- What is kept in states where LSF runs is kept on a sound chip. -/
theorem Live.keeps {a b : Frame} (h : Live a b) (hd : lsfRuns a.dev = true ∨ a.dev = .recovery) : Keeps a b :=
  ⟨h.pending, h.now, h.airs, h.vin, h.rstLow, h.life, fun s _ => h.sound s (s.up hd)⟩

/-- A fold of steps that each keep, keeps. -/
theorem Live.foldl {α : Type} (f : State → α → State) (h : ∀ s a, Live (frame s) (frame (f s a))) (l : List α) (s : State) :
    Live (frame s) (frame (l.foldl f s)) := by
  induction l generalizing s with
  | nil => exact Keeps.rfl' _
  | cons a l ih => exact (h s a).trans (ih (f s a))

theorem Keeps.foldl {α : Type} (f : State → α → State) (h : ∀ s a, Keeps (frame s) (frame (f s a))) (l : List α) (s : State) :
    Keeps (frame s) (frame (l.foldl f s)) := by
  induction l generalizing s with
  | nil => exact Keeps.rfl' _
  | cons a l ih => exact (h s a).trans (ih (f s a))

/- The primitives. -/

@[simp] theorem changeState_frame (s : State) (new : DevState) (cause : Nat) :
    frame (changeState s new cause) = { frame s with dev := new } := by
  have h : ∀ t : State, frame { t with
      power := { t.power with dev := new, stateTime := if timeAcquired t then domainTime t else 0 }
      image := { t.image with trialSince := trialClock t new } } = { frame t with dev := new } := fun t => rfl
  unfold changeState
  dsimp only
  split <;> split <;> split <;> split <;> simp [h]

@[simp] theorem releaseClaim_frame (s : State) :
    frame (releaseClaim s) = { frame s with claimOut := false, txGate := false } := by
  unfold releaseClaim
  rw [silence_frame]
  rfl

@[simp] theorem closeBypass_frame (s : State) : frame (closeBypass s) = { frame s with bypassOn := true } := by
  unfold closeBypass
  dsimp only
  rw [updPort_frame, updPort_frame]
  rfl

@[simp] theorem zeroizeRows_frame (s : State) (cause : Nat) :
    frame (zeroizeRows s cause) = { frame s with bypassOn := true, claimOut := false, txGate := false } := by
  unfold zeroizeRows
  simp

@[simp] theorem islandReset_frame (s : State) :
    frame (islandReset s) = { frame s with claimOut := false, txGate := false } := rfl

@[simp] theorem resetIslands_frame (s : State) (cause : Nat) (keepDram : Bool) :
    frame (resetIslands s cause keepDram) =
      { frame s with dev := .boot, rails := false, bypassOn := true, claimOut := false, txGate := false } := by
  have h : frame (islandReset (noteUnlock (leaveRecovery (closeBypass (releaseClaim s))))) =
      { frame s with bypassOn := true, claimOut := false, txGate := false } := by simp
  unfold resetIslands
  dsimp only
  have e : ∀ (t : State) (c : Nat) (d : DevState) (im : Sys2Proof.Machine.Image), frame { t with
      power := { t.power with dev := .boot, startCause := c, latchedState := d, rails := false }
      image := im } = { frame t with dev := .boot, rails := false } := fun _ _ _ _ => rfl
  rw [e, h]

@[simp] theorem becomeActive_frame (s : State) (cause : Nat) :
    frame (becomeActive s cause) =
      { frame s with dev := .active, claimOut := true, txGate := !(hasPartner s && s.power.claimIn) } := by
  unfold becomeActive
  dsimp only
  simp [frame_foldl]
  split <;> rename_i h <;> simp [frame, h] <;> rfl

@[simp] theorem retireNow_frame (s : State) :
    frame (retireNow s) =
      { frame s with dev := .zeroized, lifecycle := .retired, bypassOn := true, claimOut := false, txGate := false } := by
  have e : ∀ (t : State) (a : Option Nat) (k : Sys2Proof.Machine.Keys), frame { t with
      power := { t.power with lifecycle := .retired, retireArmed := a }
      keys := k } = { frame t with lifecycle := .retired } := fun _ _ _ => rfl
  unfold retireNow
  dsimp only
  rw [zeroizeRows_frame, e, changeState_frame]

@[simp] theorem goMaintenance_frame (s : State) (cause : Nat) :
    frame (goMaintenance s cause) = { frame s with dev := .maintenance, claimOut := false, txGate := false } := by
  unfold goMaintenance
  simp

@[simp] theorem becomeFollower_frame (s : State) :
    frame (becomeFollower s) = { frame s with dev := .follower, claimOut := false, txGate := false } := by
  unfold becomeFollower
  simp [frame_foldl]

@[simp] theorem stepDown_frame (s : State) :
    frame (stepDown s) = { frame s with dev := .follower, claimOut := false, txGate := false } := by
  unfold stepDown
  simp

@[simp] theorem enterRecovery_frame (s : State) (cause : Nat) :
    frame (enterRecovery s cause) = { frame s with dev := .recovery } := by
  unfold enterRecovery
  simp

@[simp] theorem releaseCc0_frame (s : State) (k : Nat) : frame (releaseCc0 s k) = { frame s with dev := .load } := by
  unfold releaseCc0
  dsimp only
  rw [changeState_frame]
  split <;> split <;> simp

/- What each operation keeps. -/

theorem releaseClaim_keeps (s : State) : Keeps (frame s) (frame (releaseClaim s)) := by
  rw [releaseClaim_frame]
  exact ⟨rfl, rfl, rfl, rfl, rfl, Nat.le_refl _, fun h _ => ⟨by simp, by simp, h.bypass, h.supply, h.held, h.rails⟩⟩

/-- A state that LSF runs in may be taken with VIN present and RST_N high, the claim with ACTIVE alone. -/
theorem live_of_dev {a : Frame} (d : DevState) (c g : Bool) (hd : bypassState d = false) (hc : c = true → d = .active)
    (hg : g = true → c = true) : Live a { a with dev := d, claimOut := c, txGate := g } :=
  ⟨rfl, rfl, rfl, rfl, rfl, Nat.le_refl _, fun h u => ⟨hg, hc, by simp [hd], by simp [u.1], by simp [u.2], by
    intro hr
    refine ⟨u.1, u.2, ?_⟩
    cases d <;> simp_all [bypassState, aonOnly]⟩⟩

theorem becomeActive_live (s : State) (cause : Nat) : Live (frame s) (frame (becomeActive s cause)) := by
  rw [becomeActive_frame]
  exact live_of_dev .active true _ rfl (fun _ => rfl) (fun _ => rfl)

theorem becomeFollower_live (s : State) : Live (frame s) (frame (becomeFollower s)) := by
  rw [becomeFollower_frame]
  exact live_of_dev .follower false false rfl (by simp) (by simp)

theorem stepDown_live (s : State) : Live (frame s) (frame (stepDown s)) := by
  rw [stepDown_frame]
  exact live_of_dev .follower false false rfl (by simp) (by simp)

theorem goMaintenance_live (s : State) (cause : Nat) : Live (frame s) (frame (goMaintenance s cause)) := by
  rw [goMaintenance_frame]
  exact live_of_dev .maintenance false false rfl (by simp) (by simp)

/-- A reset of the islands leaves a sound chip where VIN is present. -/
theorem resetIslands_keeps (s : State) (cause : Nat) (keepDram : Bool) (hd : aonOnly s.power.dev = false) :
    Keeps (frame s) (frame (resetIslands s cause keepDram)) := by
  rw [resetIslands_frame]
  refine ⟨rfl, rfl, rfl, rfl, rfl, Nat.le_refl _, fun h _ => ⟨by simp, by simp, by simp, ?_, by simp [bypassState], by simp⟩⟩
  intro hv
  have := h.supply hv
  simp [frame, hd] at this

theorem internalReset_keeps (s : State) (cause : Nat) (keepDram : Bool) :
    Keeps (frame s) (frame (internalReset s cause keepDram)) := by
  unfold internalReset
  split
  · exact Keeps.rfl' _
  · exact Keeps.rfl' _
  · apply resetIslands_keeps
    cases h : s.power.dev <;> simp_all [aonOnly]

theorem fatalToRole_keeps (s : State) (cause : Nat) (keepDram : Bool) :
    Keeps (frame s) (frame (fatalToRole s cause keepDram)) := by
  unfold fatalToRole
  split <;> first | exact internalReset_keeps _ _ _ | exact Keeps.rfl' _

/-- ZEROIZED with the bypass on and no claim is sound wherever more than AON ran. -/
theorem keeps_zeroized {a : Frame} (hd : aonOnly a.dev = false) :
    Keeps a { a with dev := .zeroized, bypassOn := true, claimOut := false, txGate := false } := by
  refine ⟨rfl, rfl, rfl, rfl, rfl, Nat.le_refl _, fun h _ => ⟨by simp, by simp, by simp, ?_, ?_, ?_⟩⟩
  · intro hv
    have := h.supply hv
    simp [hd] at this
  · simp [bypassState]
  · intro hr
    have := h.rails hr
    simp_all [aonOnly]

@[simp] theorem tamperLog_power (s : State) (sources action : Nat) : (tamperLog s sources action).power = s.power := rfl

theorem tamperAlarm_keeps (s : State) (sources : Nat) : Keeps (frame s) (frame (tamperAlarm s sources)) := by
  unfold tamperAlarm
  dsimp only
  split
  · exact Keeps.of_eq rfl
  · exact Keeps.of_eq (by simp)
  · exact Keeps.of_eq (by simp)
  · rename_i d h1 h2 h3
    have h : aonOnly (frame s).dev = false := by
      show aonOnly s.power.dev = false
      cases hs : s.power.dev <;> simp_all [aonOnly]
    have := keeps_zeroized h
    simpa using this

theorem retireNow_keeps (s : State) (hd : aonOnly s.power.dev = false) : Keeps (frame s) (frame (retireNow s)) := by
  rw [retireNow_frame]
  have h : aonOnly (frame s).dev = false := hd
  have k := keeps_zeroized h
  refine ⟨rfl, rfl, rfl, rfl, rfl, ?_, fun hs _ => ?_⟩
  · show s.power.lifecycle.code ≤ 3
    cases s.power.lifecycle <;> simp [Lifecycle.code]
  · have := k.sound hs trivial
    exact ⟨this.gate, this.role, this.bypass, this.supply, this.held, this.rails⟩

theorem retireNow_live (s : State) : Live (frame s) (frame (retireNow s)) := by
  rw [retireNow_frame]
  refine ⟨rfl, rfl, rfl, rfl, rfl, ?_, fun h u => ⟨by simp, by simp, by simp, by simp [u.1], by simp [bypassState], ?_⟩⟩
  · show s.power.lifecycle.code ≤ 3
    cases s.power.lifecycle <;> simp [Lifecycle.code]
  · intro _
    exact ⟨u.1, u.2, rfl⟩

theorem retireApply_live (s : State) : Live (frame s) (frame (retireApply s)) := by
  unfold retireApply
  extract_lets armed
  split
  · exact retireNow_live s
  · exact Keeps.of_eq rfl

theorem runClaim_live (s : State) (cause : Nat) : Live (frame s) (frame (runClaim s cause)) := by
  unfold runClaim
  split
  · exact Keeps.of_eq (by simp)
  · exact becomeActive_live s cause

theorem resumeApply_live (s : State) : Live (frame s) (frame (resumeApply s)) := by
  unfold resumeApply
  have h := runClaim_live (stepAtResume (takeTemplates s)) 0x16
  simpa using h

theorem leaveLoad_keeps (s : State) (hd : s.power.dev = .load) :
    Keeps (frame s) (frame (leaveLoad s)) := by
  have hl : lsfRuns (frame s).dev = true := by show lsfRuns s.power.dev = true; rw [hd]; rfl
  unfold leaveLoad
  split
  · rw [changeState_frame]
    refine ⟨rfl, rfl, rfl, rfl, rfl, Nat.le_refl _, fun h _ => ?_⟩
    have u := h.up (Or.inl hl)
    have hcf : (frame s).claimOut = true → DevState.maintenance = .active := fun hc => by
      have k : s.power.dev = .active := h.role hc
      rw [hd] at k
      contradiction
    exact ⟨h.gate, hcf, by simp [bypassState], by simp [u.1], by simp [u.2], fun hr => ⟨u.1, u.2, rfl⟩⟩
  · exact (runClaim_live s 0x14).keeps (Or.inl hl)

theorem takeover_live (s : State) (cause : Nat) : Live (frame s) (frame (takeover s cause)) := by
  unfold takeover
  extract_lets missing after again s1 s2 l s3 s4 s5
  have h3 : frame s3 = frame s := by simp [s3, s2, s1, frame_foldl]
  have h4 : Live (frame s3) (frame s4) := becomeActive_live s3 cause
  have h5 : frame s5 = frame s4 := frame_foldl sendAgain sendAgain_frame again s4
  rw [record_frame, setCause_frame, h5]
  rw [h3] at h4
  exact h4

theorem takeoverUnready_live (s : State) : Live (frame s) (frame (takeoverUnready s)) := by
  unfold takeoverUnready
  have h := becomeActive_live (oweRaises s) 0x14
  simpa using h

theorem claimAtBoundary_keeps (s : State) : Keeps (frame s) (frame (claimAtBoundary s)) := by
  unfold claimAtBoundary
  split
  · split
    · rename_i hg
      have hl : lsfRuns (frame s).dev = true := by show lsfRuns s.power.dev = true; rw [hg.1]; rfl
      split
      · rw [record_frame]
        exact (takeover_live s _).keeps (Or.inl hl)
      · exact (takeover_live s _).keeps (Or.inl hl)
    · exact Keeps.rfl' _
  · exact Keeps.rfl' _

theorem pairBoundary_keeps (s : State) : Keeps (frame s) (frame (pairBoundary s)) := by
  unfold pairBoundary
  split
  · have h := claimAtBoundary_keeps (lagAtBoundary (announceSwap (snapshotAtBoundary s)))
    simpa using h
  · exact Keeps.rfl' _

theorem checkInterlock_keeps (s : State) (claim : Bool) : Keeps (frame s) (frame (checkInterlock s claim)) := by
  unfold checkInterlock
  dsimp only
  split
  · exact Keeps.of_eq (by simp)
  · split
    · split
      · exact Keeps.of_eq (by simp)
      · have h := releaseClaim_keeps
          (record (updTwin s (fun t => { t with disagree := 3, interlock := true })) 0x7005 (bitNat claim)
            (bitNat s.power.claimIn) 0)
        simpa using h
    · exact Keeps.of_eq (by simp)

/- Errors, thermal protection and the hedgehog. -/

theorem correctedError_keeps (s : State) (memory : Nat) : Keeps (frame s) (frame (correctedError s memory)) := by
  unfold correctedError
  dsimp only
  split
  · exact Keeps.trans (Keeps.of_eq (by simp)) (fatalToRole_keeps _ 3 _)
  · exact Keeps.of_eq (by simp)

theorem crossDisagrees_keeps (s : State) (e op : Nat) : Keeps (frame s) (frame (crossDisagrees s e op)) := by
  unfold crossDisagrees
  dsimp only
  split
  · split
    · exact Keeps.trans (Keeps.of_eq (by simp)) (fatalToRole_keeps _ 3 true)
    · exact Keeps.of_eq (by simp)
  · exact Keeps.of_eq (by simp)

theorem scrubAct_keeps (s : State) (e : Nat × Nat × Option Nat) : Keeps (frame s) (frame (scrubAct s e)) := by
  unfold scrubAct
  split
  · exact Keeps.of_eq (by simp)
  · exact fatalToRole_keeps s 3 false

theorem loopbackFailed_keeps (s : State) (bs : Nat) : Keeps (frame s) (frame (loopbackFailed s bs)) := by
  unfold loopbackFailed
  dsimp only
  split
  · exact Keeps.of_eq (by simp)
  · split
    · exact Keeps.trans (Keeps.of_eq (by simp)) (fatalToRole_keeps _ 3 true)
    · exact Keeps.of_eq (by simp)

theorem thermalRow3_keeps (s : State) : Keeps (frame s) (frame (thermalRow3 s)) := by
  unfold thermalRow3
  dsimp only
  split
  · split
    · exact Keeps.trans (Keeps.of_eq (by simp)) (fatalToRole_keeps _ 4 true)
    · exact Keeps.of_eq (by simp)
  · exact Keeps.rfl' _

/-- The internal reset held in BOOT: the bypass on, the rails down. -/
theorem keeps_held (a : Frame) : Keeps a { a with bypassOn := true, rails := false } :=
  ⟨rfl, rfl, rfl, rfl, rfl, Nat.le_refl _, fun h _ => ⟨h.gate, h.role, fun _ => rfl, h.supply, h.held, by simp⟩⟩

theorem thermalRow4_keeps (s : State) : Keeps (frame s) (frame (thermalRow4 s)) := by
  have hold : ∀ t : State, Keeps (frame t) (frame (if t.power.dev = .boot then
      { t with power := { t.power with thermReset := true, bypassOn := true, rails := false } } else t)) := by
    intro t
    split
    · exact keeps_held (frame t)
    · exact Keeps.rfl' _
  unfold thermalRow4
  dsimp only
  split
  · refine Keeps.trans ?_ (hold _)
    have ht : frame (if lsfRuns s.power.dev then thermalEvent s 4 else s) = frame s := by simp
    generalize (if lsfRuns s.power.dev then thermalEvent s 4 else s) = t at ht
    rw [← ht]
    split <;> first | exact internalReset_keeps _ _ _ | exact Keeps.rfl' _
  · exact Keeps.rfl' _

theorem hedgehogSample_keeps (s : State) (x : TamperSample) : Keeps (frame s) (frame (hedgehogSample s x)) := by
  unfold hedgehogSample
  dsimp only
  split
  · exact Keeps.trans (Keeps.of_eq (by simp)) (tamperAlarm_keeps _ _)
  · exact Keeps.of_eq (by simp)

theorem zeroizeCmdApply_keeps (s : State) : Keeps (frame s) (frame (zeroizeCmdApply s)) := by
  unfold zeroizeCmdApply
  dsimp only
  split
  · split
    · split
      · exact Keeps.trans (Keeps.of_eq (by simp)) (tamperAlarm_keeps _ _)
      · exact Keeps.of_eq (by simp)
    · exact Keeps.of_eq (by simp)
  · exact Keeps.of_eq (by simp)

theorem unlockFails_keeps (s : State) : Keeps (frame s) (frame (unlockFails s)) := by
  unfold unlockFails
  dsimp only
  split
  · exact Keeps.trans (Keeps.of_eq (by simp)) (tamperAlarm_keeps _ _)
  · exact Keeps.of_eq (by simp)

theorem submitResponse_keeps (s : State) : Keeps (frame s) (frame (submitResponse s)) := by
  unfold submitResponse
  split
  · exact Keeps.of_eq (by simp)
  split
  · exact Keeps.of_eq (by simp)
  split
  · exact Keeps.of_eq (by simp)
  · exact Keeps.trans (Keeps.of_eq (by simp)) (unlockFails_keeps _)

theorem bootSample_keeps (s : State) (x : TamperSample) (hd : s.power.dev = .boot) :
    Keeps (frame s) (frame (bootSample s x)) := by
  have hb : (frame s).dev = .boot := hd
  have ha : aonOnly (frame s).dev = false := by rw [hb]; rfl
  unfold bootSample
  dsimp only
  split
  · exact Keeps.trans (Keeps.of_eq (by simp)) (tamperAlarm_keeps _ _)
  split
  · have := keeps_zeroized ha
    simpa using this
  split
  · rw [changeState_frame]
    simp only [frame_parts, countSample_frame]
    refine ⟨rfl, rfl, rfl, rfl, rfl, Nat.le_refl _, fun h _ => ⟨h.gate, ?_, ?_, ?_, by simp [bypassState], ?_⟩⟩
    · intro hc
      have := h.role hc
      simp [hb] at this
    · intro _
      exact h.bypass (by rw [hb]; rfl)
    · intro hv
      have := h.supply hv
      simp [ha] at this
    · intro hr
      have := h.rails hr
      exact ⟨this.1, this.2.1, rfl⟩
  · exact Keeps.of_eq (by simp)

/-- A step out of BOOT with the rails up: into RECOVERY or LOAD, with no claim. -/
theorem keeps_fromBoot {a : Frame} (d : DevState) (hd : a.dev = .boot) (hr : a.rails = true)
    (h2 : d = .recovery ∨ d = .load) : Keeps a { a with dev := d } := by
  refine ⟨rfl, rfl, rfl, rfl, rfl, Nat.le_refl _, fun h _ => ⟨h.gate, ?_, ?_, ?_, ?_, ?_⟩⟩
  · intro hc
    have := h.role hc
    simp [hd] at this
  · intro _
    exact h.bypass (by rw [hd]; rfl)
  · intro hv
    have := (h.rails hr).1
    simp_all
  · intro hl
    have := (h.rails hr).2.1
    simp_all
  · intro _
    refine ⟨(h.rails hr).1, (h.rails hr).2.1, ?_⟩
    rcases h2 with rfl | rfl <;> rfl

theorem bankChecked_keeps (s : State) (hd : s.power.dev = .boot) (hr : s.power.rails = true) :
    Keeps (frame s) (frame (bankChecked s)) := by
  have hb : (frame s).dev = .boot := hd
  have hv : (frame s).rails = true := hr
  unfold bankChecked
  extract_lets run k result onTrial
  split
  · exact Keeps.of_eq (by simp)
  split
  · rw [releaseCc0_frame]
    exact keeps_fromBoot .load hb hv (Or.inr rfl)
  have hf := bankFails_frame s k result
  split
  · rw [enterRecovery_frame, hf]
    exact keeps_fromBoot .recovery hb hv (Or.inl rfl)
  · exact Keeps.of_eq hf

/- Lifecycle. -/

theorem provision_keeps (s : State) (slot : Nat) (p : KeyPending) : Keeps (frame s) (frame (provision s slot p)) := by
  unfold provision
  split
  · rename_i h
    refine ⟨rfl, rfl, rfl, rfl, rfl, ?_, fun hs _ => ⟨hs.gate, hs.role, hs.bypass, hs.supply, hs.held, hs.rails⟩⟩
    show s.power.lifecycle.code ≤ 1
    rw [h.2.2]
    simp [Lifecycle.code]
  · exact Keeps.rfl' _

theorem kuCommit_keeps (s : State) (slot : Nat) (p : KeyPending) : Keeps (frame s) (frame (kuCommit s slot p)) := by
  unfold kuCommit
  extract_lets k1 s2 s3 s4 s5
  have h3 : frame s3 = frame s := (dropRegisters_frame s2 _).trans (frame_parts s _ _ _ _ _ _ _ _ _ _ _ _ _ _ _ _ _ _ _ _ _ _ _ _)
  have h4 : frame s4 = frame s3 := by
    show frame (if slot = 1 then _ else s3) = frame s3
    split
    · rw [fillOwn_frame, flushCache_frame]
    · rfl
  have h5 : frame s5 = frame s := ((record_frame _ _ _ _ _).trans (countK_frame _ _)).trans (h4.trans h3)
  rw [kmNext_frame, endRoleSessions_frame, ← h5]
  exact provision_keeps s5 slot p

theorem commissionApply_keeps (s : State) : Keeps (frame s) (frame (commissionApply s)) := by
  unfold commissionApply
  dsimp only
  rw [writeLocked_frame]
  refine Keeps.trans (b := frame (setObjN s 0x2304 0 1 1)) (Keeps.of_eq (by simp)) ?_
  refine ⟨rfl, rfl, rfl, rfl, rfl, ?_, fun hs _ => ⟨hs.gate, hs.role, hs.bypass, hs.supply, hs.held, hs.rails⟩⟩
  show (setObjN s 0x2304 0 1 1).power.lifecycle.code ≤ (commissioned (setObjN s 0x2304 0 1 1).power.lifecycle).code
  cases (setObjN s 0x2304 0 1 1).power.lifecycle <;> simp [commissioned, Lifecycle.code]

/- Banks, halts, RECOVERY. -/

theorem runFrom_keeps (s : State) (k : Nat) (onTrial : Bool) : Keeps (frame s) (frame (runFrom s k onTrial)) := by
  unfold runFrom
  dsimp only
  exact Keeps.trans (Keeps.of_eq (by simp)) (internalReset_keeps _ 5 true)

theorem bankSwitchApply_keeps (s : State) : Keeps (frame s) (frame (bankSwitchApply s)) := by
  unfold bankSwitchApply
  exact Keeps.trans (Keeps.of_eq (by simp)) (runFrom_keeps _ _ true)

theorem requestRole_keeps (s : State) (hart : Nat) : Keeps (frame s) (frame (requestRole s hart)) := by
  unfold requestRole
  split
  · rename_i h
    simp only [Bool.and_eq_true, decide_eq_true_eq] at h
    rw [haltRole_frame]
    have hl : lsfRuns (frame s).dev = true := by show lsfRuns s.power.dev = true; rw [h.1]; rfl
    have k := (goMaintenance_live (record s 0x0074 hart (refAsn s % 2 ^ 32) 0) 0x1A)
    rw [record_frame] at k
    exact k.keeps (Or.inl hl)
  · exact Keeps.of_eq (by (repeat' split) <;> simp)

theorem requestHalt_keeps (s : State) (hart : Nat) : Keeps (frame s) (frame (requestHalt s hart)) := by
  unfold requestHalt
  split
  · exact Keeps.rfl' _
  split
  · exact Keeps.of_eq (by simp)
  · exact requestRole_keeps s hart

theorem dmControl_keeps (s : State) (m v : Nat) : Keeps (frame s) (frame (dmControl s m v)) := by
  unfold dmControl
  dsimp only
  split
  · exact Keeps.of_eq (by simp)
  split
  · exact Keeps.of_eq (by simp)
  split
  · exact Keeps.trans (Keeps.of_eq (by simp)) (requestHalt_keeps _ _)
  · exact Keeps.of_eq (by split <;> simp)

theorem moduleWrite_keeps (s : State) (m addr v : Nat) : Keeps (frame s) (frame (moduleWrite s m addr v)) := by
  unfold moduleWrite
  split
  · exact Keeps.trans (Keeps.of_eq (by simp)) (dmControl_keeps _ m v)
  · exact Keeps.of_eq (by simp)

theorem recoveryTake_keeps (s : State) (spi : Bool) (cmd seq : Nat) (p : Octets) :
    Keeps (frame s) (frame (recoveryTake s spi cmd seq p)) := by
  unfold recoveryTake
  dsimp only
  split
  · split
    · exact Keeps.of_eq (by simp)
    · split
      · exact Keeps.trans (Keeps.of_eq (by simp)) (internalReset_keeps _ 6 true)
      · exact Keeps.of_eq (by simp)
  · exact Keeps.of_eq (by simp)

end Sys2Proof.Laws
end

