-- ==== Sys2Proof/Laws/RoleHost.lean ====
section
/-! SUPPORT. What the writes of the object dictionary, the application of the partner's journal and the operations of SOP keep
of the frame. -/

namespace Sys2Proof.Laws

open Sys2Proof.Machine

theorem applyLow_live {who : Caller} {idx sub : Nat} {v : Octets} {s t : State} (h : applyLow who idx sub v s = some t) :
    Live (frame s) (frame t) := by
  unfold applyLow at h
  generalize beNat v = n at h
  split at h <;> first
    | (simp only [Option.some.injEq] at h; subst h)
    | (simp only [reduceCtorEq] at h)
  all_goals first
    | (refine Keeps.of_eq ?_; simp; done)
    | with_reducible exact (commissionApply_keeps s).live
    | skip
  · split
    · exact goMaintenance_live s _
    · exact resumeApply_live s
    · exact retireApply_live s
    · exact Keeps.rfl' _
  · exact Keeps.of_eq (by split <;> simp)

theorem applyHigh_live {who : Caller} {idx sub : Nat} {v : Octets} {s t : State} (h : applyHigh who idx sub v s = some t) :
    Live (frame s) (frame t) := by
  unfold applyHigh at h
  generalize beNat v = n at h
  split at h <;> first
    | (simp only [Option.some.injEq] at h; subst h)
    | (simp only [reduceCtorEq] at h)
  all_goals first
    | (refine Keeps.of_eq ?_; simp; done)
    | with_reducible exact (zeroizeCmdApply_keeps s).live
    | (refine Keeps.of_eq ?_; split <;> simp; done)
    | skip
  · split
    · exact (bankSwitchApply_keeps s).live
    · exact Keeps.of_eq (by simp)
    · exact (runFrom_keeps s _ _).live
    · exact (internalReset_keeps s _ _).live
    · exact Keeps.rfl' _

theorem objApply_live (who : Caller) (idx sub : Nat) (v : Octets) (s : State) :
    Live (frame s) (frame (objApply who idx sub v s)) := by
  unfold objApply
  split
  · exact Keeps.of_eq (by simp)
  split
  · exact Keeps.of_eq (by simp)
  split
  · exact applyLow_live (by assumption)
  split
  · exact applyHigh_live (by assumption)
  · exact Keeps.of_eq (by simp)

/-- A state that serves SOP is one that LSF runs in. -/
theorem servesSop_lsf {s : State} (h : servesSop s = true) : lsfRuns (frame s).dev = true := by
  show lsfRuns s.power.dev = true
  unfold servesSop at h
  cases hd : s.power.dev <;> simp_all [lsfRuns]

/-- An accepted write is made in a state that serves SOP (R394). -/
theorem writeStatus_serves {s : State} {who : Caller} {idx sub : Nat} {v : Octets} (h : writeStatus s who idx sub v = 0) :
    servesSop s = true := by
  unfold writeStatus at h
  split at h
  · simp [stSession] at h
  · split at h
    · simp [stState] at h
    · rename_i hs
      simpa using hs

theorem servesSop_setObj (s : State) (idx sub : Nat) (v : Octets) : servesSop (setObj s idx sub v) = servesSop s := rfl

/-- A command keeps what its action keeps in the states that serve SOP. -/
theorem command_keeps (s : State) (who : Caller) (idx sub : Nat) (v : Octets) (rule : State → Nat) (act : State → State)
    (h : ∀ t, Live (frame t) (frame (act t))) : Keeps (frame s) (frame (command s who idx sub v rule act)) := by
  unfold command
  extract_lets st
  split
  · exact Keeps.rfl' _
  · split
    · rename_i hst
      have hs : servesSop s = true := by
        apply writeStatus_serves (who := who) (idx := idx) (sub := sub) (v := v)
        cases hw : writeStatus s who idx sub v with
        | zero => rfl
        | succ n => simp [st, commandStatus, hw] at hst
      have k := h (journalWrite s who idx sub v)
      rw [journalWrite_frame] at k
      rw [setStatus_frame]
      exact k.keeps (Or.inl (servesSop_lsf hs))
    · exact Keeps.of_eq (by simp)

theorem applyItems_keeps (s : State) (who : Caller) (items : List (Nat × Nat × Octets)) :
    Keeps (frame s) (frame (applyItems s who items)) := by
  unfold applyItems
  apply Keeps.foldl
  intro u i
  split
  · rename_i hs
    have k := objApply_live who i.1 i.2.1 i.2.2 (journalWrite u who i.1 i.2.1 i.2.2)
    rw [journalWrite_frame] at k
    exact k.keeps (Or.inl (servesSop_lsf hs))
  · exact Keeps.rfl' _

theorem writeItems_keeps (s : State) (who : Caller) (items : List (Nat × Nat × Octets)) :
    Keeps (frame s) (frame (writeItems s who items).1) := by
  unfold writeItems
  split
  · exact Keeps.of_eq (by simp)
  · have k := applyItems_keeps (noteItems s who items) who items
    simpa using k

theorem servesSop_frame {s t : State} (h : frame t = frame s) : servesSop t = servesSop s := by
  have hd : t.power.dev = s.power.dev := congrArg Frame.dev h
  have hl : t.power.lifecycle = s.power.lifecycle := congrArg Frame.lifecycle h
  unfold servesSop
  rw [hd, hl]

theorem objCheck_serves {s : State} {who : Caller} {idx sub : Nat} {v : Octets} (h : objCheck s who idx sub v = 0) :
    servesSop s = true := by
  apply writeStatus_serves (who := who) (idx := idx) (sub := sub) (v := v)
  cases hw : writeStatus s who idx sub v with
  | zero => rfl
  | succ n => simp [objCheck, hw] at h

theorem writeAt_keeps (s : State) (who : Caller) (idx sub : Nat) (v : Octets) (at_ : Nat) :
    Keeps (frame s) (frame (writeAt s who idx sub v at_)) := by
  unfold writeAt
  extract_lets now_ s0 s1 st s2
  have h1 : frame s1 = frame s := by
    show frame (if _ then _ else s0) = frame s
    split <;> simp [s0]
  split
  · rename_i hst
    have hs : servesSop s = true := by
      rw [← servesSop_frame h1]
      exact objCheck_serves hst
    have k : Live (frame s1) (frame s2) :=
      Live.trans (Keeps.of_eq (by simp)) (objApply_live who idx sub v (journalWrite s1 who idx sub _))
    rw [h1] at k
    rw [setStatus_frame]
    split
    · exact k.keeps (Or.inl (servesSop_lsf hs))
    · rw [withOperand_frame]
      exact k.keeps (Or.inl (servesSop_lsf hs))
  · exact Keeps.of_eq (by simp [h1])

theorem writeObject_keeps (s : State) (who : Caller) (idx sub : Nat) (v : Octets) :
    Keeps (frame s) (frame (writeObject s who idx sub v)) := writeAt_keeps s who idx sub v _

theorem mailWrite_keeps (s : State) (who : Caller) (idx sub : Nat) (v : Octets) :
    Keeps (frame s) (frame (mailWrite s who idx sub v).1) := by
  unfold mailWrite
  split
  · exact Keeps.rfl' _
  · exact writeObject_keeps s who idx sub v

/- The SOP operations that write. -/

theorem opWrite_keeps (s : State) (who : Caller) (seq : Nat) (items : List (Nat × Nat × Octets)) :
    Keeps (frame s) (frame (opWrite s who seq items)) := by
  have k := writeItems_keeps s who items
  unfold opWrite
  split <;> rename_i h <;> rw [h] at k <;> simpa using k

theorem opExecute_keeps (s : State) (who : Caller) (seq : Nat) (writes : List (Nat × Nat × Octets)) (reads : List (Nat × Nat)) :
    Keeps (frame s) (frame (opExecute s who seq writes reads)) := by
  have k := writeItems_keeps s who writes
  unfold opExecute
  split
  · exact Keeps.of_eq (by simp)
  split
  · exact Keeps.of_eq (by simp)
  split
  · exact Keeps.of_eq (by simp)
  split <;> rename_i h <;> rw [h] at k
  · simpa using k
  · dsimp only
    split <;> simpa using k

theorem opSegWrite_keeps (s : State) (who : Caller) (seq offset : Nat) (data : Octets) :
    Keeps (frame s) (frame (opSegWrite s who seq offset data)) := by
  unfold opSegWrite
  split
  · split
    · exact Keeps.of_eq (by simp)
    split
    · exact Keeps.of_eq (by simp)
    split
    · rename_i t _ _ _ _
      have k := writeAt_keeps (setTransfer s who none) who t.index t.sub (t.data ++ data) t.operand
      dsimp only
      simpa using k
    · exact Keeps.of_eq (by simp)
  · exact Keeps.of_eq (by simp)

theorem runOp_keeps (s : State) (e : Endpoint) (sid op seq : Nat) (b tag : Octets) :
    Keeps (frame s) (frame (runOp s e sid op seq b tag)) := by
  unfold runOp
  extract_lets who bad
  have hb : frame bad = frame s := by simp [bad]
  (repeat' split) <;> first
    | exact opWrite_keeps _ _ _ _
    | exact opSegWrite_keeps _ _ _ _ _
    | exact opExecute_keeps _ _ _ _ _
    | exact Keeps.of_eq hb
    | exact Keeps.of_eq (by simp)

theorem served_keeps (s : State) (who : Caller) (op seq : Nat) (f : State → State) (h : Keeps (frame s) (frame (f s))) :
    Keeps (frame s) (frame (served s who op seq f)) := by
  unfold served
  split
  · split
    · exact h
    · exact Keeps.of_eq (by simp)
  · exact Keeps.rfl' _

/- The partner's journal. -/

theorem applyRecord_live (s : State) (idx sub : Nat) (v : Octets) : Live (frame s) (frame (applyRecord s idx sub v)) := by
  unfold applyRecord
  extract_lets nobody n now_
  split
  · exact Keeps.of_eq (by simp)
  split
  · rw [withOperand_frame]
    exact Live.trans (Keeps.of_eq (by simp)) (objApply_live nobody idx sub _ (withOperand s idx sub _))
  · exact objApply_live nobody idx sub v s

theorem applyThreadOut_live (s : State) (write : Bool) (o : Octets) :
    Live (frame s) (frame (applyThreadOut s write o)) := by
  unfold applyThreadOut
  split
  · exact applyRecord_live s _ _ _
  · exact Keeps.of_eq (by simp)

theorem applyBody_live (s : State) (r : JournalRecord) : Live (frame s) (frame (applyBody s r)) := by
  unfold applyBody
  split <;> first
    | exact applyRecord_live s _ _ _
    | exact applyThreadOut_live s _ _
    | exact Keeps.of_eq (by simp [frame_foldl])

theorem takeRecord_keeps (s : State) (r : JournalRecord) : Keeps (frame s) (frame (takeRecord s r)) := by
  unfold takeRecord
  split
  · exact Keeps.rfl' _
  · rename_i hg
    have hd : lsfRuns (frame s).dev = true := by
      show lsfRuns s.power.dev = true
      simp only [Bool.or_eq_true, not_or, Bool.not_eq_true, bne_eq_false_iff_eq] at hg
      rw [hg.2]
      rfl
    extract_lets u
    have hu : frame u = frame s := by simp [u]
    split
    · have k : Live (frame u) (frame (applyNext u r)) := by
        unfold applyNext
        dsimp only
        rw [updTwin_frame]
        exact Live.trans (Keeps.of_eq (by simp)) (applyBody_live _ r)
      rw [hu] at k
      exact k.keeps (Or.inl hd)
    · exact Keeps.of_eq hu

/- The configuration. -/

theorem chooseRecord_live (s : State) (p : Nat × Octets) : Live (frame s) (frame (chooseRecord s p)) := by
  unfold chooseRecord
  dsimp only
  (repeat' split) <;> first
    | exact objApply_live _ _ _ _ s
    | exact Keeps.of_eq (by simp)

theorem commitEnds_live (s : State) (j : CommitJob) : Live (frame s) (frame (commitEnds s j)) := by
  unfold commitEnds
  dsimp only
  split
  · unfold selectDone
    dsimp only
    refine Live.trans (Keeps.of_eq ?_) (Live.foldl chooseRecord chooseRecord_live _ _)
    simp
  · exact Keeps.of_eq (by simp)

end Sys2Proof.Laws
end

