-- ==== Sys2Proof/Laws/RoleExec.lean ====
section
/-! SUPPORT. What the commands that can change the device state, the claim, the gate, the bypass or the lifecycle keep of the
frame. Supply and reset commands are apart (Laws/RoleSupply.lean); every other command leaves the frame (Laws/FrameHost.lean
and the files it imports). -/

namespace Sys2Proof.Laws

open Sys2Proof.Machine

/-- At rest the device state stays. -/
def Rest (a b : Frame) : Prop := atRest a.dev = true → b.dev = a.dev

theorem Rest.of_eq {a b : Frame} (h : b = a) : Rest a b := fun _ => by rw [h]

theorem Rest.of_awake {a b : Frame} (h : atRest a.dev = false) : Rest a b := fun k => by rw [h] at k; contradiction

theorem Rest.trans {a b c : Frame} (h : Rest a b) (k : Rest b c) : Rest a c := fun r => by
  have e := h r
  rw [k (by rw [e]; exact r), e]

theorem Rest.foldl {α : Type} (f : State → α → State) (h : ∀ s a, Rest (frame s) (frame (f s a))) (l : List α) (s : State) :
    Rest (frame s) (frame (l.foldl f s)) := by
  induction l generalizing s with
  | nil => exact Rest.of_eq rfl
  | cons a l ih => exact (h s a).trans (ih (f s a))

/-- What a command keeps. -/
def ExecKeeps (o : Host.Outcome State Fault Refusal) (s : State) : Prop :=
  ∀ t, o = .next t → Keeps (frame s) (frame t) ∧ Rest (frame s) (frame t)

theorem execKeeps_done {s t : State} (h : Keeps (frame s) (frame t)) (k : Rest (frame s) (frame t)) : ExecKeeps (done t) s := by
  intro u hu
  cases hu
  exact ⟨h, k⟩

theorem execKeeps_eq {s t : State} (h : frame t = frame s) : ExecKeeps (done t) s :=
  execKeeps_done (Keeps.of_eq h) (Rest.of_eq h)

theorem execKeeps_refused (r : Refusal) (s : State) : ExecKeeps (.refused r) s := by intro t h; cases h

theorem Stays.execKeeps {o : Host.Outcome State Fault Refusal} {s : State} (h : Stays o s) : ExecKeeps o s := by
  intro t ht
  exact ⟨Keeps.of_eq (h t ht), Rest.of_eq (h t ht)⟩

theorem rest_lsf {s : State} {b : Frame} (h : lsfRuns s.power.dev = true) : Rest (frame s) b := by
  apply Rest.of_awake
  show atRest s.power.dev = false
  cases hd : s.power.dev <;> simp_all [lsfRuns, atRest]

theorem rest_dev {s : State} {b : Frame} (d : DevState) (h : s.power.dev = d) (hd : atRest d = false) : Rest (frame s) b := by
  apply Rest.of_awake
  show atRest s.power.dev = false
  rw [h, hd]

theorem fatalToRole_rest (s : State) (cause : Nat) (keepDram : Bool) :
    Rest (frame s) (frame (fatalToRole s cause keepDram)) := by
  unfold fatalToRole
  split
  · exact rest_dev .load (by assumption) rfl
  · exact rest_dev .maintenance (by assumption) rfl
  · exact rest_dev .active (by assumption) rfl
  · exact rest_dev .follower (by assumption) rfl
  · exact rest_dev .recovery (by assumption) rfl
  · exact Rest.of_eq rfl

/-- A reset for a fault after steps that leave the frame. -/
theorem fatal_keeps {s t : State} (h : frame t = frame s) (cause : Nat) (keepDram : Bool) :
    ExecKeeps (done (fatalToRole t cause keepDram)) s := by
  apply execKeeps_done
  · rw [← h]; exact fatalToRole_keeps t cause keepDram
  · rw [← h]; exact fatalToRole_rest t cause keepDram

theorem tamperAlarm_rest (s : State) (sources : Nat) : Rest (frame s) (frame (tamperAlarm s sources)) := by
  unfold tamperAlarm
  dsimp only
  split
  · exact Rest.of_eq rfl
  · exact Rest.of_eq (by simp)
  · exact Rest.of_eq (by simp)
  · rename_i h1 h2 h3
    apply Rest.of_awake
    show atRest s.power.dev = false
    cases hd : s.power.dev <;> simp_all [atRest]

theorem hedgehogSample_rest (s : State) (x : TamperSample) : Rest (frame s) (frame (hedgehogSample s x)) := by
  unfold hedgehogSample
  extract_lets t new rises k u
  have h : frame u = frame s := (frame_parts t _ _ _ _ _ _ _ _ _ _ _ _ _ _ _ _ _ _ _ _ _ _ _ _).trans (countSample_frame s x)
  split
  · rw [← h]; exact tamperAlarm_rest u new
  · exact Rest.of_eq h

/-- A command of the dictionary takes effect only in a state that serves SOP. -/
theorem command_rest (s : State) (who : Caller) (idx sub : Nat) (v : Octets) (rule : State → Nat) (act : State → State) :
    Rest (frame s) (frame (command s who idx sub v rule act)) := by
  unfold command
  extract_lets st
  split
  · exact Rest.of_eq rfl
  · split
    · rename_i hst
      apply rest_lsf
      apply servesSop_lsf
      apply writeStatus_serves (who := who) (idx := idx) (sub := sub) (v := v)
      cases hw : writeStatus s who idx sub v with
      | zero => rfl
      | succ n => simp [st, commandStatus, hw] at hst
    · exact Rest.of_eq (by simp)

theorem command_execKeeps (s : State) (who : Caller) (idx sub : Nat) (v : Octets) (rule : State → Nat) (act : State → State)
    (h : ∀ t, Live (frame t) (frame (act t))) : ExecKeeps (done (command s who idx sub v rule act)) s :=
  execKeeps_done (command_keeps s who idx sub v rule act h) (command_rest s who idx sub v rule act)

/-- An operation of SOP takes effect only in a state that serves it. -/
theorem served_execKeeps (s : State) (who : Caller) (op seq : Nat) (f : State → State) (h : Keeps (frame s) (frame (f s))) :
    ExecKeeps (done (served s who op seq f)) s := by
  refine execKeeps_done (served_keeps s who op seq f h) ?_
  unfold served
  split
  · split
    · rename_i hs
      exact rest_lsf (servesSop_lsf hs)
    · exact Rest.of_eq (by simp)
  · exact Rest.of_eq rfl

/- Banks. -/

theorem execBankRestart_keeps (who : Caller) (s : State) : ExecKeeps (execBankRestart who s) s := by
  unfold execBankRestart
  exact command_execKeeps _ _ _ _ _ _ _ (fun t => (internalReset_keeps t 5 true).live)

theorem execBankRollback_keeps (who : Caller) (s : State) : ExecKeeps (execBankRollback who s) s := by
  unfold execBankRollback
  exact command_execKeeps _ _ _ _ _ _ _ (fun t => (runFrom_keeps t _ _).live)

theorem execBankSwitch_keeps (who : Caller) (s : State) : ExecKeeps (execBankSwitch who s) s := by
  unfold execBankSwitch
  exact command_execKeeps _ _ _ _ _ _ _ (fun t => (bankSwitchApply_keeps t).live)

theorem execBankVerifyDone_keeps (s : State) : ExecKeeps (execBankVerifyDone s) s := by
  unfold execBankVerifyDone
  split
  · rename_i hg
    have hb : (frame s).dev = .boot := hg.1
    have hr : (frame s).rails = true := hg.2.1
    split
    · apply execKeeps_done
      · rw [enterRecovery_frame]
        exact keeps_fromBoot .recovery hb hr (Or.inl rfl)
      · exact rest_dev .boot hg.1 rfl
    split
    · apply execKeeps_done
      · rw [enterRecovery_frame]
        exact keeps_fromBoot .recovery hb hr (Or.inl rfl)
      · exact rest_dev .boot hg.1 rfl
    · exact execKeeps_done (bankChecked_keeps s hg.1 hg.2.1) (rest_dev .boot hg.1 rfl)
  · exact execKeeps_eq rfl

theorem execBootHedgehogSample_keeps (sample : TamperSample) (s : State) : ExecKeeps (execBootHedgehogSample sample s) s := by
  unfold execBootHedgehogSample
  split
  · rename_i hg
    exact execKeeps_done (bootSample_keeps s sample hg.1) (rest_dev .boot hg.1 rfl)
  · exact execKeeps_eq rfl

theorem execBypassRelease_keeps (s : State) : ExecKeeps (execBypassRelease s) s := by
  unfold execBypassRelease
  split
  · rename_i hg
    have hb : (frame s).dev = .load := hg.1
    apply execKeeps_done
    · simp only [portDown_frame]
      refine ⟨rfl, rfl, rfl, rfl, rfl, Nat.le_refl _, fun h _ => ⟨h.gate, h.role, ?_, h.supply, h.held, h.rails⟩⟩
      intro hd
      have : bypassState (frame s).dev = true := hd
      simp [hb, bypassState] at this
    · exact rest_dev .load hg.1 rfl
  · exact execKeeps_eq rfl

theorem execCeSelftestDone_keeps (engine : Nat) (romPass trngAgree : Bool) (op keySize : Nat) (s : State) :
    ExecKeeps (execCeSelftestDone engine romPass trngAgree op keySize s) s := by
  unfold execCeSelftestDone
  split
  · split
    · dsimp only
      split <;> exact execKeeps_eq (by simp)
    · split
      · refine execKeeps_done (crossDisagrees_keeps s engine op) ?_
        unfold crossDisagrees
        dsimp only
        split
        · split
          · refine Rest.trans (Rest.of_eq ?_) (fatalToRole_rest _ 3 true)
            simp
          · exact Rest.of_eq (by simp)
        · exact Rest.of_eq (by simp)
      · exact execKeeps_eq (by simp)
  · exact execKeeps_eq rfl

/- The claim. -/

theorem execClaimBackoffExpire_keeps (s : State) : ExecKeeps (execClaimBackoffExpire s) s := by
  unfold execClaimBackoffExpire
  extract_lets due
  split
  · rename_i hg
    have hl : lsfRuns (frame s).dev = true := hg.2.2
    have hr : ∀ b, Rest (frame s) b := fun b => rest_lsf hg.2.2
    split
    · exact execKeeps_done ((becomeFollower_live s).keeps (Or.inl hl)) (hr _)
    split
    · exact execKeeps_done ((takeoverUnready_live s).keeps (Or.inl hl)) (hr _)
    · exact execKeeps_done ((becomeActive_live s _).keeps (Or.inl hl)) (hr _)
  · exact execKeeps_eq rfl

theorem execPartnerClaimSeen_keeps (s : State) : ExecKeeps (execPartnerClaimSeen s) s := by
  unfold execPartnerClaimSeen
  extract_lets p t
  have ht : frame t = frame s := rfl
  split
  · rename_i hg
    have hl : lsfRuns (frame s).dev = true := by rw [← ht]; exact hg.2
    have hr : ∀ b, Rest (frame s) b := fun b => rest_lsf hl
    split
    · refine execKeeps_done ?_ (hr _)
      have k := becomeFollower_live t
      rw [ht] at k
      exact k.keeps (Or.inl hl)
    · refine execKeeps_done ?_ (hr _)
      rw [startContend_frame, ← ht]
      exact releaseClaim_keeps t
    · exact execKeeps_eq (by rw [updTwin_frame, ht])
  · exact execKeeps_eq ht

theorem execPartnerClaimWithdrawn_keeps (s : State) : ExecKeeps (execPartnerClaimWithdrawn s) s := by
  unfold execPartnerClaimWithdrawn
  extract_lets p t
  have ht : frame t = { frame s with txGate := s.power.claimOut } := rfl
  have hk : Keeps (frame s) { frame s with txGate := s.power.claimOut } :=
    ⟨rfl, rfl, rfl, rfl, rfl, Nat.le_refl _, fun h _ => ⟨id, h.role, h.bypass, h.supply, h.held, h.rails⟩⟩
  have hall : ∀ u, frame u = frame t → ExecKeeps (done u) s := by
    intro u hu
    refine execKeeps_done ?_ ?_
    · rw [hu, ht]; exact hk
    · rw [hu, ht]; intro _; rfl
  split
  · split
    · exact hall _ (by rw [updTwin_frame, record_frame])
    · exact hall _ (by rw [startContend_frame, record_frame])
  · exact hall _ rfl

theorem execSwapSlotStart_keeps (s : State) : ExecKeeps (execSwapSlotStart s) s := by
  unfold execSwapSlotStart
  split
  · split
    · rename_i hg
      have hl : lsfRuns (frame s).dev = true := by show lsfRuns s.power.dev = true; rw [hg.1]; rfl
      split
      · exact execKeeps_done ((stepDown_live s).keeps (Or.inl hl)) (rest_lsf hl)
      · exact execKeeps_eq (by simp)
    · exact execKeeps_eq rfl
  · exact execKeeps_eq rfl

theorem execSlotBoundary_keeps (band : Band) (idle : List (Nat × BinMeasure)) (s : State) :
    ExecKeeps (execSlotBoundary band idle s) s := by
  unfold execSlotBoundary
  extract_lets b a t u
  split
  · rename_i hg
    have hu : frame u = frame s := by simp [u, t]
    refine execKeeps_done ?_ (rest_lsf hg.1)
    rw [← hu]
    split
    · exact pairBoundary_keeps u
    · exact Keeps.rfl' _
  · exact execKeeps_eq rfl

theorem execJackRx_keeps (jack : Jack) (s : State) : ExecKeeps (execJackRx jack s) s := by
  unfold execJackRx
  split
  · rename_i hg
    have hr : ∀ b, Rest (frame s) b := fun b => by
      rcases hg.2.2 with h | h
      · exact rest_dev .active h rfl
      · exact rest_dev .follower h rfl
    have k := checkInterlock_keeps (partnerHeard s) jack.claim
    rw [partnerHeard_frame] at k
    extract_lets u
    split
    · exact execKeeps_done (by simpa [u] using k) (hr _)
    · exact execKeeps_done k (hr _)
  · exact execKeeps_eq rfl

theorem execJournalFrameRx_keeps (claim : Bool) (records : List JournalRecord) (s : State) :
    ExecKeeps (execJournalFrameRx claim records s) s := by
  unfold execJournalFrameRx
  split
  · rename_i hg
    have hr : ∀ b, Rest (frame s) b := fun b => by
      rcases hg.2.2 with h | h
      · exact rest_dev .active h rfl
      · exact rest_dev .follower h rfl
    have k := checkInterlock_keeps (partnerHeard s) claim
    rw [partnerHeard_frame] at k
    extract_lets u
    split
    · refine execKeeps_done ?_ (hr _)
      rw [sendJack_frame, noticeSilence_frame]
      exact Keeps.trans k (Keeps.foldl takeRecord takeRecord_keeps records u)
    · exact execKeeps_done k (hr _)
  · exact execKeeps_eq rfl

/- The dictionary and SOP. -/

theorem execEnterMaintenance_keeps (who : Caller) (s : State) : ExecKeeps (execEnterMaintenance who s) s := by
  unfold execEnterMaintenance
  exact command_execKeeps _ _ _ _ _ _ _ (fun t => goMaintenance_live t 0x17)

theorem execResume_keeps (who : Caller) (s : State) : ExecKeeps (execResume who s) s := by
  unfold execResume
  exact command_execKeeps _ _ _ _ _ _ _ resumeApply_live

theorem execRetire_keeps (who : Caller) (s : State) : ExecKeeps (execRetire who s) s := by
  unfold execRetire
  exact command_execKeeps _ _ _ _ _ _ _ retireApply_live

theorem execRegionCommission_keeps (who : Caller) (value : Nat) (s : State) : ExecKeeps (execRegionCommission who value s) s := by
  unfold execRegionCommission
  exact command_execKeeps _ _ _ _ _ _ _ (fun t => (commissionApply_keeps t).live)

theorem execZeroizeCmd_keeps (who : Caller) (value : Nat) (s : State) : ExecKeeps (execZeroizeCmd who value s) s := by
  unfold execZeroizeCmd
  exact command_execKeeps _ _ _ _ _ _ _ (fun t => (zeroizeCmdApply_keeps t).live)

theorem writeObject_rest (s : State) (who : Caller) (idx sub : Nat) (v : Octets) :
    Rest (frame s) (frame (writeObject s who idx sub v)) := by
  intro hr
  unfold writeObject writeAt
  extract_lets now_ s0 s1 st s2
  have h1 : frame s1 = frame s := by
    show frame (if _ then _ else s0) = frame s
    split <;> simp [s0]
  split
  · rename_i hst
    have hs : servesSop s = true := by
      rw [← servesSop_frame h1]
      exact objCheck_serves hst
    have hl := servesSop_lsf hs
    cases hd : (frame s).dev <;> simp_all [atRest, lsfRuns]
  · simp [h1]

theorem execObjectWrite_keeps (who : Caller) (index sub : Nat) (value : Octets) (s : State) :
    ExecKeeps (execObjectWrite who index sub value s) s := by
  unfold execObjectWrite
  split
  · exact execKeeps_refused _ s
  split
  · exact execKeeps_eq rfl
  · exact execKeeps_done (writeObject_keeps s who index sub value) (writeObject_rest s who index sub value)

theorem execSopWrite_keeps (who : Caller) (seq : Nat) (items : List (Nat × Nat × Octets)) (s : State) :
    ExecKeeps (execSopWrite who seq items s) s := by
  unfold execSopWrite
  split
  · exact execKeeps_refused _ s
  · exact served_execKeeps s who 2 seq _ (opWrite_keeps s who seq items)

theorem execSopSegWrite_keeps (who : Caller) (seq offset : Nat) (data : Octets) (s : State) :
    ExecKeeps (execSopSegWrite who seq offset data s) s := by
  unfold execSopSegWrite
  exact served_execKeeps s who 6 seq _ (opSegWrite_keeps s who seq offset data)

theorem execSopExecute_keeps (who : Caller) (seq : Nat) (writes : List (Nat × Nat × Octets)) (reads : List (Nat × Nat))
    (s : State) : ExecKeeps (execSopExecute who seq writes reads s) s := by
  unfold execSopExecute
  split
  · exact execKeeps_refused _ s
  · exact served_execKeeps s who 7 seq _ (opExecute_keeps s who seq writes reads)

theorem sopRead_frame (s : State) (e : Endpoint) (sid seq : Nat) (b tag : Octets) :
    frame (runOp s e sid 1 seq b tag) = frame s := by
  unfold runOp
  extract_lets who bad
  have hb : frame bad = frame s := by simp [bad]
  simp only
  split <;> simp [hb]

theorem execSopFrameCheck_keeps (s : State) : ExecKeeps (execSopFrameCheck s) s := by
  unfold execSopFrameCheck
  split
  · exact execKeeps_eq rfl
  · rename_i e f rest _
    split
    · exact execKeeps_eq rfl
    · extract_lets k u
      have hu : frame u = frame s := rfl
      split
      · exact execKeeps_eq hu
      split
      · rename_i t ht
        exact execKeeps_eq ((frameStop_step ht).trans hu)
      split
      · exact execKeeps_refused _ s
      · rename_i hstop _
        apply execKeeps_done
        · rw [← hu, ← acceptFrame_frame u e f]
          exact runOp_keeps _ _ _ _ _ _ _
        · by_cases hs : servesSop u = true
          · apply rest_lsf
            show lsfRuns (frame s).dev = true
            rw [← hu]
            exact servesSop_lsf hs
          · have hop : frOp f = 1 := by
              unfold frameStop at hstop
              split at hstop
              · simp at hstop
              split at hstop
              · simp at hstop
              · rename_i hn
                simp [hs] at hn
                exact hn.1.2
            apply Rest.of_eq
            rw [hop, sopRead_frame, acceptFrame_frame, hu]

theorem mailSubmit_keeps (s : State) (core tid addr target : Nat)
    (job : State → Option (State × Option Nat × Option (Nat × Octets)))
    (h : ∀ u t j r, job u = some (t, j, r) → Keeps (frame u) (frame t) ∧ Rest (frame u) (frame t)) :
    Keeps (frame s) (frame (mailSubmit s core tid addr target job)) ∧
      Rest (frame s) (frame (mailSubmit s core tid addr target job)) := by
  have he : ∀ u, frame u = frame s → Keeps (frame s) (frame u) ∧ Rest (frame s) (frame u) :=
    fun u hu => ⟨Keeps.of_eq hu, Rest.of_eq hu⟩
  unfold mailSubmit
  extract_lets refuse
  split
  · exact he _ rfl
  split
  · exact he _ (by simp [refuse])
  split
  · exact he _ (by simp [refuse])
  · rename_i t j r hj
    have k := h _ _ _ _ hj
    rw [mailStatus_frame] at k
    dsimp only
    rw [frame_parts]
    exact k

theorem mailWrite_rest (s : State) (who : Caller) (idx sub : Nat) (v : Octets) :
    Rest (frame s) (frame (mailWrite s who idx sub v).1) := by
  unfold mailWrite
  split
  · exact Rest.of_eq rfl
  · exact writeObject_rest s who idx sub v

/-- Each request of the object dictionary mailbox. -/
theorem odJob_keeps (tid op idx sub room : Nat) (stop : Bool) (v : Octets) (u : State) {t : State} {j : Option Nat}
    {r : Option (Nat × Octets)}
    (h : (if stop then none else match op with
      | 1 => some ((mailRead u (.mailbox tid) idx sub room).1, none, some (mailRead u (.mailbox tid) idx sub room).2)
      | 2 => some ((mailWrite u (.mailbox tid) idx sub v).1, none, some (mailWrite u (.mailbox tid) idx sub v).2)
      | _ => none) = some (t, j, r)) : Keeps (frame u) (frame t) ∧ Rest (frame u) (frame t) := by
  split at h
  · simp at h
  split at h
  · simp only [Option.some.injEq, Prod.mk.injEq] at h
    rw [← h.1, mailRead_frame]
    exact ⟨Keeps.rfl' _, Rest.of_eq rfl⟩
  · simp only [Option.some.injEq, Prod.mk.injEq] at h
    rw [← h.1]
    exact ⟨mailWrite_keeps u _ _ _ _, mailWrite_rest u _ _ _ _⟩
  · simp at h

theorem execMailboxOdSubmit_keeps (core addr : Nat) (s : State) : ExecKeeps (execMailboxOdSubmit core addr s) s := by
  unfold execMailboxOdSubmit onThread
  split
  · exact execKeeps_eq rfl
  split
  · split
    · rename_i tid _ _ _ _
      have k := mailSubmit_keeps s core tid addr 1 _ (fun u t j r hj => odJob_keeps tid (fieldOf (appRead u addr 64) 0 1)
        (fieldOf (appRead u addr 64) 36 2) (fieldOf (appRead u addr 64) 38 1) (fieldOf (appRead u addr 64) 32 4)
        (!mailPlaces (appRead u addr 64) || lsfStopped u) (mailInput u (appRead u addr 64)) u hj)
      exact execKeeps_done k.1 k.2
    · exact execKeeps_eq rfl
  · exact execKeeps_eq rfl

theorem execCommitComplete_keeps (s : State) : ExecKeeps (execCommitComplete s) s := by
  unfold execCommitComplete
  split
  · exact execKeeps_eq rfl
  · rename_i hg
    have hl : lsfRuns (frame s).dev = true := by
      show lsfRuns s.power.dev = true
      simp only [Bool.or_eq_true, not_or, Bool.not_eq_true, Bool.not_eq_false'] at hg
      exact hg.1.1
    split
    · exact execKeeps_done ((commitEnds_live s _).keeps (Or.inl hl)) (rest_lsf hl)
    · exact execKeeps_eq rfl

/- Keys, tamper and faults. -/

theorem kuCommit_rest (s : State) (slot : Nat) (p : KeyPending) : Rest (frame s) (frame (kuCommit s slot p)) := by
  have hp : ∀ t : State, (frame (provision t slot p)).dev = (frame t).dev := by
    intro t
    unfold provision
    split <;> rfl
  intro _
  unfold kuCommit
  extract_lets k1 s2 s3 s4 s5
  have h3 : frame s3 = frame s := (dropRegisters_frame s2 _).trans (frame_parts s _ _ _ _ _ _ _ _ _ _ _ _ _ _ _ _ _ _ _ _ _ _ _ _)
  have h4 : frame s4 = frame s3 := by
    show frame (if slot = 1 then _ else s3) = frame s3
    split
    · rw [fillOwn_frame, flushCache_frame]
    · rfl
  have h5 : frame s5 = frame s := ((record_frame _ _ _ _ _).trans (countK_frame _ _)).trans (h4.trans h3)
  rw [kmNext_frame, endRoleSessions_frame, hp, h5]

theorem execKeyUpdateCommit_keeps (slot : Nat) (s : State) : ExecKeeps (execKeyUpdateCommit slot s) s := by
  unfold execKeyUpdateCommit
  split
  · split
    · rename_i p _ _
      exact execKeeps_done (kuCommit_keeps s slot p) (kuCommit_rest s slot p)
    · exact execKeeps_eq rfl
  · exact execKeeps_eq rfl

theorem execHedgehogSample_keeps (sample : TamperSample) (s : State) : ExecKeeps (execHedgehogSample sample s) s := by
  unfold execHedgehogSample
  split
  · exact execKeeps_done (hedgehogSample_keeps s sample) (hedgehogSample_rest s sample)
  · exact execKeeps_eq rfl

theorem execFatalToRoleFault_keeps (s : State) : ExecKeeps (execFatalToRoleFault s) s := fatal_keeps rfl 3 true

theorem execLoneEngineSlice_keeps (engine : Nat) (pass : Bool) (s : State) :
    ExecKeeps (execLoneEngineSlice engine pass s) s := by
  unfold execLoneEngineSlice
  split
  · split
    · exact execKeeps_eq rfl
    · exact fatal_keeps (by simp) 3 true
  · exact execKeeps_eq rfl

theorem execMemoryError_keeps (memory : Nat) (uncorrectable : Bool) (place : MemoryPlace) (s : State) :
    ExecKeeps (execMemoryError memory uncorrectable place s) s := by
  unfold execMemoryError
  split
  · refine execKeeps_done (correctedError_keeps s memory) ?_
    unfold correctedError
    extract_lets recent k w u
    split
    · exact Rest.trans (Rest.of_eq rfl) (fatalToRole_rest u 3 _)
    · exact Rest.of_eq rfl
  · split
    · exact execKeeps_eq (by simp)
    · exact execKeeps_eq (by simp)
    · exact execKeeps_eq rfl
    · exact fatal_keeps rfl 3 _

theorem execDramScrubPass_keeps (corrected : Nat) (errors : List (Nat × Nat × Option Nat)) (s : State) :
    ExecKeeps (execDramScrubPass corrected errors s) s := by
  unfold execDramScrubPass
  extract_lets k w u
  split
  · have hu : frame (errors.foldl scrubRecord u) = frame s := (frame_foldl scrubRecord scrubRecord_frame errors u).trans rfl
    apply execKeeps_done
    · rw [← hu]
      exact Keeps.foldl scrubAct scrubAct_keeps errors _
    · rw [← hu]
      refine Rest.foldl scrubAct ?_ errors _
      intro t e
      unfold scrubAct
      split
      · exact Rest.of_eq (by simp)
      · exact fatalToRole_rest t 3 false
  · exact execKeeps_eq rfl

theorem execRfLoopbackTest_keeps (bandSector : Nat) (pass : Bool) (s : State) :
    ExecKeeps (execRfLoopbackTest bandSector pass s) s := by
  unfold execRfLoopbackTest
  extract_lets due u
  split
  · rename_i hg
    have hu : frame u = frame s := by simp [u]
    split
    · exact execKeeps_eq (by simp [hu])
    · refine execKeeps_done ?_ ?_
      · rw [← hu]; exact loopbackFailed_keeps u bandSector
      · rcases hg.2.1 with h | h
        · exact rest_dev .active h rfl
        · exact rest_dev .follower h rfl
  · exact execKeeps_eq rfl

theorem execSequencerWatchdogExpiry_keeps (bandSector : Nat) (s : State) :
    ExecKeeps (execSequencerWatchdogExpiry bandSector s) s := by
  unfold execSequencerWatchdogExpiry
  extract_lets again
  split
  · split
    · exact fatal_keeps rfl 3 true
    · exact execKeeps_eq (by simp)
  · exact execKeeps_eq rfl

theorem execShadowCheck_keeps (trie : Bool) (key : Octets) (result : Option Nat) (s : State) :
    ExecKeeps (execShadowCheck trie key result s) s := by
  unfold execShadowCheck
  split
  · exact execKeeps_eq rfl
  · extract_lets place again u k w
    have hw : frame w = frame s := by simp [w, u]
    split
    · exact fatal_keeps hw 3 true
    · exact execKeeps_eq hw

theorem thermalRow3_rest (s : State) : Rest (frame s) (frame (thermalRow3 s)) := by
  unfold thermalRow3
  split
  · extract_lets k u
    have hu : frame u = frame s := by simp [u, k]
    split
    · rw [← hu]; exact fatalToRole_rest u 4 true
    · exact Rest.of_eq hu
  · exact Rest.of_eq rfl

theorem thermalRow4_rest (s : State) : Rest (frame s) (frame (thermalRow4 s)) := by
  unfold thermalRow4
  split
  · dsimp only
    have ht : frame (if lsfRuns s.power.dev then thermalEvent s 4 else s) = frame s := by simp
    generalize (if lsfRuns s.power.dev then thermalEvent s 4 else s) = t at ht
    rw [← ht]
    split
    · exact rest_dev .load (by assumption) rfl
    · exact rest_dev .maintenance (by assumption) rfl
    · exact rest_dev .active (by assumption) rfl
    · exact rest_dev .follower (by assumption) rfl
    · exact rest_dev .recovery (by assumption) rfl
    · split
      · exact rest_dev .boot (by assumption) rfl
      · exact Rest.of_eq rfl
  · exact Rest.of_eq rfl

theorem execThermalReading_keeps (tenths : Int) (s : State) : ExecKeeps (execThermalReading tenths s) s := by
  unfold execThermalReading
  split
  · extract_lets k u
    have hu : frame (thermalCool (thermalRow1 u)) = frame s := by
      rw [thermalCool_frame, thermalRow1_frame]
      rfl
    apply execKeeps_done
    · rw [thermalRow5_frame, ← hu]
      exact Keeps.trans (thermalRow3_keeps _) (thermalRow4_keeps _)
    · rw [thermalRow5_frame, ← hu]
      exact Rest.trans (thermalRow3_rest _) (thermalRow4_rest _)
  · exact execKeeps_eq rfl

/- Debug and RECOVERY. -/

/-- A debug transaction keeps what its effect keeps. -/
theorem transaction_execKeeps (s : State) (f : Nat) (mine : Bool) (act : State → State) (hk : Keeps (frame s) (frame (act s)))
    (hr : Rest (frame s) (frame (act s))) : ExecKeeps (done (transaction s f mine act)) s := by
  unfold transaction
  split
  · exact execKeeps_eq rfl
  split
  · exact execKeeps_eq (by simp)
  split
  · exact execKeeps_done hk hr
  · exact execKeeps_eq rfl

theorem requestRole_rest (s : State) (hart : Nat) : Rest (frame s) (frame (requestRole s hart)) := by
  unfold requestRole
  split
  · rename_i h
    simp only [Bool.and_eq_true, decide_eq_true_eq] at h
    exact rest_dev .active h.1 rfl
  · exact Rest.of_eq (by (repeat' split) <;> simp)

theorem moduleWrite_rest (s : State) (m addr v : Nat) : Rest (frame s) (frame (moduleWrite s m addr v)) := by
  have hd : ∀ t, Rest (frame t) (frame (dmControl t m v)) := by
    intro t
    unfold dmControl
    dsimp only
    split
    · exact Rest.of_eq (by simp)
    split
    · exact Rest.of_eq (by simp)
    split
    · unfold requestHalt
      split
      · exact Rest.of_eq (by simp)
      split
      · exact Rest.of_eq (by simp)
      · refine Rest.trans (Rest.of_eq ?_) (requestRole_rest _ _)
        simp
    · exact Rest.of_eq (by split <;> simp)
  unfold moduleWrite
  split
  · refine Rest.trans (Rest.of_eq ?_) (hd _)
    simp
  · exact Rest.of_eq (by simp)

theorem submitResponse_rest (s : State) : Rest (frame s) (frame (submitResponse s)) := by
  unfold submitResponse
  split
  · exact Rest.of_eq (by simp)
  split
  · exact Rest.of_eq (by simp)
  split
  · exact Rest.of_eq (by simp)
  · unfold unlockFails
    dsimp only
    split
    · refine Rest.trans (Rest.of_eq ?_) (tamperAlarm_rest _ _)
      simp
    · exact Rest.of_eq (by simp)

theorem execDebugWrite_keeps (f : Nat) (s : State) : ExecKeeps (execDebugWrite f s) s := by
  unfold execDebugWrite
  apply transaction_execKeeps
  · unfold onModule
    split
    · exact Keeps.of_eq (by simp)
    split
    · exact Keeps.of_eq (by simp)
    split
    · exact Keeps.of_eq (by simp)
    · exact moduleWrite_keeps s _ _ _
  · unfold onModule
    split
    · exact Rest.of_eq (by simp)
    split
    · exact Rest.of_eq (by simp)
    split
    · exact Rest.of_eq (by simp)
    · exact moduleWrite_rest s _ _ _

theorem execDebugResponseSubmit_keeps (f : Nat) (s : State) : ExecKeeps (execDebugResponseSubmit f s) s := by
  unfold execDebugResponseSubmit
  apply transaction_execKeeps
  · unfold onModule
    split
    · exact Keeps.of_eq (by simp)
    split
    · split
      · exact Keeps.rfl' _
      · exact Keeps.trans (Keeps.of_eq (by simp)) (submitResponse_keeps _)
    split
    · exact Keeps.of_eq (by simp)
    · exact Keeps.rfl' _
  · unfold onModule
    split
    · exact Rest.of_eq (by simp)
    split
    · split
      · exact Rest.of_eq rfl
      · refine Rest.trans (Rest.of_eq ?_) (submitResponse_rest _)
        simp
    split
    · exact Rest.of_eq (by simp)
    · exact Rest.of_eq rfl

theorem recoveryRow_keeps (s : State) (cmd seq : Nat) (p : Octets) : ExecKeeps (recoveryRow s cmd seq p) s := by
  unfold recoveryRow
  split
  · rename_i hg
    exact execKeeps_done (recoveryTake_keeps s false cmd _ p) (rest_dev .recovery hg rfl)
  · exact execKeeps_eq rfl

theorem execRecoveryHello_keeps (seq : Nat) (s : State) : ExecKeeps (execRecoveryHello seq s) s :=
  recoveryRow_keeps s 1 seq _

theorem execRecoveryBaud_keeps (seq rate : Nat) (s : State) : ExecKeeps (execRecoveryBaud seq rate s) s :=
  recoveryRow_keeps s 2 seq _

theorem execRecoverySelect_keeps (seq bank : Nat) (s : State) : ExecKeeps (execRecoverySelect seq bank s) s :=
  recoveryRow_keeps s 3 seq _

theorem execRecoveryWrite_keeps (seq offset : Nat) (data : Octets) (s : State) :
    ExecKeeps (execRecoveryWrite seq offset data s) s :=
  recoveryRow_keeps s 4 seq _

theorem execRecoveryVerify_keeps (seq : Nat) (s : State) : ExecKeeps (execRecoveryVerify seq s) s :=
  recoveryRow_keeps s 5 seq _

theorem execRecoveryBoot_keeps (seq : Nat) (s : State) : ExecKeeps (execRecoveryBoot seq s) s :=
  recoveryRow_keeps s 6 seq _

theorem execSpiRecoveryWrite_keeps (f : Octets) (s : State) : ExecKeeps (execSpiRecoveryWrite f s) s := by
  unfold execSpiRecoveryWrite
  split
  · rename_i hg
    split
    · exact execKeeps_done (recoveryTake_keeps s true _ _ _) (rest_dev .recovery hg rfl)
    · exact execKeeps_eq rfl
  · exact execKeeps_eq rfl

theorem execRecoveryIdleTimeout_keeps (s : State) : ExecKeeps (execRecoveryIdleTimeout s) s := by
  unfold execRecoveryIdleTimeout
  split
  · split
    · rename_i hg
      exact execKeeps_done (internalReset_keeps s 6 true) (rest_dev .recovery hg.1 rfl)
    · exact execKeeps_eq rfl
  · exact execKeeps_eq rfl

theorem execLoadEnd_keeps (badRegions : List Nat) (s : State) : ExecKeeps (execLoadEnd badRegions s) s := by
  unfold execLoadEnd
  split
  · rename_i hg
    split
    · exact fatal_keeps rfl 3 true
    · refine execKeeps_done ?_ (rest_dev .load hg.1 rfl)
      have hu : frame (startEvents (finishLoad (configureLoad s badRegions))) = frame s := by simp
      rw [← hu]
      apply leaveLoad_keeps
      have := congrArg Frame.dev hu
      exact this.trans hg.1
  · exact execKeeps_eq rfl

end Sys2Proof.Laws
end

