-- ==== Sys2Proof/Laws/RoleSupply.lean ====
section
/-! SUPPORT. What the supply and reset commands keep of the frame, and the two commands that put something on the air. -/

namespace Sys2Proof.Laws

open Sys2Proof.Machine

/-- What a supply or reset command keeps: the queue, the clock, the aerial log and the lifecycle, and a sound chip stays
sound. -/
structure SupplyKeeps (a b : Frame) : Prop where
  pending : b.pending = a.pending
  now : b.now = a.now
  airs : b.airs = a.airs
  life : b.lifecycle = a.lifecycle
  sound : SoundF a → SoundF b

theorem SupplyKeeps.of_eq {a b : Frame} (h : b = a) : SupplyKeeps a b := by
  subst h
  exact ⟨rfl, rfl, rfl, rfl, fun h => h⟩

/-- What a supply or reset command's outcome keeps. -/
def ExecSupply (o : Host.Outcome State Fault Refusal) (s : State) : Prop :=
  ∀ t, o = .next t → SupplyKeeps (frame s) (frame t)

theorem execSupply_done {s t : State} (h : SupplyKeeps (frame s) (frame t)) : ExecSupply (done t) s := by
  intro u hu
  cases hu
  exact h

/-- A chip in OFF or DORMANT asserts no claim and has its gate closed. -/
theorem SoundF.quiet {f : Frame} (h : SoundF f) (hd : aonOnly f.dev = true) : f.claimOut = false ∧ f.txGate = false := by
  have hc : f.claimOut = false := by
    cases hc : f.claimOut
    · rfl
    · have := h.role hc
      rw [this] at hd
      simp [aonOnly] at hd
  refine ⟨hc, ?_⟩
  cases hg : f.txGate
  · rfl
  · have := h.gate hg
    rw [hc] at this
    contradiction

/-- Entering BOOT with VIN present and RST_N high, from OFF or DORMANT. -/
theorem boot_sound {a : Frame} (h : SoundF a) (hd : aonOnly a.dev = true) (hb : a.bypassOn = true) (hr : a.rstLow = false) :
    SoundF { a with vin := true, dev := .boot } := by
  obtain ⟨hc, hg⟩ := h.quiet hd
  refine ⟨by simp [hg], by simp [hc], fun _ => hb, by simp, by simp [hr], fun hv => ?_⟩
  have := (h.rails hv).2.2
  rw [hd] at this
  contradiction

theorem execVinRise_supply (s : State) : ExecSupply (execVinRise s) s := by
  unfold execVinRise
  split
  · exact execSupply_done (SupplyKeeps.of_eq rfl)
  rename_i hv
  have hp : frame (powerAon s) = frame s := powerAon_frame s
  have hv' : s.power.vin = false := by simpa using hv
  extract_lets t from_ p u
  have hu : frame u = { frame s with vin := true, bypassOn := true } := by
    rw [← hp]
    rfl
  have hd : ∀ h : SoundF (frame s), aonOnly (frame s).dev = true := fun h => h.supply hv'
  have low : u.power.rstLow = s.power.rstLow := by
    have := congrArg Frame.rstLow hu
    exact this
  split
  · apply execSupply_done
    rw [hu]
    refine ⟨rfl, rfl, rfl, rfl, fun h => ⟨h.gate, h.role, fun _ => rfl, by simp, h.held, fun hr => ?_⟩⟩
    have := (h.rails hr).2.2
    rw [hd h] at this
    contradiction
  · rename_i hl
    apply execSupply_done
    have e : frame { u with power := { u.power with dev := .boot, startCause := 1, latchedState := from_ } } =
        { frame u with dev := .boot } := rfl
    rw [e, hu]
    refine ⟨rfl, rfl, rfl, rfl, fun h => ?_⟩
    have hl' : s.power.rstLow = false := by rw [← low]; simpa using hl
    have hq := h.quiet (hd h)
    have hs : SoundF { frame s with bypassOn := true } :=
      ⟨h.gate, h.role, fun _ => rfl, h.supply, h.held, h.rails⟩
    exact boot_sound (a := { frame s with bypassOn := true }) hs (hd h) rfl hl'

theorem execPowerFailDetection_supply (s : State) : ExecSupply (execPowerFailDetection s) s := by
  unfold execPowerFailDetection
  split
  · exact execSupply_done (SupplyKeeps.of_eq rfl)
  extract_lets t
  apply execSupply_done
  have ht : frame t = frame s ∧ aonOnly s.power.dev = true ∨
      frame t = { frame s with bypassOn := true, claimOut := false, txGate := false } := by
    show frame (if _ then s else _) = _ ∧ _ ∨ frame (if _ then s else _) = _
    split
    · rename_i h
      left
      refine ⟨rfl, ?_⟩
      rcases h with h | h <;> rw [h] <;> rfl
    · right
      simp
  have ha : aonOnly (unpowered t) = true := by
    unfold unpowered
    split <;> rfl
  have hb : unpowered t ≠ .active ∧ (bypassState (unpowered t) = true ∧ unpowered t ≠ .recovery) := by
    unfold unpowered
    split <;> simp [bypassState]
  generalize hd : unpowered t = d at ha hb
  have e : ∀ (x : Bool) (im : Sys2Proof.Machine.Image), frame { t with
      power := { t.power with
        vin := false, dev := d, rails := false, vioOut := false, vioLimit := false, bypassOn := true,
        thermReset := false, aonValid := x }
      image := im } = { frame t with vin := false, dev := d, rails := false, bypassOn := true } := fun _ _ => rfl
  rw [e]
  rcases ht with ⟨ht, hs⟩ | ht
  · rw [ht]
    refine ⟨rfl, rfl, rfl, rfl, fun h => ?_⟩
    obtain ⟨hc, hg⟩ := h.quiet hs
    exact ⟨by simp [hg], by simp [hc], fun _ => rfl, fun _ => ha, fun _ => hb.2, by simp⟩
  · rw [ht]
    exact ⟨rfl, rfl, rfl, rfl, fun h => ⟨by simp, by simp, fun _ => rfl, fun _ => ha, fun _ => hb.2, by simp⟩⟩

/-- Between OFF and DORMANT, with VIN absent. -/
theorem resting_sound {a : Frame} (h : SoundF a) (d : DevState) (hd : aonOnly a.dev = true) (ha : aonOnly d = true)
    (hb : bypassState d = true ∧ d ≠ .recovery) : SoundF { a with dev := d } := by
  obtain ⟨hc, hg⟩ := h.quiet hd
  refine ⟨by simp [hg], by simp [hc], fun _ => h.bypass ?_, fun _ => ha, fun _ => hb, fun hr => ?_⟩
  · cases k : a.dev <;> simp_all [bypassState, aonOnly]
  · have := (h.rails hr).2.2
    rw [hd] at this
    contradiction

theorem execVbatRise_supply (s : State) : ExecSupply (execVbatRise s) s := by
  unfold execVbatRise
  extract_lets p t u
  have ht : frame t = frame s := rfl
  have hu : frame u = frame s := powerAon_frame t
  split
  · rename_i h
    apply execSupply_done
    have e : frame { u with power := { u.power with dev := .dormant } } = { frame u with dev := .dormant } := rfl
    rw [e, hu]
    have hd : aonOnly (frame s).dev = true := by show aonOnly t.power.dev = true; rw [h.1]; rfl
    exact ⟨rfl, rfl, rfl, rfl, fun k => resting_sound k .dormant hd rfl (by simp [bypassState])⟩
  · exact execSupply_done (SupplyKeeps.of_eq ht)

theorem execVbatFall_supply (s : State) : ExecSupply (execVbatFall s) s := by
  unfold execVbatFall
  extract_lets p t
  have ht : frame t = frame s := rfl
  split
  · rename_i h
    apply execSupply_done
    have e : frame { t with power := { t.power with dev := .off, aonValid := false } } = { frame s with dev := .off } := rfl
    rw [e]
    have hd : aonOnly (frame s).dev = true := by show aonOnly t.power.dev = true; rw [h.1]; rfl
    exact ⟨rfl, rfl, rfl, rfl, fun k => resting_sound k .off hd rfl (by simp [bypassState])⟩
  · exact execSupply_done (SupplyKeeps.of_eq ht)

theorem execRstNLow_supply (w : Nat) (s : State) : ExecSupply (execRstNLow w s) s := by
  unfold execRstNLow
  extract_lets taken t u
  have ht : frame t = frame s := by
    show frame (if _ then drewFree s else s) = _
    split
    · exact drewFree_frame s
    · rfl
  split
  · apply execSupply_done
    have e : frame { u with power := { u.power with rstLow := true, bypassOn := true, thermReset := false } } =
        { frame u with rstLow := true, bypassOn := true } := rfl
    rw [e]
    have hu : (frame u = frame s ∧ aonOnly (frame s).dev = true) ∨
        (frame u = { frame s with dev := .boot, rails := false, bypassOn := true, claimOut := false, txGate := false } ∧
          aonOnly (frame s).dev = false) := by
      have hdev : t.power.dev = (frame s).dev := congrArg Frame.dev ht
      show (frame (if _ then t else _) = _ ∧ _) ∨ (frame (if _ then t else _) = _ ∧ _)
      rw [hdev]
      split
      · rename_i h
        left
        refine ⟨ht, ?_⟩
        rcases h with h | h <;> rw [h] <;> rfl
      · rename_i h
        right
        refine ⟨by rw [resetIslands_frame, ht], ?_⟩
        cases k : (frame s).dev <;> simp_all [aonOnly]
    rcases hu with ⟨hu, hd⟩ | ⟨hu, hd⟩
    · rw [hu]
      refine ⟨rfl, rfl, rfl, rfl, fun h => ?_⟩
      obtain ⟨hc, hg⟩ := h.quiet hd
      refine ⟨by simp [hg], by simp [hc], fun _ => rfl, h.supply, fun _ => ?_, fun hr => ?_⟩
      · cases k : (frame s).dev <;> simp_all [bypassState, aonOnly]
      · have := (h.rails hr).2.2
        rw [hd] at this
        contradiction
    · rw [hu]
      refine ⟨rfl, rfl, rfl, rfl, fun h => ⟨by simp, by simp, fun _ => rfl, fun hv => ?_, by simp [bypassState], by simp⟩⟩
      have := h.supply hv
      rw [hd] at this
      contradiction
  · exact execSupply_done (SupplyKeeps.of_eq ht)

theorem execRstNRise_supply (s : State) : ExecSupply (execRstNRise s) s := by
  unfold execRstNRise
  split
  · extract_lets p t from_
    have ht : frame t = { frame s with rstLow := false } := rfl
    have up : SoundF (frame s) → SoundF { frame s with rstLow := false } := fun h =>
      ⟨h.gate, h.role, h.bypass, h.supply, by simp, fun hr => ⟨(h.rails hr).1, rfl, (h.rails hr).2.2⟩⟩
    split
    · rename_i h
      apply execSupply_done
      have e : frame { t with power := { t.power with dev := .boot, startCause := 1, latchedState := from_ } } =
          { frame t with dev := .boot } := rfl
      rw [e, ht]
      have hv : (frame s).vin = true := h.1
      have hd : aonOnly (frame s).dev = true := by
        show aonOnly t.power.dev = true
        rcases h.2 with k | k <;> rw [k] <;> rfl
      refine ⟨rfl, rfl, rfl, rfl, fun k => ?_⟩
      have hb : (frame s).bypassOn = true := k.bypass (by cases q : (frame s).dev <;> simp_all [bypassState, aonOnly])
      have := boot_sound (up k) hd hb rfl
      rw [← hv] at this
      exact this
    · apply execSupply_done
      rw [ht]
      exact ⟨rfl, rfl, rfl, rfl, up⟩
  · exact execSupply_done (SupplyKeeps.of_eq rfl)

theorem execStartInstant_supply (s : State) : ExecSupply (execStartInstant s) s := by
  unfold execStartInstant
  split
  · rename_i h
    apply execSupply_done
    have e : ∀ (tm : DomainTime) (p : Bool) (l : BitVec 32), frame { s with
        power := { s.power with
          startAt := s.now, rails := true, vioOut := true, bypassOn := true, rolePref := p, clockLock := l }
        time := tm } = { frame s with rails := true, bypassOn := true } := fun _ _ _ => rfl
    rw [e]
    have hd : (frame s).dev = .boot := h.1
    have hv : (frame s).vin = true := h.2.1
    have hl : (frame s).rstLow = false := h.2.2.1
    exact ⟨rfl, rfl, rfl, rfl, fun k => ⟨k.gate, k.role, fun _ => rfl, k.supply, k.held, fun _ => ⟨hv, hl, by rw [hd]; rfl⟩⟩⟩
  · exact execSupply_done (SupplyKeeps.of_eq rfl)

/- The commands that put something on the air. -/

/-- The frame is the same but for the aerial log, to which something may have been added. -/
def AirOnly (s t : State) : Prop :=
  { frame t with airs := aerialLog s } = frame s ∧ ∃ added, aerialLog t = added ++ aerialLog s

/-- What a command that may transmit keeps: the frame but for the aerial log, which grows only where the chip may
transmit. -/
def ExecAir (o : Host.Outcome State Fault Refusal) (s : State) : Prop :=
  ∀ t, o = .next t → AirOnly s t ∧ (aerialLog t ≠ aerialLog s → onAirAllowed s)

theorem AirOnly.of_eq {s t : State} (h : frame t = frame s) : AirOnly s t :=
  ⟨by rw [h]; rfl, [], congrArg Frame.airs h⟩

/-- Something set out after steps that leave the frame but for the log. -/
theorem AirOnly.emit {s t : State} (h : AirOnly s t) (o : Out) : AirOnly s (emit t o) := by
  obtain ⟨hf, l, hl⟩ := h
  refine ⟨hf, (if aerial o then [o] else []) ++ l, ?_⟩
  have e : aerialLog (Sys2Proof.Machine.emit t o) = (if aerial o then [o] else []) ++ aerialLog t := by
    unfold aerialLog Sys2Proof.Machine.emit
    rw [List.filter_cons]
    split <;> rfl
  rw [e, hl, List.append_assoc]

/-- A step that leaves the frame, after steps that leave it but for the log. -/
theorem AirOnly.then_eq {s t u : State} (h : AirOnly s t) (k : frame u = frame t) : AirOnly s u := by
  obtain ⟨hf, l, hl⟩ := h
  refine ⟨by rw [k]; exact hf, l, ?_⟩
  rw [← hl]
  exact congrArg Frame.airs k

theorem Stays.execAir {o : Host.Outcome State Fault Refusal} {s : State} (h : Stays o s) : ExecAir o s := by
  intro t ht
  have e := h t ht
  have a : aerialLog t = aerialLog s := congrArg Frame.airs e
  exact ⟨AirOnly.of_eq e, fun k => absurd a k⟩

theorem execAir_done {s t : State} (h : AirOnly s t) (k : onAirAllowed s) : ExecAir (done t) s := by
  intro u hu
  cases hu
  exact ⟨h, fun _ => k⟩

theorem execAir_rfl (s : State) : ExecAir (done s) s := by
  intro u hu
  cases hu
  exact ⟨AirOnly.of_eq rfl, fun k => absurd rfl k⟩

theorem mayTransmit_onAir {s : State} (h : mayTransmit s = true) : onAirAllowed s := by
  unfold mayTransmit at h
  simp only [Bool.and_eq_true, decide_eq_true_eq] at h
  exact ⟨h.1.1.1.1, h.1.1.1.2⟩

theorem rampUp_air (s : State) (bs : Nat) (p : TxPlan) : AirOnly s (rampUp s bs p) := by
  unfold rampUp
  extract_lets a b c d
  have hd : frame d = frame s := by
    show frame (if _ then noteSending c bs p else c) = _
    split <;> simp [c, b, a]
  exact (AirOnly.of_eq hd).emit _

theorem execPaRampUp_air (bs : Nat) (s : State) : ExecAir (execPaRampUp bs s) s := by
  unfold execPaRampUp
  split
  · extract_lets from_
    split
    · rename_i h
      simp only [Bool.and_eq_true] at h
      exact execAir_done (rampUp_air s bs _) (mayTransmit_onAir h.2)
    · exact execAir_rfl s
  · exact execAir_rfl s

theorem sendPoll_air (s : State) (index h : Nat) (c : Cell) (r : RangeRun) : AirOnly s (sendPoll s index h c r) := by
  unfold sendPoll
  extract_lets b asn first sub a poll onTime t ie
  split
  · exact AirOnly.of_eq ((addOutcome_frame _ _ _ _ _).trans (dutyFailed_frame _ _ _))
  have ht : frame t = frame s := by simp [t]
  split
  · exact AirOnly.of_eq ht
  · extract_lets oct power a1 a2 v w
    refine AirOnly.then_eq (t := a2) (((AirOnly.of_eq ht).emit _).emit _) ?_
    rw [updRange_frame, addOutcome_frame, addDwell_frame, settleDuty_frame, useFc_frame, updNode_frame]

theorem execRangingCell_air (bs cell : Nat) (skipped : Bool) (tones : List ToneMeasure) (s : State) :
    ExecAir (execRangingCell bs cell skipped tones s) s := by
  unfold execRangingCell
  extract_lets c
  split
  · split
    · exact execAir_rfl s
    · rename_i hg
      have hm : mayTransmit s = true := by
        cases k : mayTransmit s
        · simp [k] at hg
        · rfl
      extract_lets t
      have ha := mayTransmit_onAir hm
      split
      · split
        · exact execAir_done (sendPoll_air _ _ _ _ _) ha
        · exact execAir_done ((sendPoll_air _ _ _ _ _).then_eq (updRange_frame _ _ _)) ha
      · exact execAir_done (sendPoll_air _ _ _ _ _) ha
  · exact execAir_rfl s

end Sys2Proof.Laws
end

