-- ==== Sys2Proof/Laws/State.lean ====
section
/-! SUPPORT. What the named updates of the state leave as it was: one lemma for each update and each field that it does not
write. -/

namespace Sys2Proof.Laws

open Sys2Proof.Machine

/- emit -/

@[simp] theorem emit_pending (s : State) (o : Out) : (emit s o).pending = s.pending := rfl
@[simp] theorem emit_now (s : State) (o : Out) : (emit s o).now = s.now := rfl
@[simp] theorem emit_freeCtr (s : State) (o : Out) : (emit s o).freeCtr = s.freeCtr := rfl
@[simp] theorem emit_trngCtr (s : State) (o : Out) : (emit s o).trngCtr = s.trngCtr := rfl
@[simp] theorem emit_vals (s : State) (o : Out) : (emit s o).vals = s.vals := rfl
@[simp] theorem emit_power (s : State) (o : Out) : (emit s o).power = s.power := rfl
@[simp] theorem emit_fifos (s : State) (o : Out) : (emit s o).fifos = s.fifos := rfl
@[simp] theorem emit_recorder (s : State) (o : Out) : (emit s o).recorder = s.recorder := rfl
@[simp] theorem emit_measure (s : State) (o : Out) : (emit s o).measure = s.measure := rfl
@[simp] theorem emit_ptrace (s : State) (o : Out) : (emit s o).ptrace = s.ptrace := rfl
@[simp] theorem emit_debug (s : State) (o : Out) : (emit s o).dbg = s.dbg := rfl
@[simp] theorem emit_rx (s : State) (o : Out) : (emit s o).rx = s.rx := rfl
@[simp] theorem emit_modem (s : State) (o : Out) : (emit s o).modem = s.modem := rfl
@[simp] theorem emit_front (s : State) (o : Out) : (emit s o).front = s.front := rfl
@[simp] theorem emit_time (s : State) (o : Out) : (emit s o).time = s.time := rfl
@[simp] theorem emit_sched (s : State) (o : Out) : (emit s o).sched = s.sched := rfl
@[simp] theorem emit_link (s : State) (o : Out) : (emit s o).link = s.link := rfl
@[simp] theorem emit_queues (s : State) (o : Out) : (emit s o).queues = s.queues := rfl
@[simp] theorem emit_fwd (s : State) (o : Out) : (emit s o).fwd = s.fwd := rfl
@[simp] theorem emit_cipher (s : State) (o : Out) : (emit s o).cipher = s.cipher := rfl
@[simp] theorem emit_keys (s : State) (o : Out) : (emit s o).keys = s.keys := rfl
@[simp] theorem emit_sett (s : State) (o : Out) : (emit s o).sett = s.sett := rfl
@[simp] theorem emit_twin (s : State) (o : Out) : (emit s o).twin = s.twin := rfl
@[simp] theorem emit_image (s : State) (o : Out) : (emit s o).image = s.image := rfl
@[simp] theorem emit_fleet (s : State) (o : Out) : (emit s o).fleet = s.fleet := rfl
@[simp] theorem emit_threads (s : State) (o : Out) : (emit s o).threads = s.threads := rfl
@[simp] theorem emit_sop (s : State) (o : Out) : (emit s o).sop = s.sop := rfl

/- drewFree -/

@[simp] theorem drewFree_pending (s : State) : (drewFree s).pending = s.pending := rfl
@[simp] theorem drewFree_now (s : State) : (drewFree s).now = s.now := rfl
@[simp] theorem drewFree_trngCtr (s : State) : (drewFree s).trngCtr = s.trngCtr := rfl
@[simp] theorem drewFree_out (s : State) : (drewFree s).out = s.out := rfl
@[simp] theorem drewFree_vals (s : State) : (drewFree s).vals = s.vals := rfl
@[simp] theorem drewFree_power (s : State) : (drewFree s).power = s.power := rfl
@[simp] theorem drewFree_fifos (s : State) : (drewFree s).fifos = s.fifos := rfl
@[simp] theorem drewFree_recorder (s : State) : (drewFree s).recorder = s.recorder := rfl
@[simp] theorem drewFree_measure (s : State) : (drewFree s).measure = s.measure := rfl
@[simp] theorem drewFree_ptrace (s : State) : (drewFree s).ptrace = s.ptrace := rfl
@[simp] theorem drewFree_debug (s : State) : (drewFree s).dbg = s.dbg := rfl
@[simp] theorem drewFree_rx (s : State) : (drewFree s).rx = s.rx := rfl
@[simp] theorem drewFree_modem (s : State) : (drewFree s).modem = s.modem := rfl
@[simp] theorem drewFree_front (s : State) : (drewFree s).front = s.front := rfl
@[simp] theorem drewFree_time (s : State) : (drewFree s).time = s.time := rfl
@[simp] theorem drewFree_sched (s : State) : (drewFree s).sched = s.sched := rfl
@[simp] theorem drewFree_link (s : State) : (drewFree s).link = s.link := rfl
@[simp] theorem drewFree_queues (s : State) : (drewFree s).queues = s.queues := rfl
@[simp] theorem drewFree_fwd (s : State) : (drewFree s).fwd = s.fwd := rfl
@[simp] theorem drewFree_cipher (s : State) : (drewFree s).cipher = s.cipher := rfl
@[simp] theorem drewFree_keys (s : State) : (drewFree s).keys = s.keys := rfl
@[simp] theorem drewFree_sett (s : State) : (drewFree s).sett = s.sett := rfl
@[simp] theorem drewFree_twin (s : State) : (drewFree s).twin = s.twin := rfl
@[simp] theorem drewFree_image (s : State) : (drewFree s).image = s.image := rfl
@[simp] theorem drewFree_fleet (s : State) : (drewFree s).fleet = s.fleet := rfl
@[simp] theorem drewFree_threads (s : State) : (drewFree s).threads = s.threads := rfl
@[simp] theorem drewFree_sop (s : State) : (drewFree s).sop = s.sop := rfl

/- drewTrng -/

@[simp] theorem drewTrng_pending (s : State) : (drewTrng s).pending = s.pending := rfl
@[simp] theorem drewTrng_now (s : State) : (drewTrng s).now = s.now := rfl
@[simp] theorem drewTrng_freeCtr (s : State) : (drewTrng s).freeCtr = s.freeCtr := rfl
@[simp] theorem drewTrng_out (s : State) : (drewTrng s).out = s.out := rfl
@[simp] theorem drewTrng_vals (s : State) : (drewTrng s).vals = s.vals := rfl
@[simp] theorem drewTrng_power (s : State) : (drewTrng s).power = s.power := rfl
@[simp] theorem drewTrng_fifos (s : State) : (drewTrng s).fifos = s.fifos := rfl
@[simp] theorem drewTrng_recorder (s : State) : (drewTrng s).recorder = s.recorder := rfl
@[simp] theorem drewTrng_measure (s : State) : (drewTrng s).measure = s.measure := rfl
@[simp] theorem drewTrng_ptrace (s : State) : (drewTrng s).ptrace = s.ptrace := rfl
@[simp] theorem drewTrng_debug (s : State) : (drewTrng s).dbg = s.dbg := rfl
@[simp] theorem drewTrng_rx (s : State) : (drewTrng s).rx = s.rx := rfl
@[simp] theorem drewTrng_modem (s : State) : (drewTrng s).modem = s.modem := rfl
@[simp] theorem drewTrng_front (s : State) : (drewTrng s).front = s.front := rfl
@[simp] theorem drewTrng_time (s : State) : (drewTrng s).time = s.time := rfl
@[simp] theorem drewTrng_sched (s : State) : (drewTrng s).sched = s.sched := rfl
@[simp] theorem drewTrng_link (s : State) : (drewTrng s).link = s.link := rfl
@[simp] theorem drewTrng_queues (s : State) : (drewTrng s).queues = s.queues := rfl
@[simp] theorem drewTrng_fwd (s : State) : (drewTrng s).fwd = s.fwd := rfl
@[simp] theorem drewTrng_cipher (s : State) : (drewTrng s).cipher = s.cipher := rfl
@[simp] theorem drewTrng_keys (s : State) : (drewTrng s).keys = s.keys := rfl
@[simp] theorem drewTrng_sett (s : State) : (drewTrng s).sett = s.sett := rfl
@[simp] theorem drewTrng_twin (s : State) : (drewTrng s).twin = s.twin := rfl
@[simp] theorem drewTrng_image (s : State) : (drewTrng s).image = s.image := rfl
@[simp] theorem drewTrng_fleet (s : State) : (drewTrng s).fleet = s.fleet := rfl
@[simp] theorem drewTrng_threads (s : State) : (drewTrng s).threads = s.threads := rfl
@[simp] theorem drewTrng_sop (s : State) : (drewTrng s).sop = s.sop := rfl

/- setObj -/

@[simp] theorem setObj_pending (s : State) (idx sub : Nat) (v : Octets) : (setObj s idx sub v).pending = s.pending := rfl
@[simp] theorem setObj_now (s : State) (idx sub : Nat) (v : Octets) : (setObj s idx sub v).now = s.now := rfl
@[simp] theorem setObj_freeCtr (s : State) (idx sub : Nat) (v : Octets) : (setObj s idx sub v).freeCtr = s.freeCtr := rfl
@[simp] theorem setObj_trngCtr (s : State) (idx sub : Nat) (v : Octets) : (setObj s idx sub v).trngCtr = s.trngCtr := rfl
@[simp] theorem setObj_out (s : State) (idx sub : Nat) (v : Octets) : (setObj s idx sub v).out = s.out := rfl
@[simp] theorem setObj_power (s : State) (idx sub : Nat) (v : Octets) : (setObj s idx sub v).power = s.power := rfl
@[simp] theorem setObj_fifos (s : State) (idx sub : Nat) (v : Octets) : (setObj s idx sub v).fifos = s.fifos := rfl
@[simp] theorem setObj_recorder (s : State) (idx sub : Nat) (v : Octets) : (setObj s idx sub v).recorder = s.recorder := rfl
@[simp] theorem setObj_measure (s : State) (idx sub : Nat) (v : Octets) : (setObj s idx sub v).measure = s.measure := rfl
@[simp] theorem setObj_ptrace (s : State) (idx sub : Nat) (v : Octets) : (setObj s idx sub v).ptrace = s.ptrace := rfl
@[simp] theorem setObj_debug (s : State) (idx sub : Nat) (v : Octets) : (setObj s idx sub v).dbg = s.dbg := rfl
@[simp] theorem setObj_rx (s : State) (idx sub : Nat) (v : Octets) : (setObj s idx sub v).rx = s.rx := rfl
@[simp] theorem setObj_modem (s : State) (idx sub : Nat) (v : Octets) : (setObj s idx sub v).modem = s.modem := rfl
@[simp] theorem setObj_front (s : State) (idx sub : Nat) (v : Octets) : (setObj s idx sub v).front = s.front := rfl
@[simp] theorem setObj_time (s : State) (idx sub : Nat) (v : Octets) : (setObj s idx sub v).time = s.time := rfl
@[simp] theorem setObj_sched (s : State) (idx sub : Nat) (v : Octets) : (setObj s idx sub v).sched = s.sched := rfl
@[simp] theorem setObj_link (s : State) (idx sub : Nat) (v : Octets) : (setObj s idx sub v).link = s.link := rfl
@[simp] theorem setObj_queues (s : State) (idx sub : Nat) (v : Octets) : (setObj s idx sub v).queues = s.queues := rfl
@[simp] theorem setObj_fwd (s : State) (idx sub : Nat) (v : Octets) : (setObj s idx sub v).fwd = s.fwd := rfl
@[simp] theorem setObj_cipher (s : State) (idx sub : Nat) (v : Octets) : (setObj s idx sub v).cipher = s.cipher := rfl
@[simp] theorem setObj_keys (s : State) (idx sub : Nat) (v : Octets) : (setObj s idx sub v).keys = s.keys := rfl
@[simp] theorem setObj_sett (s : State) (idx sub : Nat) (v : Octets) : (setObj s idx sub v).sett = s.sett := rfl
@[simp] theorem setObj_twin (s : State) (idx sub : Nat) (v : Octets) : (setObj s idx sub v).twin = s.twin := rfl
@[simp] theorem setObj_image (s : State) (idx sub : Nat) (v : Octets) : (setObj s idx sub v).image = s.image := rfl
@[simp] theorem setObj_fleet (s : State) (idx sub : Nat) (v : Octets) : (setObj s idx sub v).fleet = s.fleet := rfl
@[simp] theorem setObj_threads (s : State) (idx sub : Nat) (v : Octets) : (setObj s idx sub v).threads = s.threads := rfl
@[simp] theorem setObj_sop (s : State) (idx sub : Nat) (v : Octets) : (setObj s idx sub v).sop = s.sop := rfl

/- clearCounters -/

@[simp] theorem clearCounters_pending (s : State) (idx : Nat) : (clearCounters s idx).pending = s.pending := rfl
@[simp] theorem clearCounters_now (s : State) (idx : Nat) : (clearCounters s idx).now = s.now := rfl
@[simp] theorem clearCounters_freeCtr (s : State) (idx : Nat) : (clearCounters s idx).freeCtr = s.freeCtr := rfl
@[simp] theorem clearCounters_trngCtr (s : State) (idx : Nat) : (clearCounters s idx).trngCtr = s.trngCtr := rfl
@[simp] theorem clearCounters_out (s : State) (idx : Nat) : (clearCounters s idx).out = s.out := rfl
@[simp] theorem clearCounters_power (s : State) (idx : Nat) : (clearCounters s idx).power = s.power := rfl
@[simp] theorem clearCounters_fifos (s : State) (idx : Nat) : (clearCounters s idx).fifos = s.fifos := rfl
@[simp] theorem clearCounters_recorder (s : State) (idx : Nat) : (clearCounters s idx).recorder = s.recorder := rfl
@[simp] theorem clearCounters_measure (s : State) (idx : Nat) : (clearCounters s idx).measure = s.measure := rfl
@[simp] theorem clearCounters_ptrace (s : State) (idx : Nat) : (clearCounters s idx).ptrace = s.ptrace := rfl
@[simp] theorem clearCounters_debug (s : State) (idx : Nat) : (clearCounters s idx).dbg = s.dbg := rfl
@[simp] theorem clearCounters_rx (s : State) (idx : Nat) : (clearCounters s idx).rx = s.rx := rfl
@[simp] theorem clearCounters_modem (s : State) (idx : Nat) : (clearCounters s idx).modem = s.modem := rfl
@[simp] theorem clearCounters_front (s : State) (idx : Nat) : (clearCounters s idx).front = s.front := rfl
@[simp] theorem clearCounters_time (s : State) (idx : Nat) : (clearCounters s idx).time = s.time := rfl
@[simp] theorem clearCounters_sched (s : State) (idx : Nat) : (clearCounters s idx).sched = s.sched := rfl
@[simp] theorem clearCounters_link (s : State) (idx : Nat) : (clearCounters s idx).link = s.link := rfl
@[simp] theorem clearCounters_queues (s : State) (idx : Nat) : (clearCounters s idx).queues = s.queues := rfl
@[simp] theorem clearCounters_fwd (s : State) (idx : Nat) : (clearCounters s idx).fwd = s.fwd := rfl
@[simp] theorem clearCounters_cipher (s : State) (idx : Nat) : (clearCounters s idx).cipher = s.cipher := rfl
@[simp] theorem clearCounters_keys (s : State) (idx : Nat) : (clearCounters s idx).keys = s.keys := rfl
@[simp] theorem clearCounters_sett (s : State) (idx : Nat) : (clearCounters s idx).sett = s.sett := rfl
@[simp] theorem clearCounters_twin (s : State) (idx : Nat) : (clearCounters s idx).twin = s.twin := rfl
@[simp] theorem clearCounters_image (s : State) (idx : Nat) : (clearCounters s idx).image = s.image := rfl
@[simp] theorem clearCounters_fleet (s : State) (idx : Nat) : (clearCounters s idx).fleet = s.fleet := rfl
@[simp] theorem clearCounters_threads (s : State) (idx : Nat) : (clearCounters s idx).threads = s.threads := rfl
@[simp] theorem clearCounters_sop (s : State) (idx : Nat) : (clearCounters s idx).sop = s.sop := rfl

/- countBy -/

@[simp] theorem countBy_pending (s : State) (idx sub word n : Nat) : (countBy s idx sub word n).pending = s.pending := rfl
@[simp] theorem countBy_now (s : State) (idx sub word n : Nat) : (countBy s idx sub word n).now = s.now := rfl
@[simp] theorem countBy_freeCtr (s : State) (idx sub word n : Nat) : (countBy s idx sub word n).freeCtr = s.freeCtr := rfl
@[simp] theorem countBy_trngCtr (s : State) (idx sub word n : Nat) : (countBy s idx sub word n).trngCtr = s.trngCtr := rfl
@[simp] theorem countBy_out (s : State) (idx sub word n : Nat) : (countBy s idx sub word n).out = s.out := rfl
@[simp] theorem countBy_power (s : State) (idx sub word n : Nat) : (countBy s idx sub word n).power = s.power := rfl
@[simp] theorem countBy_fifos (s : State) (idx sub word n : Nat) : (countBy s idx sub word n).fifos = s.fifos := rfl
@[simp] theorem countBy_recorder (s : State) (idx sub word n : Nat) : (countBy s idx sub word n).recorder = s.recorder := rfl
@[simp] theorem countBy_measure (s : State) (idx sub word n : Nat) : (countBy s idx sub word n).measure = s.measure := rfl
@[simp] theorem countBy_ptrace (s : State) (idx sub word n : Nat) : (countBy s idx sub word n).ptrace = s.ptrace := rfl
@[simp] theorem countBy_debug (s : State) (idx sub word n : Nat) : (countBy s idx sub word n).dbg = s.dbg := rfl
@[simp] theorem countBy_rx (s : State) (idx sub word n : Nat) : (countBy s idx sub word n).rx = s.rx := rfl
@[simp] theorem countBy_modem (s : State) (idx sub word n : Nat) : (countBy s idx sub word n).modem = s.modem := rfl
@[simp] theorem countBy_front (s : State) (idx sub word n : Nat) : (countBy s idx sub word n).front = s.front := rfl
@[simp] theorem countBy_time (s : State) (idx sub word n : Nat) : (countBy s idx sub word n).time = s.time := rfl
@[simp] theorem countBy_sched (s : State) (idx sub word n : Nat) : (countBy s idx sub word n).sched = s.sched := rfl
@[simp] theorem countBy_link (s : State) (idx sub word n : Nat) : (countBy s idx sub word n).link = s.link := rfl
@[simp] theorem countBy_queues (s : State) (idx sub word n : Nat) : (countBy s idx sub word n).queues = s.queues := rfl
@[simp] theorem countBy_fwd (s : State) (idx sub word n : Nat) : (countBy s idx sub word n).fwd = s.fwd := rfl
@[simp] theorem countBy_cipher (s : State) (idx sub word n : Nat) : (countBy s idx sub word n).cipher = s.cipher := rfl
@[simp] theorem countBy_keys (s : State) (idx sub word n : Nat) : (countBy s idx sub word n).keys = s.keys := rfl
@[simp] theorem countBy_sett (s : State) (idx sub word n : Nat) : (countBy s idx sub word n).sett = s.sett := rfl
@[simp] theorem countBy_twin (s : State) (idx sub word n : Nat) : (countBy s idx sub word n).twin = s.twin := rfl
@[simp] theorem countBy_image (s : State) (idx sub word n : Nat) : (countBy s idx sub word n).image = s.image := rfl
@[simp] theorem countBy_fleet (s : State) (idx sub word n : Nat) : (countBy s idx sub word n).fleet = s.fleet := rfl
@[simp] theorem countBy_threads (s : State) (idx sub word n : Nat) : (countBy s idx sub word n).threads = s.threads := rfl
@[simp] theorem countBy_sop (s : State) (idx sub word n : Nat) : (countBy s idx sub word n).sop = s.sop := rfl

/- count -/

@[simp] theorem count_pending (s : State) (idx sub word : Nat) : (count s idx sub word).pending = s.pending := rfl
@[simp] theorem count_now (s : State) (idx sub word : Nat) : (count s idx sub word).now = s.now := rfl
@[simp] theorem count_freeCtr (s : State) (idx sub word : Nat) : (count s idx sub word).freeCtr = s.freeCtr := rfl
@[simp] theorem count_trngCtr (s : State) (idx sub word : Nat) : (count s idx sub word).trngCtr = s.trngCtr := rfl
@[simp] theorem count_out (s : State) (idx sub word : Nat) : (count s idx sub word).out = s.out := rfl
@[simp] theorem count_power (s : State) (idx sub word : Nat) : (count s idx sub word).power = s.power := rfl
@[simp] theorem count_fifos (s : State) (idx sub word : Nat) : (count s idx sub word).fifos = s.fifos := rfl
@[simp] theorem count_recorder (s : State) (idx sub word : Nat) : (count s idx sub word).recorder = s.recorder := rfl
@[simp] theorem count_measure (s : State) (idx sub word : Nat) : (count s idx sub word).measure = s.measure := rfl
@[simp] theorem count_ptrace (s : State) (idx sub word : Nat) : (count s idx sub word).ptrace = s.ptrace := rfl
@[simp] theorem count_debug (s : State) (idx sub word : Nat) : (count s idx sub word).dbg = s.dbg := rfl
@[simp] theorem count_rx (s : State) (idx sub word : Nat) : (count s idx sub word).rx = s.rx := rfl
@[simp] theorem count_modem (s : State) (idx sub word : Nat) : (count s idx sub word).modem = s.modem := rfl
@[simp] theorem count_front (s : State) (idx sub word : Nat) : (count s idx sub word).front = s.front := rfl
@[simp] theorem count_time (s : State) (idx sub word : Nat) : (count s idx sub word).time = s.time := rfl
@[simp] theorem count_sched (s : State) (idx sub word : Nat) : (count s idx sub word).sched = s.sched := rfl
@[simp] theorem count_link (s : State) (idx sub word : Nat) : (count s idx sub word).link = s.link := rfl
@[simp] theorem count_queues (s : State) (idx sub word : Nat) : (count s idx sub word).queues = s.queues := rfl
@[simp] theorem count_fwd (s : State) (idx sub word : Nat) : (count s idx sub word).fwd = s.fwd := rfl
@[simp] theorem count_cipher (s : State) (idx sub word : Nat) : (count s idx sub word).cipher = s.cipher := rfl
@[simp] theorem count_keys (s : State) (idx sub word : Nat) : (count s idx sub word).keys = s.keys := rfl
@[simp] theorem count_sett (s : State) (idx sub word : Nat) : (count s idx sub word).sett = s.sett := rfl
@[simp] theorem count_twin (s : State) (idx sub word : Nat) : (count s idx sub word).twin = s.twin := rfl
@[simp] theorem count_image (s : State) (idx sub word : Nat) : (count s idx sub word).image = s.image := rfl
@[simp] theorem count_fleet (s : State) (idx sub word : Nat) : (count s idx sub word).fleet = s.fleet := rfl
@[simp] theorem count_threads (s : State) (idx sub word : Nat) : (count s idx sub word).threads = s.threads := rfl
@[simp] theorem count_sop (s : State) (idx sub word : Nat) : (count s idx sub word).sop = s.sop := rfl

/- setViews -/

@[simp] theorem setViews_pending (s : State) (who : Caller) (v : Views) : (setViews s who v).pending = s.pending := by cases who <;> rfl
@[simp] theorem setViews_now (s : State) (who : Caller) (v : Views) : (setViews s who v).now = s.now := by cases who <;> rfl
@[simp] theorem setViews_freeCtr (s : State) (who : Caller) (v : Views) : (setViews s who v).freeCtr = s.freeCtr := by cases who <;> rfl
@[simp] theorem setViews_trngCtr (s : State) (who : Caller) (v : Views) : (setViews s who v).trngCtr = s.trngCtr := by cases who <;> rfl
@[simp] theorem setViews_out (s : State) (who : Caller) (v : Views) : (setViews s who v).out = s.out := by cases who <;> rfl
@[simp] theorem setViews_vals (s : State) (who : Caller) (v : Views) : (setViews s who v).vals = s.vals := by cases who <;> rfl
@[simp] theorem setViews_power (s : State) (who : Caller) (v : Views) : (setViews s who v).power = s.power := by cases who <;> rfl
@[simp] theorem setViews_fifos (s : State) (who : Caller) (v : Views) : (setViews s who v).fifos = s.fifos := by cases who <;> rfl
@[simp] theorem setViews_recorder (s : State) (who : Caller) (v : Views) : (setViews s who v).recorder = s.recorder := by cases who <;> rfl
@[simp] theorem setViews_measure (s : State) (who : Caller) (v : Views) : (setViews s who v).measure = s.measure := by cases who <;> rfl
@[simp] theorem setViews_ptrace (s : State) (who : Caller) (v : Views) : (setViews s who v).ptrace = s.ptrace := by cases who <;> rfl
@[simp] theorem setViews_debug (s : State) (who : Caller) (v : Views) : (setViews s who v).dbg = s.dbg := by cases who <;> rfl
@[simp] theorem setViews_rx (s : State) (who : Caller) (v : Views) : (setViews s who v).rx = s.rx := by cases who <;> rfl
@[simp] theorem setViews_modem (s : State) (who : Caller) (v : Views) : (setViews s who v).modem = s.modem := by cases who <;> rfl
@[simp] theorem setViews_front (s : State) (who : Caller) (v : Views) : (setViews s who v).front = s.front := by cases who <;> rfl
@[simp] theorem setViews_time (s : State) (who : Caller) (v : Views) : (setViews s who v).time = s.time := by cases who <;> rfl
@[simp] theorem setViews_sched (s : State) (who : Caller) (v : Views) : (setViews s who v).sched = s.sched := by cases who <;> rfl
@[simp] theorem setViews_link (s : State) (who : Caller) (v : Views) : (setViews s who v).link = s.link := by cases who <;> rfl
@[simp] theorem setViews_queues (s : State) (who : Caller) (v : Views) : (setViews s who v).queues = s.queues := by cases who <;> rfl
@[simp] theorem setViews_fwd (s : State) (who : Caller) (v : Views) : (setViews s who v).fwd = s.fwd := by cases who <;> rfl
@[simp] theorem setViews_cipher (s : State) (who : Caller) (v : Views) : (setViews s who v).cipher = s.cipher := by cases who <;> rfl
@[simp] theorem setViews_keys (s : State) (who : Caller) (v : Views) : (setViews s who v).keys = s.keys := by cases who <;> rfl
@[simp] theorem setViews_sett (s : State) (who : Caller) (v : Views) : (setViews s who v).sett = s.sett := by cases who <;> rfl
@[simp] theorem setViews_twin (s : State) (who : Caller) (v : Views) : (setViews s who v).twin = s.twin := by cases who <;> rfl
@[simp] theorem setViews_image (s : State) (who : Caller) (v : Views) : (setViews s who v).image = s.image := by cases who <;> rfl
@[simp] theorem setViews_fleet (s : State) (who : Caller) (v : Views) : (setViews s who v).fleet = s.fleet := by cases who <;> rfl

/- setStatus -/

@[simp] theorem setStatus_pending (s : State) (who : Caller) (st : Nat) : (setStatus s who st).pending = s.pending := by cases who <;> rfl
@[simp] theorem setStatus_now (s : State) (who : Caller) (st : Nat) : (setStatus s who st).now = s.now := by cases who <;> rfl
@[simp] theorem setStatus_freeCtr (s : State) (who : Caller) (st : Nat) : (setStatus s who st).freeCtr = s.freeCtr := by cases who <;> rfl
@[simp] theorem setStatus_trngCtr (s : State) (who : Caller) (st : Nat) : (setStatus s who st).trngCtr = s.trngCtr := by cases who <;> rfl
@[simp] theorem setStatus_out (s : State) (who : Caller) (st : Nat) : (setStatus s who st).out = s.out := by cases who <;> rfl
@[simp] theorem setStatus_vals (s : State) (who : Caller) (st : Nat) : (setStatus s who st).vals = s.vals := by cases who <;> rfl
@[simp] theorem setStatus_power (s : State) (who : Caller) (st : Nat) : (setStatus s who st).power = s.power := by cases who <;> rfl
@[simp] theorem setStatus_fifos (s : State) (who : Caller) (st : Nat) : (setStatus s who st).fifos = s.fifos := by cases who <;> rfl
@[simp] theorem setStatus_recorder (s : State) (who : Caller) (st : Nat) : (setStatus s who st).recorder = s.recorder := by cases who <;> rfl
@[simp] theorem setStatus_measure (s : State) (who : Caller) (st : Nat) : (setStatus s who st).measure = s.measure := by cases who <;> rfl
@[simp] theorem setStatus_ptrace (s : State) (who : Caller) (st : Nat) : (setStatus s who st).ptrace = s.ptrace := by cases who <;> rfl
@[simp] theorem setStatus_debug (s : State) (who : Caller) (st : Nat) : (setStatus s who st).dbg = s.dbg := by cases who <;> rfl
@[simp] theorem setStatus_rx (s : State) (who : Caller) (st : Nat) : (setStatus s who st).rx = s.rx := by cases who <;> rfl
@[simp] theorem setStatus_modem (s : State) (who : Caller) (st : Nat) : (setStatus s who st).modem = s.modem := by cases who <;> rfl
@[simp] theorem setStatus_front (s : State) (who : Caller) (st : Nat) : (setStatus s who st).front = s.front := by cases who <;> rfl
@[simp] theorem setStatus_time (s : State) (who : Caller) (st : Nat) : (setStatus s who st).time = s.time := by cases who <;> rfl
@[simp] theorem setStatus_sched (s : State) (who : Caller) (st : Nat) : (setStatus s who st).sched = s.sched := by cases who <;> rfl
@[simp] theorem setStatus_link (s : State) (who : Caller) (st : Nat) : (setStatus s who st).link = s.link := by cases who <;> rfl
@[simp] theorem setStatus_queues (s : State) (who : Caller) (st : Nat) : (setStatus s who st).queues = s.queues := by cases who <;> rfl
@[simp] theorem setStatus_fwd (s : State) (who : Caller) (st : Nat) : (setStatus s who st).fwd = s.fwd := by cases who <;> rfl
@[simp] theorem setStatus_cipher (s : State) (who : Caller) (st : Nat) : (setStatus s who st).cipher = s.cipher := by cases who <;> rfl
@[simp] theorem setStatus_keys (s : State) (who : Caller) (st : Nat) : (setStatus s who st).keys = s.keys := by cases who <;> rfl
@[simp] theorem setStatus_sett (s : State) (who : Caller) (st : Nat) : (setStatus s who st).sett = s.sett := by cases who <;> rfl
@[simp] theorem setStatus_twin (s : State) (who : Caller) (st : Nat) : (setStatus s who st).twin = s.twin := by cases who <;> rfl
@[simp] theorem setStatus_image (s : State) (who : Caller) (st : Nat) : (setStatus s who st).image = s.image := by cases who <;> rfl
@[simp] theorem setStatus_fleet (s : State) (who : Caller) (st : Nat) : (setStatus s who st).fleet = s.fleet := by cases who <;> rfl

/- updChain -/

@[simp] theorem updChain_pending (s : State) (bs : Nat) (f : TxChain → TxChain) : (updChain s bs f).pending = s.pending := rfl
@[simp] theorem updChain_now (s : State) (bs : Nat) (f : TxChain → TxChain) : (updChain s bs f).now = s.now := rfl
@[simp] theorem updChain_freeCtr (s : State) (bs : Nat) (f : TxChain → TxChain) : (updChain s bs f).freeCtr = s.freeCtr := rfl
@[simp] theorem updChain_trngCtr (s : State) (bs : Nat) (f : TxChain → TxChain) : (updChain s bs f).trngCtr = s.trngCtr := rfl
@[simp] theorem updChain_out (s : State) (bs : Nat) (f : TxChain → TxChain) : (updChain s bs f).out = s.out := rfl
@[simp] theorem updChain_vals (s : State) (bs : Nat) (f : TxChain → TxChain) : (updChain s bs f).vals = s.vals := rfl
@[simp] theorem updChain_power (s : State) (bs : Nat) (f : TxChain → TxChain) : (updChain s bs f).power = s.power := rfl
@[simp] theorem updChain_fifos (s : State) (bs : Nat) (f : TxChain → TxChain) : (updChain s bs f).fifos = s.fifos := rfl
@[simp] theorem updChain_recorder (s : State) (bs : Nat) (f : TxChain → TxChain) : (updChain s bs f).recorder = s.recorder := rfl
@[simp] theorem updChain_measure (s : State) (bs : Nat) (f : TxChain → TxChain) : (updChain s bs f).measure = s.measure := rfl
@[simp] theorem updChain_ptrace (s : State) (bs : Nat) (f : TxChain → TxChain) : (updChain s bs f).ptrace = s.ptrace := rfl
@[simp] theorem updChain_debug (s : State) (bs : Nat) (f : TxChain → TxChain) : (updChain s bs f).dbg = s.dbg := rfl
@[simp] theorem updChain_rx (s : State) (bs : Nat) (f : TxChain → TxChain) : (updChain s bs f).rx = s.rx := rfl
@[simp] theorem updChain_modem (s : State) (bs : Nat) (f : TxChain → TxChain) : (updChain s bs f).modem = s.modem := rfl
@[simp] theorem updChain_time (s : State) (bs : Nat) (f : TxChain → TxChain) : (updChain s bs f).time = s.time := rfl
@[simp] theorem updChain_sched (s : State) (bs : Nat) (f : TxChain → TxChain) : (updChain s bs f).sched = s.sched := rfl
@[simp] theorem updChain_link (s : State) (bs : Nat) (f : TxChain → TxChain) : (updChain s bs f).link = s.link := rfl
@[simp] theorem updChain_queues (s : State) (bs : Nat) (f : TxChain → TxChain) : (updChain s bs f).queues = s.queues := rfl
@[simp] theorem updChain_fwd (s : State) (bs : Nat) (f : TxChain → TxChain) : (updChain s bs f).fwd = s.fwd := rfl
@[simp] theorem updChain_cipher (s : State) (bs : Nat) (f : TxChain → TxChain) : (updChain s bs f).cipher = s.cipher := rfl
@[simp] theorem updChain_keys (s : State) (bs : Nat) (f : TxChain → TxChain) : (updChain s bs f).keys = s.keys := rfl
@[simp] theorem updChain_sett (s : State) (bs : Nat) (f : TxChain → TxChain) : (updChain s bs f).sett = s.sett := rfl
@[simp] theorem updChain_twin (s : State) (bs : Nat) (f : TxChain → TxChain) : (updChain s bs f).twin = s.twin := rfl
@[simp] theorem updChain_image (s : State) (bs : Nat) (f : TxChain → TxChain) : (updChain s bs f).image = s.image := rfl
@[simp] theorem updChain_fleet (s : State) (bs : Nat) (f : TxChain → TxChain) : (updChain s bs f).fleet = s.fleet := rfl
@[simp] theorem updChain_threads (s : State) (bs : Nat) (f : TxChain → TxChain) : (updChain s bs f).threads = s.threads := rfl
@[simp] theorem updChain_sop (s : State) (bs : Nat) (f : TxChain → TxChain) : (updChain s bs f).sop = s.sop := rfl

/- updPortState -/

@[simp] theorem updPortState_pending (s : State) (p : Nat) (f : Port → Port) : (updPortState s p f).pending = s.pending := rfl
@[simp] theorem updPortState_now (s : State) (p : Nat) (f : Port → Port) : (updPortState s p f).now = s.now := rfl
@[simp] theorem updPortState_freeCtr (s : State) (p : Nat) (f : Port → Port) : (updPortState s p f).freeCtr = s.freeCtr := rfl
@[simp] theorem updPortState_trngCtr (s : State) (p : Nat) (f : Port → Port) : (updPortState s p f).trngCtr = s.trngCtr := rfl
@[simp] theorem updPortState_out (s : State) (p : Nat) (f : Port → Port) : (updPortState s p f).out = s.out := rfl
@[simp] theorem updPortState_vals (s : State) (p : Nat) (f : Port → Port) : (updPortState s p f).vals = s.vals := rfl
@[simp] theorem updPortState_power (s : State) (p : Nat) (f : Port → Port) : (updPortState s p f).power = s.power := rfl
@[simp] theorem updPortState_fifos (s : State) (p : Nat) (f : Port → Port) : (updPortState s p f).fifos = s.fifos := rfl
@[simp] theorem updPortState_recorder (s : State) (p : Nat) (f : Port → Port) : (updPortState s p f).recorder = s.recorder := rfl
@[simp] theorem updPortState_measure (s : State) (p : Nat) (f : Port → Port) : (updPortState s p f).measure = s.measure := rfl
@[simp] theorem updPortState_ptrace (s : State) (p : Nat) (f : Port → Port) : (updPortState s p f).ptrace = s.ptrace := rfl
@[simp] theorem updPortState_debug (s : State) (p : Nat) (f : Port → Port) : (updPortState s p f).dbg = s.dbg := rfl
@[simp] theorem updPortState_rx (s : State) (p : Nat) (f : Port → Port) : (updPortState s p f).rx = s.rx := rfl
@[simp] theorem updPortState_modem (s : State) (p : Nat) (f : Port → Port) : (updPortState s p f).modem = s.modem := rfl
@[simp] theorem updPortState_time (s : State) (p : Nat) (f : Port → Port) : (updPortState s p f).time = s.time := rfl
@[simp] theorem updPortState_sched (s : State) (p : Nat) (f : Port → Port) : (updPortState s p f).sched = s.sched := rfl
@[simp] theorem updPortState_link (s : State) (p : Nat) (f : Port → Port) : (updPortState s p f).link = s.link := rfl
@[simp] theorem updPortState_queues (s : State) (p : Nat) (f : Port → Port) : (updPortState s p f).queues = s.queues := rfl
@[simp] theorem updPortState_fwd (s : State) (p : Nat) (f : Port → Port) : (updPortState s p f).fwd = s.fwd := rfl
@[simp] theorem updPortState_cipher (s : State) (p : Nat) (f : Port → Port) : (updPortState s p f).cipher = s.cipher := rfl
@[simp] theorem updPortState_keys (s : State) (p : Nat) (f : Port → Port) : (updPortState s p f).keys = s.keys := rfl
@[simp] theorem updPortState_sett (s : State) (p : Nat) (f : Port → Port) : (updPortState s p f).sett = s.sett := rfl
@[simp] theorem updPortState_twin (s : State) (p : Nat) (f : Port → Port) : (updPortState s p f).twin = s.twin := rfl
@[simp] theorem updPortState_image (s : State) (p : Nat) (f : Port → Port) : (updPortState s p f).image = s.image := rfl
@[simp] theorem updPortState_fleet (s : State) (p : Nat) (f : Port → Port) : (updPortState s p f).fleet = s.fleet := rfl
@[simp] theorem updPortState_threads (s : State) (p : Nat) (f : Port → Port) : (updPortState s p f).threads = s.threads := rfl
@[simp] theorem updPortState_sop (s : State) (p : Nat) (f : Port → Port) : (updPortState s p f).sop = s.sop := rfl

/- updDuty -/

@[simp] theorem updDuty_pending (s : State) (a : Nat) (f : DutyAccount → DutyAccount) : (updDuty s a f).pending = s.pending := rfl
@[simp] theorem updDuty_now (s : State) (a : Nat) (f : DutyAccount → DutyAccount) : (updDuty s a f).now = s.now := rfl
@[simp] theorem updDuty_freeCtr (s : State) (a : Nat) (f : DutyAccount → DutyAccount) : (updDuty s a f).freeCtr = s.freeCtr := rfl
@[simp] theorem updDuty_trngCtr (s : State) (a : Nat) (f : DutyAccount → DutyAccount) : (updDuty s a f).trngCtr = s.trngCtr := rfl
@[simp] theorem updDuty_out (s : State) (a : Nat) (f : DutyAccount → DutyAccount) : (updDuty s a f).out = s.out := rfl
@[simp] theorem updDuty_vals (s : State) (a : Nat) (f : DutyAccount → DutyAccount) : (updDuty s a f).vals = s.vals := rfl
@[simp] theorem updDuty_power (s : State) (a : Nat) (f : DutyAccount → DutyAccount) : (updDuty s a f).power = s.power := rfl
@[simp] theorem updDuty_fifos (s : State) (a : Nat) (f : DutyAccount → DutyAccount) : (updDuty s a f).fifos = s.fifos := rfl
@[simp] theorem updDuty_recorder (s : State) (a : Nat) (f : DutyAccount → DutyAccount) : (updDuty s a f).recorder = s.recorder := rfl
@[simp] theorem updDuty_measure (s : State) (a : Nat) (f : DutyAccount → DutyAccount) : (updDuty s a f).measure = s.measure := rfl
@[simp] theorem updDuty_ptrace (s : State) (a : Nat) (f : DutyAccount → DutyAccount) : (updDuty s a f).ptrace = s.ptrace := rfl
@[simp] theorem updDuty_debug (s : State) (a : Nat) (f : DutyAccount → DutyAccount) : (updDuty s a f).dbg = s.dbg := rfl
@[simp] theorem updDuty_rx (s : State) (a : Nat) (f : DutyAccount → DutyAccount) : (updDuty s a f).rx = s.rx := rfl
@[simp] theorem updDuty_modem (s : State) (a : Nat) (f : DutyAccount → DutyAccount) : (updDuty s a f).modem = s.modem := rfl
@[simp] theorem updDuty_time (s : State) (a : Nat) (f : DutyAccount → DutyAccount) : (updDuty s a f).time = s.time := rfl
@[simp] theorem updDuty_sched (s : State) (a : Nat) (f : DutyAccount → DutyAccount) : (updDuty s a f).sched = s.sched := rfl
@[simp] theorem updDuty_link (s : State) (a : Nat) (f : DutyAccount → DutyAccount) : (updDuty s a f).link = s.link := rfl
@[simp] theorem updDuty_queues (s : State) (a : Nat) (f : DutyAccount → DutyAccount) : (updDuty s a f).queues = s.queues := rfl
@[simp] theorem updDuty_fwd (s : State) (a : Nat) (f : DutyAccount → DutyAccount) : (updDuty s a f).fwd = s.fwd := rfl
@[simp] theorem updDuty_cipher (s : State) (a : Nat) (f : DutyAccount → DutyAccount) : (updDuty s a f).cipher = s.cipher := rfl
@[simp] theorem updDuty_keys (s : State) (a : Nat) (f : DutyAccount → DutyAccount) : (updDuty s a f).keys = s.keys := rfl
@[simp] theorem updDuty_sett (s : State) (a : Nat) (f : DutyAccount → DutyAccount) : (updDuty s a f).sett = s.sett := rfl
@[simp] theorem updDuty_twin (s : State) (a : Nat) (f : DutyAccount → DutyAccount) : (updDuty s a f).twin = s.twin := rfl
@[simp] theorem updDuty_image (s : State) (a : Nat) (f : DutyAccount → DutyAccount) : (updDuty s a f).image = s.image := rfl
@[simp] theorem updDuty_fleet (s : State) (a : Nat) (f : DutyAccount → DutyAccount) : (updDuty s a f).fleet = s.fleet := rfl
@[simp] theorem updDuty_threads (s : State) (a : Nat) (f : DutyAccount → DutyAccount) : (updDuty s a f).threads = s.threads := rfl
@[simp] theorem updDuty_sop (s : State) (a : Nat) (f : DutyAccount → DutyAccount) : (updDuty s a f).sop = s.sop := rfl

/- updPacket -/

@[simp] theorem updPacket_pending (s : State) (p : Nat) (f : QPacket → QPacket) : (updPacket s p f).pending = s.pending := rfl
@[simp] theorem updPacket_now (s : State) (p : Nat) (f : QPacket → QPacket) : (updPacket s p f).now = s.now := rfl
@[simp] theorem updPacket_freeCtr (s : State) (p : Nat) (f : QPacket → QPacket) : (updPacket s p f).freeCtr = s.freeCtr := rfl
@[simp] theorem updPacket_trngCtr (s : State) (p : Nat) (f : QPacket → QPacket) : (updPacket s p f).trngCtr = s.trngCtr := rfl
@[simp] theorem updPacket_out (s : State) (p : Nat) (f : QPacket → QPacket) : (updPacket s p f).out = s.out := rfl
@[simp] theorem updPacket_vals (s : State) (p : Nat) (f : QPacket → QPacket) : (updPacket s p f).vals = s.vals := rfl
@[simp] theorem updPacket_power (s : State) (p : Nat) (f : QPacket → QPacket) : (updPacket s p f).power = s.power := rfl
@[simp] theorem updPacket_fifos (s : State) (p : Nat) (f : QPacket → QPacket) : (updPacket s p f).fifos = s.fifos := rfl
@[simp] theorem updPacket_recorder (s : State) (p : Nat) (f : QPacket → QPacket) : (updPacket s p f).recorder = s.recorder := rfl
@[simp] theorem updPacket_measure (s : State) (p : Nat) (f : QPacket → QPacket) : (updPacket s p f).measure = s.measure := rfl
@[simp] theorem updPacket_ptrace (s : State) (p : Nat) (f : QPacket → QPacket) : (updPacket s p f).ptrace = s.ptrace := rfl
@[simp] theorem updPacket_debug (s : State) (p : Nat) (f : QPacket → QPacket) : (updPacket s p f).dbg = s.dbg := rfl
@[simp] theorem updPacket_rx (s : State) (p : Nat) (f : QPacket → QPacket) : (updPacket s p f).rx = s.rx := rfl
@[simp] theorem updPacket_modem (s : State) (p : Nat) (f : QPacket → QPacket) : (updPacket s p f).modem = s.modem := rfl
@[simp] theorem updPacket_front (s : State) (p : Nat) (f : QPacket → QPacket) : (updPacket s p f).front = s.front := rfl
@[simp] theorem updPacket_time (s : State) (p : Nat) (f : QPacket → QPacket) : (updPacket s p f).time = s.time := rfl
@[simp] theorem updPacket_sched (s : State) (p : Nat) (f : QPacket → QPacket) : (updPacket s p f).sched = s.sched := rfl
@[simp] theorem updPacket_link (s : State) (p : Nat) (f : QPacket → QPacket) : (updPacket s p f).link = s.link := rfl
@[simp] theorem updPacket_fwd (s : State) (p : Nat) (f : QPacket → QPacket) : (updPacket s p f).fwd = s.fwd := rfl
@[simp] theorem updPacket_cipher (s : State) (p : Nat) (f : QPacket → QPacket) : (updPacket s p f).cipher = s.cipher := rfl
@[simp] theorem updPacket_keys (s : State) (p : Nat) (f : QPacket → QPacket) : (updPacket s p f).keys = s.keys := rfl
@[simp] theorem updPacket_sett (s : State) (p : Nat) (f : QPacket → QPacket) : (updPacket s p f).sett = s.sett := rfl
@[simp] theorem updPacket_twin (s : State) (p : Nat) (f : QPacket → QPacket) : (updPacket s p f).twin = s.twin := rfl
@[simp] theorem updPacket_image (s : State) (p : Nat) (f : QPacket → QPacket) : (updPacket s p f).image = s.image := rfl
@[simp] theorem updPacket_fleet (s : State) (p : Nat) (f : QPacket → QPacket) : (updPacket s p f).fleet = s.fleet := rfl
@[simp] theorem updPacket_threads (s : State) (p : Nat) (f : QPacket → QPacket) : (updPacket s p f).threads = s.threads := rfl
@[simp] theorem updPacket_sop (s : State) (p : Nat) (f : QPacket → QPacket) : (updPacket s p f).sop = s.sop := rfl

/- updShaper -/

@[simp] theorem updShaper_pending (s : State) (n : Nat) (f : Shaper → Shaper) : (updShaper s n f).pending = s.pending := rfl
@[simp] theorem updShaper_now (s : State) (n : Nat) (f : Shaper → Shaper) : (updShaper s n f).now = s.now := rfl
@[simp] theorem updShaper_freeCtr (s : State) (n : Nat) (f : Shaper → Shaper) : (updShaper s n f).freeCtr = s.freeCtr := rfl
@[simp] theorem updShaper_trngCtr (s : State) (n : Nat) (f : Shaper → Shaper) : (updShaper s n f).trngCtr = s.trngCtr := rfl
@[simp] theorem updShaper_out (s : State) (n : Nat) (f : Shaper → Shaper) : (updShaper s n f).out = s.out := rfl
@[simp] theorem updShaper_vals (s : State) (n : Nat) (f : Shaper → Shaper) : (updShaper s n f).vals = s.vals := rfl
@[simp] theorem updShaper_power (s : State) (n : Nat) (f : Shaper → Shaper) : (updShaper s n f).power = s.power := rfl
@[simp] theorem updShaper_fifos (s : State) (n : Nat) (f : Shaper → Shaper) : (updShaper s n f).fifos = s.fifos := rfl
@[simp] theorem updShaper_recorder (s : State) (n : Nat) (f : Shaper → Shaper) : (updShaper s n f).recorder = s.recorder := rfl
@[simp] theorem updShaper_measure (s : State) (n : Nat) (f : Shaper → Shaper) : (updShaper s n f).measure = s.measure := rfl
@[simp] theorem updShaper_ptrace (s : State) (n : Nat) (f : Shaper → Shaper) : (updShaper s n f).ptrace = s.ptrace := rfl
@[simp] theorem updShaper_debug (s : State) (n : Nat) (f : Shaper → Shaper) : (updShaper s n f).dbg = s.dbg := rfl
@[simp] theorem updShaper_rx (s : State) (n : Nat) (f : Shaper → Shaper) : (updShaper s n f).rx = s.rx := rfl
@[simp] theorem updShaper_modem (s : State) (n : Nat) (f : Shaper → Shaper) : (updShaper s n f).modem = s.modem := rfl
@[simp] theorem updShaper_front (s : State) (n : Nat) (f : Shaper → Shaper) : (updShaper s n f).front = s.front := rfl
@[simp] theorem updShaper_time (s : State) (n : Nat) (f : Shaper → Shaper) : (updShaper s n f).time = s.time := rfl
@[simp] theorem updShaper_sched (s : State) (n : Nat) (f : Shaper → Shaper) : (updShaper s n f).sched = s.sched := rfl
@[simp] theorem updShaper_link (s : State) (n : Nat) (f : Shaper → Shaper) : (updShaper s n f).link = s.link := rfl
@[simp] theorem updShaper_fwd (s : State) (n : Nat) (f : Shaper → Shaper) : (updShaper s n f).fwd = s.fwd := rfl
@[simp] theorem updShaper_cipher (s : State) (n : Nat) (f : Shaper → Shaper) : (updShaper s n f).cipher = s.cipher := rfl
@[simp] theorem updShaper_keys (s : State) (n : Nat) (f : Shaper → Shaper) : (updShaper s n f).keys = s.keys := rfl
@[simp] theorem updShaper_sett (s : State) (n : Nat) (f : Shaper → Shaper) : (updShaper s n f).sett = s.sett := rfl
@[simp] theorem updShaper_twin (s : State) (n : Nat) (f : Shaper → Shaper) : (updShaper s n f).twin = s.twin := rfl
@[simp] theorem updShaper_image (s : State) (n : Nat) (f : Shaper → Shaper) : (updShaper s n f).image = s.image := rfl
@[simp] theorem updShaper_fleet (s : State) (n : Nat) (f : Shaper → Shaper) : (updShaper s n f).fleet = s.fleet := rfl
@[simp] theorem updShaper_threads (s : State) (n : Nat) (f : Shaper → Shaper) : (updShaper s n f).threads = s.threads := rfl
@[simp] theorem updShaper_sop (s : State) (n : Nat) (f : Shaper → Shaper) : (updShaper s n f).sop = s.sop := rfl

/- setClassQueue -/

@[simp] theorem setClassQueue_pending (s : State) (port cls : Nat) (l : List Nat) : (setClassQueue s port cls l).pending = s.pending := rfl
@[simp] theorem setClassQueue_now (s : State) (port cls : Nat) (l : List Nat) : (setClassQueue s port cls l).now = s.now := rfl
@[simp] theorem setClassQueue_freeCtr (s : State) (port cls : Nat) (l : List Nat) : (setClassQueue s port cls l).freeCtr = s.freeCtr := rfl
@[simp] theorem setClassQueue_trngCtr (s : State) (port cls : Nat) (l : List Nat) : (setClassQueue s port cls l).trngCtr = s.trngCtr := rfl
@[simp] theorem setClassQueue_out (s : State) (port cls : Nat) (l : List Nat) : (setClassQueue s port cls l).out = s.out := rfl
@[simp] theorem setClassQueue_vals (s : State) (port cls : Nat) (l : List Nat) : (setClassQueue s port cls l).vals = s.vals := rfl
@[simp] theorem setClassQueue_power (s : State) (port cls : Nat) (l : List Nat) : (setClassQueue s port cls l).power = s.power := rfl
@[simp] theorem setClassQueue_fifos (s : State) (port cls : Nat) (l : List Nat) : (setClassQueue s port cls l).fifos = s.fifos := rfl
@[simp] theorem setClassQueue_recorder (s : State) (port cls : Nat) (l : List Nat) : (setClassQueue s port cls l).recorder = s.recorder := rfl
@[simp] theorem setClassQueue_measure (s : State) (port cls : Nat) (l : List Nat) : (setClassQueue s port cls l).measure = s.measure := rfl
@[simp] theorem setClassQueue_ptrace (s : State) (port cls : Nat) (l : List Nat) : (setClassQueue s port cls l).ptrace = s.ptrace := rfl
@[simp] theorem setClassQueue_debug (s : State) (port cls : Nat) (l : List Nat) : (setClassQueue s port cls l).dbg = s.dbg := rfl
@[simp] theorem setClassQueue_rx (s : State) (port cls : Nat) (l : List Nat) : (setClassQueue s port cls l).rx = s.rx := rfl
@[simp] theorem setClassQueue_modem (s : State) (port cls : Nat) (l : List Nat) : (setClassQueue s port cls l).modem = s.modem := rfl
@[simp] theorem setClassQueue_front (s : State) (port cls : Nat) (l : List Nat) : (setClassQueue s port cls l).front = s.front := rfl
@[simp] theorem setClassQueue_time (s : State) (port cls : Nat) (l : List Nat) : (setClassQueue s port cls l).time = s.time := rfl
@[simp] theorem setClassQueue_sched (s : State) (port cls : Nat) (l : List Nat) : (setClassQueue s port cls l).sched = s.sched := rfl
@[simp] theorem setClassQueue_link (s : State) (port cls : Nat) (l : List Nat) : (setClassQueue s port cls l).link = s.link := rfl
@[simp] theorem setClassQueue_fwd (s : State) (port cls : Nat) (l : List Nat) : (setClassQueue s port cls l).fwd = s.fwd := rfl
@[simp] theorem setClassQueue_cipher (s : State) (port cls : Nat) (l : List Nat) : (setClassQueue s port cls l).cipher = s.cipher := rfl
@[simp] theorem setClassQueue_keys (s : State) (port cls : Nat) (l : List Nat) : (setClassQueue s port cls l).keys = s.keys := rfl
@[simp] theorem setClassQueue_sett (s : State) (port cls : Nat) (l : List Nat) : (setClassQueue s port cls l).sett = s.sett := rfl
@[simp] theorem setClassQueue_twin (s : State) (port cls : Nat) (l : List Nat) : (setClassQueue s port cls l).twin = s.twin := rfl
@[simp] theorem setClassQueue_image (s : State) (port cls : Nat) (l : List Nat) : (setClassQueue s port cls l).image = s.image := rfl
@[simp] theorem setClassQueue_fleet (s : State) (port cls : Nat) (l : List Nat) : (setClassQueue s port cls l).fleet = s.fleet := rfl
@[simp] theorem setClassQueue_threads (s : State) (port cls : Nat) (l : List Nat) : (setClassQueue s port cls l).threads = s.threads := rfl
@[simp] theorem setClassQueue_sop (s : State) (port cls : Nat) (l : List Nat) : (setClassQueue s port cls l).sop = s.sop := rfl

/- updPort -/

@[simp] theorem updPort_pending (s : State) (p : Nat) (f : SettPort → SettPort) : (updPort s p f).pending = s.pending := rfl
@[simp] theorem updPort_now (s : State) (p : Nat) (f : SettPort → SettPort) : (updPort s p f).now = s.now := rfl
@[simp] theorem updPort_freeCtr (s : State) (p : Nat) (f : SettPort → SettPort) : (updPort s p f).freeCtr = s.freeCtr := rfl
@[simp] theorem updPort_trngCtr (s : State) (p : Nat) (f : SettPort → SettPort) : (updPort s p f).trngCtr = s.trngCtr := rfl
@[simp] theorem updPort_out (s : State) (p : Nat) (f : SettPort → SettPort) : (updPort s p f).out = s.out := rfl
@[simp] theorem updPort_vals (s : State) (p : Nat) (f : SettPort → SettPort) : (updPort s p f).vals = s.vals := rfl
@[simp] theorem updPort_power (s : State) (p : Nat) (f : SettPort → SettPort) : (updPort s p f).power = s.power := rfl
@[simp] theorem updPort_fifos (s : State) (p : Nat) (f : SettPort → SettPort) : (updPort s p f).fifos = s.fifos := rfl
@[simp] theorem updPort_recorder (s : State) (p : Nat) (f : SettPort → SettPort) : (updPort s p f).recorder = s.recorder := rfl
@[simp] theorem updPort_measure (s : State) (p : Nat) (f : SettPort → SettPort) : (updPort s p f).measure = s.measure := rfl
@[simp] theorem updPort_ptrace (s : State) (p : Nat) (f : SettPort → SettPort) : (updPort s p f).ptrace = s.ptrace := rfl
@[simp] theorem updPort_debug (s : State) (p : Nat) (f : SettPort → SettPort) : (updPort s p f).dbg = s.dbg := rfl
@[simp] theorem updPort_rx (s : State) (p : Nat) (f : SettPort → SettPort) : (updPort s p f).rx = s.rx := rfl
@[simp] theorem updPort_modem (s : State) (p : Nat) (f : SettPort → SettPort) : (updPort s p f).modem = s.modem := rfl
@[simp] theorem updPort_front (s : State) (p : Nat) (f : SettPort → SettPort) : (updPort s p f).front = s.front := rfl
@[simp] theorem updPort_time (s : State) (p : Nat) (f : SettPort → SettPort) : (updPort s p f).time = s.time := rfl
@[simp] theorem updPort_sched (s : State) (p : Nat) (f : SettPort → SettPort) : (updPort s p f).sched = s.sched := rfl
@[simp] theorem updPort_link (s : State) (p : Nat) (f : SettPort → SettPort) : (updPort s p f).link = s.link := rfl
@[simp] theorem updPort_queues (s : State) (p : Nat) (f : SettPort → SettPort) : (updPort s p f).queues = s.queues := rfl
@[simp] theorem updPort_fwd (s : State) (p : Nat) (f : SettPort → SettPort) : (updPort s p f).fwd = s.fwd := rfl
@[simp] theorem updPort_cipher (s : State) (p : Nat) (f : SettPort → SettPort) : (updPort s p f).cipher = s.cipher := rfl
@[simp] theorem updPort_keys (s : State) (p : Nat) (f : SettPort → SettPort) : (updPort s p f).keys = s.keys := rfl
@[simp] theorem updPort_twin (s : State) (p : Nat) (f : SettPort → SettPort) : (updPort s p f).twin = s.twin := rfl
@[simp] theorem updPort_image (s : State) (p : Nat) (f : SettPort → SettPort) : (updPort s p f).image = s.image := rfl
@[simp] theorem updPort_fleet (s : State) (p : Nat) (f : SettPort → SettPort) : (updPort s p f).fleet = s.fleet := rfl
@[simp] theorem updPort_threads (s : State) (p : Nat) (f : SettPort → SettPort) : (updPort s p f).threads = s.threads := rfl
@[simp] theorem updPort_sop (s : State) (p : Nat) (f : SettPort → SettPort) : (updPort s p f).sop = s.sop := rfl

/- setMember -/

@[simp] theorem setMember_pending (s : State) (m : Member) : (setMember s m).pending = s.pending := rfl
@[simp] theorem setMember_now (s : State) (m : Member) : (setMember s m).now = s.now := rfl
@[simp] theorem setMember_freeCtr (s : State) (m : Member) : (setMember s m).freeCtr = s.freeCtr := rfl
@[simp] theorem setMember_trngCtr (s : State) (m : Member) : (setMember s m).trngCtr = s.trngCtr := rfl
@[simp] theorem setMember_out (s : State) (m : Member) : (setMember s m).out = s.out := rfl
@[simp] theorem setMember_vals (s : State) (m : Member) : (setMember s m).vals = s.vals := rfl
@[simp] theorem setMember_power (s : State) (m : Member) : (setMember s m).power = s.power := rfl
@[simp] theorem setMember_fifos (s : State) (m : Member) : (setMember s m).fifos = s.fifos := rfl
@[simp] theorem setMember_recorder (s : State) (m : Member) : (setMember s m).recorder = s.recorder := rfl
@[simp] theorem setMember_measure (s : State) (m : Member) : (setMember s m).measure = s.measure := rfl
@[simp] theorem setMember_ptrace (s : State) (m : Member) : (setMember s m).ptrace = s.ptrace := rfl
@[simp] theorem setMember_debug (s : State) (m : Member) : (setMember s m).dbg = s.dbg := rfl
@[simp] theorem setMember_rx (s : State) (m : Member) : (setMember s m).rx = s.rx := rfl
@[simp] theorem setMember_modem (s : State) (m : Member) : (setMember s m).modem = s.modem := rfl
@[simp] theorem setMember_front (s : State) (m : Member) : (setMember s m).front = s.front := rfl
@[simp] theorem setMember_time (s : State) (m : Member) : (setMember s m).time = s.time := rfl
@[simp] theorem setMember_sched (s : State) (m : Member) : (setMember s m).sched = s.sched := rfl
@[simp] theorem setMember_link (s : State) (m : Member) : (setMember s m).link = s.link := rfl
@[simp] theorem setMember_queues (s : State) (m : Member) : (setMember s m).queues = s.queues := rfl
@[simp] theorem setMember_fwd (s : State) (m : Member) : (setMember s m).fwd = s.fwd := rfl
@[simp] theorem setMember_cipher (s : State) (m : Member) : (setMember s m).cipher = s.cipher := rfl
@[simp] theorem setMember_keys (s : State) (m : Member) : (setMember s m).keys = s.keys := rfl
@[simp] theorem setMember_twin (s : State) (m : Member) : (setMember s m).twin = s.twin := rfl
@[simp] theorem setMember_image (s : State) (m : Member) : (setMember s m).image = s.image := rfl
@[simp] theorem setMember_fleet (s : State) (m : Member) : (setMember s m).fleet = s.fleet := rfl
@[simp] theorem setMember_threads (s : State) (m : Member) : (setMember s m).threads = s.threads := rfl
@[simp] theorem setMember_sop (s : State) (m : Member) : (setMember s m).sop = s.sop := rfl

/- updEngine -/

@[simp] theorem updEngine_pending (s : State) (e : Nat) (f : Engine → Engine) : (updEngine s e f).pending = s.pending := rfl
@[simp] theorem updEngine_now (s : State) (e : Nat) (f : Engine → Engine) : (updEngine s e f).now = s.now := rfl
@[simp] theorem updEngine_freeCtr (s : State) (e : Nat) (f : Engine → Engine) : (updEngine s e f).freeCtr = s.freeCtr := rfl
@[simp] theorem updEngine_trngCtr (s : State) (e : Nat) (f : Engine → Engine) : (updEngine s e f).trngCtr = s.trngCtr := rfl
@[simp] theorem updEngine_out (s : State) (e : Nat) (f : Engine → Engine) : (updEngine s e f).out = s.out := rfl
@[simp] theorem updEngine_vals (s : State) (e : Nat) (f : Engine → Engine) : (updEngine s e f).vals = s.vals := rfl
@[simp] theorem updEngine_power (s : State) (e : Nat) (f : Engine → Engine) : (updEngine s e f).power = s.power := rfl
@[simp] theorem updEngine_fifos (s : State) (e : Nat) (f : Engine → Engine) : (updEngine s e f).fifos = s.fifos := rfl
@[simp] theorem updEngine_recorder (s : State) (e : Nat) (f : Engine → Engine) : (updEngine s e f).recorder = s.recorder := rfl
@[simp] theorem updEngine_measure (s : State) (e : Nat) (f : Engine → Engine) : (updEngine s e f).measure = s.measure := rfl
@[simp] theorem updEngine_ptrace (s : State) (e : Nat) (f : Engine → Engine) : (updEngine s e f).ptrace = s.ptrace := rfl
@[simp] theorem updEngine_debug (s : State) (e : Nat) (f : Engine → Engine) : (updEngine s e f).dbg = s.dbg := rfl
@[simp] theorem updEngine_rx (s : State) (e : Nat) (f : Engine → Engine) : (updEngine s e f).rx = s.rx := rfl
@[simp] theorem updEngine_modem (s : State) (e : Nat) (f : Engine → Engine) : (updEngine s e f).modem = s.modem := rfl
@[simp] theorem updEngine_front (s : State) (e : Nat) (f : Engine → Engine) : (updEngine s e f).front = s.front := rfl
@[simp] theorem updEngine_time (s : State) (e : Nat) (f : Engine → Engine) : (updEngine s e f).time = s.time := rfl
@[simp] theorem updEngine_sched (s : State) (e : Nat) (f : Engine → Engine) : (updEngine s e f).sched = s.sched := rfl
@[simp] theorem updEngine_link (s : State) (e : Nat) (f : Engine → Engine) : (updEngine s e f).link = s.link := rfl
@[simp] theorem updEngine_queues (s : State) (e : Nat) (f : Engine → Engine) : (updEngine s e f).queues = s.queues := rfl
@[simp] theorem updEngine_fwd (s : State) (e : Nat) (f : Engine → Engine) : (updEngine s e f).fwd = s.fwd := rfl
@[simp] theorem updEngine_keys (s : State) (e : Nat) (f : Engine → Engine) : (updEngine s e f).keys = s.keys := rfl
@[simp] theorem updEngine_sett (s : State) (e : Nat) (f : Engine → Engine) : (updEngine s e f).sett = s.sett := rfl
@[simp] theorem updEngine_twin (s : State) (e : Nat) (f : Engine → Engine) : (updEngine s e f).twin = s.twin := rfl
@[simp] theorem updEngine_image (s : State) (e : Nat) (f : Engine → Engine) : (updEngine s e f).image = s.image := rfl
@[simp] theorem updEngine_fleet (s : State) (e : Nat) (f : Engine → Engine) : (updEngine s e f).fleet = s.fleet := rfl
@[simp] theorem updEngine_threads (s : State) (e : Nat) (f : Engine → Engine) : (updEngine s e f).threads = s.threads := rfl
@[simp] theorem updEngine_sop (s : State) (e : Nat) (f : Engine → Engine) : (updEngine s e f).sop = s.sop := rfl

/- setPn -/

@[simp] theorem setPn_pending (s : State) (port dir an : Nat) (x : MacsecPn) : (setPn s port dir an x).pending = s.pending := rfl
@[simp] theorem setPn_now (s : State) (port dir an : Nat) (x : MacsecPn) : (setPn s port dir an x).now = s.now := rfl
@[simp] theorem setPn_freeCtr (s : State) (port dir an : Nat) (x : MacsecPn) : (setPn s port dir an x).freeCtr = s.freeCtr := rfl
@[simp] theorem setPn_trngCtr (s : State) (port dir an : Nat) (x : MacsecPn) : (setPn s port dir an x).trngCtr = s.trngCtr := rfl
@[simp] theorem setPn_out (s : State) (port dir an : Nat) (x : MacsecPn) : (setPn s port dir an x).out = s.out := rfl
@[simp] theorem setPn_vals (s : State) (port dir an : Nat) (x : MacsecPn) : (setPn s port dir an x).vals = s.vals := rfl
@[simp] theorem setPn_power (s : State) (port dir an : Nat) (x : MacsecPn) : (setPn s port dir an x).power = s.power := rfl
@[simp] theorem setPn_fifos (s : State) (port dir an : Nat) (x : MacsecPn) : (setPn s port dir an x).fifos = s.fifos := rfl
@[simp] theorem setPn_recorder (s : State) (port dir an : Nat) (x : MacsecPn) : (setPn s port dir an x).recorder = s.recorder := rfl
@[simp] theorem setPn_measure (s : State) (port dir an : Nat) (x : MacsecPn) : (setPn s port dir an x).measure = s.measure := rfl
@[simp] theorem setPn_ptrace (s : State) (port dir an : Nat) (x : MacsecPn) : (setPn s port dir an x).ptrace = s.ptrace := rfl
@[simp] theorem setPn_debug (s : State) (port dir an : Nat) (x : MacsecPn) : (setPn s port dir an x).dbg = s.dbg := rfl
@[simp] theorem setPn_rx (s : State) (port dir an : Nat) (x : MacsecPn) : (setPn s port dir an x).rx = s.rx := rfl
@[simp] theorem setPn_modem (s : State) (port dir an : Nat) (x : MacsecPn) : (setPn s port dir an x).modem = s.modem := rfl
@[simp] theorem setPn_front (s : State) (port dir an : Nat) (x : MacsecPn) : (setPn s port dir an x).front = s.front := rfl
@[simp] theorem setPn_time (s : State) (port dir an : Nat) (x : MacsecPn) : (setPn s port dir an x).time = s.time := rfl
@[simp] theorem setPn_sched (s : State) (port dir an : Nat) (x : MacsecPn) : (setPn s port dir an x).sched = s.sched := rfl
@[simp] theorem setPn_link (s : State) (port dir an : Nat) (x : MacsecPn) : (setPn s port dir an x).link = s.link := rfl
@[simp] theorem setPn_queues (s : State) (port dir an : Nat) (x : MacsecPn) : (setPn s port dir an x).queues = s.queues := rfl
@[simp] theorem setPn_fwd (s : State) (port dir an : Nat) (x : MacsecPn) : (setPn s port dir an x).fwd = s.fwd := rfl
@[simp] theorem setPn_keys (s : State) (port dir an : Nat) (x : MacsecPn) : (setPn s port dir an x).keys = s.keys := rfl
@[simp] theorem setPn_sett (s : State) (port dir an : Nat) (x : MacsecPn) : (setPn s port dir an x).sett = s.sett := rfl
@[simp] theorem setPn_twin (s : State) (port dir an : Nat) (x : MacsecPn) : (setPn s port dir an x).twin = s.twin := rfl
@[simp] theorem setPn_image (s : State) (port dir an : Nat) (x : MacsecPn) : (setPn s port dir an x).image = s.image := rfl
@[simp] theorem setPn_fleet (s : State) (port dir an : Nat) (x : MacsecPn) : (setPn s port dir an x).fleet = s.fleet := rfl
@[simp] theorem setPn_threads (s : State) (port dir an : Nat) (x : MacsecPn) : (setPn s port dir an x).threads = s.threads := rfl
@[simp] theorem setPn_sop (s : State) (port dir an : Nat) (x : MacsecPn) : (setPn s port dir an x).sop = s.sop := rfl

/- putCache -/

@[simp] theorem putCache_pending (s : State) (e : Nat) (x : CacheEntry) : (putCache s e x).pending = s.pending := rfl
@[simp] theorem putCache_now (s : State) (e : Nat) (x : CacheEntry) : (putCache s e x).now = s.now := rfl
@[simp] theorem putCache_freeCtr (s : State) (e : Nat) (x : CacheEntry) : (putCache s e x).freeCtr = s.freeCtr := rfl
@[simp] theorem putCache_trngCtr (s : State) (e : Nat) (x : CacheEntry) : (putCache s e x).trngCtr = s.trngCtr := rfl
@[simp] theorem putCache_out (s : State) (e : Nat) (x : CacheEntry) : (putCache s e x).out = s.out := rfl
@[simp] theorem putCache_vals (s : State) (e : Nat) (x : CacheEntry) : (putCache s e x).vals = s.vals := rfl
@[simp] theorem putCache_power (s : State) (e : Nat) (x : CacheEntry) : (putCache s e x).power = s.power := rfl
@[simp] theorem putCache_fifos (s : State) (e : Nat) (x : CacheEntry) : (putCache s e x).fifos = s.fifos := rfl
@[simp] theorem putCache_recorder (s : State) (e : Nat) (x : CacheEntry) : (putCache s e x).recorder = s.recorder := rfl
@[simp] theorem putCache_measure (s : State) (e : Nat) (x : CacheEntry) : (putCache s e x).measure = s.measure := rfl
@[simp] theorem putCache_ptrace (s : State) (e : Nat) (x : CacheEntry) : (putCache s e x).ptrace = s.ptrace := rfl
@[simp] theorem putCache_debug (s : State) (e : Nat) (x : CacheEntry) : (putCache s e x).dbg = s.dbg := rfl
@[simp] theorem putCache_rx (s : State) (e : Nat) (x : CacheEntry) : (putCache s e x).rx = s.rx := rfl
@[simp] theorem putCache_modem (s : State) (e : Nat) (x : CacheEntry) : (putCache s e x).modem = s.modem := rfl
@[simp] theorem putCache_front (s : State) (e : Nat) (x : CacheEntry) : (putCache s e x).front = s.front := rfl
@[simp] theorem putCache_time (s : State) (e : Nat) (x : CacheEntry) : (putCache s e x).time = s.time := rfl
@[simp] theorem putCache_sched (s : State) (e : Nat) (x : CacheEntry) : (putCache s e x).sched = s.sched := rfl
@[simp] theorem putCache_link (s : State) (e : Nat) (x : CacheEntry) : (putCache s e x).link = s.link := rfl
@[simp] theorem putCache_queues (s : State) (e : Nat) (x : CacheEntry) : (putCache s e x).queues = s.queues := rfl
@[simp] theorem putCache_fwd (s : State) (e : Nat) (x : CacheEntry) : (putCache s e x).fwd = s.fwd := rfl
@[simp] theorem putCache_cipher (s : State) (e : Nat) (x : CacheEntry) : (putCache s e x).cipher = s.cipher := rfl
@[simp] theorem putCache_sett (s : State) (e : Nat) (x : CacheEntry) : (putCache s e x).sett = s.sett := rfl
@[simp] theorem putCache_twin (s : State) (e : Nat) (x : CacheEntry) : (putCache s e x).twin = s.twin := rfl
@[simp] theorem putCache_image (s : State) (e : Nat) (x : CacheEntry) : (putCache s e x).image = s.image := rfl
@[simp] theorem putCache_fleet (s : State) (e : Nat) (x : CacheEntry) : (putCache s e x).fleet = s.fleet := rfl
@[simp] theorem putCache_threads (s : State) (e : Nat) (x : CacheEntry) : (putCache s e x).threads = s.threads := rfl
@[simp] theorem putCache_sop (s : State) (e : Nat) (x : CacheEntry) : (putCache s e x).sop = s.sop := rfl

/- setKeyStatus -/

@[simp] theorem setKeyStatus_pending (s : State) (st : Nat) : (setKeyStatus s st).pending = s.pending := rfl
@[simp] theorem setKeyStatus_now (s : State) (st : Nat) : (setKeyStatus s st).now = s.now := rfl
@[simp] theorem setKeyStatus_freeCtr (s : State) (st : Nat) : (setKeyStatus s st).freeCtr = s.freeCtr := rfl
@[simp] theorem setKeyStatus_trngCtr (s : State) (st : Nat) : (setKeyStatus s st).trngCtr = s.trngCtr := rfl
@[simp] theorem setKeyStatus_out (s : State) (st : Nat) : (setKeyStatus s st).out = s.out := rfl
@[simp] theorem setKeyStatus_vals (s : State) (st : Nat) : (setKeyStatus s st).vals = s.vals := rfl
@[simp] theorem setKeyStatus_power (s : State) (st : Nat) : (setKeyStatus s st).power = s.power := rfl
@[simp] theorem setKeyStatus_fifos (s : State) (st : Nat) : (setKeyStatus s st).fifos = s.fifos := rfl
@[simp] theorem setKeyStatus_recorder (s : State) (st : Nat) : (setKeyStatus s st).recorder = s.recorder := rfl
@[simp] theorem setKeyStatus_measure (s : State) (st : Nat) : (setKeyStatus s st).measure = s.measure := rfl
@[simp] theorem setKeyStatus_ptrace (s : State) (st : Nat) : (setKeyStatus s st).ptrace = s.ptrace := rfl
@[simp] theorem setKeyStatus_debug (s : State) (st : Nat) : (setKeyStatus s st).dbg = s.dbg := rfl
@[simp] theorem setKeyStatus_rx (s : State) (st : Nat) : (setKeyStatus s st).rx = s.rx := rfl
@[simp] theorem setKeyStatus_modem (s : State) (st : Nat) : (setKeyStatus s st).modem = s.modem := rfl
@[simp] theorem setKeyStatus_front (s : State) (st : Nat) : (setKeyStatus s st).front = s.front := rfl
@[simp] theorem setKeyStatus_time (s : State) (st : Nat) : (setKeyStatus s st).time = s.time := rfl
@[simp] theorem setKeyStatus_sched (s : State) (st : Nat) : (setKeyStatus s st).sched = s.sched := rfl
@[simp] theorem setKeyStatus_link (s : State) (st : Nat) : (setKeyStatus s st).link = s.link := rfl
@[simp] theorem setKeyStatus_queues (s : State) (st : Nat) : (setKeyStatus s st).queues = s.queues := rfl
@[simp] theorem setKeyStatus_fwd (s : State) (st : Nat) : (setKeyStatus s st).fwd = s.fwd := rfl
@[simp] theorem setKeyStatus_cipher (s : State) (st : Nat) : (setKeyStatus s st).cipher = s.cipher := rfl
@[simp] theorem setKeyStatus_sett (s : State) (st : Nat) : (setKeyStatus s st).sett = s.sett := rfl
@[simp] theorem setKeyStatus_twin (s : State) (st : Nat) : (setKeyStatus s st).twin = s.twin := rfl
@[simp] theorem setKeyStatus_image (s : State) (st : Nat) : (setKeyStatus s st).image = s.image := rfl
@[simp] theorem setKeyStatus_fleet (s : State) (st : Nat) : (setKeyStatus s st).fleet = s.fleet := rfl
@[simp] theorem setKeyStatus_threads (s : State) (st : Nat) : (setKeyStatus s st).threads = s.threads := rfl
@[simp] theorem setKeyStatus_sop (s : State) (st : Nat) : (setKeyStatus s st).sop = s.sop := rfl

/- updTwin -/

@[simp] theorem updTwin_pending (s : State) (f : Twin → Twin) : (updTwin s f).pending = s.pending := rfl
@[simp] theorem updTwin_now (s : State) (f : Twin → Twin) : (updTwin s f).now = s.now := rfl
@[simp] theorem updTwin_freeCtr (s : State) (f : Twin → Twin) : (updTwin s f).freeCtr = s.freeCtr := rfl
@[simp] theorem updTwin_trngCtr (s : State) (f : Twin → Twin) : (updTwin s f).trngCtr = s.trngCtr := rfl
@[simp] theorem updTwin_out (s : State) (f : Twin → Twin) : (updTwin s f).out = s.out := rfl
@[simp] theorem updTwin_vals (s : State) (f : Twin → Twin) : (updTwin s f).vals = s.vals := rfl
@[simp] theorem updTwin_power (s : State) (f : Twin → Twin) : (updTwin s f).power = s.power := rfl
@[simp] theorem updTwin_fifos (s : State) (f : Twin → Twin) : (updTwin s f).fifos = s.fifos := rfl
@[simp] theorem updTwin_recorder (s : State) (f : Twin → Twin) : (updTwin s f).recorder = s.recorder := rfl
@[simp] theorem updTwin_measure (s : State) (f : Twin → Twin) : (updTwin s f).measure = s.measure := rfl
@[simp] theorem updTwin_ptrace (s : State) (f : Twin → Twin) : (updTwin s f).ptrace = s.ptrace := rfl
@[simp] theorem updTwin_debug (s : State) (f : Twin → Twin) : (updTwin s f).dbg = s.dbg := rfl
@[simp] theorem updTwin_rx (s : State) (f : Twin → Twin) : (updTwin s f).rx = s.rx := rfl
@[simp] theorem updTwin_modem (s : State) (f : Twin → Twin) : (updTwin s f).modem = s.modem := rfl
@[simp] theorem updTwin_front (s : State) (f : Twin → Twin) : (updTwin s f).front = s.front := rfl
@[simp] theorem updTwin_time (s : State) (f : Twin → Twin) : (updTwin s f).time = s.time := rfl
@[simp] theorem updTwin_sched (s : State) (f : Twin → Twin) : (updTwin s f).sched = s.sched := rfl
@[simp] theorem updTwin_link (s : State) (f : Twin → Twin) : (updTwin s f).link = s.link := rfl
@[simp] theorem updTwin_queues (s : State) (f : Twin → Twin) : (updTwin s f).queues = s.queues := rfl
@[simp] theorem updTwin_fwd (s : State) (f : Twin → Twin) : (updTwin s f).fwd = s.fwd := rfl
@[simp] theorem updTwin_cipher (s : State) (f : Twin → Twin) : (updTwin s f).cipher = s.cipher := rfl
@[simp] theorem updTwin_keys (s : State) (f : Twin → Twin) : (updTwin s f).keys = s.keys := rfl
@[simp] theorem updTwin_sett (s : State) (f : Twin → Twin) : (updTwin s f).sett = s.sett := rfl
@[simp] theorem updTwin_image (s : State) (f : Twin → Twin) : (updTwin s f).image = s.image := rfl
@[simp] theorem updTwin_fleet (s : State) (f : Twin → Twin) : (updTwin s f).fleet = s.fleet := rfl
@[simp] theorem updTwin_threads (s : State) (f : Twin → Twin) : (updTwin s f).threads = s.threads := rfl
@[simp] theorem updTwin_sop (s : State) (f : Twin → Twin) : (updTwin s f).sop = s.sop := rfl

/- updNode -/

@[simp] theorem updNode_pending (s : State) (i : Nat) (f : Node → Node) : (updNode s i f).pending = s.pending := rfl
@[simp] theorem updNode_now (s : State) (i : Nat) (f : Node → Node) : (updNode s i f).now = s.now := rfl
@[simp] theorem updNode_freeCtr (s : State) (i : Nat) (f : Node → Node) : (updNode s i f).freeCtr = s.freeCtr := rfl
@[simp] theorem updNode_trngCtr (s : State) (i : Nat) (f : Node → Node) : (updNode s i f).trngCtr = s.trngCtr := rfl
@[simp] theorem updNode_out (s : State) (i : Nat) (f : Node → Node) : (updNode s i f).out = s.out := rfl
@[simp] theorem updNode_vals (s : State) (i : Nat) (f : Node → Node) : (updNode s i f).vals = s.vals := rfl
@[simp] theorem updNode_power (s : State) (i : Nat) (f : Node → Node) : (updNode s i f).power = s.power := rfl
@[simp] theorem updNode_fifos (s : State) (i : Nat) (f : Node → Node) : (updNode s i f).fifos = s.fifos := rfl
@[simp] theorem updNode_recorder (s : State) (i : Nat) (f : Node → Node) : (updNode s i f).recorder = s.recorder := rfl
@[simp] theorem updNode_measure (s : State) (i : Nat) (f : Node → Node) : (updNode s i f).measure = s.measure := rfl
@[simp] theorem updNode_ptrace (s : State) (i : Nat) (f : Node → Node) : (updNode s i f).ptrace = s.ptrace := rfl
@[simp] theorem updNode_debug (s : State) (i : Nat) (f : Node → Node) : (updNode s i f).dbg = s.dbg := rfl
@[simp] theorem updNode_rx (s : State) (i : Nat) (f : Node → Node) : (updNode s i f).rx = s.rx := rfl
@[simp] theorem updNode_modem (s : State) (i : Nat) (f : Node → Node) : (updNode s i f).modem = s.modem := rfl
@[simp] theorem updNode_front (s : State) (i : Nat) (f : Node → Node) : (updNode s i f).front = s.front := rfl
@[simp] theorem updNode_time (s : State) (i : Nat) (f : Node → Node) : (updNode s i f).time = s.time := rfl
@[simp] theorem updNode_sched (s : State) (i : Nat) (f : Node → Node) : (updNode s i f).sched = s.sched := rfl
@[simp] theorem updNode_queues (s : State) (i : Nat) (f : Node → Node) : (updNode s i f).queues = s.queues := rfl
@[simp] theorem updNode_fwd (s : State) (i : Nat) (f : Node → Node) : (updNode s i f).fwd = s.fwd := rfl
@[simp] theorem updNode_cipher (s : State) (i : Nat) (f : Node → Node) : (updNode s i f).cipher = s.cipher := rfl
@[simp] theorem updNode_keys (s : State) (i : Nat) (f : Node → Node) : (updNode s i f).keys = s.keys := rfl
@[simp] theorem updNode_sett (s : State) (i : Nat) (f : Node → Node) : (updNode s i f).sett = s.sett := rfl
@[simp] theorem updNode_twin (s : State) (i : Nat) (f : Node → Node) : (updNode s i f).twin = s.twin := rfl
@[simp] theorem updNode_image (s : State) (i : Nat) (f : Node → Node) : (updNode s i f).image = s.image := rfl
@[simp] theorem updNode_fleet (s : State) (i : Nat) (f : Node → Node) : (updNode s i f).fleet = s.fleet := rfl
@[simp] theorem updNode_threads (s : State) (i : Nat) (f : Node → Node) : (updNode s i f).threads = s.threads := rfl
@[simp] theorem updNode_sop (s : State) (i : Nat) (f : Node → Node) : (updNode s i f).sop = s.sop := rfl

/- setPeer -/

@[simp] theorem setPeer_pending (s : State) (k : Nat) (p : Peer) : (setPeer s k p).pending = s.pending := rfl
@[simp] theorem setPeer_now (s : State) (k : Nat) (p : Peer) : (setPeer s k p).now = s.now := rfl
@[simp] theorem setPeer_freeCtr (s : State) (k : Nat) (p : Peer) : (setPeer s k p).freeCtr = s.freeCtr := rfl
@[simp] theorem setPeer_trngCtr (s : State) (k : Nat) (p : Peer) : (setPeer s k p).trngCtr = s.trngCtr := rfl
@[simp] theorem setPeer_out (s : State) (k : Nat) (p : Peer) : (setPeer s k p).out = s.out := rfl
@[simp] theorem setPeer_vals (s : State) (k : Nat) (p : Peer) : (setPeer s k p).vals = s.vals := rfl
@[simp] theorem setPeer_power (s : State) (k : Nat) (p : Peer) : (setPeer s k p).power = s.power := rfl
@[simp] theorem setPeer_fifos (s : State) (k : Nat) (p : Peer) : (setPeer s k p).fifos = s.fifos := rfl
@[simp] theorem setPeer_recorder (s : State) (k : Nat) (p : Peer) : (setPeer s k p).recorder = s.recorder := rfl
@[simp] theorem setPeer_measure (s : State) (k : Nat) (p : Peer) : (setPeer s k p).measure = s.measure := rfl
@[simp] theorem setPeer_ptrace (s : State) (k : Nat) (p : Peer) : (setPeer s k p).ptrace = s.ptrace := rfl
@[simp] theorem setPeer_debug (s : State) (k : Nat) (p : Peer) : (setPeer s k p).dbg = s.dbg := rfl
@[simp] theorem setPeer_rx (s : State) (k : Nat) (p : Peer) : (setPeer s k p).rx = s.rx := rfl
@[simp] theorem setPeer_modem (s : State) (k : Nat) (p : Peer) : (setPeer s k p).modem = s.modem := rfl
@[simp] theorem setPeer_front (s : State) (k : Nat) (p : Peer) : (setPeer s k p).front = s.front := rfl
@[simp] theorem setPeer_time (s : State) (k : Nat) (p : Peer) : (setPeer s k p).time = s.time := rfl
@[simp] theorem setPeer_sched (s : State) (k : Nat) (p : Peer) : (setPeer s k p).sched = s.sched := rfl
@[simp] theorem setPeer_queues (s : State) (k : Nat) (p : Peer) : (setPeer s k p).queues = s.queues := rfl
@[simp] theorem setPeer_fwd (s : State) (k : Nat) (p : Peer) : (setPeer s k p).fwd = s.fwd := rfl
@[simp] theorem setPeer_cipher (s : State) (k : Nat) (p : Peer) : (setPeer s k p).cipher = s.cipher := rfl
@[simp] theorem setPeer_keys (s : State) (k : Nat) (p : Peer) : (setPeer s k p).keys = s.keys := rfl
@[simp] theorem setPeer_sett (s : State) (k : Nat) (p : Peer) : (setPeer s k p).sett = s.sett := rfl
@[simp] theorem setPeer_twin (s : State) (k : Nat) (p : Peer) : (setPeer s k p).twin = s.twin := rfl
@[simp] theorem setPeer_image (s : State) (k : Nat) (p : Peer) : (setPeer s k p).image = s.image := rfl
@[simp] theorem setPeer_fleet (s : State) (k : Nat) (p : Peer) : (setPeer s k p).fleet = s.fleet := rfl
@[simp] theorem setPeer_threads (s : State) (k : Nat) (p : Peer) : (setPeer s k p).threads = s.threads := rfl
@[simp] theorem setPeer_sop (s : State) (k : Nat) (p : Peer) : (setPeer s k p).sop = s.sop := rfl

/- setCell -/

@[simp] theorem setCell_pending (s : State) (i : Nat) (c : Cell) : (setCell s i c).pending = s.pending := rfl
@[simp] theorem setCell_now (s : State) (i : Nat) (c : Cell) : (setCell s i c).now = s.now := rfl
@[simp] theorem setCell_freeCtr (s : State) (i : Nat) (c : Cell) : (setCell s i c).freeCtr = s.freeCtr := rfl
@[simp] theorem setCell_trngCtr (s : State) (i : Nat) (c : Cell) : (setCell s i c).trngCtr = s.trngCtr := rfl
@[simp] theorem setCell_out (s : State) (i : Nat) (c : Cell) : (setCell s i c).out = s.out := rfl
@[simp] theorem setCell_vals (s : State) (i : Nat) (c : Cell) : (setCell s i c).vals = s.vals := rfl
@[simp] theorem setCell_power (s : State) (i : Nat) (c : Cell) : (setCell s i c).power = s.power := rfl
@[simp] theorem setCell_fifos (s : State) (i : Nat) (c : Cell) : (setCell s i c).fifos = s.fifos := rfl
@[simp] theorem setCell_recorder (s : State) (i : Nat) (c : Cell) : (setCell s i c).recorder = s.recorder := rfl
@[simp] theorem setCell_measure (s : State) (i : Nat) (c : Cell) : (setCell s i c).measure = s.measure := rfl
@[simp] theorem setCell_ptrace (s : State) (i : Nat) (c : Cell) : (setCell s i c).ptrace = s.ptrace := rfl
@[simp] theorem setCell_debug (s : State) (i : Nat) (c : Cell) : (setCell s i c).dbg = s.dbg := rfl
@[simp] theorem setCell_rx (s : State) (i : Nat) (c : Cell) : (setCell s i c).rx = s.rx := rfl
@[simp] theorem setCell_modem (s : State) (i : Nat) (c : Cell) : (setCell s i c).modem = s.modem := rfl
@[simp] theorem setCell_front (s : State) (i : Nat) (c : Cell) : (setCell s i c).front = s.front := rfl
@[simp] theorem setCell_time (s : State) (i : Nat) (c : Cell) : (setCell s i c).time = s.time := rfl
@[simp] theorem setCell_link (s : State) (i : Nat) (c : Cell) : (setCell s i c).link = s.link := rfl
@[simp] theorem setCell_queues (s : State) (i : Nat) (c : Cell) : (setCell s i c).queues = s.queues := rfl
@[simp] theorem setCell_fwd (s : State) (i : Nat) (c : Cell) : (setCell s i c).fwd = s.fwd := rfl
@[simp] theorem setCell_cipher (s : State) (i : Nat) (c : Cell) : (setCell s i c).cipher = s.cipher := rfl
@[simp] theorem setCell_keys (s : State) (i : Nat) (c : Cell) : (setCell s i c).keys = s.keys := rfl
@[simp] theorem setCell_sett (s : State) (i : Nat) (c : Cell) : (setCell s i c).sett = s.sett := rfl
@[simp] theorem setCell_twin (s : State) (i : Nat) (c : Cell) : (setCell s i c).twin = s.twin := rfl
@[simp] theorem setCell_image (s : State) (i : Nat) (c : Cell) : (setCell s i c).image = s.image := rfl
@[simp] theorem setCell_fleet (s : State) (i : Nat) (c : Cell) : (setCell s i c).fleet = s.fleet := rfl
@[simp] theorem setCell_threads (s : State) (i : Nat) (c : Cell) : (setCell s i c).threads = s.threads := rfl
@[simp] theorem setCell_sop (s : State) (i : Nat) (c : Cell) : (setCell s i c).sop = s.sop := rfl

/- schedStatus -/

@[simp] theorem schedStatus_pending (s : State) (code : Nat) : (schedStatus s code).pending = s.pending := rfl
@[simp] theorem schedStatus_now (s : State) (code : Nat) : (schedStatus s code).now = s.now := rfl
@[simp] theorem schedStatus_freeCtr (s : State) (code : Nat) : (schedStatus s code).freeCtr = s.freeCtr := rfl
@[simp] theorem schedStatus_trngCtr (s : State) (code : Nat) : (schedStatus s code).trngCtr = s.trngCtr := rfl
@[simp] theorem schedStatus_out (s : State) (code : Nat) : (schedStatus s code).out = s.out := rfl
@[simp] theorem schedStatus_vals (s : State) (code : Nat) : (schedStatus s code).vals = s.vals := rfl
@[simp] theorem schedStatus_power (s : State) (code : Nat) : (schedStatus s code).power = s.power := rfl
@[simp] theorem schedStatus_fifos (s : State) (code : Nat) : (schedStatus s code).fifos = s.fifos := rfl
@[simp] theorem schedStatus_recorder (s : State) (code : Nat) : (schedStatus s code).recorder = s.recorder := rfl
@[simp] theorem schedStatus_measure (s : State) (code : Nat) : (schedStatus s code).measure = s.measure := rfl
@[simp] theorem schedStatus_ptrace (s : State) (code : Nat) : (schedStatus s code).ptrace = s.ptrace := rfl
@[simp] theorem schedStatus_debug (s : State) (code : Nat) : (schedStatus s code).dbg = s.dbg := rfl
@[simp] theorem schedStatus_rx (s : State) (code : Nat) : (schedStatus s code).rx = s.rx := rfl
@[simp] theorem schedStatus_modem (s : State) (code : Nat) : (schedStatus s code).modem = s.modem := rfl
@[simp] theorem schedStatus_front (s : State) (code : Nat) : (schedStatus s code).front = s.front := rfl
@[simp] theorem schedStatus_time (s : State) (code : Nat) : (schedStatus s code).time = s.time := rfl
@[simp] theorem schedStatus_link (s : State) (code : Nat) : (schedStatus s code).link = s.link := rfl
@[simp] theorem schedStatus_queues (s : State) (code : Nat) : (schedStatus s code).queues = s.queues := rfl
@[simp] theorem schedStatus_fwd (s : State) (code : Nat) : (schedStatus s code).fwd = s.fwd := rfl
@[simp] theorem schedStatus_cipher (s : State) (code : Nat) : (schedStatus s code).cipher = s.cipher := rfl
@[simp] theorem schedStatus_keys (s : State) (code : Nat) : (schedStatus s code).keys = s.keys := rfl
@[simp] theorem schedStatus_sett (s : State) (code : Nat) : (schedStatus s code).sett = s.sett := rfl
@[simp] theorem schedStatus_twin (s : State) (code : Nat) : (schedStatus s code).twin = s.twin := rfl
@[simp] theorem schedStatus_image (s : State) (code : Nat) : (schedStatus s code).image = s.image := rfl
@[simp] theorem schedStatus_fleet (s : State) (code : Nat) : (schedStatus s code).fleet = s.fleet := rfl
@[simp] theorem schedStatus_threads (s : State) (code : Nat) : (schedStatus s code).threads = s.threads := rfl
@[simp] theorem schedStatus_sop (s : State) (code : Nat) : (schedStatus s code).sop = s.sop := rfl

/- updLane -/

@[simp] theorem updLane_pending (s : State) (n : Nat) (f : Lane → Lane) : (updLane s n f).pending = s.pending := rfl
@[simp] theorem updLane_now (s : State) (n : Nat) (f : Lane → Lane) : (updLane s n f).now = s.now := rfl
@[simp] theorem updLane_freeCtr (s : State) (n : Nat) (f : Lane → Lane) : (updLane s n f).freeCtr = s.freeCtr := rfl
@[simp] theorem updLane_trngCtr (s : State) (n : Nat) (f : Lane → Lane) : (updLane s n f).trngCtr = s.trngCtr := rfl
@[simp] theorem updLane_out (s : State) (n : Nat) (f : Lane → Lane) : (updLane s n f).out = s.out := rfl
@[simp] theorem updLane_vals (s : State) (n : Nat) (f : Lane → Lane) : (updLane s n f).vals = s.vals := rfl
@[simp] theorem updLane_power (s : State) (n : Nat) (f : Lane → Lane) : (updLane s n f).power = s.power := rfl
@[simp] theorem updLane_fifos (s : State) (n : Nat) (f : Lane → Lane) : (updLane s n f).fifos = s.fifos := rfl
@[simp] theorem updLane_recorder (s : State) (n : Nat) (f : Lane → Lane) : (updLane s n f).recorder = s.recorder := rfl
@[simp] theorem updLane_measure (s : State) (n : Nat) (f : Lane → Lane) : (updLane s n f).measure = s.measure := rfl
@[simp] theorem updLane_ptrace (s : State) (n : Nat) (f : Lane → Lane) : (updLane s n f).ptrace = s.ptrace := rfl
@[simp] theorem updLane_debug (s : State) (n : Nat) (f : Lane → Lane) : (updLane s n f).dbg = s.dbg := rfl
@[simp] theorem updLane_modem (s : State) (n : Nat) (f : Lane → Lane) : (updLane s n f).modem = s.modem := rfl
@[simp] theorem updLane_front (s : State) (n : Nat) (f : Lane → Lane) : (updLane s n f).front = s.front := rfl
@[simp] theorem updLane_time (s : State) (n : Nat) (f : Lane → Lane) : (updLane s n f).time = s.time := rfl
@[simp] theorem updLane_sched (s : State) (n : Nat) (f : Lane → Lane) : (updLane s n f).sched = s.sched := rfl
@[simp] theorem updLane_link (s : State) (n : Nat) (f : Lane → Lane) : (updLane s n f).link = s.link := rfl
@[simp] theorem updLane_queues (s : State) (n : Nat) (f : Lane → Lane) : (updLane s n f).queues = s.queues := rfl
@[simp] theorem updLane_fwd (s : State) (n : Nat) (f : Lane → Lane) : (updLane s n f).fwd = s.fwd := rfl
@[simp] theorem updLane_cipher (s : State) (n : Nat) (f : Lane → Lane) : (updLane s n f).cipher = s.cipher := rfl
@[simp] theorem updLane_keys (s : State) (n : Nat) (f : Lane → Lane) : (updLane s n f).keys = s.keys := rfl
@[simp] theorem updLane_sett (s : State) (n : Nat) (f : Lane → Lane) : (updLane s n f).sett = s.sett := rfl
@[simp] theorem updLane_twin (s : State) (n : Nat) (f : Lane → Lane) : (updLane s n f).twin = s.twin := rfl
@[simp] theorem updLane_image (s : State) (n : Nat) (f : Lane → Lane) : (updLane s n f).image = s.image := rfl
@[simp] theorem updLane_fleet (s : State) (n : Nat) (f : Lane → Lane) : (updLane s n f).fleet = s.fleet := rfl
@[simp] theorem updLane_threads (s : State) (n : Nat) (f : Lane → Lane) : (updLane s n f).threads = s.threads := rfl
@[simp] theorem updLane_sop (s : State) (n : Nat) (f : Lane → Lane) : (updLane s n f).sop = s.sop := rfl

/- updFifo -/

@[simp] theorem updFifo_pending (s : State) (n : Nat) (f : Fifo → Fifo) : (updFifo s n f).pending = s.pending := rfl
@[simp] theorem updFifo_now (s : State) (n : Nat) (f : Fifo → Fifo) : (updFifo s n f).now = s.now := rfl
@[simp] theorem updFifo_freeCtr (s : State) (n : Nat) (f : Fifo → Fifo) : (updFifo s n f).freeCtr = s.freeCtr := rfl
@[simp] theorem updFifo_trngCtr (s : State) (n : Nat) (f : Fifo → Fifo) : (updFifo s n f).trngCtr = s.trngCtr := rfl
@[simp] theorem updFifo_out (s : State) (n : Nat) (f : Fifo → Fifo) : (updFifo s n f).out = s.out := rfl
@[simp] theorem updFifo_vals (s : State) (n : Nat) (f : Fifo → Fifo) : (updFifo s n f).vals = s.vals := rfl
@[simp] theorem updFifo_power (s : State) (n : Nat) (f : Fifo → Fifo) : (updFifo s n f).power = s.power := rfl
@[simp] theorem updFifo_recorder (s : State) (n : Nat) (f : Fifo → Fifo) : (updFifo s n f).recorder = s.recorder := rfl
@[simp] theorem updFifo_measure (s : State) (n : Nat) (f : Fifo → Fifo) : (updFifo s n f).measure = s.measure := rfl
@[simp] theorem updFifo_ptrace (s : State) (n : Nat) (f : Fifo → Fifo) : (updFifo s n f).ptrace = s.ptrace := rfl
@[simp] theorem updFifo_debug (s : State) (n : Nat) (f : Fifo → Fifo) : (updFifo s n f).dbg = s.dbg := rfl
@[simp] theorem updFifo_rx (s : State) (n : Nat) (f : Fifo → Fifo) : (updFifo s n f).rx = s.rx := rfl
@[simp] theorem updFifo_modem (s : State) (n : Nat) (f : Fifo → Fifo) : (updFifo s n f).modem = s.modem := rfl
@[simp] theorem updFifo_front (s : State) (n : Nat) (f : Fifo → Fifo) : (updFifo s n f).front = s.front := rfl
@[simp] theorem updFifo_time (s : State) (n : Nat) (f : Fifo → Fifo) : (updFifo s n f).time = s.time := rfl
@[simp] theorem updFifo_sched (s : State) (n : Nat) (f : Fifo → Fifo) : (updFifo s n f).sched = s.sched := rfl
@[simp] theorem updFifo_link (s : State) (n : Nat) (f : Fifo → Fifo) : (updFifo s n f).link = s.link := rfl
@[simp] theorem updFifo_queues (s : State) (n : Nat) (f : Fifo → Fifo) : (updFifo s n f).queues = s.queues := rfl
@[simp] theorem updFifo_fwd (s : State) (n : Nat) (f : Fifo → Fifo) : (updFifo s n f).fwd = s.fwd := rfl
@[simp] theorem updFifo_cipher (s : State) (n : Nat) (f : Fifo → Fifo) : (updFifo s n f).cipher = s.cipher := rfl
@[simp] theorem updFifo_keys (s : State) (n : Nat) (f : Fifo → Fifo) : (updFifo s n f).keys = s.keys := rfl
@[simp] theorem updFifo_sett (s : State) (n : Nat) (f : Fifo → Fifo) : (updFifo s n f).sett = s.sett := rfl
@[simp] theorem updFifo_twin (s : State) (n : Nat) (f : Fifo → Fifo) : (updFifo s n f).twin = s.twin := rfl
@[simp] theorem updFifo_image (s : State) (n : Nat) (f : Fifo → Fifo) : (updFifo s n f).image = s.image := rfl
@[simp] theorem updFifo_fleet (s : State) (n : Nat) (f : Fifo → Fifo) : (updFifo s n f).fleet = s.fleet := rfl
@[simp] theorem updFifo_threads (s : State) (n : Nat) (f : Fifo → Fifo) : (updFifo s n f).threads = s.threads := rfl
@[simp] theorem updFifo_sop (s : State) (n : Nat) (f : Fifo → Fifo) : (updFifo s n f).sop = s.sop := rfl

/- updThread -/

@[simp] theorem updThread_pending (s : State) (tid : Nat) (f : Thread → Thread) : (updThread s tid f).pending = s.pending := rfl
@[simp] theorem updThread_now (s : State) (tid : Nat) (f : Thread → Thread) : (updThread s tid f).now = s.now := rfl
@[simp] theorem updThread_freeCtr (s : State) (tid : Nat) (f : Thread → Thread) : (updThread s tid f).freeCtr = s.freeCtr := rfl
@[simp] theorem updThread_trngCtr (s : State) (tid : Nat) (f : Thread → Thread) : (updThread s tid f).trngCtr = s.trngCtr := rfl
@[simp] theorem updThread_out (s : State) (tid : Nat) (f : Thread → Thread) : (updThread s tid f).out = s.out := rfl
@[simp] theorem updThread_vals (s : State) (tid : Nat) (f : Thread → Thread) : (updThread s tid f).vals = s.vals := rfl
@[simp] theorem updThread_power (s : State) (tid : Nat) (f : Thread → Thread) : (updThread s tid f).power = s.power := rfl
@[simp] theorem updThread_fifos (s : State) (tid : Nat) (f : Thread → Thread) : (updThread s tid f).fifos = s.fifos := rfl
@[simp] theorem updThread_recorder (s : State) (tid : Nat) (f : Thread → Thread) : (updThread s tid f).recorder = s.recorder := rfl
@[simp] theorem updThread_measure (s : State) (tid : Nat) (f : Thread → Thread) : (updThread s tid f).measure = s.measure := rfl
@[simp] theorem updThread_ptrace (s : State) (tid : Nat) (f : Thread → Thread) : (updThread s tid f).ptrace = s.ptrace := rfl
@[simp] theorem updThread_debug (s : State) (tid : Nat) (f : Thread → Thread) : (updThread s tid f).dbg = s.dbg := rfl
@[simp] theorem updThread_rx (s : State) (tid : Nat) (f : Thread → Thread) : (updThread s tid f).rx = s.rx := rfl
@[simp] theorem updThread_modem (s : State) (tid : Nat) (f : Thread → Thread) : (updThread s tid f).modem = s.modem := rfl
@[simp] theorem updThread_front (s : State) (tid : Nat) (f : Thread → Thread) : (updThread s tid f).front = s.front := rfl
@[simp] theorem updThread_time (s : State) (tid : Nat) (f : Thread → Thread) : (updThread s tid f).time = s.time := rfl
@[simp] theorem updThread_sched (s : State) (tid : Nat) (f : Thread → Thread) : (updThread s tid f).sched = s.sched := rfl
@[simp] theorem updThread_link (s : State) (tid : Nat) (f : Thread → Thread) : (updThread s tid f).link = s.link := rfl
@[simp] theorem updThread_queues (s : State) (tid : Nat) (f : Thread → Thread) : (updThread s tid f).queues = s.queues := rfl
@[simp] theorem updThread_fwd (s : State) (tid : Nat) (f : Thread → Thread) : (updThread s tid f).fwd = s.fwd := rfl
@[simp] theorem updThread_cipher (s : State) (tid : Nat) (f : Thread → Thread) : (updThread s tid f).cipher = s.cipher := rfl
@[simp] theorem updThread_keys (s : State) (tid : Nat) (f : Thread → Thread) : (updThread s tid f).keys = s.keys := rfl
@[simp] theorem updThread_sett (s : State) (tid : Nat) (f : Thread → Thread) : (updThread s tid f).sett = s.sett := rfl
@[simp] theorem updThread_twin (s : State) (tid : Nat) (f : Thread → Thread) : (updThread s tid f).twin = s.twin := rfl
@[simp] theorem updThread_image (s : State) (tid : Nat) (f : Thread → Thread) : (updThread s tid f).image = s.image := rfl
@[simp] theorem updThread_fleet (s : State) (tid : Nat) (f : Thread → Thread) : (updThread s tid f).fleet = s.fleet := rfl
@[simp] theorem updThread_sop (s : State) (tid : Nat) (f : Thread → Thread) : (updThread s tid f).sop = s.sop := rfl

/- updSession -/

@[simp] theorem updSession_pending (s : State) (sid : Nat) (f : Session → Session) : (updSession s sid f).pending = s.pending := rfl
@[simp] theorem updSession_now (s : State) (sid : Nat) (f : Session → Session) : (updSession s sid f).now = s.now := rfl
@[simp] theorem updSession_freeCtr (s : State) (sid : Nat) (f : Session → Session) : (updSession s sid f).freeCtr = s.freeCtr := rfl
@[simp] theorem updSession_trngCtr (s : State) (sid : Nat) (f : Session → Session) : (updSession s sid f).trngCtr = s.trngCtr := rfl
@[simp] theorem updSession_out (s : State) (sid : Nat) (f : Session → Session) : (updSession s sid f).out = s.out := rfl
@[simp] theorem updSession_vals (s : State) (sid : Nat) (f : Session → Session) : (updSession s sid f).vals = s.vals := rfl
@[simp] theorem updSession_power (s : State) (sid : Nat) (f : Session → Session) : (updSession s sid f).power = s.power := rfl
@[simp] theorem updSession_fifos (s : State) (sid : Nat) (f : Session → Session) : (updSession s sid f).fifos = s.fifos := rfl
@[simp] theorem updSession_recorder (s : State) (sid : Nat) (f : Session → Session) : (updSession s sid f).recorder = s.recorder := rfl
@[simp] theorem updSession_measure (s : State) (sid : Nat) (f : Session → Session) : (updSession s sid f).measure = s.measure := rfl
@[simp] theorem updSession_ptrace (s : State) (sid : Nat) (f : Session → Session) : (updSession s sid f).ptrace = s.ptrace := rfl
@[simp] theorem updSession_debug (s : State) (sid : Nat) (f : Session → Session) : (updSession s sid f).dbg = s.dbg := rfl
@[simp] theorem updSession_rx (s : State) (sid : Nat) (f : Session → Session) : (updSession s sid f).rx = s.rx := rfl
@[simp] theorem updSession_modem (s : State) (sid : Nat) (f : Session → Session) : (updSession s sid f).modem = s.modem := rfl
@[simp] theorem updSession_front (s : State) (sid : Nat) (f : Session → Session) : (updSession s sid f).front = s.front := rfl
@[simp] theorem updSession_time (s : State) (sid : Nat) (f : Session → Session) : (updSession s sid f).time = s.time := rfl
@[simp] theorem updSession_sched (s : State) (sid : Nat) (f : Session → Session) : (updSession s sid f).sched = s.sched := rfl
@[simp] theorem updSession_link (s : State) (sid : Nat) (f : Session → Session) : (updSession s sid f).link = s.link := rfl
@[simp] theorem updSession_queues (s : State) (sid : Nat) (f : Session → Session) : (updSession s sid f).queues = s.queues := rfl
@[simp] theorem updSession_fwd (s : State) (sid : Nat) (f : Session → Session) : (updSession s sid f).fwd = s.fwd := rfl
@[simp] theorem updSession_cipher (s : State) (sid : Nat) (f : Session → Session) : (updSession s sid f).cipher = s.cipher := rfl
@[simp] theorem updSession_keys (s : State) (sid : Nat) (f : Session → Session) : (updSession s sid f).keys = s.keys := rfl
@[simp] theorem updSession_sett (s : State) (sid : Nat) (f : Session → Session) : (updSession s sid f).sett = s.sett := rfl
@[simp] theorem updSession_twin (s : State) (sid : Nat) (f : Session → Session) : (updSession s sid f).twin = s.twin := rfl
@[simp] theorem updSession_image (s : State) (sid : Nat) (f : Session → Session) : (updSession s sid f).image = s.image := rfl
@[simp] theorem updSession_fleet (s : State) (sid : Nat) (f : Session → Session) : (updSession s sid f).fleet = s.fleet := rfl
@[simp] theorem updSession_threads (s : State) (sid : Nat) (f : Session → Session) : (updSession s sid f).threads = s.threads := rfl

/- updCampaign -/

@[simp] theorem updCampaign_pending (s : State) (k : Nat) (f : Campaign → Campaign) : (updCampaign s k f).pending = s.pending := rfl
@[simp] theorem updCampaign_now (s : State) (k : Nat) (f : Campaign → Campaign) : (updCampaign s k f).now = s.now := rfl
@[simp] theorem updCampaign_freeCtr (s : State) (k : Nat) (f : Campaign → Campaign) : (updCampaign s k f).freeCtr = s.freeCtr := rfl
@[simp] theorem updCampaign_trngCtr (s : State) (k : Nat) (f : Campaign → Campaign) : (updCampaign s k f).trngCtr = s.trngCtr := rfl
@[simp] theorem updCampaign_out (s : State) (k : Nat) (f : Campaign → Campaign) : (updCampaign s k f).out = s.out := rfl
@[simp] theorem updCampaign_vals (s : State) (k : Nat) (f : Campaign → Campaign) : (updCampaign s k f).vals = s.vals := rfl
@[simp] theorem updCampaign_power (s : State) (k : Nat) (f : Campaign → Campaign) : (updCampaign s k f).power = s.power := rfl
@[simp] theorem updCampaign_fifos (s : State) (k : Nat) (f : Campaign → Campaign) : (updCampaign s k f).fifos = s.fifos := rfl
@[simp] theorem updCampaign_recorder (s : State) (k : Nat) (f : Campaign → Campaign) : (updCampaign s k f).recorder = s.recorder := rfl
@[simp] theorem updCampaign_measure (s : State) (k : Nat) (f : Campaign → Campaign) : (updCampaign s k f).measure = s.measure := rfl
@[simp] theorem updCampaign_ptrace (s : State) (k : Nat) (f : Campaign → Campaign) : (updCampaign s k f).ptrace = s.ptrace := rfl
@[simp] theorem updCampaign_debug (s : State) (k : Nat) (f : Campaign → Campaign) : (updCampaign s k f).dbg = s.dbg := rfl
@[simp] theorem updCampaign_rx (s : State) (k : Nat) (f : Campaign → Campaign) : (updCampaign s k f).rx = s.rx := rfl
@[simp] theorem updCampaign_modem (s : State) (k : Nat) (f : Campaign → Campaign) : (updCampaign s k f).modem = s.modem := rfl
@[simp] theorem updCampaign_front (s : State) (k : Nat) (f : Campaign → Campaign) : (updCampaign s k f).front = s.front := rfl
@[simp] theorem updCampaign_time (s : State) (k : Nat) (f : Campaign → Campaign) : (updCampaign s k f).time = s.time := rfl
@[simp] theorem updCampaign_sched (s : State) (k : Nat) (f : Campaign → Campaign) : (updCampaign s k f).sched = s.sched := rfl
@[simp] theorem updCampaign_link (s : State) (k : Nat) (f : Campaign → Campaign) : (updCampaign s k f).link = s.link := rfl
@[simp] theorem updCampaign_queues (s : State) (k : Nat) (f : Campaign → Campaign) : (updCampaign s k f).queues = s.queues := rfl
@[simp] theorem updCampaign_fwd (s : State) (k : Nat) (f : Campaign → Campaign) : (updCampaign s k f).fwd = s.fwd := rfl
@[simp] theorem updCampaign_cipher (s : State) (k : Nat) (f : Campaign → Campaign) : (updCampaign s k f).cipher = s.cipher := rfl
@[simp] theorem updCampaign_keys (s : State) (k : Nat) (f : Campaign → Campaign) : (updCampaign s k f).keys = s.keys := rfl
@[simp] theorem updCampaign_sett (s : State) (k : Nat) (f : Campaign → Campaign) : (updCampaign s k f).sett = s.sett := rfl
@[simp] theorem updCampaign_twin (s : State) (k : Nat) (f : Campaign → Campaign) : (updCampaign s k f).twin = s.twin := rfl
@[simp] theorem updCampaign_image (s : State) (k : Nat) (f : Campaign → Campaign) : (updCampaign s k f).image = s.image := rfl
@[simp] theorem updCampaign_threads (s : State) (k : Nat) (f : Campaign → Campaign) : (updCampaign s k f).threads = s.threads := rfl
@[simp] theorem updCampaign_sop (s : State) (k : Nat) (f : Campaign → Campaign) : (updCampaign s k f).sop = s.sop := rfl

/- updStage -/

@[simp] theorem updStage_pending (s : State) (slot : Nat) (f : Stage → Stage) : (updStage s slot f).pending = s.pending := rfl
@[simp] theorem updStage_now (s : State) (slot : Nat) (f : Stage → Stage) : (updStage s slot f).now = s.now := rfl
@[simp] theorem updStage_freeCtr (s : State) (slot : Nat) (f : Stage → Stage) : (updStage s slot f).freeCtr = s.freeCtr := rfl
@[simp] theorem updStage_trngCtr (s : State) (slot : Nat) (f : Stage → Stage) : (updStage s slot f).trngCtr = s.trngCtr := rfl
@[simp] theorem updStage_out (s : State) (slot : Nat) (f : Stage → Stage) : (updStage s slot f).out = s.out := rfl
@[simp] theorem updStage_vals (s : State) (slot : Nat) (f : Stage → Stage) : (updStage s slot f).vals = s.vals := rfl
@[simp] theorem updStage_power (s : State) (slot : Nat) (f : Stage → Stage) : (updStage s slot f).power = s.power := rfl
@[simp] theorem updStage_fifos (s : State) (slot : Nat) (f : Stage → Stage) : (updStage s slot f).fifos = s.fifos := rfl
@[simp] theorem updStage_recorder (s : State) (slot : Nat) (f : Stage → Stage) : (updStage s slot f).recorder = s.recorder := rfl
@[simp] theorem updStage_measure (s : State) (slot : Nat) (f : Stage → Stage) : (updStage s slot f).measure = s.measure := rfl
@[simp] theorem updStage_ptrace (s : State) (slot : Nat) (f : Stage → Stage) : (updStage s slot f).ptrace = s.ptrace := rfl
@[simp] theorem updStage_debug (s : State) (slot : Nat) (f : Stage → Stage) : (updStage s slot f).dbg = s.dbg := rfl
@[simp] theorem updStage_rx (s : State) (slot : Nat) (f : Stage → Stage) : (updStage s slot f).rx = s.rx := rfl
@[simp] theorem updStage_modem (s : State) (slot : Nat) (f : Stage → Stage) : (updStage s slot f).modem = s.modem := rfl
@[simp] theorem updStage_front (s : State) (slot : Nat) (f : Stage → Stage) : (updStage s slot f).front = s.front := rfl
@[simp] theorem updStage_time (s : State) (slot : Nat) (f : Stage → Stage) : (updStage s slot f).time = s.time := rfl
@[simp] theorem updStage_sched (s : State) (slot : Nat) (f : Stage → Stage) : (updStage s slot f).sched = s.sched := rfl
@[simp] theorem updStage_link (s : State) (slot : Nat) (f : Stage → Stage) : (updStage s slot f).link = s.link := rfl
@[simp] theorem updStage_queues (s : State) (slot : Nat) (f : Stage → Stage) : (updStage s slot f).queues = s.queues := rfl
@[simp] theorem updStage_fwd (s : State) (slot : Nat) (f : Stage → Stage) : (updStage s slot f).fwd = s.fwd := rfl
@[simp] theorem updStage_cipher (s : State) (slot : Nat) (f : Stage → Stage) : (updStage s slot f).cipher = s.cipher := rfl
@[simp] theorem updStage_keys (s : State) (slot : Nat) (f : Stage → Stage) : (updStage s slot f).keys = s.keys := rfl
@[simp] theorem updStage_sett (s : State) (slot : Nat) (f : Stage → Stage) : (updStage s slot f).sett = s.sett := rfl
@[simp] theorem updStage_twin (s : State) (slot : Nat) (f : Stage → Stage) : (updStage s slot f).twin = s.twin := rfl
@[simp] theorem updStage_image (s : State) (slot : Nat) (f : Stage → Stage) : (updStage s slot f).image = s.image := rfl
@[simp] theorem updStage_threads (s : State) (slot : Nat) (f : Stage → Stage) : (updStage s slot f).threads = s.threads := rfl
@[simp] theorem updStage_sop (s : State) (slot : Nat) (f : Stage → Stage) : (updStage s slot f).sop = s.sop := rfl

/- updEntry -/

@[simp] theorem updEntry_pending (s : State) (i : Nat) (f : TimeEntry → TimeEntry) : (updEntry s i f).pending = s.pending := rfl
@[simp] theorem updEntry_now (s : State) (i : Nat) (f : TimeEntry → TimeEntry) : (updEntry s i f).now = s.now := rfl
@[simp] theorem updEntry_freeCtr (s : State) (i : Nat) (f : TimeEntry → TimeEntry) : (updEntry s i f).freeCtr = s.freeCtr := rfl
@[simp] theorem updEntry_trngCtr (s : State) (i : Nat) (f : TimeEntry → TimeEntry) : (updEntry s i f).trngCtr = s.trngCtr := rfl
@[simp] theorem updEntry_out (s : State) (i : Nat) (f : TimeEntry → TimeEntry) : (updEntry s i f).out = s.out := rfl
@[simp] theorem updEntry_vals (s : State) (i : Nat) (f : TimeEntry → TimeEntry) : (updEntry s i f).vals = s.vals := rfl
@[simp] theorem updEntry_power (s : State) (i : Nat) (f : TimeEntry → TimeEntry) : (updEntry s i f).power = s.power := rfl
@[simp] theorem updEntry_fifos (s : State) (i : Nat) (f : TimeEntry → TimeEntry) : (updEntry s i f).fifos = s.fifos := rfl
@[simp] theorem updEntry_recorder (s : State) (i : Nat) (f : TimeEntry → TimeEntry) : (updEntry s i f).recorder = s.recorder := rfl
@[simp] theorem updEntry_measure (s : State) (i : Nat) (f : TimeEntry → TimeEntry) : (updEntry s i f).measure = s.measure := rfl
@[simp] theorem updEntry_ptrace (s : State) (i : Nat) (f : TimeEntry → TimeEntry) : (updEntry s i f).ptrace = s.ptrace := rfl
@[simp] theorem updEntry_debug (s : State) (i : Nat) (f : TimeEntry → TimeEntry) : (updEntry s i f).dbg = s.dbg := rfl
@[simp] theorem updEntry_rx (s : State) (i : Nat) (f : TimeEntry → TimeEntry) : (updEntry s i f).rx = s.rx := rfl
@[simp] theorem updEntry_modem (s : State) (i : Nat) (f : TimeEntry → TimeEntry) : (updEntry s i f).modem = s.modem := rfl
@[simp] theorem updEntry_front (s : State) (i : Nat) (f : TimeEntry → TimeEntry) : (updEntry s i f).front = s.front := rfl
@[simp] theorem updEntry_sched (s : State) (i : Nat) (f : TimeEntry → TimeEntry) : (updEntry s i f).sched = s.sched := rfl
@[simp] theorem updEntry_link (s : State) (i : Nat) (f : TimeEntry → TimeEntry) : (updEntry s i f).link = s.link := rfl
@[simp] theorem updEntry_queues (s : State) (i : Nat) (f : TimeEntry → TimeEntry) : (updEntry s i f).queues = s.queues := rfl
@[simp] theorem updEntry_fwd (s : State) (i : Nat) (f : TimeEntry → TimeEntry) : (updEntry s i f).fwd = s.fwd := rfl
@[simp] theorem updEntry_cipher (s : State) (i : Nat) (f : TimeEntry → TimeEntry) : (updEntry s i f).cipher = s.cipher := rfl
@[simp] theorem updEntry_keys (s : State) (i : Nat) (f : TimeEntry → TimeEntry) : (updEntry s i f).keys = s.keys := rfl
@[simp] theorem updEntry_sett (s : State) (i : Nat) (f : TimeEntry → TimeEntry) : (updEntry s i f).sett = s.sett := rfl
@[simp] theorem updEntry_twin (s : State) (i : Nat) (f : TimeEntry → TimeEntry) : (updEntry s i f).twin = s.twin := rfl
@[simp] theorem updEntry_image (s : State) (i : Nat) (f : TimeEntry → TimeEntry) : (updEntry s i f).image = s.image := rfl
@[simp] theorem updEntry_fleet (s : State) (i : Nat) (f : TimeEntry → TimeEntry) : (updEntry s i f).fleet = s.fleet := rfl
@[simp] theorem updEntry_threads (s : State) (i : Nat) (f : TimeEntry → TimeEntry) : (updEntry s i f).threads = s.threads := rfl
@[simp] theorem updEntry_sop (s : State) (i : Nat) (f : TimeEntry → TimeEntry) : (updEntry s i f).sop = s.sop := rfl

/- startSlew -/

@[simp] theorem startSlew_pending (s : State) (offset : Int) : (startSlew s offset).pending = s.pending := rfl
@[simp] theorem startSlew_now (s : State) (offset : Int) : (startSlew s offset).now = s.now := rfl
@[simp] theorem startSlew_freeCtr (s : State) (offset : Int) : (startSlew s offset).freeCtr = s.freeCtr := rfl
@[simp] theorem startSlew_trngCtr (s : State) (offset : Int) : (startSlew s offset).trngCtr = s.trngCtr := rfl
@[simp] theorem startSlew_out (s : State) (offset : Int) : (startSlew s offset).out = s.out := rfl
@[simp] theorem startSlew_vals (s : State) (offset : Int) : (startSlew s offset).vals = s.vals := rfl
@[simp] theorem startSlew_power (s : State) (offset : Int) : (startSlew s offset).power = s.power := rfl
@[simp] theorem startSlew_fifos (s : State) (offset : Int) : (startSlew s offset).fifos = s.fifos := rfl
@[simp] theorem startSlew_recorder (s : State) (offset : Int) : (startSlew s offset).recorder = s.recorder := rfl
@[simp] theorem startSlew_measure (s : State) (offset : Int) : (startSlew s offset).measure = s.measure := rfl
@[simp] theorem startSlew_ptrace (s : State) (offset : Int) : (startSlew s offset).ptrace = s.ptrace := rfl
@[simp] theorem startSlew_debug (s : State) (offset : Int) : (startSlew s offset).dbg = s.dbg := rfl
@[simp] theorem startSlew_rx (s : State) (offset : Int) : (startSlew s offset).rx = s.rx := rfl
@[simp] theorem startSlew_modem (s : State) (offset : Int) : (startSlew s offset).modem = s.modem := rfl
@[simp] theorem startSlew_front (s : State) (offset : Int) : (startSlew s offset).front = s.front := rfl
@[simp] theorem startSlew_sched (s : State) (offset : Int) : (startSlew s offset).sched = s.sched := rfl
@[simp] theorem startSlew_link (s : State) (offset : Int) : (startSlew s offset).link = s.link := rfl
@[simp] theorem startSlew_queues (s : State) (offset : Int) : (startSlew s offset).queues = s.queues := rfl
@[simp] theorem startSlew_fwd (s : State) (offset : Int) : (startSlew s offset).fwd = s.fwd := rfl
@[simp] theorem startSlew_cipher (s : State) (offset : Int) : (startSlew s offset).cipher = s.cipher := rfl
@[simp] theorem startSlew_keys (s : State) (offset : Int) : (startSlew s offset).keys = s.keys := rfl
@[simp] theorem startSlew_sett (s : State) (offset : Int) : (startSlew s offset).sett = s.sett := rfl
@[simp] theorem startSlew_twin (s : State) (offset : Int) : (startSlew s offset).twin = s.twin := rfl
@[simp] theorem startSlew_image (s : State) (offset : Int) : (startSlew s offset).image = s.image := rfl
@[simp] theorem startSlew_fleet (s : State) (offset : Int) : (startSlew s offset).fleet = s.fleet := rfl
@[simp] theorem startSlew_threads (s : State) (offset : Int) : (startSlew s offset).threads = s.threads := rfl
@[simp] theorem startSlew_sop (s : State) (offset : Int) : (startSlew s offset).sop = s.sop := rfl

/- stepTime -/

@[simp] theorem stepTime_pending (s : State) (offset : Int) : (stepTime s offset).pending = s.pending := rfl
@[simp] theorem stepTime_now (s : State) (offset : Int) : (stepTime s offset).now = s.now := rfl
@[simp] theorem stepTime_freeCtr (s : State) (offset : Int) : (stepTime s offset).freeCtr = s.freeCtr := rfl
@[simp] theorem stepTime_trngCtr (s : State) (offset : Int) : (stepTime s offset).trngCtr = s.trngCtr := rfl
@[simp] theorem stepTime_out (s : State) (offset : Int) : (stepTime s offset).out = s.out := rfl
@[simp] theorem stepTime_vals (s : State) (offset : Int) : (stepTime s offset).vals = s.vals := rfl
@[simp] theorem stepTime_power (s : State) (offset : Int) : (stepTime s offset).power = s.power := rfl
@[simp] theorem stepTime_fifos (s : State) (offset : Int) : (stepTime s offset).fifos = s.fifos := rfl
@[simp] theorem stepTime_recorder (s : State) (offset : Int) : (stepTime s offset).recorder = s.recorder := rfl
@[simp] theorem stepTime_measure (s : State) (offset : Int) : (stepTime s offset).measure = s.measure := rfl
@[simp] theorem stepTime_ptrace (s : State) (offset : Int) : (stepTime s offset).ptrace = s.ptrace := rfl
@[simp] theorem stepTime_debug (s : State) (offset : Int) : (stepTime s offset).dbg = s.dbg := rfl
@[simp] theorem stepTime_rx (s : State) (offset : Int) : (stepTime s offset).rx = s.rx := rfl
@[simp] theorem stepTime_modem (s : State) (offset : Int) : (stepTime s offset).modem = s.modem := rfl
@[simp] theorem stepTime_front (s : State) (offset : Int) : (stepTime s offset).front = s.front := rfl
@[simp] theorem stepTime_sched (s : State) (offset : Int) : (stepTime s offset).sched = s.sched := rfl
@[simp] theorem stepTime_link (s : State) (offset : Int) : (stepTime s offset).link = s.link := rfl
@[simp] theorem stepTime_queues (s : State) (offset : Int) : (stepTime s offset).queues = s.queues := rfl
@[simp] theorem stepTime_fwd (s : State) (offset : Int) : (stepTime s offset).fwd = s.fwd := rfl
@[simp] theorem stepTime_cipher (s : State) (offset : Int) : (stepTime s offset).cipher = s.cipher := rfl
@[simp] theorem stepTime_keys (s : State) (offset : Int) : (stepTime s offset).keys = s.keys := rfl
@[simp] theorem stepTime_sett (s : State) (offset : Int) : (stepTime s offset).sett = s.sett := rfl
@[simp] theorem stepTime_twin (s : State) (offset : Int) : (stepTime s offset).twin = s.twin := rfl
@[simp] theorem stepTime_image (s : State) (offset : Int) : (stepTime s offset).image = s.image := rfl
@[simp] theorem stepTime_fleet (s : State) (offset : Int) : (stepTime s offset).fleet = s.fleet := rfl
@[simp] theorem stepTime_threads (s : State) (offset : Int) : (stepTime s offset).threads = s.threads := rfl
@[simp] theorem stepTime_sop (s : State) (offset : Int) : (stepTime s offset).sop = s.sop := rfl

/- updBl -/

@[simp] theorem updBl_pending (s : State) (h b : Nat) (f : BlLink → BlLink) : (updBl s h b f).pending = s.pending := rfl
@[simp] theorem updBl_now (s : State) (h b : Nat) (f : BlLink → BlLink) : (updBl s h b f).now = s.now := rfl
@[simp] theorem updBl_freeCtr (s : State) (h b : Nat) (f : BlLink → BlLink) : (updBl s h b f).freeCtr = s.freeCtr := rfl
@[simp] theorem updBl_trngCtr (s : State) (h b : Nat) (f : BlLink → BlLink) : (updBl s h b f).trngCtr = s.trngCtr := rfl
@[simp] theorem updBl_out (s : State) (h b : Nat) (f : BlLink → BlLink) : (updBl s h b f).out = s.out := rfl
@[simp] theorem updBl_vals (s : State) (h b : Nat) (f : BlLink → BlLink) : (updBl s h b f).vals = s.vals := rfl
@[simp] theorem updBl_power (s : State) (h b : Nat) (f : BlLink → BlLink) : (updBl s h b f).power = s.power := rfl
@[simp] theorem updBl_fifos (s : State) (h b : Nat) (f : BlLink → BlLink) : (updBl s h b f).fifos = s.fifos := rfl
@[simp] theorem updBl_recorder (s : State) (h b : Nat) (f : BlLink → BlLink) : (updBl s h b f).recorder = s.recorder := rfl
@[simp] theorem updBl_measure (s : State) (h b : Nat) (f : BlLink → BlLink) : (updBl s h b f).measure = s.measure := rfl
@[simp] theorem updBl_ptrace (s : State) (h b : Nat) (f : BlLink → BlLink) : (updBl s h b f).ptrace = s.ptrace := rfl
@[simp] theorem updBl_debug (s : State) (h b : Nat) (f : BlLink → BlLink) : (updBl s h b f).dbg = s.dbg := rfl
@[simp] theorem updBl_rx (s : State) (h b : Nat) (f : BlLink → BlLink) : (updBl s h b f).rx = s.rx := rfl
@[simp] theorem updBl_front (s : State) (h b : Nat) (f : BlLink → BlLink) : (updBl s h b f).front = s.front := rfl
@[simp] theorem updBl_time (s : State) (h b : Nat) (f : BlLink → BlLink) : (updBl s h b f).time = s.time := rfl
@[simp] theorem updBl_sched (s : State) (h b : Nat) (f : BlLink → BlLink) : (updBl s h b f).sched = s.sched := rfl
@[simp] theorem updBl_link (s : State) (h b : Nat) (f : BlLink → BlLink) : (updBl s h b f).link = s.link := rfl
@[simp] theorem updBl_queues (s : State) (h b : Nat) (f : BlLink → BlLink) : (updBl s h b f).queues = s.queues := rfl
@[simp] theorem updBl_fwd (s : State) (h b : Nat) (f : BlLink → BlLink) : (updBl s h b f).fwd = s.fwd := rfl
@[simp] theorem updBl_cipher (s : State) (h b : Nat) (f : BlLink → BlLink) : (updBl s h b f).cipher = s.cipher := rfl
@[simp] theorem updBl_keys (s : State) (h b : Nat) (f : BlLink → BlLink) : (updBl s h b f).keys = s.keys := rfl
@[simp] theorem updBl_sett (s : State) (h b : Nat) (f : BlLink → BlLink) : (updBl s h b f).sett = s.sett := rfl
@[simp] theorem updBl_twin (s : State) (h b : Nat) (f : BlLink → BlLink) : (updBl s h b f).twin = s.twin := rfl
@[simp] theorem updBl_image (s : State) (h b : Nat) (f : BlLink → BlLink) : (updBl s h b f).image = s.image := rfl
@[simp] theorem updBl_fleet (s : State) (h b : Nat) (f : BlLink → BlLink) : (updBl s h b f).fleet = s.fleet := rfl
@[simp] theorem updBl_threads (s : State) (h b : Nat) (f : BlLink → BlLink) : (updBl s h b f).threads = s.threads := rfl
@[simp] theorem updBl_sop (s : State) (h b : Nat) (f : BlLink → BlLink) : (updBl s h b f).sop = s.sop := rfl

/- dropLink -/

@[simp] theorem dropLink_pending (s : State) (h b : Nat) : (dropLink s h b).pending = s.pending := rfl
@[simp] theorem dropLink_now (s : State) (h b : Nat) : (dropLink s h b).now = s.now := rfl
@[simp] theorem dropLink_freeCtr (s : State) (h b : Nat) : (dropLink s h b).freeCtr = s.freeCtr := rfl
@[simp] theorem dropLink_trngCtr (s : State) (h b : Nat) : (dropLink s h b).trngCtr = s.trngCtr := rfl
@[simp] theorem dropLink_out (s : State) (h b : Nat) : (dropLink s h b).out = s.out := rfl
@[simp] theorem dropLink_vals (s : State) (h b : Nat) : (dropLink s h b).vals = s.vals := rfl
@[simp] theorem dropLink_power (s : State) (h b : Nat) : (dropLink s h b).power = s.power := rfl
@[simp] theorem dropLink_fifos (s : State) (h b : Nat) : (dropLink s h b).fifos = s.fifos := rfl
@[simp] theorem dropLink_recorder (s : State) (h b : Nat) : (dropLink s h b).recorder = s.recorder := rfl
@[simp] theorem dropLink_measure (s : State) (h b : Nat) : (dropLink s h b).measure = s.measure := rfl
@[simp] theorem dropLink_ptrace (s : State) (h b : Nat) : (dropLink s h b).ptrace = s.ptrace := rfl
@[simp] theorem dropLink_debug (s : State) (h b : Nat) : (dropLink s h b).dbg = s.dbg := rfl
@[simp] theorem dropLink_rx (s : State) (h b : Nat) : (dropLink s h b).rx = s.rx := rfl
@[simp] theorem dropLink_front (s : State) (h b : Nat) : (dropLink s h b).front = s.front := rfl
@[simp] theorem dropLink_time (s : State) (h b : Nat) : (dropLink s h b).time = s.time := rfl
@[simp] theorem dropLink_sched (s : State) (h b : Nat) : (dropLink s h b).sched = s.sched := rfl
@[simp] theorem dropLink_link (s : State) (h b : Nat) : (dropLink s h b).link = s.link := rfl
@[simp] theorem dropLink_queues (s : State) (h b : Nat) : (dropLink s h b).queues = s.queues := rfl
@[simp] theorem dropLink_fwd (s : State) (h b : Nat) : (dropLink s h b).fwd = s.fwd := rfl
@[simp] theorem dropLink_cipher (s : State) (h b : Nat) : (dropLink s h b).cipher = s.cipher := rfl
@[simp] theorem dropLink_keys (s : State) (h b : Nat) : (dropLink s h b).keys = s.keys := rfl
@[simp] theorem dropLink_sett (s : State) (h b : Nat) : (dropLink s h b).sett = s.sett := rfl
@[simp] theorem dropLink_twin (s : State) (h b : Nat) : (dropLink s h b).twin = s.twin := rfl
@[simp] theorem dropLink_image (s : State) (h b : Nat) : (dropLink s h b).image = s.image := rfl
@[simp] theorem dropLink_fleet (s : State) (h b : Nat) : (dropLink s h b).fleet = s.fleet := rfl
@[simp] theorem dropLink_threads (s : State) (h b : Nat) : (dropLink s h b).threads = s.threads := rfl
@[simp] theorem dropLink_sop (s : State) (h b : Nat) : (dropLink s h b).sop = s.sop := rfl

/- updRange -/

@[simp] theorem updRange_pending (s : State) (h : Nat) (f : RangeRun → RangeRun) : (updRange s h f).pending = s.pending := rfl
@[simp] theorem updRange_now (s : State) (h : Nat) (f : RangeRun → RangeRun) : (updRange s h f).now = s.now := rfl
@[simp] theorem updRange_freeCtr (s : State) (h : Nat) (f : RangeRun → RangeRun) : (updRange s h f).freeCtr = s.freeCtr := rfl
@[simp] theorem updRange_trngCtr (s : State) (h : Nat) (f : RangeRun → RangeRun) : (updRange s h f).trngCtr = s.trngCtr := rfl
@[simp] theorem updRange_out (s : State) (h : Nat) (f : RangeRun → RangeRun) : (updRange s h f).out = s.out := rfl
@[simp] theorem updRange_vals (s : State) (h : Nat) (f : RangeRun → RangeRun) : (updRange s h f).vals = s.vals := rfl
@[simp] theorem updRange_power (s : State) (h : Nat) (f : RangeRun → RangeRun) : (updRange s h f).power = s.power := rfl
@[simp] theorem updRange_fifos (s : State) (h : Nat) (f : RangeRun → RangeRun) : (updRange s h f).fifos = s.fifos := rfl
@[simp] theorem updRange_recorder (s : State) (h : Nat) (f : RangeRun → RangeRun) : (updRange s h f).recorder = s.recorder := rfl
@[simp] theorem updRange_ptrace (s : State) (h : Nat) (f : RangeRun → RangeRun) : (updRange s h f).ptrace = s.ptrace := rfl
@[simp] theorem updRange_debug (s : State) (h : Nat) (f : RangeRun → RangeRun) : (updRange s h f).dbg = s.dbg := rfl
@[simp] theorem updRange_rx (s : State) (h : Nat) (f : RangeRun → RangeRun) : (updRange s h f).rx = s.rx := rfl
@[simp] theorem updRange_modem (s : State) (h : Nat) (f : RangeRun → RangeRun) : (updRange s h f).modem = s.modem := rfl
@[simp] theorem updRange_front (s : State) (h : Nat) (f : RangeRun → RangeRun) : (updRange s h f).front = s.front := rfl
@[simp] theorem updRange_time (s : State) (h : Nat) (f : RangeRun → RangeRun) : (updRange s h f).time = s.time := rfl
@[simp] theorem updRange_sched (s : State) (h : Nat) (f : RangeRun → RangeRun) : (updRange s h f).sched = s.sched := rfl
@[simp] theorem updRange_link (s : State) (h : Nat) (f : RangeRun → RangeRun) : (updRange s h f).link = s.link := rfl
@[simp] theorem updRange_queues (s : State) (h : Nat) (f : RangeRun → RangeRun) : (updRange s h f).queues = s.queues := rfl
@[simp] theorem updRange_fwd (s : State) (h : Nat) (f : RangeRun → RangeRun) : (updRange s h f).fwd = s.fwd := rfl
@[simp] theorem updRange_cipher (s : State) (h : Nat) (f : RangeRun → RangeRun) : (updRange s h f).cipher = s.cipher := rfl
@[simp] theorem updRange_keys (s : State) (h : Nat) (f : RangeRun → RangeRun) : (updRange s h f).keys = s.keys := rfl
@[simp] theorem updRange_sett (s : State) (h : Nat) (f : RangeRun → RangeRun) : (updRange s h f).sett = s.sett := rfl
@[simp] theorem updRange_twin (s : State) (h : Nat) (f : RangeRun → RangeRun) : (updRange s h f).twin = s.twin := rfl
@[simp] theorem updRange_image (s : State) (h : Nat) (f : RangeRun → RangeRun) : (updRange s h f).image = s.image := rfl
@[simp] theorem updRange_fleet (s : State) (h : Nat) (f : RangeRun → RangeRun) : (updRange s h f).fleet = s.fleet := rfl
@[simp] theorem updRange_threads (s : State) (h : Nat) (f : RangeRun → RangeRun) : (updRange s h f).threads = s.threads := rfl
@[simp] theorem updRange_sop (s : State) (h : Nat) (f : RangeRun → RangeRun) : (updRange s h f).sop = s.sop := rfl

/- updStatus -/

@[simp] theorem updStatus_pending (s : State) (state code : Nat) : (updStatus s state code).pending = s.pending := rfl
@[simp] theorem updStatus_now (s : State) (state code : Nat) : (updStatus s state code).now = s.now := rfl
@[simp] theorem updStatus_freeCtr (s : State) (state code : Nat) : (updStatus s state code).freeCtr = s.freeCtr := rfl
@[simp] theorem updStatus_trngCtr (s : State) (state code : Nat) : (updStatus s state code).trngCtr = s.trngCtr := rfl
@[simp] theorem updStatus_out (s : State) (state code : Nat) : (updStatus s state code).out = s.out := rfl
@[simp] theorem updStatus_vals (s : State) (state code : Nat) : (updStatus s state code).vals = s.vals := rfl
@[simp] theorem updStatus_power (s : State) (state code : Nat) : (updStatus s state code).power = s.power := rfl
@[simp] theorem updStatus_fifos (s : State) (state code : Nat) : (updStatus s state code).fifos = s.fifos := rfl
@[simp] theorem updStatus_recorder (s : State) (state code : Nat) : (updStatus s state code).recorder = s.recorder := rfl
@[simp] theorem updStatus_measure (s : State) (state code : Nat) : (updStatus s state code).measure = s.measure := rfl
@[simp] theorem updStatus_ptrace (s : State) (state code : Nat) : (updStatus s state code).ptrace = s.ptrace := rfl
@[simp] theorem updStatus_debug (s : State) (state code : Nat) : (updStatus s state code).dbg = s.dbg := rfl
@[simp] theorem updStatus_rx (s : State) (state code : Nat) : (updStatus s state code).rx = s.rx := rfl
@[simp] theorem updStatus_modem (s : State) (state code : Nat) : (updStatus s state code).modem = s.modem := rfl
@[simp] theorem updStatus_front (s : State) (state code : Nat) : (updStatus s state code).front = s.front := rfl
@[simp] theorem updStatus_time (s : State) (state code : Nat) : (updStatus s state code).time = s.time := rfl
@[simp] theorem updStatus_sched (s : State) (state code : Nat) : (updStatus s state code).sched = s.sched := rfl
@[simp] theorem updStatus_link (s : State) (state code : Nat) : (updStatus s state code).link = s.link := rfl
@[simp] theorem updStatus_queues (s : State) (state code : Nat) : (updStatus s state code).queues = s.queues := rfl
@[simp] theorem updStatus_fwd (s : State) (state code : Nat) : (updStatus s state code).fwd = s.fwd := rfl
@[simp] theorem updStatus_cipher (s : State) (state code : Nat) : (updStatus s state code).cipher = s.cipher := rfl
@[simp] theorem updStatus_keys (s : State) (state code : Nat) : (updStatus s state code).keys = s.keys := rfl
@[simp] theorem updStatus_sett (s : State) (state code : Nat) : (updStatus s state code).sett = s.sett := rfl
@[simp] theorem updStatus_twin (s : State) (state code : Nat) : (updStatus s state code).twin = s.twin := rfl
@[simp] theorem updStatus_fleet (s : State) (state code : Nat) : (updStatus s state code).fleet = s.fleet := rfl
@[simp] theorem updStatus_threads (s : State) (state code : Nat) : (updStatus s state code).threads = s.threads := rfl
@[simp] theorem updStatus_sop (s : State) (state code : Nat) : (updStatus s state code).sop = s.sop := rfl

/- updRecovery -/

@[simp] theorem updRecovery_pending (s : State) (f : Recovery → Recovery) : (updRecovery s f).pending = s.pending := rfl
@[simp] theorem updRecovery_now (s : State) (f : Recovery → Recovery) : (updRecovery s f).now = s.now := rfl
@[simp] theorem updRecovery_freeCtr (s : State) (f : Recovery → Recovery) : (updRecovery s f).freeCtr = s.freeCtr := rfl
@[simp] theorem updRecovery_trngCtr (s : State) (f : Recovery → Recovery) : (updRecovery s f).trngCtr = s.trngCtr := rfl
@[simp] theorem updRecovery_out (s : State) (f : Recovery → Recovery) : (updRecovery s f).out = s.out := rfl
@[simp] theorem updRecovery_vals (s : State) (f : Recovery → Recovery) : (updRecovery s f).vals = s.vals := rfl
@[simp] theorem updRecovery_power (s : State) (f : Recovery → Recovery) : (updRecovery s f).power = s.power := rfl
@[simp] theorem updRecovery_fifos (s : State) (f : Recovery → Recovery) : (updRecovery s f).fifos = s.fifos := rfl
@[simp] theorem updRecovery_recorder (s : State) (f : Recovery → Recovery) : (updRecovery s f).recorder = s.recorder := rfl
@[simp] theorem updRecovery_measure (s : State) (f : Recovery → Recovery) : (updRecovery s f).measure = s.measure := rfl
@[simp] theorem updRecovery_ptrace (s : State) (f : Recovery → Recovery) : (updRecovery s f).ptrace = s.ptrace := rfl
@[simp] theorem updRecovery_debug (s : State) (f : Recovery → Recovery) : (updRecovery s f).dbg = s.dbg := rfl
@[simp] theorem updRecovery_rx (s : State) (f : Recovery → Recovery) : (updRecovery s f).rx = s.rx := rfl
@[simp] theorem updRecovery_modem (s : State) (f : Recovery → Recovery) : (updRecovery s f).modem = s.modem := rfl
@[simp] theorem updRecovery_front (s : State) (f : Recovery → Recovery) : (updRecovery s f).front = s.front := rfl
@[simp] theorem updRecovery_time (s : State) (f : Recovery → Recovery) : (updRecovery s f).time = s.time := rfl
@[simp] theorem updRecovery_sched (s : State) (f : Recovery → Recovery) : (updRecovery s f).sched = s.sched := rfl
@[simp] theorem updRecovery_link (s : State) (f : Recovery → Recovery) : (updRecovery s f).link = s.link := rfl
@[simp] theorem updRecovery_queues (s : State) (f : Recovery → Recovery) : (updRecovery s f).queues = s.queues := rfl
@[simp] theorem updRecovery_fwd (s : State) (f : Recovery → Recovery) : (updRecovery s f).fwd = s.fwd := rfl
@[simp] theorem updRecovery_cipher (s : State) (f : Recovery → Recovery) : (updRecovery s f).cipher = s.cipher := rfl
@[simp] theorem updRecovery_keys (s : State) (f : Recovery → Recovery) : (updRecovery s f).keys = s.keys := rfl
@[simp] theorem updRecovery_sett (s : State) (f : Recovery → Recovery) : (updRecovery s f).sett = s.sett := rfl
@[simp] theorem updRecovery_twin (s : State) (f : Recovery → Recovery) : (updRecovery s f).twin = s.twin := rfl
@[simp] theorem updRecovery_fleet (s : State) (f : Recovery → Recovery) : (updRecovery s f).fleet = s.fleet := rfl
@[simp] theorem updRecovery_threads (s : State) (f : Recovery → Recovery) : (updRecovery s f).threads = s.threads := rfl
@[simp] theorem updRecovery_sop (s : State) (f : Recovery → Recovery) : (updRecovery s f).sop = s.sop := rfl

/- queueStep -/

@[simp] theorem queueStep_pending (s : State) (t : TableStep) : (queueStep s t).pending = s.pending := rfl
@[simp] theorem queueStep_now (s : State) (t : TableStep) : (queueStep s t).now = s.now := rfl
@[simp] theorem queueStep_freeCtr (s : State) (t : TableStep) : (queueStep s t).freeCtr = s.freeCtr := rfl
@[simp] theorem queueStep_trngCtr (s : State) (t : TableStep) : (queueStep s t).trngCtr = s.trngCtr := rfl
@[simp] theorem queueStep_out (s : State) (t : TableStep) : (queueStep s t).out = s.out := rfl
@[simp] theorem queueStep_vals (s : State) (t : TableStep) : (queueStep s t).vals = s.vals := rfl
@[simp] theorem queueStep_power (s : State) (t : TableStep) : (queueStep s t).power = s.power := rfl
@[simp] theorem queueStep_fifos (s : State) (t : TableStep) : (queueStep s t).fifos = s.fifos := rfl
@[simp] theorem queueStep_recorder (s : State) (t : TableStep) : (queueStep s t).recorder = s.recorder := rfl
@[simp] theorem queueStep_measure (s : State) (t : TableStep) : (queueStep s t).measure = s.measure := rfl
@[simp] theorem queueStep_ptrace (s : State) (t : TableStep) : (queueStep s t).ptrace = s.ptrace := rfl
@[simp] theorem queueStep_debug (s : State) (t : TableStep) : (queueStep s t).dbg = s.dbg := rfl
@[simp] theorem queueStep_rx (s : State) (t : TableStep) : (queueStep s t).rx = s.rx := rfl
@[simp] theorem queueStep_modem (s : State) (t : TableStep) : (queueStep s t).modem = s.modem := rfl
@[simp] theorem queueStep_front (s : State) (t : TableStep) : (queueStep s t).front = s.front := rfl
@[simp] theorem queueStep_time (s : State) (t : TableStep) : (queueStep s t).time = s.time := rfl
@[simp] theorem queueStep_sched (s : State) (t : TableStep) : (queueStep s t).sched = s.sched := rfl
@[simp] theorem queueStep_link (s : State) (t : TableStep) : (queueStep s t).link = s.link := rfl
@[simp] theorem queueStep_queues (s : State) (t : TableStep) : (queueStep s t).queues = s.queues := rfl
@[simp] theorem queueStep_cipher (s : State) (t : TableStep) : (queueStep s t).cipher = s.cipher := rfl
@[simp] theorem queueStep_keys (s : State) (t : TableStep) : (queueStep s t).keys = s.keys := rfl
@[simp] theorem queueStep_sett (s : State) (t : TableStep) : (queueStep s t).sett = s.sett := rfl
@[simp] theorem queueStep_twin (s : State) (t : TableStep) : (queueStep s t).twin = s.twin := rfl
@[simp] theorem queueStep_image (s : State) (t : TableStep) : (queueStep s t).image = s.image := rfl
@[simp] theorem queueStep_fleet (s : State) (t : TableStep) : (queueStep s t).fleet = s.fleet := rfl
@[simp] theorem queueStep_threads (s : State) (t : TableStep) : (queueStep s t).threads = s.threads := rfl
@[simp] theorem queueStep_sop (s : State) (t : TableStep) : (queueStep s t).sop = s.sop := rfl

/- setDmi -/

@[simp] theorem setDmi_pending (s : State) (m addr v : Nat) : (setDmi s m addr v).pending = s.pending := rfl
@[simp] theorem setDmi_now (s : State) (m addr v : Nat) : (setDmi s m addr v).now = s.now := rfl
@[simp] theorem setDmi_freeCtr (s : State) (m addr v : Nat) : (setDmi s m addr v).freeCtr = s.freeCtr := rfl
@[simp] theorem setDmi_trngCtr (s : State) (m addr v : Nat) : (setDmi s m addr v).trngCtr = s.trngCtr := rfl
@[simp] theorem setDmi_out (s : State) (m addr v : Nat) : (setDmi s m addr v).out = s.out := rfl
@[simp] theorem setDmi_vals (s : State) (m addr v : Nat) : (setDmi s m addr v).vals = s.vals := rfl
@[simp] theorem setDmi_power (s : State) (m addr v : Nat) : (setDmi s m addr v).power = s.power := rfl
@[simp] theorem setDmi_fifos (s : State) (m addr v : Nat) : (setDmi s m addr v).fifos = s.fifos := rfl
@[simp] theorem setDmi_recorder (s : State) (m addr v : Nat) : (setDmi s m addr v).recorder = s.recorder := rfl
@[simp] theorem setDmi_measure (s : State) (m addr v : Nat) : (setDmi s m addr v).measure = s.measure := rfl
@[simp] theorem setDmi_ptrace (s : State) (m addr v : Nat) : (setDmi s m addr v).ptrace = s.ptrace := rfl
@[simp] theorem setDmi_rx (s : State) (m addr v : Nat) : (setDmi s m addr v).rx = s.rx := rfl
@[simp] theorem setDmi_modem (s : State) (m addr v : Nat) : (setDmi s m addr v).modem = s.modem := rfl
@[simp] theorem setDmi_front (s : State) (m addr v : Nat) : (setDmi s m addr v).front = s.front := rfl
@[simp] theorem setDmi_time (s : State) (m addr v : Nat) : (setDmi s m addr v).time = s.time := rfl
@[simp] theorem setDmi_sched (s : State) (m addr v : Nat) : (setDmi s m addr v).sched = s.sched := rfl
@[simp] theorem setDmi_link (s : State) (m addr v : Nat) : (setDmi s m addr v).link = s.link := rfl
@[simp] theorem setDmi_queues (s : State) (m addr v : Nat) : (setDmi s m addr v).queues = s.queues := rfl
@[simp] theorem setDmi_fwd (s : State) (m addr v : Nat) : (setDmi s m addr v).fwd = s.fwd := rfl
@[simp] theorem setDmi_cipher (s : State) (m addr v : Nat) : (setDmi s m addr v).cipher = s.cipher := rfl
@[simp] theorem setDmi_keys (s : State) (m addr v : Nat) : (setDmi s m addr v).keys = s.keys := rfl
@[simp] theorem setDmi_sett (s : State) (m addr v : Nat) : (setDmi s m addr v).sett = s.sett := rfl
@[simp] theorem setDmi_twin (s : State) (m addr v : Nat) : (setDmi s m addr v).twin = s.twin := rfl
@[simp] theorem setDmi_image (s : State) (m addr v : Nat) : (setDmi s m addr v).image = s.image := rfl
@[simp] theorem setDmi_fleet (s : State) (m addr v : Nat) : (setDmi s m addr v).fleet = s.fleet := rfl
@[simp] theorem setDmi_threads (s : State) (m addr v : Nat) : (setDmi s m addr v).threads = s.threads := rfl
@[simp] theorem setDmi_sop (s : State) (m addr v : Nat) : (setDmi s m addr v).sop = s.sop := rfl

/- The event recorder, the journal, the causes of DEGRADED. -/

theorem putEvent_only (s : State) (rc : Recorder) (code sev island inst count a0 a1 a2 : Nat) :
    ∃ x, putEvent s rc code sev island inst count a0 a1 a2 = { s with recorder := x } := ⟨_, rfl⟩

theorem repeatRecord_only (s : State) (r : EvtRecord) (count : Nat) :
    ∃ x, repeatRecord s r count = { s with recorder := x } := ⟨_, rfl⟩

theorem refuseRecord_only (s : State) (rc : Recorder) : ∃ x, refuseRecord s rc = { s with recorder := x } := by
  unfold refuseRecord
  dsimp only
  split
  · exact ⟨_, rfl⟩
  · split
    · exact repeatRecord_only _ _ _
    · exact putEvent_only _ _ _ _ _ _ _ _ _ _

theorem newRecord_only (s : State) (code sev island inst count a0 a1 a2 : Nat) :
    ∃ x, newRecord s code sev island inst count a0 a1 a2 = { s with recorder := x } := by
  unfold newRecord
  dsimp only
  split
  · exact refuseRecord_only s _
  · exact putEvent_only s _ _ _ _ _ _ _ _ _

theorem recordFrom_only (s : State) (code sev island inst a0 a1 a2 : Nat) :
    ∃ x, recordFrom s code sev island inst a0 a1 a2 = { s with recorder := x } := by
  unfold recordFrom
  dsimp only
  split
  · exact ⟨_, rfl⟩
  · split
    · exact repeatRecord_only s _ _
    · exact newRecord_only s _ _ _ _ _ _ _ _

/-- An event changes the recorder and nothing else (R414 to R417). -/
theorem record_only (s : State) (code a0 a1 a2 : Nat) : ∃ x, record s code a0 a1 a2 = { s with recorder := x } :=
  recordFrom_only s _ _ _ _ _ _ _

/-- A journal record changes the state of the pair and nothing else (R305). -/
theorem journal_only (s : State) (flags : Nat) (body : JournalBody) : ∃ x, journal s flags body = { s with twin := x } := by
  unfold journal journalIn
  split <;> exact ⟨_, rfl⟩

/-- A cause of DEGRADED changes that register and, where it moves, the recorder (R20). -/
theorem setCause_only (s : State) (bit : Nat) (on : Bool) :
    ∃ d x, setCause s bit on = { s with power := { s.power with degraded := d }, recorder := x } := by
  unfold setCause
  extract_lets old new
  split
  · exact ⟨s.power.degraded, s.recorder, rfl⟩
  · obtain ⟨x, h⟩ := record_only { s with power := { s.power with degraded := BitVec.ofNat 32 new } } 0x0011 old new 0
    exact ⟨_, x, h⟩

@[simp] theorem record_pending (s : State) (code a0 a1 a2 : Nat) : (record s code a0 a1 a2).pending = s.pending := by
  obtain ⟨x, h⟩ := record_only s code a0 a1 a2
  rw [h]
@[simp] theorem record_now (s : State) (code a0 a1 a2 : Nat) : (record s code a0 a1 a2).now = s.now := by
  obtain ⟨x, h⟩ := record_only s code a0 a1 a2
  rw [h]
@[simp] theorem record_freeCtr (s : State) (code a0 a1 a2 : Nat) : (record s code a0 a1 a2).freeCtr = s.freeCtr := by
  obtain ⟨x, h⟩ := record_only s code a0 a1 a2
  rw [h]
@[simp] theorem record_trngCtr (s : State) (code a0 a1 a2 : Nat) : (record s code a0 a1 a2).trngCtr = s.trngCtr := by
  obtain ⟨x, h⟩ := record_only s code a0 a1 a2
  rw [h]
@[simp] theorem record_out (s : State) (code a0 a1 a2 : Nat) : (record s code a0 a1 a2).out = s.out := by
  obtain ⟨x, h⟩ := record_only s code a0 a1 a2
  rw [h]
@[simp] theorem record_vals (s : State) (code a0 a1 a2 : Nat) : (record s code a0 a1 a2).vals = s.vals := by
  obtain ⟨x, h⟩ := record_only s code a0 a1 a2
  rw [h]
@[simp] theorem record_power (s : State) (code a0 a1 a2 : Nat) : (record s code a0 a1 a2).power = s.power := by
  obtain ⟨x, h⟩ := record_only s code a0 a1 a2
  rw [h]
@[simp] theorem record_fifos (s : State) (code a0 a1 a2 : Nat) : (record s code a0 a1 a2).fifos = s.fifos := by
  obtain ⟨x, h⟩ := record_only s code a0 a1 a2
  rw [h]
@[simp] theorem record_measure (s : State) (code a0 a1 a2 : Nat) : (record s code a0 a1 a2).measure = s.measure := by
  obtain ⟨x, h⟩ := record_only s code a0 a1 a2
  rw [h]
@[simp] theorem record_ptrace (s : State) (code a0 a1 a2 : Nat) : (record s code a0 a1 a2).ptrace = s.ptrace := by
  obtain ⟨x, h⟩ := record_only s code a0 a1 a2
  rw [h]
@[simp] theorem record_debug (s : State) (code a0 a1 a2 : Nat) : (record s code a0 a1 a2).dbg = s.dbg := by
  obtain ⟨x, h⟩ := record_only s code a0 a1 a2
  rw [h]
@[simp] theorem record_rx (s : State) (code a0 a1 a2 : Nat) : (record s code a0 a1 a2).rx = s.rx := by
  obtain ⟨x, h⟩ := record_only s code a0 a1 a2
  rw [h]
@[simp] theorem record_modem (s : State) (code a0 a1 a2 : Nat) : (record s code a0 a1 a2).modem = s.modem := by
  obtain ⟨x, h⟩ := record_only s code a0 a1 a2
  rw [h]
@[simp] theorem record_front (s : State) (code a0 a1 a2 : Nat) : (record s code a0 a1 a2).front = s.front := by
  obtain ⟨x, h⟩ := record_only s code a0 a1 a2
  rw [h]
@[simp] theorem record_time (s : State) (code a0 a1 a2 : Nat) : (record s code a0 a1 a2).time = s.time := by
  obtain ⟨x, h⟩ := record_only s code a0 a1 a2
  rw [h]
@[simp] theorem record_sched (s : State) (code a0 a1 a2 : Nat) : (record s code a0 a1 a2).sched = s.sched := by
  obtain ⟨x, h⟩ := record_only s code a0 a1 a2
  rw [h]
@[simp] theorem record_link (s : State) (code a0 a1 a2 : Nat) : (record s code a0 a1 a2).link = s.link := by
  obtain ⟨x, h⟩ := record_only s code a0 a1 a2
  rw [h]
@[simp] theorem record_queues (s : State) (code a0 a1 a2 : Nat) : (record s code a0 a1 a2).queues = s.queues := by
  obtain ⟨x, h⟩ := record_only s code a0 a1 a2
  rw [h]
@[simp] theorem record_fwd (s : State) (code a0 a1 a2 : Nat) : (record s code a0 a1 a2).fwd = s.fwd := by
  obtain ⟨x, h⟩ := record_only s code a0 a1 a2
  rw [h]
@[simp] theorem record_cipher (s : State) (code a0 a1 a2 : Nat) : (record s code a0 a1 a2).cipher = s.cipher := by
  obtain ⟨x, h⟩ := record_only s code a0 a1 a2
  rw [h]
@[simp] theorem record_keys (s : State) (code a0 a1 a2 : Nat) : (record s code a0 a1 a2).keys = s.keys := by
  obtain ⟨x, h⟩ := record_only s code a0 a1 a2
  rw [h]
@[simp] theorem record_sett (s : State) (code a0 a1 a2 : Nat) : (record s code a0 a1 a2).sett = s.sett := by
  obtain ⟨x, h⟩ := record_only s code a0 a1 a2
  rw [h]
@[simp] theorem record_twin (s : State) (code a0 a1 a2 : Nat) : (record s code a0 a1 a2).twin = s.twin := by
  obtain ⟨x, h⟩ := record_only s code a0 a1 a2
  rw [h]
@[simp] theorem record_image (s : State) (code a0 a1 a2 : Nat) : (record s code a0 a1 a2).image = s.image := by
  obtain ⟨x, h⟩ := record_only s code a0 a1 a2
  rw [h]
@[simp] theorem record_fleet (s : State) (code a0 a1 a2 : Nat) : (record s code a0 a1 a2).fleet = s.fleet := by
  obtain ⟨x, h⟩ := record_only s code a0 a1 a2
  rw [h]
@[simp] theorem record_threads (s : State) (code a0 a1 a2 : Nat) : (record s code a0 a1 a2).threads = s.threads := by
  obtain ⟨x, h⟩ := record_only s code a0 a1 a2
  rw [h]
@[simp] theorem record_sop (s : State) (code a0 a1 a2 : Nat) : (record s code a0 a1 a2).sop = s.sop := by
  obtain ⟨x, h⟩ := record_only s code a0 a1 a2
  rw [h]
@[simp] theorem journal_pending (s : State) (flags : Nat) (body : JournalBody) : (journal s flags body).pending = s.pending := by
  obtain ⟨x, h⟩ := journal_only s flags body
  rw [h]
@[simp] theorem journal_now (s : State) (flags : Nat) (body : JournalBody) : (journal s flags body).now = s.now := by
  obtain ⟨x, h⟩ := journal_only s flags body
  rw [h]
@[simp] theorem journal_freeCtr (s : State) (flags : Nat) (body : JournalBody) : (journal s flags body).freeCtr = s.freeCtr := by
  obtain ⟨x, h⟩ := journal_only s flags body
  rw [h]
@[simp] theorem journal_trngCtr (s : State) (flags : Nat) (body : JournalBody) : (journal s flags body).trngCtr = s.trngCtr := by
  obtain ⟨x, h⟩ := journal_only s flags body
  rw [h]
@[simp] theorem journal_out (s : State) (flags : Nat) (body : JournalBody) : (journal s flags body).out = s.out := by
  obtain ⟨x, h⟩ := journal_only s flags body
  rw [h]
@[simp] theorem journal_vals (s : State) (flags : Nat) (body : JournalBody) : (journal s flags body).vals = s.vals := by
  obtain ⟨x, h⟩ := journal_only s flags body
  rw [h]
@[simp] theorem journal_power (s : State) (flags : Nat) (body : JournalBody) : (journal s flags body).power = s.power := by
  obtain ⟨x, h⟩ := journal_only s flags body
  rw [h]
@[simp] theorem journal_fifos (s : State) (flags : Nat) (body : JournalBody) : (journal s flags body).fifos = s.fifos := by
  obtain ⟨x, h⟩ := journal_only s flags body
  rw [h]
@[simp] theorem journal_recorder (s : State) (flags : Nat) (body : JournalBody) : (journal s flags body).recorder = s.recorder := by
  obtain ⟨x, h⟩ := journal_only s flags body
  rw [h]
@[simp] theorem journal_measure (s : State) (flags : Nat) (body : JournalBody) : (journal s flags body).measure = s.measure := by
  obtain ⟨x, h⟩ := journal_only s flags body
  rw [h]
@[simp] theorem journal_ptrace (s : State) (flags : Nat) (body : JournalBody) : (journal s flags body).ptrace = s.ptrace := by
  obtain ⟨x, h⟩ := journal_only s flags body
  rw [h]
@[simp] theorem journal_debug (s : State) (flags : Nat) (body : JournalBody) : (journal s flags body).dbg = s.dbg := by
  obtain ⟨x, h⟩ := journal_only s flags body
  rw [h]
@[simp] theorem journal_rx (s : State) (flags : Nat) (body : JournalBody) : (journal s flags body).rx = s.rx := by
  obtain ⟨x, h⟩ := journal_only s flags body
  rw [h]
@[simp] theorem journal_modem (s : State) (flags : Nat) (body : JournalBody) : (journal s flags body).modem = s.modem := by
  obtain ⟨x, h⟩ := journal_only s flags body
  rw [h]
@[simp] theorem journal_front (s : State) (flags : Nat) (body : JournalBody) : (journal s flags body).front = s.front := by
  obtain ⟨x, h⟩ := journal_only s flags body
  rw [h]
@[simp] theorem journal_time (s : State) (flags : Nat) (body : JournalBody) : (journal s flags body).time = s.time := by
  obtain ⟨x, h⟩ := journal_only s flags body
  rw [h]
@[simp] theorem journal_sched (s : State) (flags : Nat) (body : JournalBody) : (journal s flags body).sched = s.sched := by
  obtain ⟨x, h⟩ := journal_only s flags body
  rw [h]
@[simp] theorem journal_link (s : State) (flags : Nat) (body : JournalBody) : (journal s flags body).link = s.link := by
  obtain ⟨x, h⟩ := journal_only s flags body
  rw [h]
@[simp] theorem journal_queues (s : State) (flags : Nat) (body : JournalBody) : (journal s flags body).queues = s.queues := by
  obtain ⟨x, h⟩ := journal_only s flags body
  rw [h]
@[simp] theorem journal_fwd (s : State) (flags : Nat) (body : JournalBody) : (journal s flags body).fwd = s.fwd := by
  obtain ⟨x, h⟩ := journal_only s flags body
  rw [h]
@[simp] theorem journal_cipher (s : State) (flags : Nat) (body : JournalBody) : (journal s flags body).cipher = s.cipher := by
  obtain ⟨x, h⟩ := journal_only s flags body
  rw [h]
@[simp] theorem journal_keys (s : State) (flags : Nat) (body : JournalBody) : (journal s flags body).keys = s.keys := by
  obtain ⟨x, h⟩ := journal_only s flags body
  rw [h]
@[simp] theorem journal_sett (s : State) (flags : Nat) (body : JournalBody) : (journal s flags body).sett = s.sett := by
  obtain ⟨x, h⟩ := journal_only s flags body
  rw [h]
@[simp] theorem journal_image (s : State) (flags : Nat) (body : JournalBody) : (journal s flags body).image = s.image := by
  obtain ⟨x, h⟩ := journal_only s flags body
  rw [h]
@[simp] theorem journal_fleet (s : State) (flags : Nat) (body : JournalBody) : (journal s flags body).fleet = s.fleet := by
  obtain ⟨x, h⟩ := journal_only s flags body
  rw [h]
@[simp] theorem journal_threads (s : State) (flags : Nat) (body : JournalBody) : (journal s flags body).threads = s.threads := by
  obtain ⟨x, h⟩ := journal_only s flags body
  rw [h]
@[simp] theorem journal_sop (s : State) (flags : Nat) (body : JournalBody) : (journal s flags body).sop = s.sop := by
  obtain ⟨x, h⟩ := journal_only s flags body
  rw [h]

end Sys2Proof.Laws
end

