-- ==== Sys2Proof/Laws/Silence.lean ====
section
/-! SUPPORT. What cutting transmissions short, releasing the claim and closing the bypass can change: each is the state with
a few of its parts replaced. -/

namespace Sys2Proof.Laws

open Sys2Proof.Machine

/-- Only the front end, the queues and what has left the chip differ. -/
def CutOnly (s t : State) : Prop := ∃ f q o, t = { s with front := f, queues := q, out := o }

theorem CutOnly.refl (s : State) : CutOnly s s := ⟨s.front, s.queues, s.out, rfl⟩

theorem CutOnly.trans {s t u : State} (h : CutOnly s t) (k : CutOnly t u) : CutOnly s u := by
  obtain ⟨f, q, o, rfl⟩ := h
  obtain ⟨f', q', o', rfl⟩ := k
  exact ⟨f', q', o', rfl⟩

theorem driveCoex_cut (s : State) (ch : Nat) : CutOnly s (driveCoex s ch) := ⟨_, _, _, rfl⟩

theorem dropReq_cut (s : State) (bs : Nat) : CutOnly s (dropReq s bs) := by
  unfold dropReq
  dsimp only
  split
  · split
    · exact CutOnly.trans ⟨_, _, _, rfl⟩ (driveCoex_cut _ _)
    · exact ⟨_, _, _, rfl⟩
  · exact CutOnly.refl s

theorem returnCharge_cut (s : State) (bs : Nat) : CutOnly s (returnCharge s bs) := by
  unfold returnCharge
  split
  · exact ⟨_, _, _, rfl⟩
  · exact CutOnly.refl s

theorem updChain_cut (s : State) (bs : Nat) (f : TxChain → TxChain) : CutOnly s (updChain s bs f) := ⟨_, _, _, rfl⟩

theorem dropPlan_cut (s : State) (bs : Nat) : CutOnly s (dropPlan s bs) := by
  unfold dropPlan
  split
  · rename_i p _
    have h : CutOnly s (dropReq (returnCharge (unreserve s p.account p.reserved) bs) bs) :=
      CutOnly.trans (t := returnCharge (unreserve s p.account p.reserved) bs)
        (CutOnly.trans (t := unreserve s p.account p.reserved) ⟨_, _, _, rfl⟩ (returnCharge_cut _ _)) (dropReq_cut _ _)
    dsimp only
    split
    · exact CutOnly.trans (h.trans ⟨_, _, _, rfl⟩) (updChain_cut _ _ _)
    · exact h.trans (updChain_cut _ _ _)
  · exact CutOnly.refl s

theorem cutChain_cut (s : State) (bs : Nat) : CutOnly s (cutChain s bs) := by
  unfold cutChain
  split
  · split
    · exact updChain_cut _ _ _
    · split
      · exact CutOnly.refl s
      · exact dropPlan_cut s bs
  · exact CutOnly.refl s

theorem cutChains_cut (l : List Nat) (s : State) : CutOnly s (l.foldl cutChain s) := by
  induction l generalizing s with
  | nil => exact CutOnly.refl s
  | cons a l ih => exact (cutChain_cut s a).trans (ih _)

/-- Silencing the chip changes the front end, the queues and the outputs alone (R22, R301). -/
theorem silence_cut (s : State) : CutOnly s (silence s) := cutChains_cut _ s

/-- Releasing the claim changes, beside what silence changes, the claim, the gate and the claim logic's state (R301, R302). -/
theorem releaseClaim_only (s : State) : ∃ f q o, releaseClaim s = { s with
    front := f, queues := q, out := o, power := { s.power with claimOut := false, txGate := false }
    twin := { s.twin with claim := .released, claimAsn := none, backoffDue := none } } := by
  obtain ⟨f, q, o, h⟩ := silence_cut { s with
    power := { s.power with claimOut := false, txGate := false }
    twin := { s.twin with claim := .released, claimAsn := none, backoffDue := none } }
  exact ⟨f, q, o, h⟩

/-- Closing the bypass changes the bypass and the two ring ports (R295, R296). -/
theorem closeBypass_only (s : State) : ∃ x, closeBypass s = { s with
    power := { s.power with bypassOn := true }, sett := { s.sett with ports := x } } := ⟨_, rfl⟩

/-- Leaving RECOVERY changes what the image verifier holds (R339). -/
theorem leaveRecovery_only (s : State) : ∃ x, leaveRecovery s = { s with image := x } := by
  unfold leaveRecovery
  split
  · exact ⟨_, rfl⟩
  · exact ⟨s.image, rfl⟩

/-- Noting an ended unlock changes what the image verifier holds (R424). -/
theorem noteUnlock_only (s : State) : ∃ x, noteUnlock s = { s with image := x } := by
  unfold noteUnlock
  split
  · exact ⟨s.image, rfl⟩
  · exact ⟨_, rfl⟩

@[simp] theorem releaseClaim_power (s : State) :
    (releaseClaim s).power = { s.power with claimOut := false, txGate := false } := by
  obtain ⟨f, q, o, h⟩ := releaseClaim_only s
  rw [h]

@[simp] theorem closeBypass_power (s : State) : (closeBypass s).power = { s.power with bypassOn := true } := rfl

@[simp] theorem leaveRecovery_power (s : State) : (leaveRecovery s).power = s.power := by
  obtain ⟨x, h⟩ := leaveRecovery_only s
  rw [h]

@[simp] theorem noteUnlock_power (s : State) : (noteUnlock s).power = s.power := by
  obtain ⟨x, h⟩ := noteUnlock_only s
  rw [h]

/-- What the reset of all islands except AON leaves of the supply record: BOOT with the bypass on, the rails down, no claim,
the cause and the state it left (R22, R321). -/
theorem resetIslands_power (s : State) (cause : Nat) (keepDram : Bool) :
    (resetIslands s cause keepDram).power = { s.power with
      degraded := 0#32, claimOut := false, txGate := false, profileDue := none, retireArmed := none, pasHeld := false
      pasWait := [], thermForced := false, coolSince := none, vioLimit := false, clockLock := 0#32, bypassOn := true
      dev := .boot, startCause := causeFrom s.power.dev cause, latchedState := s.power.dev, rails := false } := by
  simp [resetIslands, islandReset]

end Sys2Proof.Laws
end

