-- ==== Sys2Proof/WellFormed.lean ====
section
/-! DEFINITION. Well-formed commands: every operand lies in the width and range the spec's tables give its field. The
meanings answer for every operand; this file says which operands a sender can spell. -/

namespace Sys2Proof

/-- A number fits a field of `w` bits. -/
def fits (w n : Nat) : Bool := n < 2 ^ w

/-- A number lies from `a` to `b`. -/
def within (a b n : Nat) : Bool := a ≤ n && n ≤ b

/-- A band-sector subindex: 1 to 4 M, 5 to 8 H, 9 L (R33). -/
def bandSectorOk (n : Nat) : Bool := within 1 9 n

/-- A node handle has its upper three bits zero, or is 0xFFFFFFFF (R4). -/
def handleFits (n : Nat) : Bool := n < 2 ^ 29 || n = 0xFFFFFFFF

/-- A field of exactly `n` octets. -/
def sized (n : Nat) (v : Octets) : Bool := v.length = n

/-- A field of at most `n` octets. -/
def atMost (n : Nat) (v : Octets) : Bool := v.length ≤ n

/-- A transport endpoint: a code of Table 14-8, a UDP port. -/
def endpointOk (e : Endpoint) : Bool := e.transport < 7 && fits 16 e.port

/-- A caller: SID 1 to 8, an endpoint, or a TID. -/
def callerOk : Caller → Bool
  | .session sid => within 1 8 sid
  | .endpoint e => endpointOk e
  | .mailbox tid => fits 8 tid

/-- What a correlator unit declares: a band-sector, a bin number of 16 bits, a mode code of 16 bits (R37). -/
def detectionOk (d : Detection) : Bool := bandSectorOk d.bandSector && fits 16 d.firstBin && fits 16 d.mode

/-- A received air frame: fields as wide as the MAC header and the lane descriptor give them (Table 6-1). -/
def airFrameOk (f : AirFrame) : Bool :=
  bandSectorOk f.bandSector && f.lane < 128 && fits 2 f.version && fits 3 f.level && fits 2 f.keyMode && fits 8 f.keyIndex &&
    atMost 8 f.dest && atMost 8 f.source && fits 8 f.seq && fits 32 f.counter && f.startNs ≤ f.endNs

/-- A received acknowledgement: sequence number of 8 bits, counter of 32 bits (R146). -/
def ackFrameOk (a : AckFrame) : Bool := fits 8 a.seq && fits 32 a.counter

/-- A Join Request: two EUI-64, a 32-bit counter, a band-sector, a 40-bit ASN (Table 6-8). -/
def joinRequestOk (r : JoinRequest) : Bool :=
  sized 8 r.eui && sized 8 r.homeEui && fits 32 r.counter && bandSectorOk r.bandSector && fits 40 r.asn

/-- Where a packet enters: a band-sector, ETH0 or ETH1, a queue port of a sett port, LSF (R201). -/
def ingressOk : Ingress → Bool
  | .air bs => bandSectorOk bs
  | .eth p => p < 2
  | .sett p => within 11 14 p
  | .ctl => true

/-- A packet: addresses of 16 octets or none, DSCP of 6 bits, class 0 to 7, hop limit of 8 bits. -/
def packetOk (p : Packet) : Bool :=
  ingressOk p.ingress && (p.src.isEmpty || sized 16 p.src) && (p.dst.isEmpty || sized 16 p.dst) && fits 6 p.dscp &&
    fits 3 p.cls && fits 8 p.hopLimit

/-- A sett frame: TYPE of 4 bits, class of 3, TTL of 4, chip indices of 12 or the broadcast one of 16 (Table 11-2). -/
def settFrameOk (f : SettFrame) : Bool :=
  fits 4 f.typ && fits 3 f.cls && fits 4 f.ttl && fits 16 f.destChip && fits 16 f.srcChip && fits 16 f.origChip &&
    fits 32 f.srcHandle && fits 32 f.senderFc

/-- A CENSUS payload: two EUI-64, indices of 16 bits, CENSUS_NO of 32 (Table 11-4). -/
def censusOk (c : Census) : Bool :=
  sized 8 c.deviceEui && sized 8 c.meshEui && fits 16 c.chipIndex && fits 16 c.pairIndex && fits 16 c.master &&
    fits 32 c.censusNo

/-- A JACK payload: JSEQs of 32 bits, an ASN of 40, a slot of 6, loopback results of 9 (Table 11-8). -/
def jackOk (j : Jack) : Bool :=
  fits 32 j.received && fits 32 j.applied && fits 40 j.completedAsn && fits 8 j.keySlot && fits 32 j.keyCounter &&
    fits 9 j.loopback

/-- A request to a cipher engine: an op of Table 9-1, a key of 128 or 256 bits (R234). -/
def requestOk (r : CipherRequest) : Bool := within 1 10 r.op && (r.keyBits = 128 || r.keyBits = 256) && fits 32 r.counter

/-- A well-formed command. -/
def wellFormed : Instr → Bool
  | .vinRise => true
  | .powerFailDetection => true
  | .vbatRise => true
  | .vbatFall => true
  | .rstNLow _ => true
  | .rstNRise => true
  | .startInstant => true
  | .bootHedgehogSample _ => true
  | .bankVerifyDone => true
  | .loadEnd _ => true
  | .bypassRelease => true
  | .fatalToRoleFault => true
  | .enterMaintenance who => callerOk who
  | .resume who => callerOk who
  | .retire who => callerOk who
  | .thermalReading _ => true
  | .thermalRestoreTimer => true
  | .profileChangeEffective => true
  | .fifoWriteUnit fifo lane unit _ _ => fits 6 fifo && lane < 128 && atMost 16 unit
  | .fifoReadWord fifo _ => fits 6 fifo
  | .fifoFlushRequest fifo => fits 6 fifo
  | .fifoFlushTimeout fifo => fits 6 fifo
  | .memoryError memory _ _ => memory < 14
  | .correlatorDetection d => detectionOk d
  | .laneDetectionPoint lane _ => lane < 128
  | .diversityWindowClose lane _ _ => lane < 128
  | .sfdFound lane _ _ => lane < 128
  | .sfdTimeout lane => lane < 128
  | .phrCheck lane _ => lane < 128
  | .payloadEnd lane _ _ _ _ => lane < 128
  | .laneTestTurn => true
  | .laneTestResult lane _ _ => lane < 128
  | .laneHourlyRetest lane _ => lane < 128
  | .gainAnnounce bandSector _ _ _ _ => bandSectorOk bandSector
  | .slotBoundary _ _ => true
  | .noiseFloorPublish => true
  | .nfCursorWrite who value => callerOk who && fits 32 value
  | .rxCountersClear who => callerOk who
  | .txMaskWrite who _ _ value => callerOk who && atMost 65535 value
  | .maskCapture bandSector _ => bandSectorOk bandSector
  | .blRecompute handle _ => handleFits handle
  | .mapIeRx handle _ _ _ _ => handleFits handle
  | .mapAckRx handle _ _ _ => handleFits handle
  | .mapActivateSlot handle _ => handleFits handle
  | .capabilityIeRx handle _ => handleFits handle
  | .modemCountersClear who => callerOk who
  | .txRetune bandSector => bandSectorOk bandSector
  | .txCommand bandSector => bandSectorOk bandSector
  | .lockDeadline bandSector _ _ => bandSectorOk bandSector
  | .xpaEnRise bandSector => bandSectorOk bandSector
  | .gntLbtSample bandSector _ _ => bandSectorOk bandSector
  | .xpaTxonRise bandSector => bandSectorOk bandSector
  | .paRampUp bandSector => bandSectorOk bandSector
  | .powerLoopCorrection bandSector _ _ => bandSectorOk bandSector
  | .frameEndRampDown bandSector vswr => bandSectorOk bandSector && fits 16 vswr
  | .xpaEnFall bandSector => bandSectorOk bandSector
  | .reflectedPowerTrip bandSector vswr => bandSectorOk bandSector && fits 16 vswr
  | .synthLossOfLock bandSector => bandSectorOk bandSector
  | .gntWithdrawn coex => coex < 4
  | .calibrationStart bandSector calibration => bandSectorOk bandSector && fits 3 calibration
  | .calibrationDone bandSector => bandSectorOk bandSector
  | .calMaxWaitExpiry bandSector calibration => bandSectorOk bandSector && fits 3 calibration
  | .tunerRestore who port => callerOk who && within 1 9 port
  | .regionProfileWrite who record => callerOk who && sized 556 record
  | .regionCommission who value => callerOk who && fits 8 value
  | .regionRecommission who message => callerOk who && sized 632 message
  | .dutyBucketTick => true
  | .dwellBucketTick => true
  | .dutyMinutePersist => true
  | .txCountersClear who => callerOk who
  | .timeSourceEvent entry _ _ bandSector => entry < 4 && bandSectorOk bandSector
  | .timeSourceMiss entry => entry < 4
  | .timeStateChange => true
  | .timeRootTimer => true
  | .unacquiredReportTimer => true
  | .guardCapReached _ => true
  | .timePersist => true
  | .ppsOutPulse => true
  | .ptpSyncTx port => port < 2
  | .lookaheadResolved bandSector asn => bandSectorOk bandSector && fits 40 asn
  | .queueLatch bandSector => bandSectorOk bandSector
  | .secureDeadline bandSector _ => bandSectorOk bandSector
  | .schedCellWrite who => callerOk who
  | .schedCellRead who => callerOk who
  | .schedCellClear who => callerOk who
  | .schedCellBlockWrite who block => callerOk who && sized 1024 block
  | .scheduleTableWrite who index sub value => callerOk who && fits 16 index && fits 8 sub && atMost 65535 value
  | .sectorServiceWrite who bandSector value => callerOk who && bandSectorOk bandSector && fits 8 value
  | .schedCountersClear who => callerOk who
  | .ackRx bandSector a => bandSectorOk bandSector && ackFrameOk a
  | .ackWindowClose bandSector => bandSectorOk bandSector
  | .airRxJob f => airFrameOk f
  | .ackDecisionDeadline bandSector => bandSectorOk bandSector
  | .joinRequestRx r => joinRequestOk r
  | .joinConfirmRx eui counter _ _ => sized 8 eui && fits 32 counter
  | .joinConfirmTimeout handle => handleFits handle
  | .joinApprove who handle approve => callerOk who && handleFits handle && fits 8 approve
  | .departureIeRx handle counter cause => handleFits handle && fits 32 counter && fits 8 cause
  | .nodeTimeoutExpiry handle => handleFits handle
  | .nodeDepart who handle => callerOk who && handleFits handle
  | .nodeLookup who eui => callerOk who && sized 8 eui
  | .peerAnnouncementTx => true
  | .peerMessageRx message => atMost 65535 message
  | .peerAnnouncementMiss chip => fits 12 chip
  | .linkCountersClear who => callerOk who
  | .queueAdmission _ _ => true
  | .cutThroughAdmission _ => true
  | .wiredEgressSelect port => within 9 14 port
  | .cutThroughUnderrun port _ => within 9 14 port
  | .queueFlush who queue => callerOk who && fits 32 queue
  | .shaperCfgWrite who config => callerOk who && sized 20 config
  | .gateWrite who _ sub _ => callerOk who && within 1 9 sub
  | .gateCycleStart port => port < 11
  | .queueCountersClear who => callerOk who
  | .forwardPacket p => packetOk p
  | .reassemblyTimeout _ tag size => fits 16 tag && fits 11 size
  | .learnInsert => true
  | .daoRx target parent sender _ => handleFits target && handleFits parent && handleFits sender
  | .disRx source => sized 16 source
  | .dioTrickleTimer => true
  | .sweepVisit bucket => fits 17 bucket
  | .updatePortHitCycle bucket => fits 17 bucket
  | .updatePortStructuralCycle => true
  | .shadowCheck _ _ _ => true
  | .tableInsert who => callerOk who
  | .tableUpdate who => callerOk who
  | .tableDelete who => callerOk who
  | .tableReadKey who => callerOk who
  | .tableReadLoc who => callerOk who
  | .tableConfirm who => callerOk who
  | .routeAdd who => callerOk who
  | .routeDel who => callerOk who
  | .routeRead who => callerOk who
  | .routeLookup who => callerOk who
  | .nhWrite who => callerOk who
  | .nhRead who => callerOk who
  | .fwdCountersClear who => callerOk who
  | .cipherJobStart engine r => engine < 2 && requestOk r
  | .cipherJobComplete engine _ => engine < 2
  | .ceSelftestTurn => true
  | .ceSelftestDone engine _ _ _ _ => engine < 2
  | .ceSelftestNow who engine => callerOk who && fits 8 engine
  | .ceHourlyRetest engine _ => engine < 2
  | .loneEngineSlice engine _ => engine < 2
  | .macsecFrameTx port _ => port < 2
  | .macsecFrameRx port an _ _ _ => port < 2 && an < 4
  | .ceCountersClear who => callerOk who
  | .keyUpdate who message => callerOk who && sized 71 message
  | .keyUpdateCommit slot => fits 6 slot
  | .keyUpdatePartnerTimeout slot => fits 6 slot
  | .keyCacheFlush who => callerOk who
  | .keyResolve reference => sized 20 reference
  | .seedModeWrite who value => callerOk who && fits 8 value
  | .hedgehogSample _ => true
  | .zeroizeCmd who value => callerOk who && fits 8 value
  | .zeroizeOverwriteDone => true
  | .settPortUp port => within 1 4 port
  | .settPortDown port => within 1 4 port
  | .settFrameRx port f => within 1 4 port && settFrameOk f
  | .settAbortRx port => within 1 4 port
  | .censusTx => true
  | .censusRx port hops c => within 1 4 port && fits 8 hops && censusOk c
  | .censusMiss chip => fits 12 chip
  | .linkDelayRequest port => within 1 4 port
  | .linkFrameRx port _ _ => within 1 4 port
  | .markTx => true
  | .markRx port hops master markNo _ => within 1 4 port && fits 8 hops && fits 16 master && fits 32 markNo
  | .claimBackoffExpire => true
  | .partnerClaimSeen => true
  | .partnerClaimWithdrawn => true
  | .interlockFaultClear => true
  | .journalFrameSend => true
  | .journalFrameRx _ _ => true
  | .jackRx j => jackOk j
  | .partnerMiss => true
  | .digestPassEnd => true
  | .twinSwapNow who value => callerOk who && fits 8 value
  | .twinSwapPeriodExpiry => true
  | .swapSlotStart => true
  | .swapSearchTimeout => true
  | .snapshotRequest => true
  | .snapshotFrameRx chunkNo region offset data _ => fits 32 chunkNo && fits 8 region && fits 32 offset &&
      atMost 8176 data
  | .twinResync who value => callerOk who && fits 8 value
  | .seqRestart who bandSector => callerOk who && fits 8 bandSector
  | .sequencerWatchdogExpiry bandSector => bandSectorOk bandSector
  | .sequencerRestartBoundary bandSector => bandSectorOk bandSector
  | .sequencerResume bandSector => bandSectorOk bandSector
  | .dramScrubPass _ _ => true
  | .rfLoopbackTest bandSector _ => bandSectorOk bandSector
  | .settCountersClear who => callerOk who
  | .updateDataWrite who _ => callerOk who
  | .updateApply who => callerOk who
  | .updateAbort who => callerOk who
  | .updateClearBuffer who => callerOk who
  | .ue0BlockBuilt => true
  | .updateFinalVerify => true
  | .updateResume => true
  | .bankSwitch who => callerOk who
  | .bankConfirm who => callerOk who
  | .bankRollback who => callerOk who
  | .bankRestart who => callerOk who
  | .bankTrialTimeExpiry => true
  | .commit who value => callerOk who && fits 32 value
  | .commitComplete => true
  | .configSelect who value => callerOk who && fits 8 value
  | .recoveryHello seq => fits 8 seq
  | .recoveryBaud seq rate => fits 8 seq && fits 32 rate
  | .recoverySelect seq bank => fits 8 seq && fits 8 bank
  | .recoveryWrite seq offset data => fits 8 seq && fits 32 offset && atMost 4096 data
  | .recoveryVerify seq => fits 8 seq
  | .recoveryBoot seq => fits 8 seq
  | .recoveryIdleTimeout => true
  | .stageDataWrite who slot data => callerOk who && within 1 8 slot && atMost 4096 data
  | .stageVerifyEncode who slot => callerOk who && within 1 8 slot
  | .stageClear who slot => callerOk who && within 1 8 slot
  | .stageEncodeDone slot => within 1 8 slot
  | .campaignCfgWrite who campaign cfg => callerOk who && within 1 8 campaign && atMost 255 cfg
  | .campaignStart who campaign => callerOk who && within 1 8 campaign
  | .campaignPause who campaign => callerOk who && within 1 8 campaign
  | .campaignResume who campaign => callerOk who && within 1 8 campaign
  | .campaignCancel who campaign => callerOk who && within 1 8 campaign
  | .campaignActivate who campaign => callerOk who && within 1 8 campaign
  | .campaignClear who campaign => callerOk who && within 1 8 campaign
  | .campaignFrameGenerate bandSector campaign => bandSectorOk bandSector && within 1 8 campaign
  | .campaignReportRx handle _ => handleFits handle
  | .campaignPassEnd slotframe => slotframe < 16
  | .campaignEndAsnReached campaign => within 1 8 campaign
  | .campaignActivateAsnReached campaign => within 1 8 campaign
  | .campaignActivatingTimeout campaign => within 1 8 campaign
  | .threadCreate core addr => fits 2 core && fits 64 addr
  | .threadExit core => fits 2 core
  | .threadYield core => fits 2 core
  | .threadBlock core mask => fits 2 core && fits 16 mask
  | .flagsSet core value => fits 2 core && fits 64 value
  | .flagsTake core => fits 2 core
  | .timerSet core time => fits 2 core && fits 64 time
  | .threadTimerExpiry tid => fits 8 tid
  | .threadPrioWrite core prio => fits 2 core && fits 8 prio
  | .dtimeRead core => fits 2 core
  | .randomRead core => fits 2 core
  | .apqTake core queue addr => fits 2 core && fits 8 queue && fits 64 addr
  | .enqSubmit core addr => fits 2 core && fits 64 addr
  | .mailboxSecSubmit core addr => fits 2 core && fits 64 addr
  | .mailboxOdSubmit core addr => fits 2 core && fits 64 addr
  | .mailboxEvtSubmit core addr => fits 2 core && fits 64 addr
  | .mailboxComplete _ => true
  | .wakeSourceRaise tid source => fits 8 tid && fits 4 source
  | .sliceExpire core => fits 2 core
  | .threadException core mcause pc => fits 2 core && fits 64 mcause && fits 64 pc
  | .threadSuspend who tid => callerOk who && fits 8 tid
  | .threadResume who tid => callerOk who && fits 8 tid
  | .threadKill who tid => callerOk who && fits 8 tid
  | .threadPriorityCmd who tid prio => callerOk who && fits 8 tid && fits 8 prio
  | .threadAffinityCmd who tid mask => callerOk who && fits 8 tid && fits 8 mask
  | .appRestart who value => callerOk who && fits 8 value
  | .schedObsWrite who value => callerOk who && fits 8 value
  | .traceCursorWrite who value => callerOk who && fits 32 value
  | .statWindowEnd => true
  | .sopFrameCheck => true
  | .sopRead who seq items => callerOk who && fits 32 seq && items.length ≤ 16
  | .sopWrite who seq items => callerOk who && fits 32 seq && items.length ≤ 16
  | .sopSegReadStart who seq index sub => callerOk who && fits 32 seq && fits 16 index && fits 8 sub
  | .sopSegRead who seq offset most => callerOk who && fits 32 seq && fits 32 offset && fits 16 most
  | .sopSegWriteStart who seq index sub total => callerOk who && fits 32 seq && fits 16 index && fits 8 sub &&
      fits 32 total
  | .sopSegWrite who seq offset data => callerOk who && fits 32 seq && fits 32 offset && atMost 65535 data
  | .segTransferIdleTimeout who => callerOk who
  | .sopExecute who seq writes reads => callerOk who && fits 32 seq && writes.length ≤ 8 && reads.length ≤ 8
  | .executeCompletion who => callerOk who
  | .executeTimeout who => callerOk who
  | .sopSubscribe who seq index sub mode interval => callerOk who && fits 32 seq && fits 16 index &&
      fits 8 sub && fits 8 mode && fits 16 interval
  | .sopUnsubscribe who seq subId => callerOk who && fits 32 seq && fits 8 subId
  | .notifyInterval who subId => callerOk who && fits 8 subId
  | .sopOpen e seq role method hostNonce => endpointOk e && fits 32 seq && fits 8 role && fits 8 method &&
      sized 16 hostNonce
  | .sopAuth sid seq signature tag => within 1 8 sid && fits 32 seq && atMost 64 signature && atMost 8 tag
  | .sopClose sid seq => within 1 8 sid && fits 32 seq
  | .halfOpenTimeout sid => within 1 8 sid
  | .sessionIdleTimeout sid => within 1 8 sid
  | .authLockoutExpire transport => transport < 7
  | .sessionClose who sid => callerOk who && fits 8 sid
  | .canFrameRx bus id data => bus < 2 && fits 29 id && atMost 64 data
  | .canAssemblyTimeout bus host => bus < 2 && within 1 127 host
  | .canDominantTimeout bus => bus < 2
  | .udpSopDatagramRx ingress source port dest destPort _ _ => ingress < 4 && sized 16 source &&
      fits 16 port && sized 16 dest && fits 16 destPort
  | .mb0H2cLenWrite length buffer => fits 32 length && atMost 8192 buffer
  | .mb0C2hAckWrite => true
  | .mb0NtfTailWrite tail => fits 32 tail
  | .spiWriteFrame frame => atMost 65535 frame
  | .spiReadFrame => true
  | .spiStatus => true
  | .spiRecoveryWrite frame => atMost 65535 frame
  | .spiRecoveryRead => true
  | .spiRecoveryRequest data => atMost 2 data
  | .sopCountersClear who => callerOk who
  | .objectWrite who index sub value => callerOk who && fits 16 index && fits 8 sub && atMost 65535 value
  | .surveyPeriodEnd _ => true
  | .surveyCursorWrite who value => callerOk who && fits 32 value
  | .nfHistoryHourly => true
  | .nfHistoryCursorWrite who value => callerOk who && fits 32 value
  | .rangeRequest who handle k => callerOk who && handleFits handle && fits 8 k
  | .rangingCell bandSector _ _ _ => bandSectorOk bandSector
  | .rangeReportRx handle _ => handleFits handle
  | .supplySample vin vbat vioOut core power => fits 16 vin && fits 16 vbat && fits 16 vioOut &&
      fits 16 core && fits 32 power
  | .temperatureSample temps => temps.length = 6
  | .ainSample channel _ => channel < 8
  | .evtCursorWrite who value => callerOk who && fits 32 value
  | .evtMarkWrite who value => callerOk who && fits 32 value
  | .evtRewind who value => callerOk who && fits 8 value
  | .evtClear who value => callerOk who && fits 8 value
  | .evtCodeCursorWrite who value => callerOk who && fits 16 value
  | .ptraceCfgWrite who value => callerOk who && atMost 65535 value
  | .ptraceCursorWrite who value => callerOk who && fits 32 value
  | .debugRead frame => fits 48 frame
  | .debugWrite frame => fits 48 frame
  | .debugSelect frame => fits 48 frame
  | .debugIdle frame => fits 48 frame
  | .debugTransportReset => true
  | .debugChallengeRead frame => fits 48 frame
  | .debugResponseSubmit frame => fits 48 frame
  | .debugAuthLock frame => fits 48 frame
  | .debugUnlockExpiry => true
  | .debugLock who value => callerOk who && fits 8 value
  | .timeSlewComplete => true
  | .ptpDelayRequestRx port requester _ => port < 2 && sized 10 requester
  | .neighborDiscoveryRx address mac port => sized 16 address && sized 6 mac && port < 16
  | .vioOutCurrentLimit _ => true

end Sys2Proof
end

