-- ==== Sys2Proof/Tests/Slice0.lean ====
section
/-! SUPPORT. Tests. For each obligation with premises, one theorem `witness_<Name>` shows for each of its clauses a state and
operands that meet the clause's premises; then the smoke test of WellFormed, and examples the spec works out. -/

namespace Sys2Proof.Tests

set_option Elab.async false

open Sys2Proof Sys2Proof.Machine

/-- A session open on CAN 0 in a role. -/
def sessionOf (role : Nat) : Session :=
  { endpoint := ⟨0, [], 0⟩, role := role, method := if role = 1 then 0 else 1, half := false, activeAt := 0,
    hostNonce := [], chipNonce := [], key := [], slot := 0, lastSeq := none, response := none, views := {} }

/-- A chip in FIELD, supplied, in a device state, 200 s after power-up, its time locked, with sessions of the roles 1 to 3. -/
def chip (d : DevState) : State :=
  { State.reset with
    now := 200000000000
    power := { dev := d, lifecycle := .field, vin := true, vbat := true, rails := true, aonValid := true,
               txGate := true, claimOut := true, bypassOn := false }
    time := { mode := .locked }
    image := { outcome := 1, lockedOutcome := 1 }
    sop := { sessions := [(1, sessionOf 1), (2, sessionOf 2), (3, sessionOf 3)] } }

/-- The chip with the region profile of base profile 0x0101, which enables the bands. -/
def radio (d : DevState) : State := setObj (chip d) 0x2300 0 (euProfile 0x0101)

/-- The handle of local node 5 of chip 1. -/
def nodeH : Nat := 131077

/-- Chip 1 with node 5 in a given condition. -/
def withNode (d : DevState) (n : Node) : State :=
  { setObj (radio d) 0x9000 0 (beOctets 2 1) with link := { nodes := [(5, n)] } }

/-- The chip with a transmission in hand on a band-sector. -/
def withPlan (bs : Nat) (p : TxPlan) : State := { radio .active with front := { chains := [(bs, { plan := some p })] } }

/-- A command passes its checks on a chip whose CC0 runs. -/
def canRun (s : State) (who : Caller) (idx sub : Nat) (v : Octets) (rule : State → Nat) : Bool :=
  !lsfStopped s && commandStatus s who idx sub v rule = 0

/-- A caller without an open session. -/
def stranger : Caller := .session 8

/-- Every command of a caller without an open session meets the premises of the refusing clause of `runsAs`. -/
theorem witness_refused (idx sub : Nat) (v : Octets) (rule : State → Nat) :
    lsfStopped (chip .active) = false ∧ commandStatus (chip .active) stranger idx sub v rule ≠ 0 :=
  ⟨by decide, show stSession ≠ 0 by decide⟩
/-- The key partition with a key in slot 1: its commit word, and a half of 64 octets with the wrapped key `w` and the code `c`. -/
def slotCells (w c : Octets) : Memory :=
  [(0x108, 4), (0x10F, 1), (0x1080, 4), (0x1087, 1)] ++ (List.range 24).map (fun i => (0x1088 + i, w.getD i 0)) ++
    (List.range 16).map (fun i => (0x10B0 + i, c.getD i 0))

/-- The first 48 octets of that half. -/
def halfHead (w : Octets) : Octets := [4, 0, 0, 0, 0, 0, 0, 1] ++ w ++ zeros 16

/-- The chip with a key in slot 1. -/
def keyed (d : DevState) (kek w : Octets) : State :=
  { chip d with keys := { kek := some kek, partition := slotCells w (cmac (Config.integrityOf kek) (halfHead w)) } }

theorem octets_of_length (n : Nat) (l : Octets) (h : l.length = n) : (List.range n).map (fun i => l.getD i 0) = l := by
  apply List.ext_getElem
  · simp [h]
  · intro i h1 h2
    simp [h2]

theorem half_cells (w c : Octets) : (slotCells w c).readAll 0x1080 64 =
    [4, 0, 0, 0, 0, 0, 0, 1] ++ (List.range 24).map (fun i => w.getD i 0) ++ zeros 16 ++
      (List.range 16).map (fun i => c.getD i 0) := by
  rfl

theorem word_cells (w c : Octets) : beNat ((slotCells w c).readAll 0x108 8) = 2 ^ 58 + 1 := by
  have h : (slotCells w c).readAll 0x108 8 = [4, 0, 0, 0, 0, 0, 0, 1] := by rfl
  rw [h]
  decide

/-- Slot 1 of that chip holds what the wrapped key unwraps to. -/
theorem keyed_slot (d : DevState) (kek w v : Octets) (hw : w.length = 24)
    (hu : keyUnwrap kek w = some v) : slotValue (keyed d kek w) 1 = some v := by
  have hc := octets_of_length 16 (cmac (Config.integrityOf kek) (halfHead w)) (Laws.cmac_length _ _)
  have hl : (halfHead w).length = 48 := by simp [halfHead, hw, zeros]
  have hh : slotHalf (keyed d kek w) 1 0 = halfHead w ++ cmac (Config.integrityOf kek) (halfHead w) := by
    show (slotCells w _).readAll 0x1080 64 = _
    rw [half_cells, octets_of_length 24 w hw, hc, halfHead]
  have ht : (slotHalf (keyed d kek w) 1 0).take 48 = halfHead w := by rw [hh, ← hl, List.take_left]
  have hd : (slotHalf (keyed d kek w) 1 0).drop 48 = cmac (Config.integrityOf kek) (halfHead w) := by
    rw [hh, ← hl, List.drop_left]
  have b : commitWord (keyed d kek w) 1 = 2 ^ 58 + 1 := word_cells w _
  have e : slotEmpty (keyed d kek w) 1 = false := by rw [slotEmpty, wordValid, b]; decide
  have f : halfInForce (keyed d kek w) 1 = 0 := by rw [halfInForce, wordValid, b]; decide
  have g : slotCounter (keyed d kek w) 1 = 1 := by rw [slotCounter, wordValid, b]; decide
  have a1 : fieldOf (slotHalf (keyed d kek w) 1 0) 0 1 = 4 := by rw [hh]; rfl
  have a2 : fieldOf (slotHalf (keyed d kek w) 1 0) 1 1 = 0 := by rw [hh]; rfl
  have a3 : fieldOf (slotHalf (keyed d kek w) 1 0) 4 4 = 1 := by rw [hh]; rfl
  have a4 : sliceOf (slotHalf (keyed d kek w) 1 0) 8 24 = w := by
    rw [hh]
    simp [halfHead, sliceOf, ← hw]
  have k : (keyed d kek w).keys.kek = some kek := rfl
  simp [slotValue, e, halfValue, k, f, a1, a2, a3, g, ht, hd, a4, hu, bitsOf, bitOf]

/-- A key of zeros as the KEK of zeros wraps it. -/
def wrapped : Octets := beOctets 24 0xb595a1c0afbe7a89ce43807cb3b2ba5737ff5d71d0a35cd7

theorem wrapped_length : wrapped.length = 24 := by decide

/-- The chip with that key in slot 1. -/
def keyedChip (d : DevState) : State := keyed d (zeros 32) wrapped

theorem keyedChip_slot (d : DevState) : slotValue (keyedChip d) 1 = some (zeros 16) :=
  keyed_slot d (zeros 32) wrapped (zeros 16) wrapped_length (by decide +kernel)

theorem witness_StepRunsTheFrontCommand :
    (∃ (c : Instr) (rest : List Instr) (s : State), s.pending = c :: rest) :=
  ⟨.vinRise, [], { State.reset with pending := [.vinRise] }, by decide⟩

theorem witness_EmptyQueueIdles :
    (∃ (s : State), s.pending = []) :=
  ⟨State.reset, by decide⟩

theorem witness_StepKeepsTheChipSound :
    (∃ (s : State) (t : State), Sound s ∧ step s = .next t) :=
  ⟨chip .active, { chip .active with now := 200000000001 }, by refine ⟨?_, ?_, ?_, ?_, ?_, ?_⟩ <;> decide, rfl⟩

theorem witness_OnlyAnActiveChipTransmits :
    (∃ (c : Instr) (s : State) (t : State), exec c s = .next t) :=
  ⟨.timePersist, State.reset, State.reset, rfl⟩

theorem witness_LifecycleNeverGoesBack :
    (∃ (c : Instr) (s : State) (t : State), exec c s = .next t) :=
  ⟨.timePersist, State.reset, State.reset, rfl⟩

theorem witness_OnlySupplyAndResetLeaveRest :
    (∃ (c : Instr) (s : State) (t : State), exec c s = .next t ∧ supplyCommand c = false ∧ atRest s.power.dev = true) :=
  ⟨.timePersist, State.reset, State.reset, rfl, by decide⟩

theorem witness_CommandsLeaveQueueAndClock :
    (∃ (c : Instr) (s : State) (t : State), exec c s = .next t) :=
  ⟨.timePersist, State.reset, State.reset, rfl⟩

theorem witness_OtherCommandsKeepTheStanding :
    (∃ (c : Instr) (s : State) (t : State), exec c s = .next t ∧ supplyCommand c = false ∧ roleCommand c = false) :=
  ⟨.timePersist, State.reset, State.reset, rfl, by decide⟩

theorem witness_SupplyEdgesMoveTheChip :
    (∃ (s : State), s.power.vin = false ∧ s.power.rstLow = false) ∧
    (∃ (s : State), s.power.vin = false ∧ s.power.rstLow = true) ∧
    (∃ (s : State), s.power.vin = true ∧ aonOnly s.power.dev = false) ∧
    (∃ (s : State), s.power.dev = .off ∧ s.power.vin = false) ∧
    (∃ (s : State), s.power.dev = .dormant ∧ s.power.vin = false) :=
  ⟨⟨State.reset, by decide⟩,
   ⟨{ State.reset with power := { State.reset.power with rstLow := true } }, by decide⟩,
   ⟨chip .active, by decide⟩,
   ⟨State.reset, by decide⟩,
   ⟨{ State.reset with power := { State.reset.power with dev := .dormant, vbat := true, aonValid := true } }, by decide⟩⟩

theorem witness_ResetPinAndStartInstant :
    (∃ (w : Nat), w < 1000) ∧
    (∃ (s : State) (w : Nat), 10000 ≤ w ∧ aonOnly s.power.dev = false) ∧
    (∃ (s : State) (w : Nat), 10000 ≤ w ∧ aonOnly s.power.dev = true) ∧
    (∃ (s : State), s.power.rstLow = true ∧ s.power.vin = true ∧ aonOnly s.power.dev = true) ∧
    (∃ (s : State), s.power.rstLow = true ∧ (s.power.vin = false ∨ aonOnly s.power.dev = false)) ∧
    (∃ (s : State), s.power.dev = .boot ∧ s.power.vin = true ∧ s.power.rstLow = false ∧ s.power.thermReset = false ∧
      s.power.rails = false) ∧
    (∃ (s : State) (mA : Nat), s.power.vioOut = true ∧ 300 < mA) ∧
    (∃ (s : State) (mA : Nat), s.power.vioOut = true ∧ mA ≤ 200) :=
  ⟨⟨999, by decide⟩,
   ⟨chip .active, 10000, by decide⟩,
   ⟨State.reset, 10000, by decide⟩,
   ⟨{ State.reset with power := { State.reset.power with vin := true, rstLow := true } }, by decide⟩,
   ⟨{ State.reset with power := { State.reset.power with rstLow := true } }, by decide⟩,
   ⟨{ State.reset with power := { State.reset.power with dev := .boot, vin := true } }, by decide⟩,
   ⟨{ State.reset with power := { State.reset.power with vioOut := true } }, 301, by decide⟩,
   ⟨{ State.reset with power := { State.reset.power with vioOut := true } }, 200, by decide⟩⟩

/-- A sample of the tamper sources with nothing wrong, at 20.0 degree C. -/
def calm : TamperSample := ⟨false, false, false, false, false, 200⟩

/-- A bank whose header names two segments of the same octets with different digests: one of them fails. -/
def twoSegments : Bank := { factory := false, mem := [(7, 2), (64 + 24 + 16, 1)] }

theorem twoSegments_fails : segmentsLoad { chip .load with image := { bankA := twoSegments } } = false := by
  decide +kernel

/-- The chip in BOOT after OWL's first sample. -/
def booted (f : Image → Image) : State := { chip .boot with image := f { sampled := true } }


theorem witness_StartTakesItsBranch :
    (∃ (s : State) (x : TamperSample), s.power.dev = .boot ∧ s.power.rails = true ∧ s.image.sampled = false ∧
      (alarmMask (countSample s x) ≠ 0 ∨ s.keys.zeroizeFlag = true ∨ zeroizePending s = true ∨
      s.power.lifecycle = .retired)) ∧
    (∃ (s : State) (x : TamperSample), s.power.dev = .boot ∧ s.power.rails = true ∧ s.image.sampled = false ∧
      alarmMask (countSample s x) = 0 ∧ s.keys.zeroizeFlag = false ∧ zeroizePending s = false ∧
      s.power.lifecycle ≠ .retired) ∧
    (∃ (s : State), s.power.dev = .boot ∧ s.power.rails = true ∧ s.image.sampled = true ∧ s.image.spiRequest = true) ∧
    (∃ (s : State), s.power.dev = .boot ∧ s.power.rails = true ∧ s.image.sampled = true ∧ s.image.spiRequest = false ∧
      s.image.recSample = true ∧ s.power.recRx = false) ∧
    (∃ (s : State), s.power.dev = .boot ∧ s.power.rails = true ∧ s.image.sampled = true ∧ s.image.spiRequest = false ∧
      (s.image.recSample = false ∨ s.power.recRx = true) ∧ s.image.trial = false ∧
      s.image.bootFailed.has s.image.runBank = false ∧ bankResult s s.image.runBank = 0) ∧
    (∃ (s : State), s.power.dev = .boot ∧ s.power.rails = true ∧ s.image.sampled = true ∧ s.image.spiRequest = false ∧
      (s.image.recSample = false ∨ s.power.recRx = true) ∧ s.image.trial = false ∧
      s.image.bootFailed.has s.image.runBank = false ∧ bankResult s s.image.runBank ≠ 0 ∧
      s.image.bootFailed.has (otherBank s.image.runBank) = true) ∧
    (∃ (s : State), s.power.dev = .load ∧ s.twin.claim = .released ∧ segmentsLoad s = false) ∧
    (∃ (s : State), s.power.dev = .load ∧ s.twin.claim = .released ∧ segmentsLoad s = true) :=
  ⟨⟨{ chip .boot with keys := { zeroizeFlag := true } }, calm, by decide⟩,
   ⟨chip .boot, calm, by decide⟩,
   ⟨booted (fun i => { i with spiRequest := true }), by decide⟩,
   ⟨{ booted (fun i => { i with recSample := true }) with power := { (chip .boot).power with recRx := false } }, by decide⟩,
   ⟨booted id, by simp [booted, chip, FMap.has, FMap.find, bankResult, partResult, bankAt, bankSecVersion]⟩,
   ⟨booted (fun i => { i with minSec := 1, bankA := { factory := false }, bootFailed := [(1, 1)] }), by decide +kernel⟩,
   ⟨{ chip .load with image := { bankA := twoSegments } }, rfl, rfl, twoSegments_fails⟩,
   ⟨chip .load, by decide⟩⟩

theorem witness_BypassThermalAndProfileEvents :
    (∃ (s : State), s.power.dev = .load ∧ s.power.bypassOn = true) ∧
    (∃ (s : State), (lsfRuns s.power.dev = true ∨ s.power.dev = .recovery)) ∧
    (∃ (s : State), s.power.vin = true) ∧
    (∃ (s : State) (t : Nat), s.power.coolSince = some t ∧ s.power.thermForced = true ∧ t + 60000000000 ≤ s.now) ∧
    (∃ (s : State) (a : Nat), s.power.profileDue = some a ∧ lsfRuns s.power.dev = true ∧ a ≤ refAsn s) :=
  ⟨⟨{ chip .load with power := { (chip .load).power with bypassOn := true } }, by decide⟩,
   ⟨chip .recovery, by decide⟩,
   ⟨chip .active, by decide⟩,
   ⟨{ chip .active with power := { (chip .active).power with coolSince := some 140000000000, thermForced := true } },
    140000000000, by decide⟩,
   ⟨{ chip .active with power := { (chip .active).power with profileDue := some 20000 } }, 20000, by decide⟩⟩

/-- The chip with one crossing FIFO in a given condition. -/
def withFifo (n : Nat) (f : Fifo) : State := { chip .active with fifos := [(n, f)] }

/-- A whole word of one packet. -/
def goodWord : Octets := fifoWord (List.replicate 64 7) true true false


theorem witness_CrossingFifosAndMemoryErrors :
    (∃ (s : State) (n : Nat), n < 64 ∧ (fifoOf s n).dropToLast = false ∧ (fifoOf s n).words.length < 64) ∧
    (∃ (s : State) (n : Nat), n < 9 ∧ (fifoOf s n).dropToLast = false ∧ 64 ≤ (fifoOf s n).words.length) ∧
    (∃ (s : State) (n : Nat), 9 ≤ n ∧ n < 64 ∧ (fifoOf s n).dropToLast = false ∧ 64 ≤ (fifoOf s n).words.length) ∧
    (∃ (s : State) (n : Nat) (w : Octets) (rest : List Octets), (fifoOf s n).words = w :: rest ∧
      (fifoOf s n).skipping = false ∧ sideGood (flipBits w []) = true ∧ dataGood (flipBits w []) = true) ∧
    (∃ (s : State) (n : Nat), n < 64 ∧ (fifoOf s n).midPacket = false) ∧
    (∃ (s : State) (n : Nat), n < 64 ∧ (fifoOf s n).midPacket = true) ∧
    (∃ (s : State) (n : Nat) (t : Nat), (fifoOf s n).flushAt = some t ∧ t + 64000 ≤ s.now) ∧
    (∃ (s : State) (n : Nat) (w : Octets) (rest : List Octets), (fifoOf s n).words = w :: rest) :=
  ⟨⟨chip .active, 63, by decide⟩,
   ⟨withFifo 8 { words := List.replicate 64 goodWord }, 8, by decide +kernel⟩,
   ⟨withFifo 9 { words := List.replicate 64 goodWord }, 9, by decide +kernel⟩,
   ⟨withFifo 0 { words := [goodWord] }, 0, goodWord, [], by decide +kernel⟩,
   ⟨chip .active, 63, by decide⟩,
   ⟨withFifo 63 { midPacket := true }, 63, by decide⟩,
   ⟨withFifo 63 { midPacket := true, flushAt := some 199999936000 }, 63, 199999936000, by decide⟩,
   ⟨withFifo 0 { words := [goodWord] }, 0, goodWord, [], by decide +kernel⟩⟩

/-- The receiving chip with one lane in a given condition. -/
def withLane (n : Nat) (l : Lane) : State := { radio .active with rx := { lanes := [(n, l)] } }


theorem witness_LanesTakeAFrameThrough :
    (∃ (s : State) (d : Detection) (n : Nat), receives s d.bandSector = true ∧
      (listenSet s d.bandSector).contains ⟨d.firstBin, d.mode⟩ = true ∧
      (heldLanes (countRx s d.bandSector 0)).find? (fun p => p.2.bandSector = d.bandSector && spansMeet d.firstBin (spanOf
      d.mode) p.2.firstBin (spanOf p.2.mode)) = none ∧ mergePartner (countRx s d.bandSector 0) d = none ∧
      laneFor (countRx s d.bandSector 0) (bandOf d.bandSector) = some n) ∧
    (∃ (s : State) (n : Nat), (laneOf s n).state = .acquire) ∧
    (∃ (s : State) (n : Nat), (laneOf s n).state = .shr ∧ (laneOf s n).selected = false) ∧
    (∃ (s : State) (n : Nat), (laneOf s n).state = .shr) ∧
    (∃ (s : State) (n : Nat), (laneOf s n).state = .shr ∧ sfdDeadline (laneOf s n) ≤ s.now) ∧
    (∃ (s : State) (n : Nat) (p : PhrResult), (laneOf s n).state = .phr ∧ phrPasses s (laneOf s n) p = true) ∧
    (∃ (s : State) (n : Nat) (p : PhrResult), (laneOf s n).state = .phr ∧ phrPasses s (laneOf s n) p = false ∧
      familyOf p.mode ≠ .bl) ∧
    (∃ (s : State) (n : Nat), (laneOf s n).state = .payload) ∧
    (∃ (s : State) (n : Nat) (late : Bool), (laneOf s n).state = .payload ∧
      linkOfLane (countGood s (laneOf s n) late) (laneOf s n) = none ∧ carriesTrailer (laneOf s n).mode = false) ∧
    (∃ (s : State) (n : Nat), objN s 0x2114 0 ≠ 0 ∧ s.rx.testDue ≤ s.now ∧ nextTestLane s s.rx.testNext = some n ∧
      (laneOf s n).state = .idle) ∧
    (∃ (s : State) (n : Nat), (laneOf s n).state = .test) ∧
    (∃ (s : State) (n : Nat) (mask : Nat), (laneOf s n).state = .test ∧ mask ≠ 0 ∧ (laneOf s n).fails ≠ 0) ∧
    (∃ (s : State) (n : Nat), (laneOf s n).state = .withdrawn ∧ (laneOf s n).retestAt ≤ s.now ∧ (laneOf s n).passes < 2) ∧
    (∃ (s : State) (n : Nat), (laneOf s n).state = .withdrawn ∧ (laneOf s n).retestAt ≤ s.now ∧ 2 ≤ (laneOf s n).passes) :=
  ⟨⟨radio .active, ⟨9, false, 1, 1, 0⟩, 0, by decide +kernel⟩,
   ⟨withLane 127 { state := .acquire, bandSector := 9 }, 127, by decide⟩,
   ⟨withLane 127 { state := .shr, bandSector := 9 }, 127, by decide⟩,
   ⟨withLane 127 { state := .shr, bandSector := 9 }, 127, by decide⟩,
   ⟨withLane 0 { state := .shr, bandSector := 1, mode := 1 }, 0, by decide +kernel⟩,
   ⟨withLane 0 { state := .phr, bandSector := 1, mode := 0x20 }, 0, ⟨true, 127, 0x20, 0, 0, 0, false⟩, by decide +kernel⟩,
   ⟨withLane 0 { state := .phr, bandSector := 1, mode := 0x20 }, 0, ⟨true, 128, 0x20, 0, 0, 0, false⟩, by decide +kernel⟩,
   ⟨withLane 0 { state := .payload, bandSector := 1, mode := 0x20 }, 0, by decide⟩,
   ⟨withLane 0 { state := .payload, bandSector := 1, mode := 0x20 }, 0, false, by decide +kernel⟩,
   ⟨radio .active, 0, by decide +kernel⟩,
   ⟨withLane 127 { state := .test }, 127, by decide⟩,
   ⟨withLane 127 { state := .test, fails := 1 }, 127, 1, by decide⟩,
   ⟨withLane 0 { state := .withdrawn, retestAt := 200000000000, passes := 1 }, 0, by decide⟩,
   ⟨withLane 0 { state := .withdrawn, retestAt := 200000000000, passes := 2 }, 0, by decide⟩⟩

theorem witness_GainNoiseAndSlotBoundary :
    (∃ (s : State) (bs : Nat), receives s bs = true) ∧
    (∃ (s : State), lsfRuns s.power.dev = true ∧ passEnds s (objN s 0x2160 0) = true) ∧
    (∃ (s : State) (band : Band), lsfRuns s.power.dev = true ∧ FMap.find s.sched.slotNow (bandCode band) ≠ some (asnNow s
      (bandCode band))) :=
  ⟨⟨radio .active, 9, by decide +kernel⟩,
   ⟨setObj (chip .active) 0x4100 1 (byte 1 :: beOctets 2 100), by decide +kernel⟩,
   ⟨radio .active, .l, by decide +kernel⟩⟩

/-- A MAP IE of map 1 with no load on any data subcarrier: a withdrawal, from slot 30,000. -/
def mapIe (codes : Byte) : Octets := [1, 0x14] ++ beOctets 5 30000 ++ beOctets 2 0 ++ codes :: zeros 35

/-- A chip whose link to node 5 has offered a map. -/
def offering (sends : Nat) (acked : Bool) : State :=
  { withNode .active { state := .joined } with modem := { links := [(blKey nodeH 1,
      { author := .offered, next := some ⟨1, 0, 0, 19999, []⟩, sends := sends, acked := acked })] } }


theorem witness_MaskAndBitLoadingEvents :
    (∃ (s : State) (bs : Nat) (x : Int), allBandSectors.contains bs = true ∧ s.power.dev = .active ∧
      s.modem.suspended.contains bs = false ∧ 0 < x) ∧
    (∃ (s : State) (bs : Nat) (x : Int), allBandSectors.contains bs = true ∧ s.power.dev = .active ∧
      s.modem.suspended.contains bs = false ∧ x ≤ 0) ∧
    (∃ (s : State) (h : Nat) (band : Band) (c : Octets) (m : BlMap) (bits : Nat), (nodeOf s h).isSome = true ∧
      c.length = 45 ∧ fieldOf c 0 1 = 1 ∧ parseMap c = some (m, bits) ∧ mapReason s h (bandCode band) m bits = 0) ∧
    (∃ (s : State) (h : Nat) (c : Octets), (nodeOf s h).isSome = true ∧ c.length = 45 ∧ fieldOf c 0 1 = 1 ∧
      parseMap c = none) ∧
    (∃ (s : State) (h : Nat) (band : Band) (n : BlMap), (blLink s h (bandCode band)).next = some n ∧
      (blLink s h (bandCode band)).author = .offered ∧ (blLink s h (bandCode band)).sendMap = false ∧
      0 < (blLink s h (bandCode band)).sends ∧ (blLink s h (bandCode band)).acked = true ∧
      n.activate + activationInterval s h (bandCode band) ≤ asnNow s (bandCode band)) ∧
    (∃ (s : State) (h : Nat) (band : Band) (n : BlMap), (blLink s h (bandCode band)).next = some n ∧
      (blLink s h (bandCode band)).author = .offered ∧ (blLink s h (bandCode band)).sendMap = false ∧
      0 < (blLink s h (bandCode band)).sends ∧ (blLink s h (bandCode band)).sends < 3 ∧
      (blLink s h (bandCode band)).acked = false ∧ n.activate ≤ asnNow s (bandCode band)) ∧
    (∃ (s : State) (h : Nat) (c : Octets), c.length = 2 ∧ fieldOf c 0 1 = 3 ∧ (nodeOf s h).isSome = true) ∧
    (∃ (c : Octets), c.length = 2 ∧ fieldOf c 0 1 = 0x12) :=
  ⟨⟨chip .active, 9, 1, by decide⟩,
   ⟨chip .active, 1, 0, by decide⟩,
   ⟨withNode .active { state := .joined, blCap := true, cap := 0x80 }, nodeH, .m, mapIe 0, ⟨1, 1, 0, 30000,
    List.replicate 96 0⟩, 0, by decide +kernel⟩,
   ⟨withNode .active { state := .joined, blCap := true, cap := 0x80 }, nodeH, mapIe 0xFF, by decide +kernel⟩,
   ⟨offering 1 true, nodeH, .m, ⟨1, 0, 0, 19999, []⟩, by decide +kernel⟩,
   ⟨offering 2 false, nodeH, .m, ⟨1, 0, 0, 19999, []⟩, by decide +kernel⟩,
   ⟨withNode .active { state := .joined }, nodeH, [3, 0], by decide⟩,
   ⟨[0x12, 0], by decide⟩⟩

/-- A frame in one phase, to begin `d` ns from now. -/
def inPhase (p : TxPhase) (d : Nat) : TxPlan :=
  { kind := .frame, phase := p, startAt := 200000000000 + d, firstBin := 1, mode := 1, onTime := 1000, secured := true }

/-- The chip with a transmission in hand on band-sector 1, whose external amplifier is fitted. -/
def amplified (p : TxPlan) : State := setObj (withPlan 1 p) 0x2230 1 [1]

/-- A frame on the air since 1 ms. -/
def onAirPlan : TxPlan :=
  { kind := .frame, phase := .onAir, startAt := 199999000000, firstBin := 1, mode := 1, onTime := 1020, secured := true }


theorem witness_TransmissionPhasesAdvance :
    (∃ (s : State) (bs : Nat) (p : TxPlan), (chainOf s bs).plan = some p ∧ planDue s p .planned 160000 = true ∧
      serviceState s bs = 0 ∧ (chainOf s bs).skipNext = none) ∧
    (∃ (s : State) (bs : Nat) (p : TxPlan), (chainOf (restoreDuty s) bs).plan = some p ∧
      planDue (restoreDuty s) p .retuned 100000 = true) ∧
    (∃ (s : State) (bs : Nat) (p : TxPlan), (chainOf s bs).plan = some p ∧ planDue s p .commanded 50000 = true) ∧
    (∃ (s : State) (bs : Nat) (p : TxPlan), (chainOf s bs).plan = some p ∧ planDue s p .commanded 50000 = true) ∧
    (∃ (s : State) (bs : Nat) (p : TxPlan), (chainOf s bs).plan = some p ∧ planDue s p .ready 38000 = true ∧
      xpaOn s bs = true ∧ (chainOf s bs).xpaTxon = false) ∧
    (∃ (s : State) (bs : Nat) (power : Int) (p : TxPlan), (chainOf s bs).plan = some p ∧ planDue s p .ready 20000 = true ∧
      (lbtApplies s bs p && channelBusy s bs p power) = false) ∧
    (∃ (s : State) (bs : Nat) (ch : Nat) (p : TxPlan), (chainOf s bs).plan = some p ∧ planDue s p .ready 20000 = true ∧
      coexChannel s bs = some ch) ∧
    (∃ (s : State) (bs : Nat) (p : TxPlan), (chainOf s bs).plan = some p ∧ planDue s p .sampled 18000 = true ∧
      xpaOn s bs = true) ∧
    (∃ (s : State) (bs : Nat) (p : TxPlan), (chainOf s bs).plan = some p ∧
      planDue s p (if xpaOn s bs then .txon else .sampled) 10000 = true ∧ p.secured = true ∧ mayTransmit s = true) ∧
    (∃ (s : State) (bs : Nat) (p : TxPlan), (chainOf s bs).plan = some p ∧ p.phase = .onAir ∧ p.startAt + 40000 ≤ s.now ∧
      p.cut = false ∧ xpaOn s bs = false) ∧
    (∃ (s : State) (bs : Nat) (p : TxPlan), (chainOf s bs).plan = some p ∧ p.phase = .onAir ∧ planEnd p ≤ s.now) ∧
    (∃ (s : State) (bs : Nat) (t : Nat), (chainOf s bs).txonFell = some t ∧ (chainOf s bs).plan = none ∧
      t + 20000 ≤ s.now ∧ (chainOf s bs).xpaTxon = false) ∧
    (∃ (s : State) (bs : Nat) (v : Nat) (p : TxPlan), (chainOf s bs).plan = some p ∧ p.phase = .onAir ∧ p.cut = false ∧
      800 < v ∧ (portOf s p.port).state ≠ .disabled) ∧
    (∃ (s : State) (bs : Nat) (p : TxPlan), (chainOf (scheduleCal (updChain s bs (fun c => { c with locked := false })) bs
      1) bs).plan = some p ∧ p.phase = .onAir) :=
  ⟨⟨withPlan 9 (inPhase .planned 160000), 9, inPhase .planned 160000, by decide⟩,
   ⟨withPlan 9 (inPhase .retuned 100000), 9, inPhase .retuned 100000, by decide⟩,
   ⟨withPlan 9 (inPhase .commanded 50000), 9, inPhase .commanded 50000, by decide⟩,
   ⟨withPlan 9 (inPhase .commanded 50000), 9, inPhase .commanded 50000, by decide⟩,
   ⟨amplified (inPhase .ready 38000), 1, inPhase .ready 38000, by decide +kernel⟩,
   ⟨withPlan 9 (inPhase .ready 20000), 9, -400, inPhase .ready 20000, by decide +kernel⟩,
   ⟨setObj (withPlan 9 (inPhase .ready 20000)) 0x2240 4 (beOctets 2 256), 9, 3, inPhase .ready 20000, by decide +kernel⟩,
   ⟨amplified (inPhase .sampled 18000), 1, inPhase .sampled 18000, by decide +kernel⟩,
   ⟨withPlan 9 (inPhase .sampled 10000), 9, inPhase .sampled 10000, by decide +kernel⟩,
   ⟨withPlan 9 onAirPlan, 9, onAirPlan, by decide +kernel⟩,
   ⟨withPlan 9 onAirPlan, 9, onAirPlan, by decide +kernel⟩,
   ⟨{ radio .active with front := { chains := [(1, { txonFell := some 199999980000 })] } }, 1, 199999980000, by decide +kernel⟩,
   ⟨withPlan 9 onAirPlan, 9, 801, onAirPlan, by decide +kernel⟩,
   ⟨withPlan 9 onAirPlan, 9, onAirPlan, by decide +kernel⟩⟩

/-- The chip with the first transmit chain in a given condition. -/
def withChain (c : TxChain) : State := { radio .active with front := { chains := [(1, c)] } }


theorem witness_CalibrationAndDutyTimers :
    (∃ (s : State) (bs : Nat) (k : Nat), allBandSectors.contains bs = true ∧ 1 ≤ k ∧ k ≤ 3 ∧ s.power.dev = .active ∧
      (calDueAt s bs k).isSome = true ∧ calMayStart s bs = true) ∧
    (∃ (s : State) (bs : Nat) (k : Nat) (t : Nat), (chainOf s bs).calRun = some (k, t) ∧ t ≤ s.now) ∧
    (∃ (s : State) (bs : Nat) (k : Nat) (t : Nat), calDueAt s bs k = some t ∧ 1 ≤ k ∧ k ≤ 3 ∧
      t + objN s 0x2222 0 * 1000000000 ≤ s.now ∧ (chainOf s bs).calRun = none ∧ (chainOf s bs).plan = none) ∧
    (∃ (s : State), (restoreDuty s).front.dutyRestored = true ∧
      (restoreDuty s).front.minuteLast ≠ some (dutySecondNow (restoreDuty s) / 60)) :=
  ⟨⟨withChain { calDue := [(3, 200000000000)], calLast := [(3, 199000000000, 0)] }, 1, 3, by decide +kernel⟩,
   ⟨withChain { calRun := some (1, 200000000000) }, 1, 1, 200000000000, by decide⟩,
   ⟨withChain { calDue := [(1, 190000000000)], calLast := [(1, 189000000000, 0)] }, 1, 1, 190000000000, by decide +kernel⟩,
   ⟨chip .active, by decide +kernel⟩⟩

/-- The chip with one time source of TYPE 1 (PTP on ETH0), its entry in a given condition, in a time mode. -/
def timed (m : TimeMode) (e : TimeEntry) : State :=
  { setObj (chip .active) 0x4010 0 ([0x60] ++ zeros 47) with time := { mode := m, entries := [(0, e)] } }


theorem witness_TimeSourcesMoveTheClock :
    (∃ (s : State) (i : Nat) (t : Int) (sec : Bool), i < 4 ∧ (sourceCfg s i).enable = true ∧ selectsTime s = true ∧
      (timeEntry s i).expected = none ∧ goodEvent s (sourceCfg s i) (timeEntry s i) t sec = true) ∧
    (∃ (s : State) (i : Nat) (t : Nat), (timeEntry s i).expected = some t ∧ i < 4 ∧ (sourceCfg s i).enable = true ∧
      selectsTime s = true ∧ t + missDelay s (sourceCfg s i) ≤ s.now ∧ (timeEntry s i).qualified = true ∧
      (timeEntry s i).lost = false ∧ 2 ≤ (timeEntry s i).misses) ∧
    (∃ (s : State) (i : Nat) (t : Nat), (timeEntry s i).expected = some t ∧ i < 4 ∧ (sourceCfg s i).enable = true ∧
      selectsTime s = true ∧ t + missDelay s (sourceCfg s i) ≤ s.now ∧ (timeEntry s i).qualified = true ∧
      (timeEntry s i).lost = false ∧ (timeEntry s i).misses < 2) ∧
    (∃ (s : State) (i : Nat), selectsTime s = true ∧ s.time.mode = .unacquired ∧ bestEntry s = some i) ∧
    (∃ (s : State), s.time.mode = .unacquired ∧ lsfRuns s.power.dev = true ∧ selectsTime s = true ∧
      objB s 0x4013 0 = true ∧ bestEntry s = none ∧ s.time.loadAt + 10000000000 ≤ s.now) ∧
    (∃ (s : State), s.time.mode = .unacquired ∧ lsfRuns s.power.dev = true ∧ objB s 0x4013 0 = false ∧ bestEntry s = none ∧
      s.time.reportDue ≤ s.now) ∧
    (∃ (s : State) (band : Band) (t : Nat), s.time.mode = .holdover ∧ s.time.holdoverAt = some t ∧
      guardUs s (bandCode band) = slotField s (bandCode band) 3 / 2 ∧ s.time.capReached.contains (bandCode band) = false) ∧
    (∃ (s : State), timeAcquired s = true ∧ lsfRuns s.power.dev = true ∧ s.time.persisted = none) ∧
    (∃ (s : State), trialState s.power.dev = true ∧ timeAcquired s = true ∧ bitOf (objField s 0x4019 0 0 1) 0 = true ∧
      s.time.ppsSecond ≠ some (domainTime s / 1000000000)) ∧
    (∃ (s : State) (port : Nat), servesPtp s port = true) ∧
    (∃ (s : State) (port : Nat), servesPtp s port = true) ∧
    (∃ (s : State), slewDone s = s.time.slew) :=
  ⟨⟨timed .locked {}, 0, 200000000000, true, by decide +kernel⟩,
   ⟨timed .locked { expected := some 190000000000, qualified := true, misses := 2 }, 0, 190000000000, by decide +kernel⟩,
   ⟨timed .locked { expected := some 190000000000, qualified := true, misses := 1 }, 0, 190000000000, by decide +kernel⟩,
   ⟨timed .unacquired { qualified := true }, 0, by decide +kernel⟩,
   ⟨setObj (timed .unacquired {}) 0x4013 0 [1], by decide +kernel⟩,
   ⟨timed .unacquired {}, by decide +kernel⟩,
   ⟨{ chip .active with time := { mode := .holdover, holdoverAt := some 0, drift := 1000000000 } }, .m, 0, by decide +kernel⟩,
   ⟨chip .active, by decide⟩,
   ⟨setObj (chip .active) 0x4019 0 ([1] ++ zeros 8), by decide +kernel⟩,
   ⟨setObj (chip .active) 0x4017 0 [3, 0, 0, 0], 1, by decide +kernel⟩,
   ⟨setObj (chip .active) 0x4017 0 [1, 0, 0, 0], 0, by decide +kernel⟩,
   ⟨chip .active, by decide⟩⟩

/-- The chip with one entry of look-ahead on band-sector 1 for a slot. -/
def looking (asn : Nat) : State := { radio .active with sched := { look := [⟨1, asn, 0, {}, 0, false⟩] } }

/-- A frame planned to begin 100 us from now, not yet secured. -/
def plannedPlan : TxPlan := { kind := .frame, startAt := 200000100000, firstBin := 1, mode := 1, onTime := 1000 }


theorem witness_SlotLookaheadAndLatch :
    (∃ (s : State) (bs : Nat) (asn : Nat), (s.sched.look.filter (fun e => e.bandSector = bs && e.asn = asn &&
      !e.resolved)).isEmpty = false ∧ asnNow s (bandOf bs) + 1 < asn) ∧
    (∃ (s : State) (bs : Nat) (asn : Nat), (s.sched.look.filter (fun e => e.bandSector = bs && e.asn = asn &&
      !e.resolved)).isEmpty = false ∧ asn ≤ asnNow s (bandOf bs) + 1) ∧
    (∃ (s : State) (bs : Nat), mayTransmit s = true ∧ s.power.pasWait.contains (bandOf bs) = false ∧
      allBandSectors.contains bs = true ∧ bandEnabled s (bandOf bs) = true ∧ seqHalted s bs = false ∧
      debugHalts s bs = false ∧ (chainOf s bs).plan = none ∧ domainTime s + 160000 < slotStart s (bandOf bs) (latchAsn s
      (bandOf bs)) + slotField s (bandOf bs) 1 * 1000 ∧ s.modem.suspended.contains bs = false) ∧
    (∃ (s : State) (bs : Nat) (p : TxPlan), (chainOf s bs).plan = some p ∧ s.power.dev ≠ .follower ∧ p.kind = .frame ∧
      p.secured = false ∧ p.phase = .planned ∧ fcAwaited s (p.peer.getD 0xFFFFFFFF) = false) ∧
    (∃ (s : State) (bs : Nat) (p : TxPlan), (chainOf s bs).plan = some p ∧ s.power.dev ≠ .follower ∧ p.kind = .frame ∧
      p.secured = false ∧ p.phase = .planned ∧ p.startAt ≤ s.now + 100000) :=
  ⟨⟨looking 20002, 1, 20002, by decide +kernel⟩,
   ⟨looking 20001, 1, 20001, by decide +kernel⟩,
   ⟨{ radio .active with now := 200001000000 }, 9, by decide +kernel⟩,
   ⟨withPlan 9 plannedPlan, 9, plannedPlan, by decide +kernel⟩,
   ⟨withPlan 9 plannedPlan, 9, plannedPlan, by decide +kernel⟩⟩

/-- A frame that has ended and waits for its acknowledgement. -/
def endedPlan : TxPlan :=
  { kind := .frame, phase := .ended, startAt := 199900000000, firstBin := 1, mode := 1, ackRequested := true, onTime := 1000 }

/-- The chip as its announcement for the running 10 s has been counted. -/
def announcing (s : State) : State :=
  { s with link := { s.link with announced := (domainTime s - 2000000 * chipIndex s) / 10000000000 + 1 } }

/-- The chip with one known peer. -/
def withPeer (p : Peer) : State := { chip .active with link := { peers := [(3, p)] } }


theorem witness_AirExchangesAreAnswered :
    (∃ (s : State) (bs : Nat) (p : TxPlan), awaitingAck s bs = some p) ∧
    (∃ (s : State) (bs : Nat) (p : TxPlan), awaitingAck s bs = some p ∧ ackCloses s bs p ≤ s.now) ∧
    (∃ (s : State), s.power.dev = .active) ∧
    (∃ (s : State) (r : JoinRequest), handlesAir s = true ∧ r.content.length = 9 ∧ fieldOf r.content 0 1 = 0x20) ∧
    (∃ (s : State) (eui : Octets) (ctr : Nat) (i : Nat) (n : Node), nodeByEui s eui = some (i, n) ∧ handlesAir s = true ∧
      n.state = .joining ∧ n.held = false ∧ n.rxFc < ctr) ∧
    (∃ (s : State) (h : Nat) (n : Node), nodeOf s h = some n ∧ n.state = .joining ∧
      n.joiningAt + objN s 0x4212 0 * 1000000000 ≤ s.now) ∧
    (∃ (s : State) (h : Nat) (ctr : Nat) (n : Node), nodeOf s h = some n ∧ handlesAir s = true ∧ n.state = .joined ∧
      n.rxFc ≤ ctr) ∧
    (∃ (s : State) (h : Nat) (n : Node), nodeOf s h = some n ∧ n.state = .joined ∧
      n.heardAt + objN s 0x4214 0 * 1000000000 ≤ s.now ∧ handlesAir s = true) ∧
    (∃ (s : State) (m : Octets), timeAcquired s = true ∧ trialState s.power.dev = true ∧
      s.link.announced < (domainTime s - 2000000 * chipIndex s) / 10000000000 + 1 ∧
      peerSealed (announcing s) (peerHeader (announcing s) 1 68 ++ announcementBody (announcing s)) = some m) ∧
    (∃ (s : State), trialState s.power.dev = true) ∧
    (∃ (s : State) (k : Nat) (p : Peer), FMap.find s.link.peers k = some p ∧ p.known = true ∧
      p.heardAt + (15 + 10 * p.misses) * 1000000000 ≤ s.now ∧ p.misses < 2) ∧
    (∃ (s : State) (k : Nat) (p : Peer), FMap.find s.link.peers k = some p ∧ p.known = true ∧
      p.heardAt + (15 + 10 * p.misses) * 1000000000 ≤ s.now ∧ 2 ≤ p.misses) :=
  ⟨⟨withPlan 9 endedPlan, 9, endedPlan, by decide +kernel⟩,
   ⟨withPlan 9 endedPlan, 9, endedPlan, by decide +kernel⟩,
   ⟨chip .active, by decide⟩,
   ⟨chip .active, ⟨[], [], 0, 1, 0, 0, 0x20 :: zeros 8⟩, by decide +kernel⟩,
   ⟨withNode .active { state := .joining, eui := [1], rxFc := 6 }, [1], 7, 5, { state := .joining, eui := [1], rxFc := 6 },
    by decide +kernel⟩,
   ⟨withNode .active { state := .joining }, nodeH, { state := .joining }, by decide +kernel⟩,
   ⟨withNode .active { state := .joined, rxFc := 7 }, nodeH, 7, { state := .joined, rxFc := 7 }, by decide +kernel⟩,
   ⟨setObj (withNode .active { state := .joined }) 0x4214 0 (beOctets 4 60), nodeH, { state := .joined }, by decide +kernel⟩,
   ⟨keyedChip .active, _, rfl, rfl, Nat.succ_pos _, by
      have e : slotValue (announcing (keyedChip .active)) 1 = some (zeros 16) := keyedChip_slot .active
      rw [peerSealed, purposeKey, chipKey, e]
      rfl⟩,
   ⟨chip .follower, by decide⟩,
   ⟨withPeer ⟨[], [], 0, true, false, 175000000000, 1, 0, 0⟩, 3, ⟨[], [], 0, true, false, 175000000000, 1, 0, 0⟩,
    by decide +kernel⟩,
   ⟨withPeer ⟨[], [], 0, true, false, 165000000000, 2, 0, 0⟩, 3, ⟨[], [], 0, true, false, 165000000000, 2, 0, 0⟩,
    by decide +kernel⟩⟩

/-- A packet of class 2 for ETH0 that came from the ring's east port, with no expiry near. -/
def ethPacket : QPacket :=
  { classQueue := true, target := 41, cls := 2, ackReq := false, cutThrough := false, mode := 0, length := 100, source := 0,
    enqTime := 0, linkedAt := 0, expiry := 2 ^ 40, buffer := none, poison := false, complete := true, ingress := 11,
    destMac := [], data := [] }

/-- The same past its expiry. -/
def latePacket : QPacket := { ethPacket with expiry := 1 }

/-- The chip with a frame in transit on its east port. -/
def transiting : State :=
  { chip .active with sett :=
      { ports := [(1, { state := .up, transit := [⟨0, false, 0, 3, false, 0, 0, 0, 0, 0, [], []⟩] })] } }

/-- The chip with packet 7 in hand, in its class queue where `l` says so, its ETH0 port cutting through. -/
def queued (p : QPacket) (l : Bool) : State :=
  { setObj (radio .active) 0x5031 1 [1] with
    queues := { packets := [(7, p)], nextPacket := 8, classQ := if l then [(74, [7])] else [] } }


theorem witness_QueuesAdmitAndSend :
    (∃ (s : State) (k : Nat) (p : QPacket), packetOf s k = some p ∧ linked s k = false) ∧
    (∃ (s : State) (k : Nat) (p : QPacket) (bad : Bool), packetOf s k = some p ∧ linked s k = true ∧
      (p.poison || bad) = true ∧ p.started = true) ∧
    (∃ (s : State) (k : Nat) (p : QPacket) (bad : Bool), packetOf s k = some p ∧ linked s k = true ∧
      (p.poison || bad) = true ∧ p.started = false) ∧
    (∃ (s : State) (k : Nat) (p : QPacket), packetOf s k = some p ∧ linked s k = true ∧ p.poison = false ∧ p.started = true) ∧
    (∃ (s : State) (k : Nat) (p : QPacket), packetOf s k = some p ∧ linked s k = true ∧ p.poison = false ∧
      p.started = false) ∧
    (∃ (s : State) (s' : State) (k : Nat) (p : QPacket), packetOf s k = some p ∧ mayCutThrough s p = true ∧
      linked s k = false ∧ followerDrops s p = false ∧ judgeBuffers s p = (.accept, s')) ∧
    (∃ (s : State) (s' : State) (k : Nat) (w : Nat) (refused : Bool) (p : QPacket), packetOf s k = some p ∧
      mayCutThrough s p = true ∧ linked s k = false ∧ followerDrops s p = false ∧ judgeBuffers s p = (.out w refused, s')) ∧
    (∃ (s : State) (s' : State) (port : Nat) (w : WirePick), 9 ≤ port ∧ port ≤ 14 ∧ lsfRuns s.power.dev = true ∧
      s.queues.sending.has port = false ∧ portReady s port = true ∧ sendTransit s (port - 10) = none ∧
      pickHead s port = (s', some w)) ∧
    (∃ (s : State) (t : State) (port : Nat), 11 ≤ port ∧ port ≤ 14 ∧ lsfRuns s.power.dev = true ∧
      s.queues.sending.has port = false ∧ portReady s port = true ∧ sendTransit s (port - 10) = some t) ∧
    (∃ (s : State) (port : Nat) (k : Nat) (p : QPacket), FMap.find s.queues.sending port = some k ∧ packetOf s k = some p) ∧
    (∃ (s : State) (port : Nat) (g : Octets), FMap.find s.queues.gatesPending (port + 8) = some g ∧ 9 ≤ port) ∧
    (∃ (s : State) (bs : Nat) (g : Octets), FMap.find s.queues.gatesPending (bs + 1) = some g ∧ bs < 9) :=
  ⟨⟨queued ethPacket false, 7, ethPacket, by decide +kernel⟩,
   ⟨queued { ethPacket with started := true } true, 7, { ethPacket with started := true }, true, by decide +kernel⟩,
   ⟨queued { ethPacket with poison := true } true, 7, { ethPacket with poison := true }, false, by decide +kernel⟩,
   ⟨queued { ethPacket with started := true } true, 7, { ethPacket with started := true }, by decide +kernel⟩,
   ⟨queued ethPacket true, 7, ethPacket, by decide +kernel⟩,
   ⟨queued ethPacket false, (judgeBuffers (queued ethPacket false) ethPacket).2, 7, ethPacket, rfl, by decide +kernel,
    by decide +kernel, by decide +kernel, Prod.ext (by decide +kernel) rfl⟩,
   ⟨queued latePacket false, (judgeBuffers (queued latePacket false) latePacket).2, 7, 6, false, latePacket, rfl,
    by decide +kernel, by decide +kernel, by decide +kernel, Prod.ext (by decide +kernel) rfl⟩,
   ⟨queued ethPacket true, (pickHead (queued ethPacket true) 9).1, 9, ⟨7, 138, .green⟩, by decide, by decide, rfl, rfl,
    by decide +kernel, rfl, Prod.ext rfl (by decide +kernel)⟩,
   ⟨transiting, (sendTransit transiting 1).getD transiting, 11, by decide, by decide, rfl, rfl, by decide +kernel, rfl⟩,
   ⟨{ queued ethPacket true with queues := { (queued ethPacket true).queues with sending := [(9, 7)] } }, 9, 7, ethPacket,
    by decide +kernel⟩,
   ⟨{ chip .active with queues := { gatesPending := [(18, [1])] } }, 10, [1], by decide⟩,
   ⟨{ chip .active with queues := { gatesPending := [(9, [1])] } }, 8, [1], by decide⟩⟩

/-- An empty packet that came in at an ingress. -/
def packetFrom (i : Ingress) : Packet :=
  { ingress := i, src := [], dst := [], macEui := [], sourceHandle := 0, hopLimit := 64, dscp := 0, cls := 4, dispatchOk := true,
    fragment := none, ackRequested := false, cutThrough := false, poison := false, airClass := none, mode := 0, data := [] }

/-- A follower that applies its partner's journal. -/
def shadowing : State :=
  { setObj (chip .follower) 0x9002 0 [0, 0, 0, 0, 0, 0, 0, 1] with twin := { absent := false, stopped := false } }

/-- The chip with one host entry, in the first bucket of its key. -/
def withHost (e : HostEntry) : State := { chip .active with fwd := { host := [(4 * bucket1 e.key, e)] } }


theorem witness_ForwardingAndTablesAdvance :
    (∃ (s : State) (p : Packet) (n : Nat), takesPackets s = true ∧ p.ingress = .eth n) ∧
    (∃ (s : State) (p : Packet) (n : Nat), takesPackets s = true ∧ p.ingress = .air n) ∧
    (∃ (s : State) (p : Packet) (n : Nat), s.power.dev = .follower ∧ shadows s = true ∧ p.ingress = .air n) ∧
    (∃ (s : State) (source : Nat) (tag : Nat) (size : Nat) (c : Reassembly),
      FMap.find s.fwd.reasm (reasmKey source tag size) = some c ∧ c.startedAt + objN s 0x6002 0 * 1000000000 ≤ s.now) ∧
    (∃ (s : State) (r : LearnRequest) (rest : List LearnRequest), s.fwd.learnQ = r :: rest ∧ findKey s r.key = none) ∧
    (∃ (s : State) (target : Nat) (parent : Nat) (sender : Nat) (a : Node) (b : Node) (t : Node),
      nodeOf s sender = some a ∧ a.state = .joined ∧ nodeOf s parent = some b ∧ b.state = .joined ∧
      nodeOf s target = some t) ∧
    (∃ (s : State) (target : Nat) (sender : Nat) (a : Node) (t : Node), nodeOf s sender = some a ∧ a.state = .joined ∧
      nodeOf s target = some t) ∧
    (∃ (s : State), handlesAir s = true) ∧
    (∃ (s : State), handlesAir s = true ∧ s.fwd.trickleDue ≤ s.now ∧ objField s 0x6012 0 2 1 ≠ 0 ∧
      objField s 0x6012 0 2 1 ≤ s.fwd.trickleHeard) ∧
    (∃ (s : State) (b : Nat), s.fwd.sweepNext = b ∧ b < 65535 ∧ sweepReached s b = true ∧ s.fwd.steps = []) ∧
    (∃ (s : State), s.fwd.sweepNext = 65535 ∧ sweepReached s 65535 = true ∧ s.fwd.steps = []) ∧
    (∃ (s : State) (t : TableStep) (rest : List TableStep), s.fwd.pendingHits.length ≤ 192 ∧ s.fwd.steps = t :: rest) ∧
    (∃ (s : State) (trie : Bool) (key : Octets) (r : Option Nat), objN s 0x6050 0 ≠ 0 ∧ shadowResult s trie key ≠ r ∧
      s.fwd.mismatchAt = none) ∧
    (∃ (s : State) (trie : Bool) (key : Octets) (r : Option Nat) (m : Nat), objN s 0x6050 0 ≠ 0 ∧
      shadowResult s trie key ≠ r ∧ s.fwd.mismatchAt = some m ∧ s.now ≤ m + 60000000000 ∧ (lsfRuns s.power.dev = true ∨
      s.power.dev = .recovery)) ∧
    (∃ (s : State) (address : Octets) (port : Nat), (port = 9 ∨ port = 10) ∧ address.length = 16 ∧
      lsfRuns s.power.dev = true ∧ findKey s address = none) ∧
    (∃ (s : State) (address : Octets) (port : Nat), (port = 9 ∨ port = 10) ∧ address.length = 16 ∧
      lsfRuns s.power.dev = true ∧ (findKey s address).isSome = true) :=
  ⟨⟨chip .active, packetFrom (.eth 1), 1, by decide⟩,
   ⟨chip .maintenance, packetFrom (.air 9), 9, by decide⟩,
   ⟨shadowing, packetFrom (.air 9), 9, by decide +kernel⟩,
   ⟨{ chip .active with fwd := { reasm := [(reasmKey 1 2 3, ⟨140000000000, 4, [], false⟩)] } }, 1, 2, 3, ⟨140000000000, 4, [],
    false⟩, by decide +kernel⟩,
   ⟨{ chip .active with fwd := { learnQ := [⟨zeros 16, 0, 0, 0, 0⟩] } }, ⟨zeros 16, 0, 0, 0, 0⟩, [], by decide +kernel⟩,
   ⟨withNode .active { state := .joined }, nodeH, nodeH, nodeH, { state := .joined }, { state := .joined },
    { state := .joined }, by decide +kernel⟩,
   ⟨withNode .active { state := .joined }, nodeH, nodeH, { state := .joined }, { state := .joined }, by decide +kernel⟩,
   ⟨shadowing, by decide +kernel⟩,
   ⟨{ setObj (chip .active) 0x6012 0 [0, 0, 1, 0] with fwd := { trickleHeard := 1 } }, by decide +kernel⟩,
   ⟨{ radio .active with fwd := { sweepNext := 0 } }, 0, by decide +kernel⟩,
   ⟨{ setObj (chip .active) 0x6032 0 (beOctets 4 1) with now := 200999990000, fwd := { sweepNext := 65535 } },
    by decide +kernel⟩,
   ⟨{ chip .active with fwd := { pendingHits := List.replicate 192 0, steps := [.clear 0] } }, .clear 0, [], by decide +kernel⟩,
   ⟨setObj (withHost { key := zeros 16 }) 0x6050 0 (beOctets 4 256), false, zeros 16, none, by decide +kernel⟩,
   ⟨{ setObj (chip .active) 0x6050 0 (beOctets 4 256) with fwd := { mismatchAt := some 140000000000 } }, false, zeros 16,
    some 1, 140000000000, by decide +kernel⟩,
   ⟨chip .active, zeros 16, 10, by decide +kernel⟩,
   ⟨withHost { key := zeros 16 }, zeros 16, 9, by decide +kernel⟩⟩

/-- A request of operation 1 with nothing to encipher. -/
def emptyJob : CipherRequest := ⟨1, 128, 4, 0, 0, none, 0, [], [], [], [], false, false, false, 0, 0, 0⟩

/-- The chip with cipher engine 1 in a given condition. -/
def withEngine (g : Engine) : State := { chip .active with cipher := { engines := [(1, g)] } }


theorem witness_CipherJobsAndEngineTests :
    (∃ (s : State) (e : Nat), e < 2 ∧ (engineOf s e).mode = 0 ∧ lsfRuns s.power.dev = true) ∧
    (∃ (s : State) (e : Nat) (n : Nat) (j : CipherJob), FMap.find s.cipher.jobs n = some j ∧ j.engine = e) ∧
    (∃ (s : State), lsfRuns s.power.dev = true ∧ s.cipher.testDue ≤ s.now) ∧
    (∃ (s : State) (e : Nat), e < 2 ∧ (engineOf s e).mode = 1) ∧
    (∃ (s : State) (e : Nat), e < 2 ∧ (engineOf s e).mode = 1 ∧ (engineOf s e).fails = 0) ∧
    (∃ (s : State) (e : Nat), e < 2 ∧ (engineOf s e).mode = 1 ∧ 1 ≤ (engineOf s e).fails) ∧
    (∃ (s : State) (e : Nat), e < 2 ∧ (engineOf s e).mode = 1) ∧
    (∃ (s : State) (e : Nat), e < 2 ∧ (engineOf s e).mode = 2 ∧ (engineOf s e).retestAt ≤ s.now) ∧
    (∃ (s : State) (e : Nat), e < 2 ∧ (engineOf s e).mode = 2 ∧ (engineOf s e).retestAt ≤ s.now) ∧
    (∃ (s : State) (e : Nat), e < 2 ∧ (engineOf s e).mode = 0 ∧ (engineOf s (1 - e)).mode = 2) :=
  ⟨⟨chip .active, 1, by decide⟩,
   ⟨{ chip .active with cipher := { jobs := [(4, ⟨1, emptyJob, 0, [], 0, false⟩)] } }, 1, 4, ⟨1, emptyJob, 0, [], 0, false⟩,
    by decide⟩,
   ⟨chip .follower, by decide⟩,
   ⟨withEngine { mode := 1 }, 1, by decide⟩,
   ⟨withEngine { mode := 1 }, 1, by decide⟩,
   ⟨withEngine { mode := 1, fails := 1 }, 1, by decide⟩,
   ⟨withEngine { mode := 1 }, 1, by decide⟩,
   ⟨withEngine { mode := 2, retestAt := 200000000000 }, 1, by decide⟩,
   ⟨withEngine { mode := 2, retestAt := 200000000000 }, 1, by decide⟩,
   ⟨withEngine { mode := 2 }, 0, by decide⟩⟩

/-- The chip with MACsec enabled on ETH1, one SA for receiving and a key register of engine 1, the one in service, that holds its key. -/
def macsec : State :=
  { setObj (setObj (chip .active) 0x7040 2 (1 :: zeros 12)) 0x7041 2 ([3, 2] ++ beOctets 2 33 ++ beOctets 4 7 ++ zeros 8) with
    cipher := { engines := [(0, { mode := 2 }), (1, { registers := [(0, ⟨33, 1, zeros 16, 0, true⟩)] })] } }

/-- An update of slot 9 accepted 60 s ago. -/
def update9 (waiting : Bool) : KeyPending := ⟨1, 0, 0, false, 0, 140000000000, false, waiting, false⟩

/-- The chip, its partner present, with that update pending. -/
def updating (waiting : Bool) : State :=
  { chip .active with keys := { pending := [(9, update9 waiting)] }, twin := { absent := false } }


theorem witness_KeysMacsecAndTamper :
    (∃ (s : State) (a : State) (reference : Octets) (e : Nat), lsfRuns s.power.dev = true ∧ resolveRef s reference = (a,
      some e)) ∧
    (∃ (s : State) (a : State) (reference : Octets), lsfRuns s.power.dev = true ∧ resolveRef s reference = (a, none)) ∧
    (∃ (s : State) (port : Nat), port < 2 ∧ macsecOn s port = true ∧ lsfRuns s.power.dev = true) ∧
    (∃ (s : State) (port : Nat) (an : Nat), port < 2 ∧ macsecOn s port = true ∧ lsfRuns s.power.dev = true ∧
      rxSa s port an = none) ∧
    (∃ (s : State) (port : Nat) (an : Nat) (pn : Nat) (ec : Bool) (a : MacsecSa), port < 2 ∧ macsecOn s port = true ∧
      lsfRuns s.power.dev = true ∧ rxSa s port an = some a ∧ (pn < (pnOf s port 0 a).next ∨ 2 ^ 32 ≤ pn ∨
      (!ec && macsecStrict s port) = true)) ∧
    (∃ (s : State) (t : State) (port : Nat) (an : Nat) (pn : Nat) (ec : Bool) (a : MacsecSa) (key : Octets), port < 2 ∧
      macsecOn s port = true ∧ lsfRuns s.power.dev = true ∧ rxSa s port an = some a ∧ (pnOf s port 0 a).next ≤ pn ∧
      pn < 2 ^ 32 ∧ (!ec && macsecStrict s port) = false ∧ macsecKey s port a 4 1 = (t, some key)) ∧
    (∃ (s : State) (slot : Nat) (p : KeyPending), FMap.find s.keys.pending slot = some p ∧ s.power.vin = true ∧
      (p.waiting = false ∨ p.partner = true ∨ s.twin.absent = true)) ∧
    (∃ (s : State) (slot : Nat) (p : KeyPending), FMap.find s.keys.pending slot = some p ∧ p.waiting = true ∧
      p.partner = false ∧ s.twin.absent = false ∧ p.acceptedAt + 60000000000 ≤ s.now) ∧
    (∃ (s : State), s.power.aonValid = true) ∧
    (∃ (s : State) (t : Nat) (cause : Nat), s.keys.overwrite = some (t, cause)) :=
  ⟨⟨chip .active, (resolveRef (chip .active) (keyReference 4 0 1 [] [])).1, keyReference 4 0 1 [] [], 0, rfl,
    Prod.ext rfl (by decide +kernel)⟩,
   ⟨chip .active, (resolveRef (chip .active) []).1, [], rfl, Prod.ext rfl (by decide +kernel)⟩,
   ⟨macsec, 1, by decide +kernel⟩,
   ⟨macsec, 1, 2, by decide +kernel⟩,
   ⟨macsec, 1, 3, 6, true, ⟨3, false, true, 33, 7⟩, by decide +kernel⟩,
   ⟨macsec, (macsecKey macsec 1 ⟨3, false, true, 33, 7⟩ 4 1).1, 1, 3, 2 ^ 32 - 1, true, ⟨3, false, true, 33, 7⟩, zeros 16,
    by decide, by decide +kernel, rfl, by decide +kernel, by decide +kernel, by decide, by decide +kernel,
    Prod.ext rfl (by decide +kernel)⟩,
   ⟨updating false, 9, update9 false, by decide +kernel⟩,
   ⟨updating true, 9, update9 true, by decide +kernel⟩,
   ⟨chip .active, by decide⟩,
   ⟨{ chip .active with keys := { overwrite := some (5, 2) } }, 5, 2, by decide⟩⟩

/-- The chip with one sett port up. -/
def ported (d : DevState) (p : Nat) : State := { chip d with sett := { ports := [(p, { state := .up })] } }

/-- A sett frame of a TYPE. -/
def settOf (typ : Nat) : SettFrame := ⟨typ, false, 0, 3, false, 0, 0, 0, 0, 0, [], []⟩

/-- A census of a device at a chip index. -/
def censusOf (eui : Octets) (k : Nat) : Census := ⟨eui, [], k, 0xFFFF, 0, 1, 0, false, 0⟩

/-- A member last heard 35 ms ago, with 2 misses. -/
def member : Member := ⟨censusOf [] 2, [], [], 199965000000, 2, 0⟩

/-- The chip with a declared partner and its TWIN port up. -/
def paired (d : DevState) : State := setObj (ported d 3) 0x9002 0 [0, 0, 0, 0, 0, 0, 0, 1]

/-- The chip whose time source is the sett, with its diagonal port up and master 7. -/
def followingSett : State :=
  { setObj (ported .active 4) 0x4010 0 ([0xA0] ++ zeros 47) with
    sett := { ports := [(4, { state := .up })], master := some 7 } }


theorem witness_SettPortsCensusAndMarks :
    (∃ (s : State) (p : Nat), 1 ≤ p ∧ p ≤ 4 ∧ lsfRuns s.power.dev = true ∧ bitOf (objN s 0x9010 p) 0 = true ∧
      (settPort s p).state ≠ .up) ∧
    (∃ (s : State) (p : Nat), 1 ≤ p ∧ p ≤ 4 ∧ (settPort s p).state = .up) ∧
    (∃ (s : State) (p : Nat), 1 ≤ p ∧ p ≤ 4 ∧ portCarries s p = true) ∧
    (∃ (s : State) (p : Nat) (f : SettFrame), 1 ≤ p ∧ p ≤ 4 ∧ p ≠ 3 ∧ lsfRuns s.power.dev = true ∧ portCarries s p = true ∧
      f.typ ≤ 2) ∧
    (∃ (s : State) (p : Nat) (f : SettFrame), 1 ≤ p ∧ p ≤ 4 ∧ lsfRuns s.power.dev = true ∧ portCarries s p = true ∧
      7 ≤ f.typ) ∧
    (∃ (s : State), settForwards s = true ∧ (∀ t, s.sett.censusAt = some t → t + 10000000 ≤ s.now)) ∧
    (∃ (s : State) (p : Nat) (c : Census), settForwards s = true ∧ (p = 1 ∨ p = 2) ∧ c.chipIndex = chipIndex s ∧
      c.deviceEui = Config.deviceEui) ∧
    (∃ (s : State) (p : Nat) (c : Census), settForwards s = true ∧ (p = 1 ∨ p = 2 ∨ p = 4) ∧ c.chipIndex = chipIndex s ∧
      c.deviceEui ≠ Config.deviceEui) ∧
    (∃ (s : State) (p : Nat) (c : Census), settForwards s = true ∧ (p = 1 ∨ p = 2 ∨ p = 4) ∧ c.chipIndex ≠ chipIndex s) ∧
    (∃ (s : State) (chip : Nat) (m : Member), FMap.find s.sett.members chip = some m ∧
      m.heardAt + 15000000 + 10000000 * m.misses ≤ s.now) ∧
    (∃ (s : State) (p : Nat), 1 ≤ p ∧ p ≤ 4 ∧ lsfRuns s.power.dev = true ∧ portCarries s p = true ∧ (∀ t,
      (settPort s p).request = some t → t + 16000000000 ≤ stamp s)) ∧
    (∃ (s : State) (p : Nat), 1 ≤ p ∧ p ≤ 4 ∧ lsfRuns s.power.dev = true ∧ portCarries s p = true) ∧
    (∃ (s : State) (p : Nat), 1 ≤ p ∧ p ≤ 4 ∧ lsfRuns s.power.dev = true ∧ portCarries s p = true) ∧
    (∃ (s : State), lsfRuns s.power.dev = true ∧ portCarries s 3 = true ∧ hasPartner s = true) ∧
    (∃ (s : State), timeAcquired s = true ∧ settForwards s = true ∧ s.sett.markSent ≠ some (markNow s)) ∧
    (∃ (s : State), lsfRuns s.power.dev = true ∧ portCarries s 3 = true ∧ s.power.dev = .follower ∧ hasPartner s = true) ∧
    (∃ (s : State) (p : Nat) (hops : Nat) (master : Nat) (n : Nat) (i : Nat), 1 ≤ p ∧ p ≤ 4 ∧ p ≠ 3 ∧
      lsfRuns s.power.dev = true ∧ portCarries s p = true ∧ settEntry (updPort s p (fun x => { x with mark := some (hops,
      master, n, s.now) })) = some i ∧ s.sett.master = some master ∧ hops < 0xFF) :=
  ⟨⟨setObj (chip .active) 0x9010 4 [1], 4, by decide +kernel⟩,
   ⟨ported .active 1, 1, by decide⟩,
   ⟨ported .active 4, 4, by decide⟩,
   ⟨ported .active 1, 1, settOf 2, by decide⟩,
   ⟨ported .active 4, 4, settOf 7, by decide⟩,
   ⟨{ chip .active with sett := { censusAt := some 199990000000 } }, rfl, fun t h => by cases h; decide⟩,
   ⟨chip .active, 2, censusOf Config.deviceEui (chipIndex (chip .active)), rfl, by decide, rfl, rfl⟩,
   ⟨chip .active, 4, censusOf (Config.deviceEui ++ [0]) (chipIndex (chip .active)), rfl, by decide, rfl, by simp [censusOf]⟩,
   ⟨chip .active, 4, censusOf [] 2, by decide +kernel⟩,
   ⟨{ chip .active with sett := { members := [(2, member)] } }, 2, member, by decide⟩,
   ⟨{ chip .active with sett := { ports := [(4, { state := .up, request := some (16 * 199000000000) })] } }, 4, by decide,
    by decide, rfl, rfl, fun t h => by cases h; decide +kernel⟩,
   ⟨ported .active 4, 4, by decide⟩,
   ⟨ported .active 1, 1, by decide⟩,
   ⟨paired .active, by decide +kernel⟩,
   ⟨chip .active, by decide +kernel⟩,
   ⟨paired .follower, by decide +kernel⟩,
   ⟨followingSett, 4, 0xFE, 7, 5, 0, by decide +kernel⟩⟩

/-- The chip with a declared partner, in a state of the pair. -/
def twinned (d : DevState) (t : Twin) : State := { setObj (ported d 3) 0x9002 0 [0, 0, 0, 0, 0, 0, 0, 1] with twin := t }


theorem witness_ClaimsDecideTheRoles :
    (∃ (s : State) (t : Nat), s.twin.claim = .contend ∧ s.twin.backoffDue = some t ∧ t ≤ s.now ∧ lsfRuns s.power.dev = true) ∧
    (∃ (s : State), hasPartner s = true ∧ lsfRuns s.power.dev = true ∧ (s.twin.claim = .contend ∨ s.twin.claim = .claimed)) ∧
    (∃ (s : State), hasPartner s = true ∧ s.twin.claim = .released) ∧
    (∃ (s : State), hasPartner s = true ∧ s.power.dev = .follower ∧ s.twin.claim = .released) ∧
    (∃ (s : State), s.twin.interlock = true ∧ s.twin.disagree = 0 ∧ s.twin.agreeSince + 10000000000 ≤ s.now) ∧
    (∃ (s : State), swapRule s = 0 ∧ 0 < objN s 0x9006 0 ∧ s.twin.roleAt + objN s 0x9006 0 * 1000000000 ≤ s.now) ∧
    (∃ (s : State) (m : Nat), s.twin.swapAsn = some m ∧ s.power.dev = .active ∧ m ≤ refAsn s) ∧
    (∃ (s : State) (t : Nat), s.twin.swapSince = some t ∧ s.power.dev = .active ∧ s.twin.swapAsn = none ∧ t ≤ s.now ∧
      (t + 600000000000 ≤ s.now ∨ partnerReady s = false)) :=
  ⟨⟨twinned .load { claim := .contend, backoffDue := some 200000000000 }, 200000000000, by decide⟩,
   ⟨twinned .active { claim := .claimed }, by decide +kernel⟩,
   ⟨twinned .follower {}, by decide +kernel⟩,
   ⟨twinned .follower {}, by decide +kernel⟩,
   ⟨{ chip .active with twin := { interlock := true, agreeSince := 190000000000 } }, by decide⟩,
   ⟨{ setObj (twinned .active {}) 0x9006 0 (beOctets 4 3600) with now := 3600000000000 }, by decide +kernel⟩,
   ⟨twinned .active { swapAsn := some 20000 }, 20000, by decide +kernel⟩,
   ⟨twinned .active { swapSince := some 200000000000 }, 200000000000, by decide +kernel⟩⟩

/-- The condition of a pair whose partner was last heard 3 ms ago. -/
def heard3 (misses : Nat) : Twin := { absent := false, heardAt := 199997000000, misses := misses }


theorem witness_JournalDigestsAndRestarts :
    (∃ (s : State), hasPartner s = true ∧ s.twin.absent = false ∧ (s.power.dev = .active ∨ s.power.dev = .follower) ∧
      s.twin.heardAt + 1000000 * (s.twin.misses + 1) ≤ s.now ∧ s.twin.misses < 2) ∧
    (∃ (s : State), hasPartner s = true ∧ s.twin.absent = false ∧ s.power.dev = .follower ∧
      s.twin.heardAt + 1000000 * (s.twin.misses + 1) ≤ s.now ∧ 2 ≤ s.twin.misses) ∧
    (∃ (s : State), hasPartner s = true ∧ s.twin.absent = false ∧ s.power.dev = .active ∧
      s.twin.heardAt + 1000000 * (s.twin.misses + 1) ≤ s.now ∧ 2 ≤ s.twin.misses) ∧
    (∃ (s : State), hasPartner s = true ∧ s.power.dev = .active ∧ journalDue s = true) ∧
    (∃ (s : State), hasPartner s = true ∧ s.power.dev = .follower ∧ s.twin.sentAt + 1000000 ≤ s.now) ∧
    (∃ (s : State) (claim : Bool), hasPartner s = true ∧ portCarries s 3 = true ∧ s.power.dev = .follower ∧
      (checkInterlock (partnerHeard s) claim).power.dev = .follower ∧
      (checkInterlock (partnerHeard s) claim).twin.mismatch = false) ∧
    (∃ (s : State) (j : Jack), hasPartner s = true ∧ portCarries s 3 = true ∧ s.power.dev = .active ∧
      (checkInterlock (partnerHeard s) j.claim).power.dev = .active ∧
      (checkInterlock (partnerHeard s) j.claim).twin.mismatch = false) ∧
    (∃ (s : State), journals s = true) ∧
    (∃ (s : State) (k : Nat), journals s = false ∧ s.power.dev = .follower ∧ s.twin.digestDue = some (k, true)) ∧
    (∃ (s : State) (k : Nat), journals s = false ∧ s.power.dev = .follower ∧ s.twin.digestDue = some (k, false)) ∧
    (∃ (s : State), hasPartner s = true ∧ s.power.dev = .active ∧ s.twin.mismatch = false ∧ portCarries s 3 = true) ∧
    (∃ (s : State), hasPartner s = true ∧ s.power.dev = .follower ∧ s.twin.mismatch = false ∧ s.twin.snapWanted = true ∧
      portCarries s 3 = true) ∧
    (∃ (s : State) (bs : Nat), allBandSectors.contains bs = true ∧ lsfRuns s.power.dev = true ∧ debugHalts s bs = false ∧
      (∀ t, FMap.find s.twin.watchdogAt bs = some t → t + 60000000000 ≤ s.now)) ∧
    (∃ (s : State) (bs : Nat) (t : Nat), allBandSectors.contains bs = true ∧ lsfRuns s.power.dev = true ∧
      debugHalts s bs = false ∧ FMap.find s.twin.watchdogAt bs = some t ∧ s.now < t + 60000000000) ∧
    (∃ (s : State) (bs : Nat) (r : SeqRestart), FMap.find s.twin.restarts bs = some r ∧ r.halted = false) ∧
    (∃ (s : State) (bs : Nat) (r : SeqRestart), FMap.find s.twin.restarts bs = some r ∧ r.halted = true ∧
      r.resumeAsn ≤ asnNow s (bandOf bs)) ∧
    (∃ (s : State), lsfRuns s.power.dev = true ∧ s.twin.scrubAt + objN s 0x9014 0 * 1000000000 ≤ s.now) ∧
    (∃ (s : State) (bs : Nat), allBandSectors.contains bs = true ∧ (s.power.dev = .active ∨ s.power.dev = .follower) ∧
      (∀ t, FMap.find s.twin.loopAt bs = some t → t + 3600000000000 ≤ s.now)) :=
  ⟨⟨twinned .active (heard3 1), by decide +kernel⟩,
   ⟨twinned .follower (heard3 2), by decide +kernel⟩,
   ⟨twinned .active (heard3 2), by decide +kernel⟩,
   ⟨twinned .active { absent := false, sentAt := 199999000000 }, by decide +kernel⟩,
   ⟨twinned .follower { absent := false, sentAt := 199999000000 }, by decide +kernel⟩,
   ⟨twinned .follower (heard3 0), false, by decide +kernel⟩,
   ⟨twinned .active (heard3 0), ⟨0, 0, 0, false, false, false, 0, 0, 0⟩, by decide +kernel⟩,
   ⟨twinned .active (heard3 0), by decide +kernel⟩,
   ⟨twinned .follower { digestDue := some (3, true) }, 3, by decide +kernel⟩,
   ⟨twinned .follower { digestDue := some (3, false) }, 3, by decide +kernel⟩,
   ⟨twinned .active (heard3 0), by decide +kernel⟩,
   ⟨twinned .follower { snapWanted := true }, by decide +kernel⟩,
   ⟨{ chip .follower with twin := { watchdogAt := [(9, 140000000000)] } }, 9, by decide, rfl, rfl,
    fun t h => by cases h; decide⟩,
   ⟨{ chip .follower with twin := { watchdogAt := [(9, 140000000001)] } }, 9, 140000000001, by decide⟩,
   ⟨{ chip .active with twin := { restarts := [(9, ⟨1, false, 0⟩)] } }, 9, ⟨1, false, 0⟩, by decide⟩,
   ⟨{ chip .active with twin := { restarts := [(9, ⟨1, true, 20000⟩)] } }, 9, ⟨1, true, 20000⟩, by decide +kernel⟩,
   ⟨{ setObj (chip .follower) 0x9014 0 (beOctets 4 3600) with now := 3600000000000 }, by decide +kernel⟩,
   ⟨chip .active, 9, by decide, Or.inl rfl, fun t h => nomatch h⟩⟩

/-- A delta of 4 blocks for bank B, the first three built. -/
def delta3 : DeltaJournal := ⟨[], [], [], 1, 1, 4, [0, 1, 2]⟩

/-- The chip with an update in a state. -/
def updated (k : Nat) : State := { chip .active with image := { journal := some delta3, updState := k } }

/-- A recovery for a reason, its last valid frame 10 minutes ago. -/
def recoveryFor (k : Nat) : Recovery := { cause := k, frameAt := 0 }

/-- The chip in RECOVERY. -/
def recovering (k : Nat) : State :=
  { chip .recovery with now := 600000000000, image := { recovery := some (recoveryFor k) } }

/-- A recovery frame of command 1, number 0, without payload. -/
def helloFrame : Octets := [0xA5, 0x5A, 1, 0, 0, 0] ++ beOctets 4 (crc32c [1, 0, 0, 0])


theorem witness_ImagesBanksAndCommits :
    (∃ (s : State) (j : DeltaJournal), s.image.journal = some j ∧ s.image.updState = 2 ∧ servesSop s = true ∧
      nextBlock j < j.blocks) ∧
    (∃ (s : State) (j : DeltaJournal), s.image.journal = some j ∧ s.image.updState = 3 ∧ servesSop s = true) ∧
    (∃ (s : State) (j : DeltaJournal), s.image.journal = some j ∧ s.image.updState = 6 ∧ servesSop s = true) ∧
    (∃ (s : State) (t : Nat), s.image.trialSince = some t ∧ onTrialNow s = true ∧ trialState s.power.dev = true ∧
      t + objN s 0x8003 0 * 1000000000 ≤ s.now) ∧
    (∃ (s : State) (j : CommitJob), s.image.commit = some j ∧ lsfRuns s.power.dev = true ∧ s.power.dev ≠ .load ∧
      lsfStopped s = false) ∧
    (∃ (s : State), s.power.dev = .recovery) ∧
    (∃ (s : State), s.power.dev ≠ .recovery) ∧
    (∃ (s : State) (r : Recovery), s.image.recovery = some r ∧ s.power.dev = .recovery ∧ r.cause ≠ 1 ∧
      (bankAt s s.image.runBank).state = .confirmed ∧ r.frameAt + 600000000000 ≤ s.now) ∧
    (∃ (s : State) (frame : Octets) (p : Octets) (cmd : Nat) (seq : Nat), s.power.dev = .recovery ∧
      findFrame (frame.length + 1) frame = some (cmd, seq, p)) ∧
    (∃ (s : State) (r : Recovery), s.image.recovery = some r ∧ s.power.dev = .recovery) ∧
    (∃ (s : State), s.power.dev = .boot ∧ s.power.rails = true) :=
  ⟨⟨updated 2, delta3, by decide⟩,
   ⟨updated 3, delta3, by decide⟩,
   ⟨updated 6, delta3, by decide⟩,
   ⟨{ setObj (chip .follower) 0x8003 0 (beOctets 4 60) with image := { trial := true, trialSince := some 140000000000 } },
    140000000000, by decide +kernel⟩,
   ⟨{ chip .maintenance with image := { commit := some ⟨[], 1, false, 0⟩ } }, ⟨[], 1, false, 0⟩, by decide⟩,
   ⟨chip .recovery, by decide⟩,
   ⟨chip .active, by decide⟩,
   ⟨recovering 2, recoveryFor 2, by decide⟩,
   ⟨chip .recovery, helloFrame, [], 1, 0, by decide +kernel⟩,
   ⟨recovering 1, recoveryFor 1, by decide⟩,
   ⟨chip .boot, by decide⟩⟩

/-- A campaign on band-sector 1 that activates nodes by itself from slot 15,000 and ends at slot 20,000. -/
def campaign (st : CampaignState) : Campaign :=
  { state := st, id := 6, target := [5],
    cfg := [1, 0] ++ beOctets 2 1 ++ zeros 4 ++ [1] ++ beOctets 5 15000 ++ beOctets 5 20000 ++ zeros 295 }

/-- Chip 1, its node 5 joined, with that campaign in place 1. -/
def campaigning (st : CampaignState) : State :=
  { withNode .active { state := .joined } with fleet := { campaigns := [(1, campaign st)] } }


theorem witness_CampaignsMove :
    (∃ (s : State) (k : Nat), (stageAt s k).status = 3) ∧
    (∃ (s : State) (bs : Nat) (k : Nat), handlesAir s = true ∧ (campaignAt s k).state = .running ∧
      (campaignAt s k).sectors.contains bs = true ∧ (campaignQueued s (campaignAt s k) bs).length < 2) ∧
    (∃ (s : State) (h : Nat) (k : Nat) (n : Node) (content : Octets), nodeOf s h = some n ∧ n.state = .joined ∧
      handlesAir s = true ∧ content.length = 5 ∧ fieldOf content 0 1 = 0x31 ∧
      campaignById s (fieldOf content 1 1) = some k ∧ (campaignAt s k).target.contains (localIndex h) = true) ∧
    (∃ (s : State), handlesAir s = true ∧ timeAcquired s = true) ∧
    (∃ (s : State) (k : Nat), (campaignAt s k).state = .running ∧ (campaignAt s k).endAsn ≠ 0 ∧ timeAcquired s = true ∧
      (campaignAt s k).endAsn ≤ campaignAsn s (campaignAt s k)) ∧
    (∃ (s : State) (k : Nat), ((campaignAt s k).state = .delivered ∨ (campaignAt s k).state = .expired) ∧
      (campaignAt s k).policy = 1 ∧ timeAcquired s = true ∧ (campaignAt s k).activateAsn ≤ campaignAsn s (campaignAt s k)) ∧
    (∃ (s : State) (k : Nat), (campaignAt s k).state = .activating ∧ timeAcquired s = true ∧
      slotStart s (campaignBand s (campaignAt s k)) (campaignAt s k).activateAsn + 86400000000000 ≤ domainTime s) :=
  ⟨⟨{ chip .active with fleet := { stages := [(8, { status := 3 })] } }, 8, by decide⟩,
   ⟨campaigning .running, 1, 1, by decide +kernel⟩,
   ⟨campaigning .running, nodeH, 1, { state := .joined }, 0x31 :: 6 :: zeros 3, by decide +kernel⟩,
   ⟨chip .active, by decide⟩,
   ⟨campaigning .running, 1, by decide +kernel⟩,
   ⟨campaigning .delivered, 1, by decide +kernel⟩,
   ⟨{ campaigning .activating with now := 86400000000000 + 150000000000 }, 1, by decide +kernel⟩⟩

/-- A running application thread. -/
def worker : Thread := { state := .running, core := 3 }

/-- The chip whose thread 64 runs on core 3; thread 65 is ready at the same priority. -/
def working (d : DevState) (t : Thread) : State :=
  { chip d with threads := { threads := [(64, t), (65, {})], running := [(3, 64)], lists := [(16, [65])] } }

/-- The same at the end of a slice of 0.1 ms. -/
def sliced : Thread := { worker with slice := 1, runSince := 199999900000 }

/-- A follower that applies the journal, with that thread. -/
def workingShadow : State := { shadowing with threads := (working .follower worker).threads }


theorem witness_ThreadsUseTheScheduler :
    (∃ (s : State) (core : Nat) (addr : Nat) (tid : Nat) (t : Thread), core ≠ 0 ∧ runsOn s core tid t ∧
      inWindow addr 32 = true) ∧
    (∃ (s : State), lsfRuns s.power.dev = true) ∧
    (∃ (s : State) (core : Nat) (tid : Nat) (t : Thread), runsOn s core tid t) ∧
    (∃ (s : State) (core : Nat) (tid : Nat) (t : Thread), runsOn s core tid t) ∧
    (∃ (s : State) (core : Nat) (mask : Nat) (tid : Nat) (t : Thread), runsOn s core tid t ∧ mask < 2 ^ 16) ∧
    (∃ (s : State) (core : Nat) (value : Nat) (tid : Nat) (t : Thread), runsOn s core tid t ∧
      (threadOf s (value / 2 ^ 56 % 256)).isSome = true) ∧
    (∃ (s : State) (core : Nat) (tid : Nat) (t : Thread), runsOn s core tid t) ∧
    (∃ (s : State) (core : Nat) (tid : Nat) (t : Thread), runsOn s core tid t) ∧
    (∃ (s : State) (tid : Nat) (t : Thread), threadOf s tid = some t ∧ t.timer ≠ 0 ∧ t.timer ≤ domainTime s) ∧
    (∃ (s : State) (core : Nat) (tid : Nat) (t : Thread), runsOn s core tid t) ∧
    (∃ (s : State) (core : Nat) (tid : Nat) (t : Thread), runsOn s core tid t ∧ shadows s = false) ∧
    (∃ (s : State) (core : Nat) (tid : Nat) (t : Thread), runsOn s core tid t ∧ shadows s = true) ∧
    (∃ (s : State) (core : Nat) (tid : Nat) (t : Thread), runsOn s core tid t) ∧
    (∃ (s : State) (tid : Nat) (source : Nat) (t : Thread), threadOf s tid = some t ∧ t.lsf = false ∧ source < 7 ∧
      source ≠ 1) ∧
    (∃ (s : State) (core : Nat) (tid : Nat) (t : Thread), runsOn s core tid t ∧ t.slice ≠ 0 ∧
      t.runSince + t.slice * 100000 ≤ s.now ∧ (readyList s t.prio).any (eligible s core) = true) ∧
    (∃ (s : State) (core : Nat) (tid : Nat) (t : Thread), runsOn s core tid t ∧ t.lsf = false) ∧
    (∃ (s : State), objN s 0xB020 0 = 2 ∧ s.threads.windowAt + objN s 0xB030 0 * 1000000 ≤ s.now) :=
  ⟨⟨working .active worker, 3, 0xA0000000 - 32, 64, worker, by decide, ⟨rfl, rfl, rfl⟩, by decide⟩,
   ⟨chip .load, by decide⟩,
   ⟨working .active worker, 3, 64, worker, rfl, rfl, rfl⟩,
   ⟨working .active worker, 3, 64, worker, rfl, rfl, rfl⟩,
   ⟨working .active worker, 3, 0xFFFF, 64, worker, ⟨rfl, rfl, rfl⟩, by decide⟩,
   ⟨working .active worker, 3, 65 * 2 ^ 56, 64, worker, ⟨rfl, rfl, rfl⟩, by decide⟩,
   ⟨working .active worker, 3, 64, worker, rfl, rfl, rfl⟩,
   ⟨working .active worker, 3, 64, worker, rfl, rfl, rfl⟩,
   ⟨working .active { worker with timer := 200000000000 }, 64, { worker with timer := 200000000000 }, by decide +kernel⟩,
   ⟨working .active worker, 3, 64, worker, rfl, rfl, rfl⟩,
   ⟨working .active worker, 3, 64, worker, ⟨rfl, rfl, rfl⟩, by decide +kernel⟩,
   ⟨workingShadow, 3, 64, worker, ⟨rfl, rfl, rfl⟩, by decide +kernel⟩,
   ⟨working .active worker, 3, 64, worker, rfl, rfl, rfl⟩,
   ⟨working .active worker, 64, 6, worker, by decide⟩,
   ⟨working .active sliced, 3, 64, sliced, ⟨rfl, rfl, rfl⟩, by decide +kernel⟩,
   ⟨working .active worker, 3, 64, worker, ⟨rfl, rfl, rfl⟩, rfl⟩,
   ⟨setObj (chip .active) 0xB020 0 [2], by decide +kernel⟩⟩

/-- The chip with that thread, queue 63 bound to it with `l` waiting. -/
def bound (l : List Nat) : State :=
  { setObj (working .active worker) 0xB010 0 (zeros 252 ++ [0, 1, 64, 0]) with
    queues := { packets := [(7, ethPacket)] }
    threads := { (working .active worker).threads with queues := [(63, l)] } }

/-- A request in the thread's memory: class 2, a packet of 40 octets to a multicast address. -/
def request : Memory := [(0x80000000, 2), (0x80000003, 40), (0x8000000F, 64), (0x80000020, 0xFF)]

/-- The chip with that thread and that request, a burst limit of port 15 at `lim`. -/
def asking (d : DevState) (lim : Octets) : State :=
  { setObj (working d worker) 0x5030 7 lim with threads := { (working d worker).threads with memory := request } }

/-- The packet a request at an address asks to send. -/
def asked (s : State) (addr : Nat) : Packet :=
  threadPacket (fieldOf (appRead s addr 8) 0 1) (appRead s (addr + 8) (fieldOf (appRead s addr 8) 2 2))

/-- A limit of 16 MiB for each class. -/
def wide : Octets := (List.replicate 8 (beOctets 4 16777216)).flatten

/-- The chip after that submission, and whether a queue refused it. -/
def submitted (lim : Octets) : State × Bool := submitPacket (asking .active lim) (asked (asking .active lim) 0x80000000)

theorem pair_of {α : Type} (x : α × Bool) (b : Bool) (h : x.2 = b) : x = (x.1, b) := by
  cases x
  simp_all

theorem submitted_taken : submitted wide = ((submitted wide).1, false) := pair_of _ _ (by decide +kernel)

theorem submitted_refused : submitted (zeros 32) = ((submitted (zeros 32)).1, true) := pair_of _ _ (by decide +kernel)

/-- The premises of an accepted submission other than its admission. -/
def submits (s : State) (addr : Nat) : Bool :=
  2 ≤ fieldOf (appRead s addr 8) 0 1 && fieldOf (appRead s addr 8) 0 1 ≤ 7 && fieldOf (appRead s addr 8) 2 2 ≤ 2047 &&
    inWindow addr (8 + fieldOf (appRead s addr 8) 2 2) && s.power.dev ≠ .follower


theorem witness_QueuesAndMailboxesServeThreads :
    (∃ (s : State) (core : Nat) (q : Nat) (addr : Nat) (tid : Nat) (t : Thread), runsOn s core tid t ∧ q < 64 ∧
      (boundTid s q ≠ some tid ∨ inWindow addr 2080 = false)) ∧
    (∃ (s : State) (core : Nat) (q : Nat) (addr : Nat) (tid : Nat) (t : Thread), runsOn s core tid t ∧ q < 64 ∧
      boundTid s q = some tid ∧ inWindow addr 2080 = true ∧ FMap.getD s.threads.queues q [] = []) ∧
    (∃ (s : State) (core : Nat) (q : Nat) (addr : Nat) (tid : Nat) (k : Nat) (l : List Nat) (t : Thread) (p : QPacket),
      runsOn s core tid t ∧ q < 64 ∧ boundTid s q = some tid ∧ inWindow addr 2080 = true ∧
      FMap.getD s.threads.queues q [] = k :: l ∧ packetOf s k = some p) ∧
    (∃ (s : State) (core : Nat) (addr : Nat) (tid : Nat) (t : Thread), runsOn s core tid t ∧
      (fieldOf (appRead s addr 8) 0 1 < 2 ∨ 7 < fieldOf (appRead s addr 8) 0 1 ∨ 2047 < fieldOf (appRead s addr 8) 2 2)) ∧
    (∃ (s : State) (core : Nat) (addr : Nat) (tid : Nat) (t : Thread), runsOn s core tid t ∧
      2 ≤ fieldOf (appRead s addr 8) 0 1 ∧ fieldOf (appRead s addr 8) 0 1 ≤ 7 ∧ fieldOf (appRead s addr 8) 2 2 ≤ 2047 ∧
      inWindow addr (8 + fieldOf (appRead s addr 8) 2 2) = true ∧ s.power.dev = .follower) ∧
    (∃ (s a : State) (core addr tid : Nat) (t : Thread), runsOn s core tid t ∧ submits s addr = true ∧
      submitPacket s (asked s addr) = (a, false)) ∧
    (∃ (s a : State) (core addr tid : Nat) (t : Thread), runsOn s core tid t ∧ submits s addr = true ∧
      submitPacket s (asked s addr) = (a, true)) ∧
    (∃ (s : State) (core : Nat) (tid : Nat) (t : Thread), runsOn s core tid t) ∧
    (∃ (s : State) (core : Nat) (tid : Nat) (t : Thread), runsOn s core tid t) ∧
    (∃ (s : State) (core : Nat) (tid : Nat) (t : Thread), runsOn s core tid t) ∧
    (∃ (s : State) (n : Nat) (st : Nat) (v : Octets) (m : MailRequest), FMap.find s.threads.mail n = some m ∧
      m.result = some (st, v)) ∧
    (∃ (s : State) (tid : Nat) (t : Thread), threadOf s tid = some t ∧ t.lsf = false ∧ t.enqWait.isSome = true) :=
  ⟨⟨bound [7], 3, 63, 0xA0000000 - 2079, 64, worker, ⟨rfl, rfl, rfl⟩, by decide, Or.inr (by decide)⟩,
   ⟨bound [], 3, 63, 0xA0000000 - 2080, 64, worker, ⟨rfl, rfl, rfl⟩, by decide, by decide +kernel⟩,
   ⟨bound [7], 3, 63, 0x80000000, 64, 7, [], worker, ethPacket, ⟨rfl, rfl, rfl⟩, by decide, by decide +kernel⟩,
   ⟨working .active worker, 3, 0x80000000, 64, worker, ⟨rfl, rfl, rfl⟩, by decide +kernel⟩,
   ⟨asking .follower (zeros 32), 3, 0x80000000, 64, worker, ⟨rfl, rfl, rfl⟩, by decide +kernel⟩,
   ⟨asking .active wide, _, 3, 0x80000000, 64, worker, ⟨rfl, rfl, rfl⟩, by decide +kernel, submitted_taken⟩,
   ⟨asking .active (zeros 32), _, 3, 0x80000000, 64, worker, ⟨rfl, rfl, rfl⟩, by decide +kernel, submitted_refused⟩,
   ⟨working .active worker, 3, 64, worker, rfl, rfl, rfl⟩,
   ⟨working .active worker, 3, 64, worker, rfl, rfl, rfl⟩,
   ⟨working .active worker, 3, 64, worker, rfl, rfl, rfl⟩,
   ⟨{ chip .active with threads := { mail := [(5, ⟨3, 64, 0x80000000, 0, none, some (0, [])⟩)] } }, 5, 0, [], ⟨3, 64,
    0x80000000, 0, none, some (0, [])⟩, by decide⟩,
   ⟨working .active { worker with enqWait := some 2 }, 64, { worker with enqWait := some 2 }, by decide⟩⟩

/-- The observer's endpoint on CAN 0, and a frame of SID 0 that reads DEVICE_STATE. -/
def observer : Endpoint := ⟨0, [], 0⟩

def readFrame (version sid : Byte) (idx : Nat) : Octets :=
  [version, 1, sid, 0, 0, 0, 0, 1, 0, 6, 0, 0] ++ [1, 0] ++ beOctets 2 idx ++ [0, 0]

/-- The chip with that frame in its inbox. -/
def boxed (f : Octets) : State :=
  { chip .active with sop := { (chip .active).sop with inbox := [(observer, f)] } }

/-- The chip as the Installer's session holds something of its own. -/
def held (v : Views) : State := setViews (chip .active) (.session 2) v

/-- A segmented transfer of LABEL, last served 30 s ago. -/
def transferOf (write : Bool) : Transfer := ⟨write, 0x1016, 0, 8, if write then [1, 2] else zeros 8, 0, 170000000000⟩

/-- An EXECUTE that waits for a command, and a subscription that is due. -/
def waiting (idx : Nat) : ExecuteWait := ⟨5, idx, 1, [], 1, 199000000000⟩

def subscribed : Subscription := ⟨0x1010, 0, 1, 10, 200000000000, none, none, false⟩


theorem witness_SopOperationsAnswer :
    ((∃ (s t : State) (e : Endpoint) (f : Octets), s.sop.inbox = [(e, f)] ∧ takesSop s = true ∧
      frameStop { s with sop := { s.sop with inbox := [] } } e f = some t) ∧ (∃ (s : State) (e : Endpoint) (f : Octets),
      s.sop.inbox = [(e, f)] ∧ takesSop s = true ∧ frameStop { s with sop := { s.sop with inbox := [] } } e f = none ∧
      vendorNamed s (frameCaller e (frSid f)) (namedBy (frOp f) (frBody f)) = false ∧
      namedBy (frOp f) (frBody f) = [0x1010])) ∧
    ((∃ (s : State) (who : Caller) (items : List (Nat × Nat)) (i st : Nat), takesSop s = true ∧
      vendorNamed s who (items.map (·.1)) = false ∧ firstBad (fun (x : Nat × Nat) => readStatus s who x.1 x.2) 0 items =
      some (i, st)) ∧ (∃ (s : State) (who : Caller) (items : List (Nat × Nat)), takesSop s = true ∧
      vendorNamed s who (items.map (·.1)) = false ∧ firstBad (fun (x : Nat × Nat) => readStatus s who x.1 x.2) 0 items =
      none ∧ items ≠ [])) ∧
    ((∃ (s : State) (who : Caller) (items : List (Nat × Nat × Octets)) (i st : Nat), takesSop s = true ∧
      servesSop s = true ∧ vendorNamed s who (items.map (·.1)) = false ∧ writeRefused s who items = some (i, st)) ∧
      (∃ (s : State) (who : Caller) (items : List (Nat × Nat × Octets)), takesSop s = true ∧ servesSop s = true ∧
      vendorNamed s who (items.map (·.1)) = false ∧ writeRefused s who items = none ∧ items ≠ [])) ∧
    (∃ (s : State) (who : Caller) (i : Nat) (sub : Nat), takesSop s = true ∧ servesSop s = true ∧
      vendorNamed s who [i] = false ∧ readStatus s who i sub = 0) ∧
    (∃ (s : State) (who : Caller) (offset : Nat) (t : Transfer), takesSop s = true ∧ servesSop s = true ∧
      (viewsOf s who).transfer = some t ∧ t.write = false ∧ offset ≤ t.total) ∧
    (∃ (s : State) (who : Caller) (i : Nat) (sub : Nat) (total : Nat), takesSop s = true ∧ servesSop s = true ∧
      vendorNamed s who [i] = false ∧ segWriteStatus s who i sub total = 0) ∧
    (∃ (s : State) (who : Caller) (data : Octets) (t : Transfer), takesSop s = true ∧ servesSop s = true ∧
      (viewsOf s who).transfer = some t ∧ t.write = true ∧ t.data.length + data.length < t.total) ∧
    (∃ (s : State) (who : Caller) (data : Octets) (t : Transfer), takesSop s = true ∧ servesSop s = true ∧
      (viewsOf s who).transfer = some t ∧ t.write = true ∧ t.data.length + data.length = t.total) ∧
    (∃ (s : State) (who : Caller) (t : Transfer), (viewsOf s who).transfer = some t ∧ t.segAt + 30000000000 ≤ s.now) ∧
    (∃ (s : State) (t : State) (who : Caller) (i : Nat) (sub : Nat) (v : Octets) (ws : List (Nat × Nat × Octets)) (reads :
      List (Nat × Nat)), takesSop s = true ∧ servesSop s = true ∧
      vendorNamed s who (ws.map (·.1) ++ reads.map (·.1)) = false ∧ (viewsOf s who).execute = none ∧ ws.getLast? = some (i,
      sub, v) ∧ isCmd i sub = true ∧ writeItems s who ws = (t, none)) ∧
    (∃ (s : State) (who : Caller) (w : ExecuteWait), (viewsOf s who).execute = some w ∧ takesSop s = true ∧
      commandBusy s w.index w.sub = false) ∧
    (∃ (s : State) (who : Caller) (w : ExecuteWait), (viewsOf s who).execute = some w ∧ takesSop s = true ∧
      commandBusy s w.index w.sub = true ∧ w.startedAt + 1000000000 ≤ s.now) ∧
    (∃ (s : State) (who : Caller) (i : Nat) (sub : Nat) (mode : Nat) (interval : Nat), takesSop s = true ∧
      servesSop s = true ∧ vendorNamed s who [i] = false ∧ subscribeStatus s who i sub mode interval = (0, 0xFF)) ∧
    (∃ (s : State) (who : Caller) (k : Nat), takesSop s = true ∧ servesSop s = true ∧ (k = 0xFF ∨
      (viewsOf s who).subs.has k = true)) ∧
    (∃ (s : State) (who : Caller) (k : Nat) (x : Subscription), FMap.find (viewsOf s who).subs k = some x ∧
      takesSop s = true ∧ x.due ≤ s.now) ∧
    (∃ (s : State), takesSop s = true ∧ servesSop s = false) :=
  ⟨⟨⟨boxed (readFrame 0 0 0x1010), _, observer, readFrame 0 0 0x1010, rfl, rfl, rfl⟩, ⟨boxed (readFrame 0x10 0 0x1010), observer, readFrame 0x10 0 0x1010, by decide +kernel⟩⟩,
   ⟨⟨chip .active, .session 2, [(0x1010, 0), (0x1FFF, 0)], 1, stNoObject, by decide +kernel⟩, ⟨chip .active, .session 2, [(0x1010, 0), (0x1012, 0)], by decide +kernel⟩⟩,
   ⟨⟨chip .active, .session 2, [(0x9014, 0, beOctets 4 3600), (0x9014, 0, beOctets 4 3599)], 1, stRange, by decide +kernel⟩, ⟨chip .active, .session 2, [(0x9014, 0, beOctets 4 3600), (0x9014, 0, beOctets 4 604800)], by decide +kernel⟩⟩,
   ⟨chip .active, .session 2, 0x1010, 0, by decide +kernel⟩,
   ⟨held { transfer := some (transferOf false) }, .session 2, 8, transferOf false, by decide +kernel⟩,
   ⟨chip .active, .session 2, 0x9014, 0, 4, by decide +kernel⟩,
   ⟨held { transfer := some (transferOf true) }, .session 2, [3, 4, 5, 6, 7], transferOf true, by decide +kernel⟩,
   ⟨held { transfer := some (transferOf true) }, .session 2, [3, 4, 5, 6, 7, 8], transferOf true, by decide +kernel⟩,
   ⟨held { transfer := some (transferOf true) }, .session 2, transferOf true, by decide +kernel⟩,
   ⟨chip .active, (writeItems (chip .active) (.session 2) [(0x9021, 0, [0])]).1, .session 2, 0x9021, 0, [0], [(0x9021, 0,
    [0])], [(0x1010, 0)], by decide +kernel, by decide +kernel, by decide +kernel, by decide +kernel, rfl,
    by decide +kernel, Prod.ext rfl (by decide +kernel)⟩,
   ⟨held { execute := some (waiting 0x9021) }, .session 2, waiting 0x9021, by decide +kernel⟩,
   ⟨{ held { execute := some (waiting 0x8041) } with fleet := { campaigns := [(1, campaign .running)] } }, .session 2,
    waiting 0x8041, by decide +kernel⟩,
   ⟨chip .active, .session 2, 0x1010, 0, 3, 60000, by decide +kernel⟩,
   ⟨held { subs := [(4, subscribed)] }, .session 2, 4, by decide +kernel⟩,
   ⟨held { subs := [(4, subscribed)] }, .session 2, 4, subscribed, by decide +kernel⟩,
   ⟨{ chip .active with power := { (chip .active).power with lifecycle := .retired } }, by decide⟩⟩

/-- The partition with a key in slot 12: its commit word, and a half of 64 octets with the wrapped key `w` and the code `c`. -/
def roleCells (w c : Octets) : Memory :=
  [(0x160, 48), (0x167, 1), (0x1600, 51), (0x1601, 128), (0x1607, 1)] ++
    (List.range 40).map (fun i => (0x1608 + i, w.getD i 0)) ++ (List.range 16).map (fun i => (0x1630 + i, c.getD i 0))

/-- The first 48 octets of that half: a derive-only key of 256 bits. -/
def roleHead (w : Octets) : Octets := [51, 128, 0, 0, 0, 0, 0, 1] ++ w

/-- A role key of zeros as the KEK of zeros wraps it. -/
def wrappedRole : Octets :=
  beOctets 40 0x97317494343807e690fd1e431413963dc0e3deb4907fb89fa36ce65126d0ea1301381fb3a2941e2f

/-- A half-open Operator session of METHOD 0, opened 10 s ago, with its role key in slot 12. -/
def roleHalf : Session := { sessionOf 1 with half := true, activeAt := 190000000000, slot := 12 }

/-- The chip with that role key and that session. -/
def roleChip : State :=
  { chip .active with
    keys := { kek := some (zeros 32),
              partition := roleCells wrappedRole (cmac (Config.integrityOf (zeros 32)) (roleHead wrappedRole)) }
    sop := { sessions := [(8, roleHalf)] } }

theorem role_cells (w c : Octets) : (roleCells w c).readAll 0x1600 64 =
    [51, 128, 0, 0, 0, 0, 0, 1] ++ (List.range 40).map (fun i => w.getD i 0) ++ (List.range 16).map (fun i => c.getD i 0) := by
  rfl

theorem role_word (w c : Octets) : beNat ((roleCells w c).readAll 0x160 8) = 12 * 2 ^ 58 + 1 := by
  have h : (roleCells w c).readAll 0x160 8 = [48, 0, 0, 0, 0, 0, 0, 1] := by rfl
  rw [h]
  decide

theorem role_half : slotHalf roleChip 12 0 = roleHead wrappedRole ++ cmac (Config.integrityOf (zeros 32)) (roleHead wrappedRole) := by
  have hw : wrappedRole.length = 40 := by decide
  show (roleCells wrappedRole _).readAll 0x1600 64 = _
  rw [role_cells, octets_of_length 40 wrappedRole hw, octets_of_length 16 _ (Laws.cmac_length _ _), roleHead]

theorem role_fits : roleKeyFits roleChip 12 = true ∧ slotValue roleChip 12 = some (zeros 32) := by
  have hw : wrappedRole.length = 40 := by decide
  have hl : (roleHead wrappedRole).length = 48 := by decide
  have ht : (slotHalf roleChip 12 0).take 48 = roleHead wrappedRole := by rw [role_half, ← hl, List.take_left]
  have hd : (slotHalf roleChip 12 0).drop 48 = cmac (Config.integrityOf (zeros 32)) (roleHead wrappedRole) := by
    rw [role_half, ← hl, List.drop_left]
  have b : commitWord roleChip 12 = 12 * 2 ^ 58 + 1 := role_word _ _
  have e : slotEmpty roleChip 12 = false := by rw [slotEmpty, wordValid, b]; decide
  have f : halfInForce roleChip 12 = 0 := by rw [halfInForce, wordValid, b]; decide
  have g : slotCounter roleChip 12 = 1 := by rw [slotCounter, wordValid, b]; decide
  have a1 : fieldOf (slotHalf roleChip 12 0) 0 1 = 51 := by rw [role_half]; rfl
  have a2 : fieldOf (slotHalf roleChip 12 0) 1 1 = 128 := by rw [role_half]; rfl
  have a3 : fieldOf (slotHalf roleChip 12 0) 4 4 = 1 := by rw [role_half]; rfl
  have a4 : sliceOf (slotHalf roleChip 12 0) 8 40 = wrappedRole := by
    rw [role_half]
    simp [roleHead, sliceOf, ← hw]
  have u : keyUnwrap (zeros 32) wrappedRole = some (zeros 32) := by decide +kernel
  have t : Nat.testBit 128 7 = true := by decide
  have k : roleChip.keys.kek = some (zeros 32) := rfl
  have v : slotValue roleChip 12 = some (zeros 32) := by
    simp [slotValue, e, halfValue, k, f, a1, a2, a3, g, ht, hd, a4, u, bitsOf, bitOf, t]
  exact ⟨by simp [roleKeyFits, e, v, slotUse, f, a1, a2, bitOf, t], v⟩

theorem roleProof : authProof roleChip 8 1 roleHalf [] ((cmac (kdf (zeros 32) (sessionInput 8 roleHalf [byte 0] ++ beOctets 2 128)
    128) (authHeader 8 1)).take 8) = some (kdf (zeros 32) (sessionInput 8 roleHalf [byte 0] ++ beOctets 2 128) 128) := by
  have h : sessionKey roleChip 8 roleHalf = some (kdf (zeros 32) (sessionInput 8 roleHalf [byte 0] ++ beOctets 2 128) 128) := by
    show (if roleKeyFits roleChip 12 then (slotValue roleChip 12).map _ else none) = _
    rw [role_fits.1, role_fits.2]
    rfl
  have m : roleHalf.method = 0 := rfl
  rw [authProof, if_pos m, h, Option.bind_some, if_pos rfl]

/-- A half-open Installer session of METHOD 1, opened 10 s ago, and the chip with it alone. -/
def half : Session := { sessionOf 2 with half := true, activeAt := 190000000000 }

def halfOpen (d : DevState) (x : Session) : State := { chip d with sop := { sessions := [(8, x)] } }


theorem witness_SessionsOpenAndEnd :
    (∃ (s : State) (e : Endpoint) (role : Nat) (method : Nat) (sid : Nat), takesSop s = true ∧ servesSop s = true ∧
      openStatus s e.transport role method = 0 ∧ FMap.lowestFree s.sop.sessions 1 8 = some sid) ∧
    (∃ (s : State) (sid seq : Nat) (sig tag k : Octets) (x : Session), takesSop s = true ∧ servesSop s = true ∧
      FMap.find s.sop.sessions sid = some x ∧ x.half = true ∧ authProof s sid seq x sig tag = some k) ∧
    (∃ (s : State) (sid : Nat) (seq : Nat) (sig : Octets) (tag : Octets) (x : Session), takesSop s = true ∧
      servesSop s = true ∧ FMap.find s.sop.sessions sid = some x ∧ x.half = true ∧ authProof s sid seq x sig tag = none) ∧
    (∃ (s : State) (sid : Nat) (x : Session), takesSop s = true ∧ servesSop s = true ∧
      FMap.find s.sop.sessions sid = some x ∧ x.half = false) ∧
    (∃ (s : State) (sid : Nat) (x : Session), FMap.find s.sop.sessions sid = some x ∧ x.half = true ∧
      x.activeAt + 10000000000 ≤ s.now ∧ lsfStopped s = false) ∧
    (∃ (s : State) (sid : Nat) (x : Session), FMap.find s.sop.sessions sid = some x ∧ x.half = false ∧
      x.activeAt + objN s 0x1110 0 * 1000000000 ≤ s.now ∧ lsfStopped s = false) ∧
    (∃ (s : State) (n : Nat) (t : Nat), FMap.find s.sop.lockout n = some t ∧ t ≤ s.now) ∧
    (∃ (s : State) (who : Caller) (i : Nat), vendorTouch s who i = false ∧ lsfStopped s = false) :=
  ⟨⟨{ chip .active with sop := {} }, observer, 3, 1, 1, by decide +kernel⟩,
   ⟨roleChip, 8, 1, [], _, _, roleHalf, by rfl, by rfl, by rfl, rfl, roleProof⟩,
   ⟨halfOpen .active { half with method := 0, slot := 40 }, 8, 1, [], [], { half with method := 0, slot := 40 },
    by decide +kernel⟩,
   ⟨chip .active, 1, sessionOf 1, by decide⟩,
   ⟨halfOpen .zeroized half, 8, half, by decide⟩,
   ⟨setObj (chip .active) 0x1110 0 (beOctets 4 200), 1, sessionOf 1, by decide +kernel⟩,
   ⟨{ chip .active with sop := { lockout := [(6, 200000000000)] } }, 6, 200000000000, by decide⟩,
   ⟨chip .active, .session 3, 0xEFFF, by decide +kernel⟩⟩

/-- The chip without sessions, and after a Vendor's OPEN of METHOD 1 on SPI. -/
def closedChip : State := { chip .active with sop := {} }

def opened : State := opOpen closedChip ⟨6, [], 0⟩ 1 3 1 (zeros 16)


theorem witness_MethodOneStaysOffUdp :
    (∃ (s : State) (e : Endpoint), takesSop s = true ∧ servesSop s = true ∧ 2 ≤ e.transport ∧ e.transport ≤ 4) ∧
    (∃ (s : State) (t : State) (e : Endpoint) (seq : Nat) (role : Nat) (nonce : Octets), e.transport ≤ 6 ∧
      exec (.sopOpen e seq role 1 nonce) s = .next t ∧ s.sop.sessions.length < t.sop.sessions.length) :=
  ⟨⟨closedChip, ⟨4, [], 0⟩, by decide⟩,
   ⟨closedChip, opened, ⟨6, [], 0⟩, 1, 3, zeros 16, by decide, rfl, by decide +kernel⟩⟩

theorem witness_VendorRangeRefuses :
    (∃ (s : State) (who : Caller) (i : Nat), callerRole s who = some 3 ∧ 0xF000 ≤ i ∧ i ≤ 0xFFFF) ∧
    (∃ (s : State) (e : Endpoint) (f : Octets) (rest : List (Endpoint × Octets)) (i : Nat), s.sop.inbox = (e, f) :: rest ∧
      takesSop s = true ∧ frameStop { s with sop := { s.sop with inbox := rest } } e f = none ∧
      callerRole s (.session (frSid f)) = some 3 ∧ frSid f ≠ 0 ∧ i ∈ namedBy (frOp f) (frBody f) ∧ 0xF000 ≤ i ∧ i ≤ 0xFFFF) :=
  ⟨⟨chip .active, .session 3, 0xFFFF, by decide⟩,
   ⟨boxed (readFrame 0x10 3 0xF000), observer, readFrame 0x10 3 0xF000, [], 0xF000, by decide +kernel⟩⟩

/-- The chip whose CAN configurations name node 1. -/
def canChip : State := { chip .active with sop := { (chip .active).sop with canCfg := [(0, [1, 0, 0]), (1, [1, 0, 0])] } }

/-- An identifier to node 1 from host node 127. -/
def canTo1 : Nat := 2 ^ 18 + 127 * 2 ^ 11

/-- The first address of the chip's own. -/
def ownAddr (s : State) : Octets := (sopAddresses s).headD []

theorem own_addr (s : State) : (sopAddresses s).contains (ownAddr s) = true := by
  rw [List.contains_iff_mem]
  have h : ∃ x l, sopAddresses s = x :: l := ⟨_, _, rfl⟩
  obtain ⟨x, l, h⟩ := h
  simp [ownAddr, h]


theorem witness_TransportsCarryFrames :
    (∃ (s : State) (bus : Nat) (id : Nat) (data : Octets), sopUp s = true ∧ bus ≤ 1 ∧ s.sop.canHeld.contains bus = false ∧
      bitOf id 25 = false ∧ bitsOf id 24 18 = fieldOf (FMap.getD s.sop.canCfg bus []) 0 1 ∧ bitsOf id 17 11 ≠ 0 ∧
      data ≠ [] ∧ transportOn s bus = true) ∧
    (∃ (s : State) (bus : Nat) (id : Nat) (data : Octets), sopUp s = true ∧ bus ≤ 1 ∧ s.sop.canHeld.contains bus = false ∧
      bitOf id 25 = false ∧ bitsOf id 24 18 = fieldOf (FMap.getD s.sop.canCfg bus []) 0 1 ∧ bitsOf id 17 11 ≠ 0 ∧
      data ≠ [] ∧ transportOn s bus = false) ∧
    (∃ (s : State) (bus : Nat) (host : Nat) (a : CanAssembly), FMap.find s.sop.can (128 * bus + host) = some a ∧
      a.lastAt + 10000000 ≤ s.now) ∧
    (∃ (s : State) (bus : Nat), sopUp s = true ∧ bus ≤ 1 ∧ s.sop.canHeld.contains bus = false) ∧
    (∃ (s : State) (ingress : Nat) (dest : Octets) (payload : Octets) (frag : Bool), sopUp s = true ∧
      (sopAddresses s).contains dest = true ∧ udpAllowed s ingress frag payload = true) ∧
    (∃ (s : State) (ingress : Nat) (dest : Octets) (payload : Octets) (frag : Bool), sopUp s = true ∧
      (sopAddresses s).contains dest = true ∧ udpAllowed s ingress frag payload = false) ∧
    (∃ (s : State) (n : Nat), sopUp s = true ∧ 1 ≤ n ∧ n ≤ 8192 ∧ transportOn s 5 = true) ∧
    (∃ (s : State), takesSop s = true) ∧
    (∃ (s : State), sopUp s = true ∧ transportOn s 6 = true) ∧
    (∃ (s : State) (f : Octets) (rest : List Octets), sopUp s = true ∧ s.sop.spiOut = f :: rest) ∧
    (∃ (s : State), sopUp s = true ∧ s.sop.spiOut = []) ∧
    (∃ (s : State), sopUp s = true) :=
  ⟨⟨canChip, 1, canTo1, [0], by decide +kernel⟩,
   ⟨setObj canChip 0x1100 0 (beOctets 1 1), 1, canTo1, [0], by decide +kernel⟩,
   ⟨{ chip .active with sop := { can := [(255, ⟨0, [], 199990000000, 0⟩)] } }, 1, 127, ⟨0, [], 199990000000, 0⟩, by decide⟩,
   ⟨chip .zeroized, 1, by decide⟩,
   ⟨chip .active, 0, ownAddr (chip .active), [0x10, 1, 1] ++ zeros 1229, false, rfl, own_addr _, by decide +kernel⟩,
   ⟨chip .active, 0, ownAddr (chip .active), [0x10, 1, 1] ++ zeros 1230, false, rfl, own_addr _, by decide +kernel⟩,
   ⟨chip .active, 8192, by decide +kernel⟩,
   ⟨chip .active, by decide⟩,
   ⟨chip .active, by decide +kernel⟩,
   ⟨{ chip .active with sop := { spiOut := [[1]] } }, [1], [], by decide⟩,
   ⟨chip .active, by decide⟩,
   ⟨chip .zeroized, by decide⟩⟩

/-- A ranging cell of node 5, the run that uses it at its last cell, and the chip with both. -/
def rangingCell : Cell := { valid := true, kind := 3, peer := nodeH, bandSector := 1, mode := 0x20 }

def rangeRun (passed asn bs : Nat) : RangeRun := ⟨9, 4, 4, passed, 0, [(7, [])], [], asn, bs⟩

def rangeNode : Node := { state := .joined, rangeCap := 0xF0 }

def ranging : State :=
  { setObj (withNode .active rangeNode) 0x4100 1 (byte 3 :: beOctets 2 100) with
    sched := { cells := [(11, rangingCell)] }
    measure := { ranges := [(nodeH, rangeRun 7 0 0)] } }


theorem witness_MeasurementsAndRanging :
    (∃ (s : State), measures s = true ∧ s.measure.surveyAt + surveyPeriod s * 1000000000 ≤ s.now) ∧
    (∃ (s : State), lsfRuns s.power.dev = true ∧ s.measure.nfHour ≠ some (domainTime s / 3600000000000)) ∧
    (∃ (s : State) (bs cell : Nat) (r x : RangeRun) (n : Node), FMap.find s.measure.ranges (cellAt s cell).peer = some r ∧
      nodeOf s (cellAt s cell).peer = some n ∧ mayTransmit s = true ∧
      rangesIn s (cellAt s cell).peer n (cellAt s cell) = true ∧ (cellAt s cell).bandSector = bs ∧ serviceState s bs = 0 ∧
      r.cellsPassed < 2 * r.k ∧ FMap.find (sendPoll s cell (cellAt s cell).peer (cellAt s cell) r).measure.ranges (cellAt s
      cell).peer = some x) ∧
    (∃ (s : State) (h : Nat) (content : Octets) (r : RangeRun), FMap.find s.measure.ranges h = some r ∧
      content.length = 28 ∧ fieldOf content 0 1 = 0x11 ∧ fieldOf content 1 1 = r.rangeId ∧
      r.chipTones.has (fieldOf content 2 1) = true) ∧
    (∃ (s : State), measures s = true) ∧
    (∃ (s : State) (temps : List Int), measures s = true ∧ temps.length = 6) ∧
    (∃ (s : State) (ch : Nat) (codes : List Nat), ch < 8 ∧ measures s = true ∧ bitOf (ainCfg s ch 0 1) 0 = true ∧
      codes.length = ainCfg s ch 3 1 ∧ codes ≠ [] ∧ (∀ t, (FMap.getD s.measure.ain (ch + 1) {}).sampledAt = some t →
      t + 1000000000 / max 1 (ainCfg s ch 1 2) ≤ s.now)) :=
  ⟨⟨setObj (chip .active) 0xA200 0 (beOctets 2 200 ++ zeros 3), by decide +kernel⟩,
   ⟨chip .load, by decide +kernel⟩,
   ⟨ranging, 1, 11, rangeRun 7 0 0, rangeRun 8 20000 1, rangeNode, by decide +kernel⟩,
   ⟨ranging, nodeH, [0x11, 9, 7] ++ zeros 25, rangeRun 7 0 0, by decide +kernel⟩,
   ⟨chip .maintenance, by decide⟩,
   ⟨chip .active, [0, 0, 0, 0, 0, 0], by decide⟩,
   ⟨chip .active, 7, [0, 0, 0, 4095], by decide, rfl, by decide +kernel, by decide +kernel, by decide, fun t h => nomatch h⟩⟩

/-- A frame of the debug transport with its CRC. -/
def debugFrame (op addr data : Nat) : Nat :=
  let x := 10 * 2 ^ 52 + op * 2 ^ 50 + addr * 2 ^ 40 + data * 2 ^ 8
  x * 256 + crc8 (beOctets 7 x)

/-- The chip with a module selected. -/
def selecting (m : Option Nat) : State := { chip .active with dbg := { selected := m } }


theorem witness_DebugTransportAnswers :
    (∃ (s : State) (f : Nat), debugServed s = true ∧ bitsOf f 63 60 = 10 ∧ frameGood f = false) ∧
    ((∃ (s : State) (f : Nat), debugServed s = true ∧ bitsOf f 63 60 = 10 ∧ frameGood f = true ∧ frameOp f = 2 ∧
      frameData f % 16 = 15) ∧ (∃ (s : State) (f : Nat), debugServed s = true ∧ bitsOf f 63 60 = 10 ∧ frameGood f = true ∧
      frameOp f = 3) ∧ (∃ (s : State) (f : Nat), debugServed s = true ∧ bitsOf f 63 60 = 10 ∧ frameGood f = true ∧
      frameOp f = 0 ∧ s.dbg.selected = none) ∧ (∃ (s : State) (f : Nat), debugServed s = true ∧ bitsOf f 63 60 = 10 ∧
      frameGood f = true ∧ frameOp f = 1 ∧ s.dbg.selected = none)) ∧
    ((∃ (s : State) (f m : Nat), debugServed s = true ∧ bitsOf f 63 60 = 10 ∧ frameGood f = true ∧ m ≤ 1 ∧
      s.dbg.selected = some m ∧ frameOp f = 0) ∧ (∃ (s : State) (f m : Nat), debugServed s = true ∧ bitsOf f 63 60 = 10 ∧
      frameGood f = true ∧ m ≤ 1 ∧ s.dbg.selected = some m ∧ frameOp f = 1)) ∧
    (([(0, 2), (1, 11), (0, 1), (1, 12), (1, 15)].all (fun x => debugServed (selecting (some 15)) && bitsOf (debugFrame x.1
      x.2 5) 63 60 = 10 && frameGood (debugFrame x.1 x.2 5) && frameOp (debugFrame x.1 x.2 5) = x.1 && frameAddr
      (debugFrame x.1 x.2 5) = x.2) = true ∧ (selecting (some 15)).dbg.selected = some 15 ∧
      (selecting (some 15)).power.lifecycle ≠ .retired)) ∧
    (∃ (s : State) (t : Nat), s.dbg.expires = some t ∧ t ≤ s.now) :=
  ⟨⟨chip .active, debugFrame 3 0 0 + 1, by decide +kernel⟩,
   ⟨⟨chip .active, debugFrame 2 0 15, by decide +kernel⟩, ⟨chip .active, debugFrame 3 0 0, by decide +kernel⟩, ⟨chip .active, debugFrame 0 127 0, by decide +kernel⟩, ⟨chip .active, debugFrame 1 127 0, by decide +kernel⟩⟩,
   ⟨⟨selecting (some 1), debugFrame 0 127 0, 1, by decide +kernel⟩, ⟨selecting (some 0), debugFrame 1 127 (2 ^ 32 - 1), 0, by decide +kernel⟩⟩,
   by decide +kernel,
   ⟨{ chip .active with dbg := { expires := some 200000000000 } }, 200000000000, by decide⟩⟩

/-- The chip whose domain time was last written at an instant. -/
def persistedAt (w : Nat) : State := { chip .active with time := { mode := .locked, persisted := some (0, 0, w) } }


theorem witness_TimePersistsOnceAMinute :
    (∃ (s : State), s.time.mode ≠ .unacquired ∧ lsfRuns s.power.dev = true ∧ (∀ d m w, s.time.persisted = some (d, m, w) →
      w + 60000000000 ≤ s.now)) ∧
    (∃ (s : State) (d : Nat) (m : Nat) (w : Nat), s.time.persisted = some (d, m, w) ∧ s.now < w + 60000000000) ∧
    (∃ (s : State), s.time.mode = .unacquired) :=
  ⟨⟨persistedAt 140000000000, by decide, rfl, fun d m w h => by cases h; decide⟩,
   ⟨persistedAt 140000000001, 0, 0, 140000000001, by decide⟩,
   ⟨State.reset, by decide⟩⟩

theorem witness_FifoPacksUnitsIntoWords :
    (∃ (s : State) (n : Nat) (u : Octets), n < 64 ∧ (fifoOf s n).dropToLast = false ∧ (fifoOf s n).words.length < 64 ∧
      u.length = 16 ∧ (fifoOf s n).packing.length < 48) ∧
    (∃ (s : State) (n : Nat) (u : Octets) (last : Bool), n < 64 ∧ (fifoOf s n).dropToLast = false ∧
      (fifoOf s n).words.length < 64 ∧ 1 ≤ u.length ∧ u.length ≤ 16 ∧ (fifoOf s n).packing.length ≤ 48 ∧ (last = true ∨
      (u.length = 16 ∧ (fifoOf s n).packing.length = 48))) :=
  ⟨⟨withFifo 63 { words := List.replicate 63 goodWord, packing := List.replicate 32 9 }, 63, List.replicate 16 1,
    by decide +kernel⟩,
   ⟨withFifo 0 { words := List.replicate 63 goodWord, packing := List.replicate 48 9 }, 0, List.replicate 16 1, false,
    by decide +kernel, by decide +kernel, by decide +kernel, by decide, by decide, by decide, Or.inr (by decide)⟩⟩

theorem witness_DamagedWordsCloseTheirPackets :
    (∃ (s : State) (n : Nat) (w : Octets) (rest : List Octets), (fifoOf s n).words = w :: rest ∧
      (fifoOf s n).skipping = false) ∧
    (∃ (s : State) (n : Nat) (w : Octets) (rest : List Octets) (flips : List Nat), (fifoOf s n).words = w :: rest ∧
      (fifoOf s n).skipping = true ∧ wordFirst (flipBits w flips) = false) ∧
    (∃ (s : State) (n : Nat) (w : Octets) (rest : List Octets) (flips : List Nat), (fifoOf s n).words = w :: rest ∧
      (fifoOf s n).skipping = true ∧ wordFirst (flipBits w flips) = true ∧ sideGood (flipBits w flips) = true ∧
      dataGood (flipBits w flips) = true) ∧
    (∃ (w : Octets), w.length = 68) :=
  ⟨⟨withFifo 0 { words := [goodWord] }, 0, goodWord, [], by decide +kernel⟩,
   ⟨withFifo 0 { words := [goodWord], skipping := true }, 0, goodWord, [], [519], by decide +kernel⟩,
   ⟨withFifo 0 { words := [goodWord], skipping := true }, 0, goodWord, [], [], by decide +kernel⟩,
   ⟨goodWord, by decide +kernel⟩⟩

theorem witness_LookupTakesTheFirstMatch :
    (∃ (s : State) (key : Octets) (l : Nat) (e : HostEntry), l ∈ lookupOrder key ∧ entryAt s l = some e ∧ e.key = key) ∧
    (∃ (s : State) (key : Octets) (l : Nat), findKey s key = some l) :=
  ⟨⟨withHost { key := zeros 16 }, zeros 16, 4 * bucket1 (zeros 16), { key := zeros 16 }, by decide +kernel⟩,
   ⟨withHost { key := zeros 16 }, zeros 16, 4 * bucket1 (zeros 16), by decide +kernel⟩⟩

theorem witness_EventClearEmptiesTheRecorder :
    (∃ (s : State) (who : Caller) (v : Nat), lsfStopped s = false ∧
      commandStatus s who 0xA006 0 (beOctets 1 v) (fun _ => 0) = 0) :=
  ⟨chip .active, .session 1, 0, by decide +kernel⟩

theorem witness_ThreadsMayNotEnqueueTheTopClasses :
    (∃ (s : State) (core : Nat) (addr : Nat) (tid : Nat) (t : Thread), runsOn s core tid t ∧ t.lsf = false ∧
      fieldOf (appRead s addr 8) 0 1 ≤ 1) ∧
    (∃ (s : State) (core : Nat) (addr : Nat) (tid : Nat) (t : Thread), runsOn s core tid t ∧ t.lsf = false ∧
      2 ≤ fieldOf (appRead s addr 8) 0 1 ∧ fieldOf (appRead s addr 8) 0 1 ≤ 7 ∧ fieldOf (appRead s addr 8) 2 2 ≤ 2047 ∧
      inWindow addr (8 + fieldOf (appRead s addr 8) 2 2) = true) :=
  ⟨⟨working .active worker, 3, 0x80000000, 64, worker, ⟨rfl, rfl, rfl⟩, rfl, by decide +kernel⟩,
   ⟨asking .active wide, 3, 0x80000000, 64, worker, ⟨rfl, rfl, rfl⟩, rfl, by decide +kernel⟩⟩

theorem witness_MemoryKeepsItsFormAndItsValues :
    (∃ (m : Memory), m.wf = true) :=
  ⟨[(3, 1), (2 ^ 40, 255)], by decide⟩

/-- The Installer's session. -/
def installer2 : Caller := .session 2

theorem witness_CounterClearsZeroTheirCounters :
    [0x2171, 0x3041, 0x2311, 0x4151, 0x4241, 0x5141, 0x6061, 0x7051, 0x9021, 0x1121].all (fun i =>
      canRun (chip .active) installer2 i 0 [byte 0] (fun _ => 0)) = true := by decide +kernel

theorem witness_DeviceStateCommandsRun :
    (∃ (s : State) (who : Caller), canRun s who 0x1014 0 [byte 1] (fun s => require (s.power.dev = .active) stState) = true) ∧
    (∃ (s : State) (who : Caller), lsfStopped s = false ∧ commandStatus s who 0x1014 0 [byte 2] resumeRule = 0) ∧
    (∃ (s : State) (who : Caller), canRun s who 0x1014 0 [byte 3] (fun _ => 0) = true) ∧
    (∃ (s : State) (who : Caller) (v : Nat), canRun s who 0xA501 0 (beOctets 1 v) (fun _ => 0) = true) ∧
    (∃ (s : State) (who : Caller) (v : Nat), canRun s who 0x7124 0 (beOctets 1 v) (fun _ => require (v % 256 = 0xA5)
      stRange) = true) :=
  ⟨⟨chip .active, installer2, by decide +kernel⟩,
   ⟨keyedChip .maintenance, installer2, show (0#13).toNat.testBit 0 = false by decide, by
      have a : writeStatus (keyedChip .maintenance) installer2 0x1014 0 [byte 2] = 0 := by rfl
      have k : partitionEmpty (keyedChip .maintenance) = false := by
        rw [partitionEmpty, keyedChip_slot]
        rfl
      have c : configUnresolved (keyedChip .maintenance) = false := by rfl
      have d : (keyedChip .maintenance).power.dev = .maintenance := rfl
      have l : (keyedChip .maintenance).power.lifecycle = .field := rfl
      rw [commandStatus, a]
      simp [resumeRule, k, c, d, l, require]⟩,
   ⟨chip .active, installer2, by decide +kernel⟩,
   ⟨chip .active, installer2, 0, by decide +kernel⟩,
   ⟨chip .active, installer2, 0xA5, by decide +kernel⟩⟩

theorem witness_ReadoutCommandsRun :
    (∃ (s : State) (who : Caller) (v : Nat), canRun s who 0x2161 0 (beOctets 4 v) (fun _ => nfCursorCheck v) = true) ∧
    (∃ (s : State) (who : Caller) (v : Nat), canRun s who 0xA201 0 (beOctets 4 v) (fun _ => nfCursorCheck v) = true) ∧
    (∃ (s : State) (who : Caller) (v : Nat), canRun s who 0xA210 0 (beOctets 4 v) (fun _ => historyCheck v) = true) ∧
    (∃ (s : State) (who : Caller) (v : Nat), canRun s who 0xA001 0 (beOctets 4 v) (fun _ => 0) = true) ∧
    (∃ (s : State) (who : Caller) (v : Nat), canRun s who 0xA003 0 (beOctets 4 v) (fun _ => 0) = true) ∧
    (∃ (s : State) (who : Caller) (v : Nat), canRun s who 0xA004 0 (beOctets 1 v) (fun _ => 0) = true) ∧
    (∃ (s : State) (who : Caller) (v : Nat), canRun s who 0xA006 0 (beOctets 1 v) (fun _ => 0) = true) ∧
    (∃ (s : State) (who : Caller) (v : Nat), canRun s who 0xA009 0 (beOctets 2 v) (fun _ => 0) = true) ∧
    (∃ (s : State) (who : Caller) (o : Octets), canRun s who 0xA100 0 o (ptraceCheck o) = true) ∧
    (∃ (s : State) (who : Caller) (v : Nat), canRun s who 0xA101 0 (beOctets 4 v) (fun _ => 0) = true) ∧
    (∃ (s : State) (who : Caller) (v : Nat), canRun s who 0xB020 0 (beOctets 1 v) (fun _ => schedObsCheck (v % 256)) = true) ∧
    (∃ (s : State) (who : Caller) (v : Nat), canRun s who 0xB022 0 (beOctets 4 v) (fun _ => 0) = true) ∧
    (∃ (s : State) (who : Caller) (o : Octets), canRun s who 0x4222 0 o (fun _ => 0) = true) ∧
    (∃ (s : State) (who : Caller) (h : Nat) (k : Nat), canRun s who 0xA301 0 (beOctets 4 h ++ [byte k]) (rangeCheck h (k %
      256)) = true) :=
  ⟨⟨chip .active, installer2, 9 * 65536, by decide +kernel⟩,
   ⟨chip .active, installer2, 65536, by decide +kernel⟩,
   ⟨chip .active, installer2, 23 * 2 ^ 24 + 65536, by decide +kernel⟩,
   ⟨chip .active, installer2, 2 ^ 32 - 1, by decide +kernel⟩,
   ⟨chip .active, installer2, 0, by decide +kernel⟩,
   ⟨chip .active, installer2, 255, by decide +kernel⟩,
   ⟨chip .active, installer2, 0, by decide +kernel⟩,
   ⟨chip .active, installer2, 0x6010, by decide +kernel⟩,
   ⟨chip .active, installer2, 0 :: 12 :: zeros 8, by decide +kernel⟩,
   ⟨chip .active, installer2, 0, by decide +kernel⟩,
   ⟨chip .active, installer2, 2, by decide +kernel⟩,
   ⟨chip .active, installer2, 0, by decide +kernel⟩,
   ⟨chip .active, installer2, zeros 8, by decide +kernel⟩,
   ⟨{ ranging with measure := {} }, installer2, nodeH, 64, by decide +kernel⟩⟩

/-- The chip in MAINTENANCE at a lifecycle stage, with a region profile written and not locked. -/
def provisionedTo (l : Lifecycle) : State :=
  { radio .maintenance with power := { (chip .maintenance).power with lifecycle := l } }


theorem witness_RadioAndScheduleCommandsRun :
    (∀ s : State, s = chip .active → 4 ≤ maskMargin s 1 7 (obj s 0x3021 2) → lsfStopped s = false ∧
      commandStatus s installer2 0x3020 2 [7] (maskStatus 1 false [7]) = 0) ∧
    (∀ s : State, s = chip .maintenance → 4 ≤ maskMargin s 1 (maskSet s 1) (zeros 128) → lsfStopped s = false ∧
      commandStatus s installer2 0x3021 2 (zeros 128) (maskStatus 1 true (zeros 128)) = 0) ∧
    (∃ (s : State) (who : Caller) (p : Nat), canRun s who 0x2213 p [byte 0] (fun _ => 0) = true) ∧
    (∃ (s : State) (who : Caller) (o : Octets), canRun s who 0x2300 0 o (profileStatus o) = true) ∧
    (∃ (s : State) (who : Caller) (v : Nat), canRun s who 0x2301 0 (beOctets 1 v) (commissionStatus who (v % 256)) = true) ∧
    (∀ m : Octets, m.length = 632 → recommissionFailure (provisionedTo .field) m = 0 → ∃ (s : State) (who : Caller),
      lsfStopped (recommissionNote who m s) = false ∧ commandStatus (recommissionNote who m s) who 0x2302 0 m
      (recommissionRule who m) = 0) ∧
    (∃ (s : State) (who : Caller), canRun s who 0x4112 0 [byte 1] (fun _ => 0) = true) ∧
    (∃ (s : State) (who : Caller), canRun s who 0x4112 0 [byte 2] (fun _ => 0) = true) ∧
    (∃ (s : State) (who : Caller), canRun s who 0x4112 0 [byte 3] (fun _ => 0) = true) ∧
    (∃ (who : Caller) (o : Octets) (s : State), writeStatus s who 0x4116 0 o = 0 ∧ cellIndex s % 64 = 0 ∧
      cellsWriteStatus s (cellIndex s) (blockCells o) = 0 ∧ lsfStopped (schedStatus s 0) = false ∧
      commandStatus (schedStatus s 0) who 0x4116 0 o (cellBlockCheck o) = 0) ∧
    (∃ (who : Caller) (p : Nat) (v : Nat) (o : Octets) (s : State), scheduleTable v = true ∧ writeStatus s who v p o = 0 ∧
      tableStatus s v p o = 0 ∧ lsfStopped (schedStatus s 0) = false ∧
      commandStatus (schedStatus s 0) who v p o (tableCheck v p o) = 0) ∧
    (∃ (s : State) (who : Caller) (v : Nat) (bs : Nat), canRun s who 0x4140 bs [byte v] (fun _ => sectorServiceCheck [byte
      v]) = true) ∧
    (∃ (s : State) (who : Caller) (v : Nat) (h : Nat), canRun s who 0x4213 0 (beOctets 4 h ++ beOctets 1 v)
      (joinApproveCheck h v) = true) ∧
    (∃ (s : State) (who : Caller) (h : Nat), canRun s who 0x4215 0 (beOctets 4 h) (nodeDepartCheck h) = true) :=
  ⟨by
     intro s hs h
     have a : writeStatus s installer2 0x3020 2 [7] = 0 := by rw [hs]; decide +kernel
     refine ⟨by rw [hs]; rfl, ?_⟩
     have e : maskStatus 1 false [7] s = require (decide (7 ≤ 7) && decide (4 ≤ maskMargin s 1 7 (obj s 0x3021 2))) stRange := rfl
     rw [commandStatus, a]
     show maskStatus 1 false [7] s = 0
     rw [e]
     simp [h, require],
   by
     intro s hs h
     have a : writeStatus s installer2 0x3021 2 (zeros 128) = 0 := by rw [hs]; decide +kernel
     have m : maskSet s 1 ≤ 7 := by rw [hs]; decide +kernel
     refine ⟨by rw [hs]; rfl, ?_⟩
     have e : maskStatus 1 true (zeros 128) s = require (decide (maskSet s 1 ≤ 7) && decide (4 ≤ maskMargin s 1 (maskSet s 1) (zeros 128))) stRange := rfl
     rw [commandStatus, a]
     show maskStatus 1 true (zeros 128) s = 0
     rw [e]
     simp [h, m, require],
   ⟨chip .active, installer2, 25, by decide +kernel⟩,
   ⟨provisionedTo .provisioned, installer2, euProfile 0x0101, by decide +kernel⟩,
   ⟨provisionedTo .provisioned, installer2, 0x5A, by decide +kernel⟩,
   fun m hl h => by
      have n : recommissionNote installer2 m (provisionedTo .field) = provisionedTo .field := if_neg (fun x => x.2.2 h)
      have r : objRow 0x2302 0 = some ⟨0x2302, 0, 0, .octets 632, .cmd, .v, 1, []⟩ := by decide +kernel
      have a : writeStatus (provisionedTo .field) installer2 0x2302 0 m = 0 := by
        have c : callerRights (provisionedTo .field) installer2 = some 2 := rfl
        have v : servesSop (provisionedTo .field) = true := rfl
        have p : pairObject 0x2302 = false := by decide
        simp [writeStatus, c, v, r, p, rightsNeeded, lengthFits, hl, stOk]
      have q : recommissionStatus installer2 (provisionedTo .field) = 0 := by decide +kernel
      refine ⟨provisionedTo .field, installer2, by rw [n]; rfl, ?_⟩
      rw [n, commandStatus, a]
      simp [recommissionRule, q, h, require, firstOf],
   ⟨chip .active, installer2, by decide +kernel⟩,
   ⟨chip .active, installer2, by decide +kernel⟩,
   ⟨chip .active, installer2, by decide +kernel⟩,
   ⟨installer2, zeros 1024, radio .active, by decide +kernel⟩,
   ⟨installer2, 16, 0x4100, [0, 0, 0], radio .active, by decide +kernel⟩,
   ⟨chip .active, installer2, 1, 9, by decide +kernel⟩,
   ⟨withNode .active { state := .joining, held := true }, installer2, 1, nodeH, by decide +kernel⟩,
   ⟨withNode .active { state := .joined }, installer2, nodeH, by decide +kernel⟩⟩

theorem witness_QueueAndTableCommandsRun :
    (∃ (s : State) (who : Caller) (v : Nat), canRun s who 0x5132 0 (beOctets 4 v) (fun _ => flushCheck (v % 2 ^ 32)) = true) ∧
    (∃ (who : Caller) (o : Octets) (s : State), lsfStopped s = false ∧
      commandStatus s who 0x5101 0 o (fun _ => shaperCheck o) = 0) ∧
    (∃ (s : State) (who : Caller) (sub : Nat) (eth : Bool) (o : Octets),
      canRun s who (gateIndex eth) sub o (fun _ => gateCheck eth o) = true) ∧
    ([1, 2, 3, 4, 5, 6, 8, 9, 10, 11, 12, 13].all (fun k => canRun (chip .active) installer2 0x6020 0 [byte k] tableFree) =
      true) :=
  ⟨⟨chip .active, installer2, 2 ^ 31 - 1, by decide +kernel⟩,
   ⟨installer2, zeros 20, chip .active, by decide +kernel⟩,
   ⟨chip .active, installer2, 2, true, zeros 16, by decide +kernel⟩,
   by decide +kernel⟩

theorem witness_KeyAndPairCommandsRun :
    (∃ (s : State) (who : Caller) (v : Nat), canRun s who 0x7002 0 (beOctets 1 v) (selftestNowCheck (v % 256)) = true) ∧
    (∃ (s : State) (who : Caller), canRun s who 0x7111 0 [byte 0] (fun _ => 0) = true) ∧
    (∃ (s : State) (who : Caller) (o : Octets), canRun s who 0x7100 0 o (fun _ => 0) = true) ∧
    (∃ (s : State) (who : Caller) (v : Nat), canRun s who 0x7103 0 (beOctets 1 v) (seedCheck (v % 256)) = true) ∧
    (∃ (s : State) (who : Caller) (v : Nat), canRun s who 0x9007 0 (beOctets 1 v) swapRule = true) ∧
    (∃ (s : State) (who : Caller) (v : Nat), canRun s who 0x9009 0 (beOctets 1 v) (fun s => require (s.power.dev =
      .follower) stState) = true) ∧
    (∃ (s : State) (who : Caller) (v : Nat), canRun s who 0x9013 0 (beOctets 1 v) (fun _ => require (1 ≤ v && v ≤ 9)
      stRange) = true) :=
  ⟨⟨chip .active, installer2, 2, by decide +kernel⟩,
   ⟨chip .active, installer2, by decide +kernel⟩,
   ⟨chip .active, installer2, zeros 71, by decide +kernel⟩,
   ⟨chip .maintenance, installer2, 1, by decide +kernel⟩,
   ⟨twinned .active {}, installer2, 0, by decide +kernel⟩,
   ⟨twinned .follower {}, installer2, 0, by decide +kernel⟩,
   ⟨chip .active, installer2, 9, by decide +kernel⟩⟩

theorem witness_ImageAndConfigCommandsRun :
    (∃ (who : Caller) (o : Octets) (s : State), lsfStopped s = false ∧
      commandStatus s who 0x8011 0 o (fun s => updateDataCheck (objN s 0x8010 0) o) = 0) ∧
    (∃ (s : State) (who : Caller), canRun s who 0x8012 0 [byte 1] updateIdle = true) ∧
    (∃ (s : State) (who : Caller), canRun s who 0x8012 0 [byte 2] (fun _ => 0) = true) ∧
    (∃ (s : State) (who : Caller), canRun s who 0x8012 0 [byte 3] updateIdle = true) ∧
    (∃ (s : State) (who : Caller), canRun s who 0x8002 0 [byte 1] bankSwitchCheck = true) ∧
    (∃ (s : State) (who : Caller), canRun s who 0x8002 0 [byte 2] (fun s => require (onTrialNow s) stState) = true) ∧
    (∃ (s : State) (who : Caller), canRun s who 0x8002 0 [byte 3] bankRollbackCheck = true) ∧
    (∃ (s : State) (who : Caller), canRun s who 0x8002 0 [byte 4] (fun _ => 0) = true) ∧
    (∃ (s : State) (who : Caller) (v : Nat), canRun s who 0x8021 0 (beOctets 1 v) (selectCheck (v % 256)) = true) ∧
    (∃ (s : State) (who : Caller) (v : Nat), canRun s who 0x1115 0 (beOctets 1 v) (closeCheck (v % 256)) = true) ∧
    (∃ (who : Caller) (s : State), commitStatus s who = 0) ∧
    (∃ (who : Caller) (s : State), commitStatus s who ≠ 0) :=
  ⟨⟨installer2, zeros 4096, setObj (chip .active) 0x8010 0 (beOctets 4 (16777216 - 4096)), by decide +kernel⟩,
   ⟨updated 6, installer2, by decide +kernel⟩,
   ⟨updated 2, installer2, by decide +kernel⟩,
   ⟨updated 0, installer2, by decide +kernel⟩,
   ⟨{ chip .active with image := { bankB := { state := .ready } } }, installer2, by decide +kernel⟩,
   ⟨{ chip .active with image := { trial := true } }, installer2, by decide +kernel⟩,
   ⟨chip .active, installer2, by decide +kernel⟩,
   ⟨chip .active, installer2, by decide +kernel⟩,
   ⟨chip .maintenance, installer2, 4, by decide +kernel⟩,
   ⟨chip .active, installer2, 1, by decide +kernel⟩,
   ⟨installer2, chip .active, by decide +kernel⟩,
   ⟨stranger, chip .active, by decide +kernel⟩⟩

/-- A campaign defined on band-sector 1, its image encoded, and a distribution cell on that band-sector. -/
def startable : State :=
  { campaigning .defined with
    fleet := { campaigns := [(1, campaign .defined)], stages := [(1, { status := 4 })] }
    sched := { cells := [(2, { valid := true, kind := 4, bandSector := 1 })] } }


theorem witness_CampaignCommandsRun :
    (∃ (who : Caller) (k : Nat) (o : Octets) (s : State), lsfStopped s = false ∧
      commandStatus s who 0x8032 k o (fun s => stageDataCheck k (objN s 0x8031 k) o s) = 0) ∧
    (∃ (s : State) (who : Caller) (k : Nat), canRun s who 0x8033 k [byte 1] (fun s => slotFree s k) = true) ∧
    (∃ (s : State) (who : Caller) (k : Nat), canRun s who 0x8033 k [byte 2] (fun s => slotFree s k) = true) ∧
    (∃ (s : State) (who : Caller) (k : Nat) (o : Octets), canRun s who 0x8040 k o (campaignCfgCheck k o) = true) ∧
    (∃ (s : State) (who : Caller) (k : Nat), canRun s who 0x8041 k [byte 1] (campaignStartCheck k) = true) ∧
    (∃ (s : State) (who : Caller) (k : Nat), canRun s who 0x8041 k [byte 2] (inState k [.running]) = true) ∧
    (∃ (s : State) (who : Caller) (k : Nat), canRun s who 0x8041 k [byte 3] (inState k [.paused]) = true) ∧
    (∃ (s : State) (who : Caller) (k : Nat), canRun s who 0x8041 k [byte 4] (inState k cancellable) = true) ∧
    (∃ (s : State) (who : Caller) (k : Nat), canRun s who 0x8041 k [byte 5] (inState k [.delivered, .expired]) = true) ∧
    (∃ (s : State) (who : Caller) (k : Nat), canRun s who 0x8041 k [byte 6] (inState k [.closed, .cancelled]) = true) :=
  ⟨⟨installer2, 8, zeros 4096, setObj (chip .active) 0x8031 8 (beOctets 4 (31457280 - 4096)), by decide +kernel⟩,
   ⟨chip .active, installer2, 1, by decide +kernel⟩,
   ⟨chip .active, installer2, 8, by decide +kernel⟩,
   ⟨chip .active, installer2, 8, 1 :: zeros 95, by decide +kernel⟩,
   ⟨startable, installer2, 1, by decide +kernel⟩,
   ⟨campaigning .running, installer2, 1, by decide +kernel⟩,
   ⟨campaigning .paused, installer2, 1, by decide +kernel⟩,
   ⟨campaigning .waitImage, installer2, 1, by decide +kernel⟩,
   ⟨campaigning .expired, installer2, 1, by decide +kernel⟩,
   ⟨campaigning .closed, installer2, 1, by decide +kernel⟩⟩

theorem witness_ThreadCommandsRun :
    (∃ (s : State) (who : Caller) (tid : Nat), canRun s who 0xB002 0 [byte tid, byte 1,
      byte 0] (fun s => firstOf [threadCheck tid [.ready, .running, .blocked] s, require true stRange]) = true) ∧
    (∃ (s : State) (who : Caller) (tid : Nat), canRun s who 0xB002 0 [byte tid, byte 2,
      byte 0] (fun s => firstOf [threadCheck tid [.suspended] s, require true stRange]) = true) ∧
    (∃ (s : State) (who : Caller) (tid : Nat), canRun s who 0xB002 0 [byte tid, byte 3,
      byte 0] (fun s => firstOf [threadCheck tid usedStates s, require true stRange]) = true) ∧
    (∃ (s : State) (who : Caller) (tid : Nat) (a : Nat), canRun s who 0xB002 0 [byte tid, byte 4,
      byte a] (fun s => firstOf [threadCheck tid usedStates s, require (8 ≤ a && a ≤ 31) stRange]) = true) ∧
    (∃ (s : State) (who : Caller) (tid : Nat) (a : Nat), canRun s who 0xB002 0 [byte tid, byte 5,
      byte a] (fun s => firstOf [threadCheck tid usedStates s, require (!(affinityOf a).isEmpty) stRange]) = true) ∧
    (∃ (s : State) (who : Caller) (v : Nat), canRun s who 0xB012 0 (beOctets 1 v) (fun _ => 0) = true) :=
  ⟨⟨working .active worker, installer2, 64, by decide +kernel⟩,
   ⟨working .active { worker with state := .suspended }, installer2, 64, by decide +kernel⟩,
   ⟨working .active worker, installer2, 65, by decide +kernel⟩,
   ⟨working .active worker, installer2, 64, 31, by decide +kernel⟩,
   ⟨working .active worker, installer2, 64, 0x80, by decide +kernel⟩,
   ⟨chip .active, installer2, 0, by decide +kernel⟩⟩

/- WellFormed: of every kind of check, a command that fails it. -/

theorem test_fifo_number_refused : wellFormed (.fifoReadWord 64 []) = false := by decide
theorem test_lane_number_refused : wellFormed (.sfdTimeout 128) = false := by decide
theorem test_band_sector_refused : wellFormed (.txCommand 10) = false ∧ wellFormed (.txCommand 0) = false := by decide
theorem test_handle_refused : wellFormed (.blRecompute (2 ^ 29) .m) = false := by decide
theorem test_caller_refused :
    wellFormed (.retire (.session 9)) = false ∧ wellFormed (.retire (.endpoint ⟨7, [], 0⟩)) = false ∧
      wellFormed (.retire (.mailbox 256)) = false := by decide
theorem test_fixed_length_refused : wellFormed (.disRx (zeros 15)) = false := by decide
theorem test_greatest_length_refused : wellFormed (.spiRecoveryRequest (zeros 3)) = false := by decide
theorem test_value_width_refused : wellFormed (.evtCursorWrite stranger (2 ^ 32)) = false := by decide
theorem test_port_refused : wellFormed (.settPortUp 5) = false ∧ wellFormed (.wiredEgressSelect 8) = false := by decide
theorem test_detection_refused : wellFormed (.correlatorDetection ⟨1, false, 65536, 0, 0⟩) = false := by decide
theorem test_item_count_refused : wellFormed (.sopRead stranger 0 (List.replicate 17 (0, 0))) = false := by decide
theorem test_nonce_length_refused : wellFormed (.sopOpen ⟨0, [], 0⟩ 0 1 0 (zeros 15)) = false := by decide

/- Examples the spec works out. -/

/-- Local node 5,000 of chip 37 has the handle 0x004A_1388 (after R4). -/
theorem test_handle_of_example : handleOf (setObj State.reset 0x9000 0 (beOctets 2 37)) 5000 = 0x004A1388 := by
  decide +kernel

/-- A frame of 150 octets is ten units, the last of 6 octets (after R21). -/
def frameOfTen : State :=
  (List.range 10).foldl (fun s k => updFifo s 20 (fun f => packUnit f ((zeros 16).take (if k = 9 then 6 else 16)) (k = 9) false))
    State.reset

/-- The ten units make three words: FIRST and VALID 64, VALID 64, LAST and VALID 22 (after R21). -/
theorem test_frame_of_ten_units :
    (fifoOf frameOfTen 20).words.map (fun w => (wordFirst w, wordLast w, fieldOf w 65 1 % 128)) =
      [(true, false, 64), (false, false, 64), (false, true, 22)] := by decide +kernel

/-- Bit 3 of octet 11 of word 2 flipped: its DPAR alone fails, so the word is delivered with POISON (after R21). -/
theorem test_flipped_bit_is_seen :
    ((fifoOf frameOfTen 20).words.map (fun w => flipBits w [8 * 11 + 3])).map (fun w => (sideGood w, dataGood w)) =
      [(true, false), (true, false), (true, false)] ∧
    wordPoison (poisonWord (listGet (fifoOf frameOfTen 20).words 1 []) false) = true := by decide +kernel

/-- ANT_M2A at +5.0 dBi and 1.5 dB, limits of 29.0 and 16.0 dBm: a ceiling of 12.5 dBm in sub-band M-b (after R107). -/
theorem test_ceiling_of_example :
    ceiling (setObj (setObj (radio .active) 0x2200 3 (beOctets 2 20)) 0x2201 3 (beOctets 2 6)) 3 1 = 50 := by decide +kernel

/-- The class ceilings of 36,000,000 us with the default reserves (Chapter 4, one hour in sub-band M-b). -/
theorem test_class_ceilings :
    [0, 1, 2, 3, 7].map (classCeiling (radio .active) 36000000) =
      [36000000, 34200000, 33480000, 29880000, 29880000] := by decide +kernel

/-- A 40-octet PSDU of SUN FSK 100 kb/s with 8 preamble octets lasts 4,160 us (Chapter 4, one hour in sub-band M-b). -/
theorem test_airtime_of_example : airtimeUs 0x12 8 false 1 40 = 4160 := by decide +kernel

/-- A chip in HOLDOVER since instant 0 with a drift estimate of 120 ppb. -/
def drifting (seconds : Nat) : State :=
  { radio .active with now := seconds * 1000000000, time := { mode := .holdover, holdoverAt := some 0, drift := 120 } }

/-- The receive guard is 732 us after 1 h and is capped at 1,100 us from 6,666.7 s (after R129). -/
theorem test_guard_of_example :
    guardUs (drifting 3600) 1 = 732 ∧ guardUs (drifting 6666) 1 = 1099 ∧ guardUs (drifting 6667) 1 = 1100 := by decide +kernel

/-- The Tarnwick car's chip at domain time T: ASN_EPOCH 50 s, slotframe 3 of 100 slots, M sequence 2 (Chapter 5). -/
def garage : State :=
  let s := setObj { radio .active with now := 98765432100000 } 0x4001 0 (beOctets 8 50000000000)
  setObj (setObj s 0x4100 4 [byte 0x81, 0, 0, 100]) 0x4021 3
    (beOctets 2 16 ++ [36, 52, 40, 58, 44, 38, 60, 48, 42, 56, 46, 62, 50, 37, 54, 61].flatMap (beOctets 2))

/-- Its latency cell. -/
def carCell : Cell :=
  { valid := true, tx := true, slotframe := 3, bandSector := 2, slotOffset := 37, channelOffset := 5, hopSeq := 2 }

/-- ASN 9,871,543 begins at 98,765,430,000,000 ns; the cell is at ASN 9,871,637 on bin 46 (Chapter 5). -/
theorem test_next_latency_cell :
    asnNow garage 1 = 9871543 ∧ slotStart garage 1 9871543 = 98765430000000 ∧ cellChannel garage carCell 9871637 = 46 := by
  decide +kernel

/-- Shaper 40 of the meter campaign with its buckets at the last latch in millionths of a byte. -/
def shaper40 (tc tp : Int) : Shaper :=
  { config := [byte 0xC0, 0, 0, 0] ++ beOctets 4 20 ++ beOctets 4 520 ++ beOctets 4 35 ++ beOctets 4 520,
    tc := tc * 1000000, tp := tp * 1000000 }

/-- The latches at 0, 15, 16 and 28 s are green, yellow, green and red (Table 7-14). -/
theorem test_shaper_colours :
    (shaper40 520 520).colour 52 = .green ∧ ((shaper40 20 230).fill 1000000).colour 52 = .yellow ∧
      ((shaper40 40 213).fill 1000000).colour 52 = .green ∧ ((shaper40 20 9).fill 1000000).colour 52 = .red := by decide +kernel

/-- The fixed inputs of the car's node base key and of its "dn" key (after Table 10-5). -/
theorem test_fixed_inputs :
    fixedInput [0x4A, 0x6E, 0x0D, 0, 0, 1, 0x3A, 0x5C] 3 256 = [0x4A, 0x6E, 0x0D, 0, 0, 1, 0x3A, 0x5C, 0, 3, 1, 0] ∧
      fixedInput [0x64, 0x6E] 4 128 = [0x64, 0x6E, 0, 4, 0, 0x80] := by decide

/-- The IID of 4A-6E-0D-00-00-01-3A-5C is 486e:0d00:0001:3a5c (Chapter 8). -/
theorem test_iid : iidOf [0x4A, 0x6E, 0x0D, 0, 0, 1, 0x3A, 0x5C] = [0x48, 0x6E, 0x0D, 0, 0, 1, 0x3A, 0x5C] := by decide

/-- 96 sub-carriers whose estimates fall in the rows of Table 3-15, in 0.25 dB. -/
def relayLink : BlLink :=
  { est := ([(30, 100), (26, 84), (17, 76), (1, 73), (10, 64), (6, 50), (2, 40), (1, 37), (2, 30), (1, 0)] :
      List (Nat × Nat)).flatMap (fun p => List.replicate p.1 ((p.2 : Rat), (0 : Rat))) }

/-- The relay, able to load 6 bits. -/
def relayChip : State := withNode .active { cap := 0x30 }

/-- Rate 1/2 loads 468 bits; rate 3/4 is trimmed to 388; 3/4 is kept with 291 bits and FALLBACK_MCS 3 (Chapter 3). -/
theorem test_relay_map :
    codedBits (candidateLoad relayChip nodeH 0 relayLink) = 468 ∧ codedBits (candidateLoad relayChip nodeH 1 relayLink) = 388 ∧
      (candidate relayChip nodeH relayLink).1 = 1 ∧ dataBits 1 (candidate relayChip nodeH relayLink).2 = 291 ∧
      fallbackMcs relayChip relayLink = 3 := by decide +kernel

/-- The meter image has 4,096 source symbols of 15 octets in one block (Chapter 12). -/
theorem test_meter_image :
    ({ length := 61440, t := 15 } : Campaign).kt = 4096 ∧ ({ length := 61440, t := 15 } : Campaign).z = 1 := by decide

/-- A SOP frame of 536 octets is nine CAN frames, the first headed 0x80, the last 0x48 with 48 octets; the identifier from
chip 0x10 to host 0x01 is 0x0E40_0800 (Table 14-14). -/
theorem test_can_transfer :
    (canFragments 9 0 (zeros 536)).map (fun d => (listGet d 0 0).toNat) = [0x80, 1, 2, 3, 4, 5, 6, 7, 0x48] ∧
      (listGet (canFragments 9 0 (zeros 536)) 8 []).length = 48 ∧
      canId { State.reset with sop := { canCfg := [(0, [0x10])] } } 0 1 3 = 0x0E400800 := by decide +kernel

/- Vectors that the cited standards publish. -/

/-- FIPS 197, C.1 and C.3: AES-128 and AES-256. -/
theorem test_aes :
    aesCipher (octetsOf (List.range 16)) (beOctets 16 0x00112233445566778899AABBCCDDEEFF) =
        beOctets 16 0x69C4E0D86A7B0430D8CDB78070B4C55A ∧
      aesInverse (octetsOf (List.range 32)) (beOctets 16 0x8EA2B7CA516745BFEAFC49904B496089) =
        beOctets 16 0x00112233445566778899AABBCCDDEEFF := by decide +kernel

/-- RFC 4493, example 1: the CMAC of the empty string. -/
theorem test_cmac : cmac (beOctets 16 0x2B7E151628AED2A6ABF7158809CF4F3C) [] =
    beOctets 16 0xBB1D6929E95937287FA37D129B756746 := by decide +kernel

/-- SP 800-38D, test case 2 of its authors: GCM over a block of zeros under a key of zeros. -/
theorem test_gcm :
    gcmCipher (zeros 16) (zeros 12) (zeros 16) = beOctets 16 0x0388DACE60B6A392F328C2B971B2FE78 ∧
      gcmTag (zeros 16) (zeros 12) [] (beOctets 16 0x0388DACE60B6A392F328C2B971B2FE78) =
        beOctets 16 0xAB6E47D42CEC13BDF53A67B21257BDDF := by decide +kernel

/-- RFC 3394, 4.1: a key of 128 bits wrapped by one of 128 bits. -/
theorem test_key_wrap : keyWrap (octetsOf (List.range 16)) (beOctets 16 0x00112233445566778899AABBCCDDEEFF) =
    beOctets 24 0x1FA68B0A8112B447AEF34BD8FB5A7B829D3E862371D2CFE5 := by decide +kernel

/-- FIPS 180-4: the digest of "abc". -/
theorem test_sha256 : sha256 (octetsOf [0x61, 0x62, 0x63]) =
    beOctets 32 0xBA7816BF8F01CFEA414140DE5DAE2223B00361A396177A9CB410FF61F20015AD := by decide +kernel

/-- RFC 6979, A.2.5: the signature of "sample" under P-256 and SHA-256. -/
theorem test_ecdsa : ecdsaVerifies
    (beOctets 32 0x60FED4BA255A9D31C961EB74C6356D68C049B8923B61FA6CE669622E60F29FB6 ++
      beOctets 32 0x7903FE1008B8BC99A41AE9E95628BC64F2F1B20C2D7E9F5177A3C294D4462299)
    (sha256 (octetsOf [0x73, 0x61, 0x6D, 0x70, 0x6C, 0x65]))
    (beOctets 32 0xEFD48B2AACB6A8FD1140DD9CD45E81D69D2C877B56AAF991C34D0EA84EAF3716 ++
      beOctets 32 0xF7CB1C942D657C41D436C7A1B6E29F65F3E900DBB9AFF4064DC4AB2F843ACDA8) = true := by decide +kernel

/-- An IPv6 and UDP packet between two mesh addresses, 12 octets of UDP. -/
def meshPacket : Octets :=
  beOctets 8 0x60000000000C1140 ++ beOctets 16 0x20010DB8004800250200000000000001 ++
    beOctets 16 0x20010DB8004800250200000000000002 ++ beOctets 12 0xF0B1F0B2000CABCD01020304

/-- RFC 6282, 3.1 and 4.3: every field of the headers is elided but the ports' low bits and the checksum. -/
theorem test_compression :
    compress (beOctets 8 0x20010DB800480025) (beOctets 8 0x0200000000000001) (beOctets 8 0x0200000000000002) meshPacket =
      beOctets 10 0x7E77F312ABCD01020304 := by decide +kernel

/-- A source route of RFC 6554 goes on and comes off again. -/
theorem test_source_route :
    withoutRpl (sourceRoute (beOctets 16 0x20010DB8004800250200000000000002)
      [beOctets 16 0x20010DB8004800250200000000000002] meshPacket) = meshPacket := by decide +kernel

/-- Table 12-4 and R7 by hand: RUN_BANK A, both banks CONFIRMED, and the CRC-32C over bytes 0 to 59. -/
theorem test_boot_record : State.reset.image.bootRecords = [(0, bootRecord State.reset)] ∧
    (bootRecord State.reset).drop 60 = beOctets 4 0x7C31E144 := by decide +kernel

end Sys2Proof.Tests
end

/-! PROOFS. The standing of the chip (chapter 1): which lemma of Laws speaks for which command of the table, what any command
can do to the frame, and the statements that follow. -/

namespace Sys2Proof.Proofs

open Sys2Proof Sys2Proof.Machine Sys2Proof.Laws

/-- The supply and reset commands, each by its lemma of Laws/RoleSupply.lean. -/
theorem exec_supply (c : Instr) (s : State) (h : supplyCommand c = true) : ExecSupply (exec c s) s := by
  cases c with
  | vinRise => exact execVinRise_supply s
  | powerFailDetection => exact execPowerFailDetection_supply s
  | vbatRise => exact execVbatRise_supply s
  | vbatFall => exact execVbatFall_supply s
  | rstNLow => exact execRstNLow_supply _ s
  | rstNRise => exact execRstNRise_supply s
  | startInstant => exact execStartInstant_supply s
  | _ => contradiction

/-- The commands of the role list, each by its lemma of Laws/RoleExec.lean. -/
theorem exec_keeps (c : Instr) (s : State) (h : roleCommand c = true) : ExecKeeps (exec c s) s := by
  cases c with
  | bootHedgehogSample => exact execBootHedgehogSample_keeps _ s
  | bankVerifyDone => exact execBankVerifyDone_keeps s
  | loadEnd => exact execLoadEnd_keeps _ s
  | bypassRelease => exact execBypassRelease_keeps s
  | fatalToRoleFault => exact execFatalToRoleFault_keeps s
  | enterMaintenance => exact execEnterMaintenance_keeps _ s
  | resume => exact execResume_keeps _ s
  | retire => exact execRetire_keeps _ s
  | thermalReading => exact execThermalReading_keeps _ s
  | memoryError => exact execMemoryError_keeps _ _ _ s
  | slotBoundary => exact execSlotBoundary_keeps _ _ s
  | regionCommission => exact execRegionCommission_keeps _ _ s
  | shadowCheck => exact execShadowCheck_keeps _ _ _ s
  | ceSelftestDone => exact execCeSelftestDone_keeps _ _ _ _ _ s
  | loneEngineSlice => exact execLoneEngineSlice_keeps _ _ s
  | keyUpdateCommit => exact execKeyUpdateCommit_keeps _ s
  | hedgehogSample => exact execHedgehogSample_keeps _ s
  | zeroizeCmd => exact execZeroizeCmd_keeps _ _ s
  | claimBackoffExpire => exact execClaimBackoffExpire_keeps s
  | partnerClaimSeen => exact execPartnerClaimSeen_keeps s
  | partnerClaimWithdrawn => exact execPartnerClaimWithdrawn_keeps s
  | journalFrameRx => exact execJournalFrameRx_keeps _ _ s
  | jackRx => exact execJackRx_keeps _ s
  | swapSlotStart => exact execSwapSlotStart_keeps s
  | sequencerWatchdogExpiry => exact execSequencerWatchdogExpiry_keeps _ s
  | dramScrubPass => exact execDramScrubPass_keeps _ _ s
  | rfLoopbackTest => exact execRfLoopbackTest_keeps _ _ s
  | bankSwitch => exact execBankSwitch_keeps _ s
  | bankRollback => exact execBankRollback_keeps _ s
  | bankRestart => exact execBankRestart_keeps _ s
  | commitComplete => exact execCommitComplete_keeps s
  | recoveryHello => exact execRecoveryHello_keeps _ s
  | recoveryBaud => exact execRecoveryBaud_keeps _ _ s
  | recoverySelect => exact execRecoverySelect_keeps _ _ s
  | recoveryWrite => exact execRecoveryWrite_keeps _ _ _ s
  | recoveryVerify => exact execRecoveryVerify_keeps _ s
  | recoveryBoot => exact execRecoveryBoot_keeps _ s
  | recoveryIdleTimeout => exact execRecoveryIdleTimeout_keeps s
  | mailboxOdSubmit => exact execMailboxOdSubmit_keeps _ _ s
  | sopFrameCheck => exact execSopFrameCheck_keeps s
  | sopWrite => exact execSopWrite_keeps _ _ _ s
  | sopSegWrite => exact execSopSegWrite_keeps _ _ _ _ s
  | sopExecute => exact execSopExecute_keeps _ _ _ _ s
  | spiRecoveryWrite => exact execSpiRecoveryWrite_keeps _ s
  | objectWrite => exact execObjectWrite_keeps _ _ _ _ s
  | debugWrite => exact execDebugWrite_keeps _ s
  | debugResponseSubmit => exact execDebugResponseSubmit_keeps _ s
  | _ => contradiction

/-- The two commands that put something on the air (R91, R406). -/
theorem exec_air (c : Instr) (s : State) (h : airCommand c = true) : ExecAir (exec c s) s := by
  cases c with
  | paRampUp => exact execPaRampUp_air _ s
  | rangingCell => exact execRangingCell_air _ _ _ _ s
  | _ => contradiction

/-- Every other command leaves the frame, each by its lemma of the Frame files of Laws. -/
theorem exec_stays (c : Instr) (s : State) (hs : supplyCommand c = false) (hr : roleCommand c = false)
    (ha : airCommand c = false) : Stays (exec c s) s := by
  cases c with
  | thermalRestoreTimer => exact execThermalRestoreTimer_frame s
  | profileChangeEffective => exact execProfileChangeEffective_frame s
  | fifoWriteUnit => exact execFifoWriteUnit_frame _ _ _ _ _ s
  | fifoReadWord => exact execFifoReadWord_frame _ _ s
  | fifoFlushRequest => exact execFifoFlushRequest_frame _ s
  | fifoFlushTimeout => exact execFifoFlushTimeout_frame _ s
  | correlatorDetection => exact execCorrelatorDetection_frame _ s
  | laneDetectionPoint => exact execLaneDetectionPoint_frame _ _ s
  | diversityWindowClose => exact execDiversityWindowClose_frame _ _ _ s
  | sfdFound => exact execSfdFound_frame _ _ _ s
  | sfdTimeout => exact execSfdTimeout_frame _ s
  | phrCheck => exact execPhrCheck_frame _ _ s
  | payloadEnd => exact execPayloadEnd_frame _ _ _ _ _ s
  | laneTestTurn => exact execLaneTestTurn_frame s
  | laneTestResult => exact execLaneTestResult_frame _ _ _ s
  | laneHourlyRetest => exact execLaneHourlyRetest_frame _ _ s
  | gainAnnounce => exact execGainAnnounce_frame _ _ _ _ _ s
  | noiseFloorPublish => exact execNoiseFloorPublish_frame s
  | nfCursorWrite => exact execNfCursorWrite_frame _ _ s
  | rxCountersClear => exact execRxCountersClear_frame _ s
  | txMaskWrite => exact execTxMaskWrite_frame _ _ _ _ s
  | maskCapture => exact execMaskCapture_frame _ _ s
  | blRecompute => exact execBlRecompute_frame _ _ s
  | mapIeRx => exact execMapIeRx_frame _ _ _ _ _ s
  | mapAckRx => exact execMapAckRx_frame _ _ _ _ s
  | mapActivateSlot => exact execMapActivateSlot_frame _ _ s
  | capabilityIeRx => exact execCapabilityIeRx_frame _ _ s
  | modemCountersClear => exact execModemCountersClear_frame _ s
  | txRetune => exact execTxRetune_frame _ s
  | txCommand => exact execTxCommand_frame _ s
  | lockDeadline => exact execLockDeadline_frame _ _ _ s
  | xpaEnRise => exact execXpaEnRise_frame _ s
  | gntLbtSample => exact execGntLbtSample_frame _ _ _ s
  | xpaTxonRise => exact execXpaTxonRise_frame _ s
  | powerLoopCorrection => exact execPowerLoopCorrection_frame _ _ _ s
  | frameEndRampDown => exact execFrameEndRampDown_frame _ _ s
  | xpaEnFall => exact execXpaEnFall_frame _ s
  | reflectedPowerTrip => exact execReflectedPowerTrip_frame _ _ s
  | synthLossOfLock => exact execSynthLossOfLock_frame _ s
  | gntWithdrawn => exact execGntWithdrawn_frame _ s
  | calibrationStart => exact execCalibrationStart_frame _ _ s
  | calibrationDone => exact execCalibrationDone_frame _ s
  | calMaxWaitExpiry => exact execCalMaxWaitExpiry_frame _ _ s
  | tunerRestore => exact execTunerRestore_frame _ _ s
  | regionProfileWrite => exact execRegionProfileWrite_frame _ _ s
  | regionRecommission => exact execRegionRecommission_frame _ _ s
  | dutyBucketTick => exact execDutyBucketTick_frame s
  | dwellBucketTick => exact execDwellBucketTick_frame s
  | dutyMinutePersist => exact execDutyMinutePersist_frame s
  | txCountersClear => exact execTxCountersClear_frame _ s
  | timeSourceEvent => exact execTimeSourceEvent_frame _ _ _ _ s
  | timeSourceMiss => exact execTimeSourceMiss_frame _ s
  | timeStateChange => exact execTimeStateChange_frame s
  | timeRootTimer => exact execTimeRootTimer_frame s
  | unacquiredReportTimer => exact execUnacquiredReportTimer_frame s
  | guardCapReached => exact execGuardCapReached_frame _ s
  | timePersist => exact execTimePersist_frame s
  | ppsOutPulse => exact execPpsOutPulse_frame s
  | ptpSyncTx => exact execPtpSyncTx_frame _ s
  | lookaheadResolved => exact execLookaheadResolved_frame _ _ s
  | queueLatch => exact execQueueLatch_frame _ s
  | secureDeadline => exact execSecureDeadline_frame _ _ s
  | schedCellWrite => exact execSchedCellWrite_frame _ s
  | schedCellRead => exact execSchedCellRead_frame _ s
  | schedCellClear => exact execSchedCellClear_frame _ s
  | schedCellBlockWrite => exact execSchedCellBlockWrite_frame _ _ s
  | scheduleTableWrite => exact execScheduleTableWrite_frame _ _ _ _ s
  | sectorServiceWrite => exact execSectorServiceWrite_frame _ _ _ s
  | schedCountersClear => exact execSchedCountersClear_frame _ s
  | ackRx => exact execAckRx_frame _ _ s
  | ackWindowClose => exact execAckWindowClose_frame _ s
  | airRxJob => exact execAirRxJob_frame _ s
  | ackDecisionDeadline => exact execAckDecisionDeadline_frame _ s
  | joinRequestRx => exact execJoinRequestRx_frame _ s
  | joinConfirmRx => exact execJoinConfirmRx_frame _ _ _ _ s
  | joinConfirmTimeout => exact execJoinConfirmTimeout_frame _ s
  | joinApprove => exact execJoinApprove_frame _ _ _ s
  | departureIeRx => exact execDepartureIeRx_frame _ _ _ s
  | nodeTimeoutExpiry => exact execNodeTimeoutExpiry_frame _ s
  | nodeDepart => exact execNodeDepart_frame _ _ s
  | nodeLookup => exact execNodeLookup_frame _ _ s
  | peerAnnouncementTx => exact execPeerAnnouncementTx_frame s
  | peerMessageRx => exact execPeerMessageRx_frame _ s
  | peerAnnouncementMiss => exact execPeerAnnouncementMiss_frame _ s
  | linkCountersClear => exact execLinkCountersClear_frame _ s
  | queueAdmission => exact execQueueAdmission_frame _ _ s
  | cutThroughAdmission => exact execCutThroughAdmission_frame _ s
  | wiredEgressSelect => exact execWiredEgressSelect_frame _ s
  | cutThroughUnderrun => exact execCutThroughUnderrun_frame _ _ s
  | queueFlush => exact execQueueFlush_frame _ _ s
  | shaperCfgWrite => exact execShaperCfgWrite_frame _ _ s
  | gateWrite => exact execGateWrite_frame _ _ _ _ s
  | gateCycleStart => exact execGateCycleStart_frame _ s
  | queueCountersClear => exact execQueueCountersClear_frame _ s
  | forwardPacket => exact execForwardPacket_frame _ s
  | reassemblyTimeout => exact execReassemblyTimeout_frame _ _ _ s
  | learnInsert => exact execLearnInsert_frame s
  | daoRx => exact execDaoRx_frame _ _ _ _ s
  | disRx => exact execDisRx_frame _ s
  | dioTrickleTimer => exact execDioTrickleTimer_frame s
  | sweepVisit => exact execSweepVisit_frame _ s
  | updatePortHitCycle => exact execUpdatePortHitCycle_frame _ s
  | updatePortStructuralCycle => exact execUpdatePortStructuralCycle_frame s
  | tableInsert => exact execTableInsert_frame _ s
  | tableUpdate => exact execTableUpdate_frame _ s
  | tableDelete => exact execTableDelete_frame _ s
  | tableReadKey => exact execTableReadKey_frame _ s
  | tableReadLoc => exact execTableReadLoc_frame _ s
  | tableConfirm => exact execTableConfirm_frame _ s
  | routeAdd => exact execRouteAdd_frame _ s
  | routeDel => exact execRouteDel_frame _ s
  | routeRead => exact execRouteRead_frame _ s
  | routeLookup => exact execRouteLookup_frame _ s
  | nhWrite => exact execNhWrite_frame _ s
  | nhRead => exact execNhRead_frame _ s
  | fwdCountersClear => exact execFwdCountersClear_frame _ s
  | cipherJobStart => exact execCipherJobStart_frame _ _ s
  | cipherJobComplete => exact execCipherJobComplete_frame _ _ s
  | ceSelftestTurn => exact execCeSelftestTurn_frame s
  | ceSelftestNow => exact execCeSelftestNow_frame _ _ s
  | ceHourlyRetest => exact execCeHourlyRetest_frame _ _ s
  | macsecFrameTx => exact execMacsecFrameTx_frame _ _ s
  | macsecFrameRx => exact execMacsecFrameRx_frame _ _ _ _ _ s
  | ceCountersClear => exact execCeCountersClear_frame _ s
  | keyUpdate => exact execKeyUpdate_frame _ _ s
  | keyUpdatePartnerTimeout => exact execKeyUpdatePartnerTimeout_frame _ s
  | keyCacheFlush => exact execKeyCacheFlush_frame _ s
  | keyResolve => exact execKeyResolve_frame _ s
  | seedModeWrite => exact execSeedModeWrite_frame _ _ s
  | zeroizeOverwriteDone => exact execZeroizeOverwriteDone_frame s
  | settPortUp => exact execSettPortUp_frame _ s
  | settPortDown => exact execSettPortDown_frame _ s
  | settFrameRx => exact execSettFrameRx_frame _ _ s
  | settAbortRx => exact execSettAbortRx_frame _ s
  | censusTx => exact execCensusTx_frame s
  | censusRx => exact execCensusRx_frame _ _ _ s
  | censusMiss => exact execCensusMiss_frame _ s
  | linkDelayRequest => exact execLinkDelayRequest_frame _ s
  | linkFrameRx => exact execLinkFrameRx_frame _ _ _ s
  | markTx => exact execMarkTx_frame s
  | markRx => exact execMarkRx_frame _ _ _ _ _ s
  | interlockFaultClear => exact execInterlockFaultClear_frame s
  | journalFrameSend => exact execJournalFrameSend_frame s
  | partnerMiss => exact execPartnerMiss_frame s
  | digestPassEnd => exact execDigestPassEnd_frame s
  | twinSwapNow => exact execTwinSwapNow_frame _ _ s
  | twinSwapPeriodExpiry => exact execTwinSwapPeriodExpiry_frame s
  | swapSearchTimeout => exact execSwapSearchTimeout_frame s
  | snapshotRequest => exact execSnapshotRequest_frame s
  | snapshotFrameRx => exact execSnapshotFrameRx_frame _ _ _ _ _ s
  | twinResync => exact execTwinResync_frame _ _ s
  | seqRestart => exact execSeqRestart_frame _ _ s
  | sequencerRestartBoundary => exact execSequencerRestartBoundary_frame _ s
  | sequencerResume => exact execSequencerResume_frame _ s
  | settCountersClear => exact execSettCountersClear_frame _ s
  | updateDataWrite => exact execUpdateDataWrite_frame _ _ s
  | updateApply => exact execUpdateApply_frame _ s
  | updateAbort => exact execUpdateAbort_frame _ s
  | updateClearBuffer => exact execUpdateClearBuffer_frame _ s
  | ue0BlockBuilt => exact execUe0BlockBuilt_frame s
  | updateFinalVerify => exact execUpdateFinalVerify_frame s
  | updateResume => exact execUpdateResume_frame s
  | bankConfirm => exact execBankConfirm_frame _ s
  | bankTrialTimeExpiry => exact execBankTrialTimeExpiry_frame s
  | commit => exact execCommit_frame _ _ s
  | configSelect => exact execConfigSelect_frame _ _ s
  | stageDataWrite => exact execStageDataWrite_frame _ _ _ s
  | stageVerifyEncode => exact execStageVerifyEncode_frame _ _ s
  | stageClear => exact execStageClear_frame _ _ s
  | stageEncodeDone => exact execStageEncodeDone_frame _ s
  | campaignCfgWrite => exact execCampaignCfgWrite_frame _ _ _ s
  | campaignStart => exact execCampaignStart_frame _ _ s
  | campaignPause => exact execCampaignPause_frame _ _ s
  | campaignResume => exact execCampaignResume_frame _ _ s
  | campaignCancel => exact execCampaignCancel_frame _ _ s
  | campaignActivate => exact execCampaignActivate_frame _ _ s
  | campaignClear => exact execCampaignClear_frame _ _ s
  | campaignFrameGenerate => exact execCampaignFrameGenerate_frame _ _ s
  | campaignReportRx => exact execCampaignReportRx_frame _ _ s
  | campaignPassEnd => exact execCampaignPassEnd_frame _ s
  | campaignEndAsnReached => exact execCampaignEndAsnReached_frame _ s
  | campaignActivateAsnReached => exact execCampaignActivateAsnReached_frame _ s
  | campaignActivatingTimeout => exact execCampaignActivatingTimeout_frame _ s
  | threadCreate => exact execThreadCreate_frame _ _ s
  | threadExit => exact execThreadExit_frame _ s
  | threadYield => exact execThreadYield_frame _ s
  | threadBlock => exact execThreadBlock_frame _ _ s
  | flagsSet => exact execFlagsSet_frame _ _ s
  | flagsTake => exact execFlagsTake_frame _ s
  | timerSet => exact execTimerSet_frame _ _ s
  | threadTimerExpiry => exact execThreadTimerExpiry_frame _ s
  | threadPrioWrite => exact execThreadPrioWrite_frame _ _ s
  | dtimeRead => exact execDtimeRead_frame _ s
  | randomRead => exact execRandomRead_frame _ s
  | apqTake => exact execApqTake_frame _ _ _ s
  | enqSubmit => exact execEnqSubmit_frame _ _ s
  | mailboxSecSubmit => exact execMailboxSecSubmit_frame _ _ s
  | mailboxEvtSubmit => exact execMailboxEvtSubmit_frame _ _ s
  | mailboxComplete => exact execMailboxComplete_frame _ s
  | wakeSourceRaise => exact execWakeSourceRaise_frame _ _ s
  | sliceExpire => exact execSliceExpire_frame _ s
  | threadException => exact execThreadException_frame _ _ _ s
  | threadSuspend => exact execThreadSuspend_frame _ _ s
  | threadResume => exact execThreadResume_frame _ _ s
  | threadKill => exact execThreadKill_frame _ _ s
  | threadPriorityCmd => exact execThreadPriorityCmd_frame _ _ _ s
  | threadAffinityCmd => exact execThreadAffinityCmd_frame _ _ _ s
  | appRestart => exact execAppRestart_frame _ _ s
  | schedObsWrite => exact execSchedObsWrite_frame _ _ s
  | traceCursorWrite => exact execTraceCursorWrite_frame _ _ s
  | statWindowEnd => exact execStatWindowEnd_frame s
  | sopRead => exact execSopRead_frame _ _ _ s
  | sopSegReadStart => exact execSopSegReadStart_frame _ _ _ _ s
  | sopSegRead => exact execSopSegRead_frame _ _ _ _ s
  | sopSegWriteStart => exact execSopSegWriteStart_frame _ _ _ _ _ s
  | segTransferIdleTimeout => exact execSegTransferIdleTimeout_frame _ s
  | executeCompletion => exact execExecuteCompletion_frame _ s
  | executeTimeout => exact execExecuteTimeout_frame _ s
  | sopSubscribe => exact execSopSubscribe_frame _ _ _ _ _ _ s
  | sopUnsubscribe => exact execSopUnsubscribe_frame _ _ _ s
  | notifyInterval => exact execNotifyInterval_frame _ _ s
  | sopOpen => exact execSopOpen_frame _ _ _ _ _ s
  | sopAuth => exact execSopAuth_frame _ _ _ _ s
  | sopClose => exact execSopClose_frame _ _ s
  | halfOpenTimeout => exact execHalfOpenTimeout_frame _ s
  | sessionIdleTimeout => exact execSessionIdleTimeout_frame _ s
  | authLockoutExpire => exact execAuthLockoutExpire_frame _ s
  | sessionClose => exact execSessionClose_frame _ _ s
  | canFrameRx => exact execCanFrameRx_frame _ _ _ s
  | canAssemblyTimeout => exact execCanAssemblyTimeout_frame _ _ s
  | canDominantTimeout => exact execCanDominantTimeout_frame _ s
  | udpSopDatagramRx => exact execUdpSopDatagramRx_frame _ _ _ _ _ _ _ s
  | mb0H2cLenWrite => exact execMb0H2cLenWrite_frame _ _ s
  | mb0C2hAckWrite => exact execMb0C2hAckWrite_frame s
  | mb0NtfTailWrite => exact execMb0NtfTailWrite_frame _ s
  | spiWriteFrame => exact execSpiWriteFrame_frame _ s
  | spiReadFrame => exact execSpiReadFrame_frame s
  | spiStatus => exact execSpiStatus_frame s
  | spiRecoveryRead => exact execSpiRecoveryRead_frame s
  | spiRecoveryRequest => exact execSpiRecoveryRequest_frame _ s
  | sopCountersClear => exact execSopCountersClear_frame _ s
  | surveyPeriodEnd => exact execSurveyPeriodEnd_frame _ s
  | surveyCursorWrite => exact execSurveyCursorWrite_frame _ _ s
  | nfHistoryHourly => exact execNfHistoryHourly_frame s
  | nfHistoryCursorWrite => exact execNfHistoryCursorWrite_frame _ _ s
  | rangeRequest => exact execRangeRequest_frame _ _ _ s
  | rangeReportRx => exact execRangeReportRx_frame _ _ s
  | supplySample => exact execSupplySample_frame _ _ _ _ _ s
  | temperatureSample => exact execTemperatureSample_frame _ s
  | ainSample => exact execAinSample_frame _ _ s
  | evtCursorWrite => exact execEvtCursorWrite_frame _ _ s
  | evtMarkWrite => exact execEvtMarkWrite_frame _ _ s
  | evtRewind => exact execEvtRewind_frame _ _ s
  | evtClear => exact execEvtClear_frame _ _ s
  | evtCodeCursorWrite => exact execEvtCodeCursorWrite_frame _ _ s
  | ptraceCfgWrite => exact execPtraceCfgWrite_frame _ _ s
  | ptraceCursorWrite => exact execPtraceCursorWrite_frame _ _ s
  | debugRead => exact execDebugRead_frame _ s
  | debugSelect => exact execDebugSelect_frame _ s
  | debugIdle => exact execDebugIdle_frame _ s
  | debugTransportReset => exact execDebugTransportReset_frame s
  | debugChallengeRead => exact execDebugChallengeRead_frame _ s
  | debugAuthLock => exact execDebugAuthLock_frame _ s
  | debugUnlockExpiry => exact execDebugUnlockExpiry_frame s
  | debugLock => exact execDebugLock_frame _ _ s
  | timeSlewComplete => exact execTimeSlewComplete_frame s
  | ptpDelayRequestRx => exact execPtpDelayRequestRx_frame _ _ _ s
  | neighborDiscoveryRx => exact execNeighborDiscoveryRx_frame _ _ _ s
  | vioOutCurrentLimit => exact execVioOutCurrentLimit_frame _ s
  | _ => contradiction

/-- What a command can do to the frame: a supply or reset command, a command of the role list, or a command that leaves all
of it but the aerial log, to which only the commands of the air add, where the chip may transmit. -/
theorem exec_next_cases {c : Instr} {s t : State} (h : exec c s = .next t) :
    (supplyCommand c = true ∧ SupplyKeeps (frame s) (frame t)) ∨
    (roleCommand c = true ∧ Keeps (frame s) (frame t) ∧ Rest (frame s) (frame t)) ∨
    (AirOnly s t ∧ (aerialLog t = aerialLog s ∨ airCommand c = true ∧ onAirAllowed s)) := by
  cases hs : supplyCommand c with
  | true => exact .inl ⟨rfl, exec_supply c s hs t h⟩
  | false =>
    cases hr : roleCommand c with
    | true => exact .inr (.inl ⟨rfl, exec_keeps c s hr t h⟩)
    | false =>
      refine .inr (.inr ?_)
      cases ha : airCommand c with
      | true =>
        obtain ⟨only, allowed⟩ := exec_air c s ha t h
        exact ⟨only, (Decidable.em (aerialLog t = aerialLog s)).imp id fun hn => ⟨rfl, allowed hn⟩⟩
      | false =>
        have he := exec_stays c s hs hr ha t h
        exact ⟨AirOnly.of_eq he, .inl (congrArg Frame.airs he)⟩

/-- The frame apart from the aerial log is the standing of the chip. -/
theorem airOnly_sameStanding {s t : State} (h : AirOnly s t) : SameStanding s t := by
  obtain ⟨hf, -⟩ := h
  simp only [frame, Frame.mk.injEq] at hf
  obtain ⟨pending, now, dev, life, vin, rst, rails, bypass, claim, gate, -⟩ := hf
  exact ⟨pending, now, dev, life, vin, rst, rails, bypass, claim, gate⟩

/-- `Sound` does not read the aerial log. -/
theorem airOnly_sound {s t : State} (h : AirOnly s t) (k : Sound s) : Sound t := by
  have hs := (sound_iff s).mp k
  rw [← h.1] at hs
  exact ⟨hs.gate, hs.role, hs.bypass, hs.supply, hs.held, hs.rails⟩

/-- A command keeps a sound chip sound. -/
theorem exec_sound {c : Instr} {s t : State} (h : exec c s = .next t) (k : Sound s) : Sound t := by
  have hs := (sound_iff s).mp k
  rcases exec_next_cases h with ⟨-, hk⟩ | ⟨-, hk, -⟩ | ⟨ha, -⟩
  · exact (sound_iff t).mpr (hk.sound hs)
  · exact (sound_iff t).mpr (hk.sound hs trivial)
  · exact airOnly_sound ha k

/-- Settles O4: idling moves the clock alone, and the front command keeps a sound chip sound. -/
theorem stepKeepsTheChipSound : Obligations.StepKeepsTheChipSound := by
  intro s t k h
  unfold step at h
  split at h
  · cases h
    exact ⟨k.gate, k.role, k.bypass, k.supply, k.held, k.rails⟩
  · exact exec_sound h ⟨k.gate, k.role, k.bypass, k.supply, k.held, k.rails⟩

/-- Settles O5: of all commands only PA_RAMP_UP and RANGING_CELL touch the aerial log, each behind `mayTransmit`. -/
theorem onlyAnActiveChipTransmits : Obligations.OnlyAnActiveChipTransmits := by
  intro c s t h
  rcases exec_next_cases h with ⟨-, hk⟩ | ⟨-, hk, -⟩ | ⟨⟨-, added⟩, same | ⟨hc, allowed⟩⟩
  · exact .inl hk.airs
  · exact .inl hk.airs
  · exact .inl same
  · exact .inr ⟨hc, allowed, added⟩

/-- Settles O6: supply commands keep the stage, and the commands of the role list never lower its code (R25). -/
theorem lifecycleNeverGoesBack : Obligations.LifecycleNeverGoesBack := by
  intro c s t h
  rcases exec_next_cases h with ⟨-, hk⟩ | ⟨-, hk, -⟩ | ⟨ha, -⟩
  · exact Nat.le_of_eq (congrArg Lifecycle.code hk.life).symm
  · exact hk.life
  · exact Nat.le_of_eq (congrArg Lifecycle.code (airOnly_sameStanding ha).lifecycle).symm

/-- Settles O7: every effect of a command of the role list on the device state has a guard that rules out the states at
rest (`Rest`), and the others leave the device state. -/
theorem onlySupplyAndResetLeaveRest : Obligations.OnlySupplyAndResetLeaveRest := by
  intro c s t h hc hr
  rcases exec_next_cases h with ⟨hs, -⟩ | ⟨-, -, rest⟩ | ⟨ha, -⟩
  · simp [hc] at hs
  · exact rest hr
  · exact (airOnly_sameStanding ha).dev

/-- Settles O9: outside the two lists a command leaves all of the frame but the aerial log. -/
theorem otherCommandsKeepTheStanding : Obligations.OtherCommandsKeepTheStanding := by
  intro c s t h hc hr
  rcases exec_next_cases h with ⟨hs, -⟩ | ⟨hk, -⟩ | ⟨ha, -⟩
  · simp [hc] at hs
  · simp [hr] at hk
  · exact airOnly_sameStanding ha

end Sys2Proof.Proofs

/-! PROOFS. Which commands answer a next state, and where one stops (R22, Table 14-3). -/

namespace Sys2Proof.Proofs

open Sys2Proof Sys2Proof.Machine Sys2Proof.Laws

/-- The outcome is a next state. -/
def Answers (o : Host.Outcome State Fault Refusal) : Prop := ∃ t, o = .next t

theorem answers_done (t : State) : Answers (done t) := ⟨t, rfl⟩

theorem onThread_answers (s : State) (core : Nat) (f : Nat → Thread → State) : Answers (onThread s core f) := by
  unfold onThread
  (repeat' split) <;> exact answers_done _

theorem recoveryRow_answers (s : State) (cmd seq : Nat) (p : Octets) : Answers (recoveryRow s cmd seq p) := by
  unfold recoveryRow
  split <;> exact answers_done _

/-- The commands that can name an object of the vendor range (Table 14-3). -/
def namesObjects : Instr → Bool
  | .sopFrameCheck | .sopRead .. | .sopWrite .. | .sopSegReadStart .. | .sopSegWriteStart .. | .sopExecute ..
  | .sopSubscribe .. | .objectWrite .. => true
  | _ => false

/-- A command that names no object answers a next state: where its condition fails, the state as it was. -/
theorem exec_answers (c : Instr) (s : State) (h : namesObjects c = false) : Answers (exec c s) := by
  cases c with
  -- an effect without a condition of the command's own
  | fatalToRoleFault | enterMaintenance | resume | retire | nfCursorWrite | rxCountersClear | blRecompute | mapAckRx |
  modemCountersClear | gntWithdrawn | tunerRestore | regionProfileWrite | regionCommission | regionRecommission |
  txCountersClear | timeSourceEvent | schedCellWrite | schedCellRead | schedCellClear | schedCountersClear |
  joinApprove | nodeDepart | nodeLookup | linkCountersClear | queueFlush | shaperCfgWrite | gateWrite |
  queueCountersClear | updatePortHitCycle | tableInsert | tableUpdate | tableDelete | tableReadKey | tableReadLoc |
  tableConfirm | routeAdd | routeDel | routeRead | routeLookup | nhWrite | nhRead | fwdCountersClear | ceSelftestNow |
  ceCountersClear | keyUpdate | keyCacheFlush | seedModeWrite | zeroizeCmd | twinSwapNow | twinResync | seqRestart |
  settCountersClear | updateDataWrite | updateApply | updateAbort | updateClearBuffer | bankSwitch | bankConfirm |
  bankRollback | bankRestart | commit | configSelect | stageDataWrite | stageVerifyEncode | stageClear |
  campaignCfgWrite | campaignStart | campaignPause | campaignResume | campaignCancel | campaignActivate |
  campaignClear | appRestart | schedObsWrite | traceCursorWrite | sopSegRead | sopSegWrite | sopUnsubscribe | sopOpen |
  sopAuth | sopClose | sessionClose | sopCountersClear | surveyCursorWrite | nfHistoryCursorWrite | rangeRequest |
  evtCursorWrite | evtMarkWrite | evtRewind | evtClear | evtCodeCursorWrite | ptraceCfgWrite | ptraceCursorWrite |
  debugRead | debugWrite | debugSelect | debugIdle | debugTransportReset | debugChallengeRead | debugResponseSubmit |
  debugAuthLock | debugLock =>
    exact answers_done _
  -- commands on a thread
  | threadSuspend | threadResume | threadKill | threadPriorityCmd | threadAffinityCmd =>
    exact answers_done _
  -- what the thread that runs on a core asks for
  | threadExit | threadYield | threadBlock | flagsSet | flagsTake | timerSet | threadPrioWrite | dtimeRead |
  randomRead | apqTake | enqSubmit | mailboxSecSubmit | mailboxOdSubmit | mailboxEvtSubmit | sliceExpire |
  threadException =>
    exact onThread_answers _ _ _
  -- requests of the recovery download
  | recoveryHello | recoveryBaud | recoverySelect | recoveryWrite | recoveryVerify | recoveryBoot =>
    exact recoveryRow_answers _ _ _ _
  -- excluded: they name objects
  | sopFrameCheck | sopRead | sopWrite | sopSegReadStart | sopSegWriteStart | sopExecute | sopSubscribe | objectWrite =>
    contradiction
  | threadCreate =>
    simp only [exec, execThreadCreate]
    split
    · exact answers_done _
    · exact onThread_answers _ _ _
  -- events with conditions: a next state in each branch
  | vinRise | powerFailDetection | vbatRise | vbatFall | rstNLow | rstNRise | startInstant | vioOutCurrentLimit |
  bootHedgehogSample | bankVerifyDone | loadEnd =>
    simp only [exec, execVinRise, execPowerFailDetection, execVbatRise, execVbatFall, execRstNLow, execRstNRise,
      execStartInstant, execVioOutCurrentLimit, execBootHedgehogSample, execBankVerifyDone, execLoadEnd]
    (repeat' split) <;> exact answers_done _
  | bypassRelease | settPortUp | settPortDown | settFrameRx | settAbortRx | censusTx | censusRx | censusMiss |
  linkDelayRequest | linkFrameRx | markTx | markRx | thermalReading | thermalRestoreTimer | profileChangeEffective =>
    simp only [exec, execBypassRelease, execSettPortUp, execSettPortDown, execSettFrameRx, execSettAbortRx,
      execCensusTx, execCensusRx, execCensusMiss, execLinkDelayRequest, execLinkFrameRx, execMarkTx, execMarkRx,
      execThermalReading, execThermalRestoreTimer, execProfileChangeEffective]
    (repeat' split) <;> exact answers_done _
  | fifoWriteUnit | fifoReadWord | fifoFlushRequest | fifoFlushTimeout | memoryError =>
    simp only [exec, execFifoWriteUnit, execFifoReadWord, execFifoFlushRequest, execFifoFlushTimeout, execMemoryError]
    (repeat' split) <;> exact answers_done _
  | correlatorDetection | laneDetectionPoint | diversityWindowClose | sfdFound | sfdTimeout | phrCheck | payloadEnd |
  laneTestTurn | laneTestResult | laneHourlyRetest | gainAnnounce | noiseFloorPublish | slotBoundary | txMaskWrite |
  maskCapture =>
    simp only [exec, execCorrelatorDetection, execLaneDetectionPoint, execDiversityWindowClose, execSfdFound,
      execSfdTimeout, execPhrCheck, execPayloadEnd, execLaneTestTurn, execLaneTestResult, execLaneHourlyRetest,
      execGainAnnounce, execNoiseFloorPublish, execSlotBoundary, execTxMaskWrite, execMaskCapture]
    (repeat' split) <;> exact answers_done _
  | mapIeRx | mapActivateSlot | capabilityIeRx | txRetune | txCommand | lockDeadline | xpaEnRise | gntLbtSample |
  xpaTxonRise | paRampUp | powerLoopCorrection | frameEndRampDown | xpaEnFall | reflectedPowerTrip | synthLossOfLock =>
    simp only [exec, execMapIeRx, execMapActivateSlot, execCapabilityIeRx, execTxRetune, execTxCommand,
      execLockDeadline, execXpaEnRise, execGntLbtSample, execXpaTxonRise, execPaRampUp, execPowerLoopCorrection,
      execFrameEndRampDown, execXpaEnFall, execReflectedPowerTrip, execSynthLossOfLock]
    (repeat' split) <;> exact answers_done _
  | calibrationStart | calibrationDone | calMaxWaitExpiry | dutyBucketTick | dwellBucketTick | dutyMinutePersist |
  timeSourceMiss | timeStateChange | timeRootTimer | unacquiredReportTimer | guardCapReached | timePersist |
  ppsOutPulse | ptpSyncTx | timeSlewComplete | ptpDelayRequestRx =>
    simp only [exec, execCalibrationStart, execCalibrationDone, execCalMaxWaitExpiry, execDutyBucketTick,
      execDwellBucketTick, execDutyMinutePersist, execTimeSourceMiss, execTimeStateChange, execTimeRootTimer,
      execUnacquiredReportTimer, execGuardCapReached, execTimePersist, execPpsOutPulse, execPtpSyncTx,
      execTimeSlewComplete, execPtpDelayRequestRx]
    (repeat' split) <;> exact answers_done _
  | lookaheadResolved | queueLatch | secureDeadline | schedCellBlockWrite | scheduleTableWrite | sectorServiceWrite |
  ackRx | ackWindowClose | airRxJob | ackDecisionDeadline | joinRequestRx | joinConfirmRx | joinConfirmTimeout |
  departureIeRx | nodeTimeoutExpiry =>
    simp only [exec, execLookaheadResolved, execQueueLatch, execSecureDeadline, execSchedCellBlockWrite,
      execScheduleTableWrite, execSectorServiceWrite, execAckRx, execAckWindowClose, execAirRxJob,
      execAckDecisionDeadline, execJoinRequestRx, execJoinConfirmRx, execJoinConfirmTimeout, execDepartureIeRx,
      execNodeTimeoutExpiry]
    (repeat' split) <;> exact answers_done _
  | peerAnnouncementTx | peerMessageRx | peerAnnouncementMiss | queueAdmission | cutThroughAdmission |
  wiredEgressSelect | cutThroughUnderrun | gateCycleStart =>
    simp only [exec, execPeerAnnouncementTx, execPeerMessageRx, execPeerAnnouncementMiss, execQueueAdmission,
      execCutThroughAdmission, execWiredEgressSelect, execCutThroughUnderrun, execGateCycleStart]
    (repeat' split) <;> exact answers_done _
  | forwardPacket | reassemblyTimeout | learnInsert | daoRx | disRx | dioTrickleTimer | sweepVisit |
  updatePortStructuralCycle | shadowCheck | neighborDiscoveryRx =>
    simp only [exec, execForwardPacket, execReassemblyTimeout, execLearnInsert, execDaoRx, execDisRx,
      execDioTrickleTimer, execSweepVisit, execUpdatePortStructuralCycle, execShadowCheck, execNeighborDiscoveryRx]
    (repeat' split) <;> exact answers_done _
  | cipherJobStart | cipherJobComplete | ceSelftestTurn | ceSelftestDone | ceHourlyRetest | loneEngineSlice |
  keyResolve | macsecFrameTx | macsecFrameRx | keyUpdateCommit | keyUpdatePartnerTimeout | hedgehogSample |
  zeroizeOverwriteDone =>
    simp only [exec, execCipherJobStart, execCipherJobComplete, execCeSelftestTurn, execCeSelftestDone,
      execCeHourlyRetest, execLoneEngineSlice, execKeyResolve, execMacsecFrameTx, execMacsecFrameRx,
      execKeyUpdateCommit, execKeyUpdatePartnerTimeout, execHedgehogSample, execZeroizeOverwriteDone]
    (repeat' split) <;> exact answers_done _
  | claimBackoffExpire | partnerClaimSeen | partnerClaimWithdrawn | interlockFaultClear | journalFrameSend | jackRx |
  partnerMiss | digestPassEnd | twinSwapPeriodExpiry | swapSlotStart | swapSearchTimeout | snapshotRequest |
  snapshotFrameRx | sequencerWatchdogExpiry | sequencerRestartBoundary | sequencerResume | dramScrubPass |
  rfLoopbackTest =>
    simp only [exec, execClaimBackoffExpire, execPartnerClaimSeen, execPartnerClaimWithdrawn, execInterlockFaultClear,
      execJournalFrameSend, execJackRx, execPartnerMiss, execDigestPassEnd, execTwinSwapPeriodExpiry, execSwapSlotStart,
      execSwapSearchTimeout, execSnapshotRequest, execSnapshotFrameRx, execSequencerWatchdogExpiry,
      execSequencerRestartBoundary, execSequencerResume, execDramScrubPass, execRfLoopbackTest]
    (repeat' split) <;> exact answers_done _
  | journalFrameRx | ue0BlockBuilt | updateFinalVerify | updateResume | bankTrialTimeExpiry | commitComplete |
  recoveryIdleTimeout | spiRecoveryWrite | spiRecoveryRead | spiRecoveryRequest =>
    simp only [exec, execJournalFrameRx, execUe0BlockBuilt, execUpdateFinalVerify, execUpdateResume,
      execBankTrialTimeExpiry, execCommitComplete, execRecoveryIdleTimeout, execSpiRecoveryWrite, execSpiRecoveryRead,
      execSpiRecoveryRequest]
    (repeat' split) <;> exact answers_done _
  | stageEncodeDone | campaignFrameGenerate | campaignReportRx | campaignPassEnd | campaignEndAsnReached |
  campaignActivateAsnReached | campaignActivatingTimeout | threadTimerExpiry | mailboxComplete | wakeSourceRaise |
  statWindowEnd | segTransferIdleTimeout | executeCompletion | executeTimeout | notifyInterval =>
    simp only [exec, execStageEncodeDone, execCampaignFrameGenerate, execCampaignReportRx, execCampaignPassEnd,
      execCampaignEndAsnReached, execCampaignActivateAsnReached, execCampaignActivatingTimeout, execThreadTimerExpiry,
      execMailboxComplete, execWakeSourceRaise, execStatWindowEnd, execSegTransferIdleTimeout, execExecuteCompletion,
      execExecuteTimeout, execNotifyInterval]
    (repeat' split) <;> exact answers_done _
  | halfOpenTimeout | sessionIdleTimeout | authLockoutExpire | canFrameRx | canAssemblyTimeout | canDominantTimeout |
  udpSopDatagramRx | mb0H2cLenWrite | mb0C2hAckWrite | mb0NtfTailWrite | spiWriteFrame | spiReadFrame | spiStatus =>
    simp only [exec, execHalfOpenTimeout, execSessionIdleTimeout, execAuthLockoutExpire, execCanFrameRx,
      execCanAssemblyTimeout, execCanDominantTimeout, execUdpSopDatagramRx, execMb0H2cLenWrite, execMb0C2hAckWrite,
      execMb0NtfTailWrite, execSpiWriteFrame, execSpiReadFrame, execSpiStatus]
    (repeat' split) <;> exact answers_done _
  | surveyPeriodEnd | nfHistoryHourly | rangingCell | rangeReportRx | supplySample | temperatureSample | ainSample |
  debugUnlockExpiry =>
    simp only [exec, execSurveyPeriodEnd, execNfHistoryHourly, execRangingCell, execRangeReportRx, execSupplySample,
      execTemperatureSample, execAinSample, execDebugUnlockExpiry]
    (repeat' split) <;> exact answers_done _

/-- The outcome is a next state, or the refusal of the vendor range to a Vendor session. -/
def AnswersOrVendor (s : State) (o : Host.Outcome State Fault Refusal) : Prop :=
  Answers o ∨ (o = .refused .vendorRange ∧ ∃ who, callerRole s who = some 3)

theorem vendorTouch_role {s : State} {who : Caller} {idx : Nat} (h : vendorTouch s who idx = true) :
    callerRole s who = some 3 := by
  unfold vendorTouch at h
  simp only [Bool.and_eq_true, decide_eq_true_eq] at h
  exact h.1.1

theorem vendorNamed_role {s : State} {who : Caller} {l : List Nat} (h : vendorNamed s who l = true) :
    callerRole s who = some 3 := by
  obtain ⟨idx, -, hv⟩ := List.any_eq_true.mp h
  exact vendorTouch_role hv

/-- A refusal guarded by a test that only a Vendor session passes. -/
theorem answersOrVendor_guard {s : State} {b : Bool} {who : Caller} {o : Host.Outcome State Fault Refusal}
    (hb : b = true → callerRole s who = some 3) (ho : Answers o) :
    AnswersOrVendor s (if b then .refused .vendorRange else o) := by
  split
  · exact .inr ⟨rfl, who, hb (by assumption)⟩
  · exact .inl ho

theorem callerRole_inbox (s : State) (rest : List (Endpoint × Octets)) (who : Caller) :
    callerRole { s with sop := { s.sop with inbox := rest } } who = callerRole s who := by
  cases who <;> rfl

theorem execSopFrameCheck_answers (s : State) : AnswersOrVendor s (execSopFrameCheck s) := by
  unfold execSopFrameCheck
  split
  · exact .inl (answers_done _)
  · split
    · exact .inl (answers_done _)
    · dsimp only
      split
      · exact .inl (answers_done _)
      · split
        · exact .inl (answers_done _)
        · exact answersOrVendor_guard (fun h => (callerRole_inbox s _ _).symm.trans (vendorNamed_role h)) (answers_done _)

/-- Every command answers a next state, or refuses the vendor range to a Vendor session. -/
theorem exec_answersOrVendor (c : Instr) (s : State) : AnswersOrVendor s (exec c s) := by
  cases h : namesObjects c with
  | false => exact .inl (exec_answers c s h)
  | true =>
    cases c with
    | sopFrameCheck => exact execSopFrameCheck_answers s
    | sopRead who seq items =>
      refine answersOrVendor_guard vendorNamed_role ?_
      split <;> exact answers_done _
    | objectWrite who index sub value =>
      refine answersOrVendor_guard vendorTouch_role ?_
      split <;> exact answers_done _
    | sopWrite | sopSegReadStart | sopSegWriteStart | sopExecute | sopSubscribe =>
      exact answersOrVendor_guard vendorNamed_role (answers_done _)
    | _ => contradiction

/-- Settles O10: the one refusal needs a Vendor session, so without one every command answers a next state. -/
theorem commandsStopOnlyAtTheVendorRange : Obligations.CommandsStopOnlyAtTheVendorRange := by
  intro c s
  rcases exec_answersOrVendor c s with h | ⟨h, who, hw⟩
  · exact ⟨.inl h, fun _ => h⟩
  · exact ⟨.inr h, fun hn => absurd hw (hn who)⟩

end Sys2Proof.Proofs

/-! PROOFS. Supply edges, RST_N, the start instant, resets and the commands of the device state (chapter 1). -/

namespace Sys2Proof.Proofs

open Sys2Proof Sys2Proof.Machine Sys2Proof.Laws

/-- Settles O3: the chip as shipped is in OFF without supply, the bypass on, and asserts nothing. -/
theorem resetIsSound : Obligations.ResetIsSound :=
  ⟨by decide, by decide, by decide, by decide, by decide, by decide⟩

/- Commands of the dictionary. -/

/-- A command whose meaning is `command` runs under its checks, and leaves all but the status where they refuse it. -/
theorem runsAs_of_command {c : Instr} {who : Caller} {idx sub : Nat} {v : Octets} {rule : State → Nat} {act : State → State}
    (h : ∀ s, exec c s = done (command s who idx sub v rule act)) : runsAs c who idx sub v rule act := by
  constructor <;> intro s hl hc <;> rw [h] <;> simp [command, hl, hc, done, effected]

/-- Settles O15: each of the five is the `command` of its object, rule and effect. -/
theorem deviceStateCommandsRun : Obligations.DeviceStateCommandsRun := fun _ _ =>
  ⟨runsAs_of_command fun _ => rfl, runsAs_of_command fun _ => rfl, runsAs_of_command fun _ => rfl,
   runsAs_of_command fun _ => rfl, runsAs_of_command fun _ => rfl⟩

/-- The states in which AON alone can run (Table 1-11). -/
theorem aonOnly_iff (d : DevState) : aonOnly d = true ↔ d = .off ∨ d = .dormant := by
  cases d <;> simp [aonOnly]

theorem aonOnly_false_iff (d : DevState) : aonOnly d = false ↔ ¬ (d = .off ∨ d = .dormant) := by
  rw [← aonOnly_iff, Bool.not_eq_true]

/- A supply for AON (R22, R417). -/

@[simp] theorem powerAon_pending (s : State) : (powerAon s).pending = s.pending := congrArg Frame.pending (powerAon_frame s)
@[simp] theorem powerAon_dev (s : State) : (powerAon s).power.dev = s.power.dev := congrArg Frame.dev (powerAon_frame s)
@[simp] theorem powerAon_lifecycle (s : State) : (powerAon s).power.lifecycle = s.power.lifecycle :=
  congrArg Frame.lifecycle (powerAon_frame s)
@[simp] theorem powerAon_rstLow (s : State) : (powerAon s).power.rstLow = s.power.rstLow :=
  congrArg Frame.rstLow (powerAon_frame s)
@[simp] theorem powerAon_rails (s : State) : (powerAon s).power.rails = s.power.rails :=
  congrArg Frame.rails (powerAon_frame s)

@[simp] theorem powerAon_out (s : State) : (powerAon s).out = s.out := by
  unfold powerAon
  split <;> rfl

@[simp] theorem powerAon_vals (s : State) : (powerAon s).vals = s.vals := by
  unfold powerAon
  split <;> rfl

@[simp] theorem powerAon_vbat (s : State) : (powerAon s).power.vbat = s.power.vbat := by
  unfold powerAon
  split <;> rfl

@[simp] theorem powerAon_aonValid (s : State) : (powerAon s).power.aonValid = true := by
  unfold powerAon
  split
  · assumption
  · rfl

/-- VIN rises with RST_N high: the start begins (R431). -/
theorem execVinRise_high {s : State} (hv : s.power.vin = false) (hr : s.power.rstLow = false) :
    execVinRise s = done { powerAon s with power := { (powerAon s).power with
      vin := true, bypassOn := true, dev := .boot, startCause := 1, latchedState := s.power.dev } } := by
  simp [execVinRise, hv, hr]

/-- VIN rises with RST_N low: AON alone runs (R437). -/
theorem execVinRise_low {s : State} (hv : s.power.vin = false) (hr : s.power.rstLow = true) :
    execVinRise s = done { powerAon s with power := { (powerAon s).power with vin := true, bypassOn := true } } := by
  simp [execVinRise, hv, hr]

/-- The islands as power-fail detection leaves them (R431). -/
def shed (s : State) : State := islandReset (noteUnlock (leaveRecovery (closeBypass (releaseClaim s))))

@[simp] theorem aerialLog_supply (s : State) (p : Power) (i : Sys2Proof.Machine.Image) :
    aerialLog { s with power := p, image := i } = aerialLog s := rfl

theorem aerialLog_of_frame {s : State} {f : Frame} (h : frame s = f) : aerialLog s = f.airs := by
  rw [← h]
  rfl

theorem shed_frame (s : State) :
    frame (shed s) = { frame s with bypassOn := true, claimOut := false, txGate := false } := by
  simp [shed]

theorem shed_aerialLog (s : State) : aerialLog (shed s) = aerialLog s := (aerialLog_of_frame (shed_frame s)).trans rfl

theorem resetIslands_aerialLog (s : State) (cause : Nat) (keepDram : Bool) :
    aerialLog (resetIslands s cause keepDram) = aerialLog s :=
  (aerialLog_of_frame (resetIslands_frame s cause keepDram)).trans rfl

/-- What `islandReset` leaves of the supply record, with the bypass on. -/
theorem shed_power (s : State) : (shed s).power = { s.power with
    degraded := 0#32, claimOut := false, txGate := false, profileDue := none, retireArmed := none, pasHeld := false
    pasWait := [], thermForced := false, coolSince := none, vioLimit := false, clockLock := 0#32, bypassOn := true } := by
  simp [shed, islandReset]

/-- Power-fail detection where more than AON ran (R431, R432). -/
theorem execPowerFailDetection_awake {s : State} (hv : s.power.vin = true) (hd : aonOnly s.power.dev = false) :
    execPowerFailDetection s = done { shed s with
      power := { (shed s).power with
        vin := false, dev := unpowered (shed s), rails := false, vioOut := false, vioLimit := false, bypassOn := true,
        thermReset := false, aonValid := (shed s).power.vbat }
      image := { (shed s).image with retain := false } } := by
  simp [execPowerFailDetection, hv, (aonOnly_false_iff _).mp hd, shed]

/-- VBAT rises in OFF: AON runs from it (R22). -/
theorem execVbatRise_off {s : State} (hd : s.power.dev = .off) (hv : s.power.vin = false) :
    execVbatRise s = done { powerAon { s with power := { s.power with vbat := true } } with
      power := { (powerAon { s with power := { s.power with vbat := true } }).power with dev := .dormant } } := by
  simp [execVbatRise, hd, hv]

/-- Settles O11: each edge by the equation of its case, with the fields that AON's supply and the shed islands leave. -/
theorem supplyEdgesMoveTheChip : Obligations.SupplyEdgesMoveTheChip := by
  refine ⟨fun s hv hr => ?_, fun s hv hr => ?_, fun s hv hd => ?_, fun s hd hv => ?_, fun s hd hv => ?_⟩
  · refine ⟨_, execVinRise_high hv hr, ?_⟩
    simp
  · refine ⟨_, execVinRise_low hv hr, ?_⟩
    simp
  · refine ⟨_, execPowerFailDetection_awake hv hd, ?_⟩
    simp [unpowered, shed_power, shed_aerialLog]
  · refine ⟨_, execVbatRise_off hd hv, ?_⟩
    simp
  · simp [exec, execVbatFall, done, hd, hv]

theorem pulseTaken_short {w : Nat} (s : State) (h : w < 1000) : pulseTaken s w = false := by
  simp [pulseTaken]
  omega

theorem pulseTaken_long {w : Nat} (s : State) (h : 10000 ≤ w) : pulseTaken s w = true := by
  simp [pulseTaken, h]

/-- What a low pulse that is taken leaves of the pins (R437). -/
def pinHeld (s : State) : State := { s with power := { s.power with rstLow := true, bypassOn := true, thermReset := false } }

/-- A low pulse of at least 10 us is taken, and resets every island but AON where more than AON ran (R437). -/
theorem execRstNLow_long {s : State} {w : Nat} (h : 10000 ≤ w) :
    execRstNLow w s = done (pinHeld (if aonOnly s.power.dev then s else resetIslands s 2 true)) := by
  have hw : ¬ w < 10000 := by omega
  simp [execRstNLow, pulseTaken_long s h, hw, pinHeld, aonOnly_iff]

/-- Outside the span that the spec leaves open the limit acts above 300 mA alone (R434). -/
theorem execVioOutCurrentLimit_decided {s : State} {mA : Nat} (ho : s.power.vioOut = true) (h : ¬ (200 < mA ∧ mA ≤ 300)) :
    execVioOutCurrentLimit mA s = done { s with power := { s.power with vioLimit := decide (300 < mA) } } := by
  have hl : (decide (300 < mA) || (decide (200 < mA) && decide (freeNow s % 2 = 1))) = decide (300 < mA) := by
    by_cases h3 : 300 < mA
    · simp [h3]
    · have h2 : ¬ 200 < mA := by omega
      simp [h2, h3]
  simp only [execVioOutCurrentLimit, ho, if_true, hl, h, if_false]

/-- Settles O12: pulses by whether they are taken, the rise and the start instant by their conditions, the limit outside
the span the spec leaves open. -/
theorem resetPinAndStartInstant : Obligations.ResetPinAndStartInstant := by
  refine ⟨fun s w h => ?_, fun s w h hd => ?_, fun s w h hd => ?_, fun s hr hv hd => ?_, fun s hr h => ?_,
    fun s hd hv hr ht hl => ?_, fun s mA ho h => ?_, fun s mA ho h => ?_⟩
  · have hw : ¬ 1000 ≤ w := by omega
    simp [exec, execRstNLow, pulseTaken_short s h, hw, done]
  · refine ⟨_, execRstNLow_long h, ?_⟩
    simp [hd, pinHeld, resetIslands_power, resetIslands_aerialLog]
  · simpa [exec, hd, pinHeld, done] using execRstNLow_long (s := s) h
  · simp [exec, execRstNRise, done, hr, hv, (aonOnly_iff _).mp hd]
  · have hn : ¬ (s.power.vin = true ∧ (s.power.dev = .off ∨ s.power.dev = .dormant)) := by
      rw [← aonOnly_iff]
      rintro ⟨hv, hd⟩
      simp [hv, hd] at h
    simp [exec, execRstNRise, done, hr, hn]
  · simp [exec, execStartInstant, done, hd, hv, hr, ht, hl]
  · simpa [exec, done, h] using execVioOutCurrentLimit_decided ho (mA := mA) (by omega)
  · simpa [exec, done, show ¬ 300 < mA by omega] using execVioOutCurrentLimit_decided ho (mA := mA) (by omega)

/-- The states that a fatal-to-role fault resets (R312). -/
theorem fatalToRole_eq {s : State} (h : lsfRuns s.power.dev = true ∨ s.power.dev = .recovery) (cause : Nat)
    (keepDram : Bool) : fatalToRole s cause keepDram = resetIslands s cause keepDram := by
  unfold fatalToRole internalReset
  cases hd : s.power.dev <;> simp_all [lsfRuns]

/-- Settles O23: each event under its condition; the fault by what `resetIslands` leaves of the supply record. -/
theorem bypassThermalAndProfileEvents : Obligations.BypassThermalAndProfileEvents := by
  refine ⟨fun s hd hb => ?_, fun s h => ?_, fun s x hv => ?_, fun s t hc hf ht => ?_, fun s a hp hl ha => ?_⟩
  · simp [exec, execBypassRelease, done, hd, hb]
  · refine ⟨_, congrArg Host.Outcome.next (fatalToRole_eq h 3 true), ?_⟩
    simp [resetIslands_power]
  · simp [exec, execThermalReading, done, hv]
  · simp [exec, execThermalRestoreTimer, done, hc, hf, ht]
  · simp [exec, execProfileChangeEffective, done, hp, hl, ha]

end Sys2Proof.Proofs

/-! PROOFS. The crossing FIFOs and memory errors (R15 to R21). -/

namespace Sys2Proof.Proofs

open Sys2Proof Sys2Proof.Machine Sys2Proof.Laws

/- Crossing FIFOs: reading after a change. -/

/-- Two changes that agree on the FIFO as it stands are the same change. -/
theorem updFifo_congr {s : State} {n : Nat} {f g : Fifo → Fifo} (h : f (fifoOf s n) = g (fifoOf s n)) :
    updFifo s n f = updFifo s n g := by
  unfold fifoOf at h
  unfold updFifo
  rw [h]

/-- A FIFO after a change that does not empty it: what is empty and at rest is held by listing nothing, and a map that is not
in canonical form may list it twice. -/
theorem fifoOf_updFifo {s : State} {n : Nat} {f : Fifo → Fifo} (h : f (fifoOf s n) ≠ {}) :
    fifoOf (updFifo s n f) n = f (fifoOf s n) := by
  unfold fifoOf at *
  simp only [updFifo, FMap.putD, if_neg h]
  simp [FMap.getD, find_put]

/-- A unit that the FIFO has room for is packed (R17). -/
theorem execFifoWriteUnit_packs {s : State} {n : Nat} (lane : Nat) (u : Octets) (last poison : Bool) (hn : n < 64)
    (hd : (fifoOf s n).dropToLast = false) (hw : (fifoOf s n).words.length < 64) :
    execFifoWriteUnit n lane u last poison s = done (updFifo s n (fun f => packUnit f u last poison)) := by
  simp [execFifoWriteUnit, Nat.not_le.mpr hn, hd, Nat.not_le.mpr hw]

/-- Settles O24: each clause is one branch of its row, and a poisoned head is the FIFO's own change. -/
theorem crossingFifosAndMemoryErrors : Obligations.CrossingFifosAndMemoryErrors := by
  refine ⟨?_, ?_, ?_, ?_, ?_, ?_, ?_, ?_, ?_, ?_, ?_, ?_⟩
  · intro s n lane u last poison hn hd hw
    exact execFifoWriteUnit_packs lane u last poison hn hd hw
  · intro s n lane u last poison hn hd hw
    have h64 : ¬ 64 ≤ n := by omega
    simp [exec, execFifoWriteUnit, done, hn, hd, hw, h64]
  · intro s n lane u last poison h9 hn hd hw
    simp [exec, execFifoWriteUnit, done, Nat.not_lt.mpr h9, Nat.not_le.mpr hn, hd, hw]
  · intro s n w rest hw hk hs hd
    simp [exec, execFifoReadWord, done, hw, hk, hs, hd]
  · intro s n hn hm
    simp [exec, execFifoFlushRequest, done, Nat.not_le.mpr hn, hm]
  · intro s n hn hm
    simp [exec, execFifoFlushRequest, done, Nat.not_le.mpr hn, hm]
  · intro s n t hf ht
    simp [exec, execFifoFlushTimeout, done, hf, ht]
  · intro s m p
    rfl
  · intro s m k
    rfl
  · intro s m
    rfl
  · intro s m n w rest hw
    refine congrArg Host.Outcome.next (updFifo_congr ?_)
    simp [hw]
  · intro s m
    rfl

/-- A unit that neither is the fourth nor ends its packet joins the word under construction (R17). -/
theorem packUnit_joins {f : Fifo} {u : Octets} (poison : Bool) (hu : u.length = 16) (hp : f.packing.length < 48) :
    packUnit f u false poison =
      { f with packing := f.packing ++ u, poisoned := f.poisoned || poison, stalled := false } := by
  have ht : u.take 16 = u := List.take_of_length_le (Nat.le_of_eq hu)
  have hl : ¬ 64 ≤ f.packing.length + 16 := by omega
  simp [packUnit, ht, hu, hl]

/-- The fourth unit, or the last of its packet, completes the word (R17). -/
theorem packUnit_completes {f : Fifo} {u : Octets} {last : Bool} (poison : Bool) (hu : u.length ≤ 16)
    (h : last = true ∨ (u.length = 16 ∧ f.packing.length = 48)) :
    packUnit f u last poison = { f with
      words := f.words ++ [fifoWord (f.packing ++ u) f.atStart last (f.poisoned || poison)], packing := [], atStart := last
      poisoned := if last then false else f.poisoned || poison, stalled := false } := by
  have ht : u.take 16 = u := List.take_of_length_le hu
  have hl : (last || decide (64 ≤ (f.packing ++ u).length)) = true := by
    rcases h with h | ⟨h, k⟩
    · simp [h]
    · simp [h, k]
  simp only [packUnit, ht, hl, if_true]

/-- A field of one octet. -/
theorem fieldOf_octet (l : Octets) (x : Byte) (r : Octets) {i : Nat} (h : l.length = i) :
    fieldOf (l ++ x :: r) i 1 = x.toNat := by
  subst h
  simp [fieldOf, sliceOf, beNat]

theorem byte_toNat {n : Nat} (h : n < 256) : (byte n).toNat = n := by
  simpa [byte] using h

theorem padded_length (data : Octets) : ((padTo 64 data).take 64).length = 64 := by
  simp [padTo, zeros]
  omega

theorem padded_eq {data : Octets} (h : data.length ≤ 64) : (padTo 64 data).take 64 = data ++ zeros (64 - data.length) := by
  apply List.take_of_length_le
  simp [padTo, zeros]
  omega

theorem bitNat_lt (b : Bool) : bitNat b < 2 := by
  cases b <;> decide

theorem fifoWord_length (data : Octets) (first last poison : Bool) : (fifoWord data first last poison).length = 68 := by
  simp [fifoWord, padded_length, -List.length_take]

/-- The data of a word: its octets in order, then zeros (R17). -/
theorem fifoWord_data {data : Octets} (h : data.length ≤ 64) (first last poison : Bool) :
    (fifoWord data first last poison).take 64 = data ++ zeros (64 - data.length) := by
  rw [← padded_eq h]
  exact List.take_left' (padded_length data)

/-- The flags octet of a word (Table 1-9). -/
theorem fifoWord_flags (data : Octets) (first last poison : Bool) :
    fieldOf (fifoWord data first last poison) 64 1 = bitNat first * 128 + bitNat last * 64 + bitNat poison * 32 := by
  have hf := bitNat_lt first
  have hl := bitNat_lt last
  have hp := bitNat_lt poison
  rw [← byte_toNat (n := bitNat first * 128 + bitNat last * 64 + bitNat poison * 32) (by omega)]
  exact fieldOf_octet _ _ _ (padded_length data)

/-- VALID counts the octets of the word, at least one and at most 64 (Table 1-9). -/
theorem fifoWord_valid {data : Octets} (h1 : 1 ≤ data.length) (h : data.length ≤ 64) (first last poison : Bool) :
    fieldOf (fifoWord data first last poison) 65 1 % 128 = data.length := by
  have hv : max 1 (min 64 data.length) = data.length := by omega
  unfold fifoWord
  simp only [hv]
  generalize bitNat first * 128 + bitNat last * 64 + bitNat poison * 32 = b
  have hs := bitNat_lt (oddOnes 15 (b % 256 * 128 + data.length % 128))
  have hl : ((padTo 64 data).take 64 ++ [byte b]).length = 65 := by
    rw [List.length_append, padded_length]
    rfl
  rw [List.append_cons, fieldOf_octet _ _ _ hl, byte_toNat (by unfold sideParity; omega)]
  omega

theorem fifoWord_last (data : Octets) (first last poison : Bool) : wordLast (fifoWord data first last poison) = last := by
  unfold wordLast
  rw [fifoWord_flags]
  cases first <;> cases last <;> cases poison <;> decide

theorem fifoWord_first (data : Octets) (first last poison : Bool) : wordFirst (fifoWord data first last poison) = first := by
  unfold wordFirst
  rw [fifoWord_flags]
  cases first <;> cases last <;> cases poison <;> decide

/-- Settles O52: a packed FIFO is not at rest, so it reads back as `packUnit` leaves it, and the word is `fifoWord` of its
units. -/
theorem fifoPacksUnitsIntoWords : Obligations.FifoPacksUnitsIntoWords := by
  refine ⟨fun s n lane u poison hn hd hw hu hp => ?_, fun s n lane u last poison hn hd hw h1 hu hp hl => ?_⟩
  · refine ⟨_, execFifoWriteUnit_packs lane u false poison hn hd hw, ?_⟩
    have hk : fifoOf (updFifo s n fun f => packUnit f u false poison) n = _ := fifoOf_updFifo (by
      rw [packUnit_joins poison hu hp]
      intro h
      have hnil := congrArg (List.length ∘ Fifo.packing) h
      simp [hu] at hnil)
    rw [hk, packUnit_joins poison hu hp]
    exact ⟨rfl, rfl, rfl⟩
  · have hlen : ((fifoOf s n).packing ++ u).length = (fifoOf s n).packing.length + u.length := List.length_append
    refine ⟨_, fifoWord ((fifoOf s n).packing ++ u) (fifoOf s n).atStart last ((fifoOf s n).poisoned || poison),
      execFifoWriteUnit_packs lane u last poison hn hd hw, ?_⟩
    have hk : fifoOf (updFifo s n fun f => packUnit f u last poison) n = _ := fifoOf_updFifo (by
      rw [packUnit_completes poison hu hl]
      intro h
      have hnil := congrArg Fifo.words h
      simp at hnil)
    rw [hk, packUnit_completes poison hu hl]
    refine ⟨rfl, fifoWord_length _ _ _ _, ?_, fifoWord_last _ _ _ _, fifoWord_first _ _ _ _, ?_, rfl, rfl⟩
    · rw [fifoWord_data (by omega), hlen, List.append_assoc]
    · rw [fifoWord_valid (by omega) (by omega), hlen]

/-- A word taken from a FIFO for reading (R18). -/
def takeWord (s : State) (n : Nat) (rest : List Octets) : State :=
  updFifo s n (fun f => { f with words := rest, stalled := false })

/-- A FIFO that discards stays one that is not at rest while its words are taken. -/
theorem fifoOf_takeWord {s : State} {n : Nat} (rest : List Octets) (hk : (fifoOf s n).skipping = true) :
    fifoOf (takeWord s n rest) n = { fifoOf s n with words := rest, stalled := false } := by
  refine fifoOf_updFifo fun h => ?_
  have hs := congrArg Fifo.skipping h
  simp [hk] at hs

/-- While it discards, a word without FIRST is counted alone (R18). -/
theorem execFifoReadWord_discards {s : State} {n : Nat} {w : Octets} {rest : List Octets} {flips : List Nat}
    (hw : (fifoOf s n).words = w :: rest) (hk : (fifoOf s n).skipping = true) (hf : wordFirst (flipBits w flips) = false) :
    execFifoReadWord n flips s =
      done (updFifo (takeWord s n rest) n (fun f => { f with discarded := f.discarded + 1 })) := by
  simp [execFifoReadWord, takeWord, hw, hk, hf]

theorem fieldOf_octet_lt (l : Octets) (i : Nat) : fieldOf l i 1 < 256 := by
  unfold fieldOf sliceOf
  cases l.drop i with
  | nil => decide
  | cons x r => simpa [beNat] using x.isLt

/-- POISON and LAST of the flags that `poisonWord` writes, over every octet. -/
theorem poisonFlags : ∀ b < 256, ∀ last : Bool,
    ((if last then withBit (withBit b 5) 6 else withBit b 5) % 256).testBit 5 = true ∧
    ((if last then withBit (withBit b 5) 6 else withBit b 5) % 256).testBit 6 = (last || b.testBit 6) := by
  decide +kernel

/-- The flags octet of a poisoned word (Table 1-9). -/
theorem poisonWord_flags {w : Octets} (hw : w.length = 68) (last : Bool) :
    fieldOf (poisonWord w last) 64 1 =
      (if last then withBit (withBit (fieldOf w 64 1) 5) 6 else withBit (fieldOf w 64 1) 5) % 256 := by
  unfold poisonWord
  dsimp only
  rw [List.append_assoc, List.cons_append, fieldOf_octet _ _ _ (by simp [hw])]
  simp [byte]

/-- Settles O53: the four outcomes of the two parities, the two of a FIFO that discards, and the flags of a poisoned word. -/
theorem damagedWordsCloseTheirPackets : Obligations.DamagedWordsCloseTheirPackets := by
  refine ⟨fun s n w rest flips hw hk => ?_, fun s n w rest flips hw hk hf => ?_,
    fun s n w rest flips hw hk hf hs hd => ?_, fun w last hw => ?_⟩
  · cases hs : sideGood (flipBits w flips) <;> cases hd : dataGood (flipBits w flips) <;>
      simp [exec, execFifoReadWord, done, hw, hk, hs, hd]
  · have hk' := fifoOf_takeWord rest hk
    have hc : fifoOf (updFifo (takeWord s n rest) n fun f => { f with discarded := f.discarded + 1 }) n = _ :=
      fifoOf_updFifo fun h => by
        have hn := congrArg Fifo.discarded h
        simp at hn
    refine ⟨_, execFifoReadWord_discards hw hk hf, ?_⟩
    rw [hc, hk']
    exact ⟨rfl, rfl, hk, rfl⟩
  · simp [exec, execFifoReadWord, done, hw, hk, hf, hs, hd]
  · obtain ⟨hp, hl⟩ := poisonFlags (fieldOf w 64 1) (fieldOf_octet_lt w 64) last
    simp only [wordPoison, wordLast, bitOf, poisonWord_flags hw, hp, hl, and_self]

end Sys2Proof.Proofs

/-! PROOFS. Memories: what is read after a write of a string and after a clear (log entry 5). -/

namespace Sys2Proof.Proofs

open Sys2Proof Sys2Proof.Machine Sys2Proof.Laws

/-- A write of a string: its octets from `a` on, what stood there elsewhere. -/
theorem read_writeAll (l : Octets) (m : Memory) (a b : Nat) (h : m.wf = true) :
    (m.writeAll a l).read b = if a ≤ b ∧ b < a + l.length then l.getD (b - a) Memory.blank else m.read b := by
  induction l generalizing m a with
  | nil =>
    have hb : ¬ (a ≤ b ∧ b < a) := by omega
    simp [Memory.writeAll, hb]
  | cons v l ih =>
    rw [Memory.writeAll, ih _ _ (write_wf m a v h), read_write m a b v h]
    by_cases hb : b = a
    · subst hb
      have hin : ¬ (b + 1 ≤ b ∧ b < b + 1 + l.length) := by omega
      have hc : b ≤ b ∧ b < b + (v :: l).length := by
        rw [List.length_cons]
        omega
      rw [if_neg hin, if_pos rfl, if_pos hc, Nat.sub_self, List.getD_cons_zero]
    · by_cases hin : a + 1 ≤ b ∧ b < a + 1 + l.length
      · have hc : a ≤ b ∧ b < a + (l.length + 1) := by omega
        have hs : b - a = b - (a + 1) + 1 := by omega
        simp [hin, hc, hs]
      · have hc : ¬ (a ≤ b ∧ b < a + (v :: l).length) := by
          rw [List.length_cons]
          omega
        rw [if_neg hin, if_neg hb, if_neg hc]

/-- A string written is read back. -/
theorem readAll_writeAll (l : Octets) (m : Memory) (a : Nat) (h : m.wf = true) :
    (m.writeAll a l).readAll a l.length = l := by
  apply List.ext_getElem
  · simp [Memory.readAll]
  · intro i hi hl
    simp [Memory.readAll, read_writeAll l m a _ h, hl]

/-- What a map lists at a key after entries were dropped by their key alone. -/
theorem find_filter_key {α : Type} (m : FMap α) (p : Nat → Bool) (i : Nat) :
    FMap.find (m.filter (fun q => p q.1)) i = if p i then FMap.find m i else none := by
  induction m with
  | nil => simp [FMap.find]
  | cons q m ih =>
    obtain ⟨k, v⟩ := q
    by_cases hk : i = k
    · subst hk
      cases hp : p i <;> simp_all [FMap.find]
    · cases hp : p k <;> simp_all [FMap.find]

/-- What is read after a clear: blank in the range, what stood there elsewhere. -/
theorem read_clear (m : Memory) (a n b : Nat) :
    (m.clear a n).read b = if a ≤ b ∧ b < a + n then Memory.blank else m.read b := by
  have hf := find_filter_key m (fun k => decide (k < a) || decide (a + n ≤ k)) b
  unfold Memory.read FMap.getD Memory.clear
  rw [hf]
  by_cases hb : a ≤ b ∧ b < a + n
  · have hp : (decide (b < a) || decide (a + n ≤ b)) = false := by simp; omega
    simp [hb, hp]
  · have hp : (decide (b < a) || decide (a + n ≤ b)) = true := by simp; omega
    simp [hb, hp]

/-- Settles O58: the canonical form by the lemmas of Laws/Memory.lean, the values by what is read after each write. -/
theorem memoryKeepsItsFormAndItsValues : Obligations.MemoryKeepsItsFormAndItsValues := by
  intro m h
  refine ⟨fun a v => ⟨write_wf m a v h, ?_, fun b hb => ?_⟩,
    fun a l => ⟨writeAll_wf l m a h, readAll_writeAll l m a h, fun b hb => ?_⟩,
    fun a n => ⟨clear_wf m a n h, fun b ha hn => ?_, fun b hb => ?_⟩⟩
  · simp [read_write m a a v h]
  · simp [read_write m a b v h, hb]
  · rw [read_writeAll l m a b h, if_neg (by omega)]
  · rw [read_clear, if_pos ⟨ha, hn⟩]
  · rw [read_clear, if_neg (by omega)]

end Sys2Proof.Proofs

/-! PROOFS. The commands that clear counters and those that read out (R65, R62, R418). -/

namespace Sys2Proof.Proofs

open Sys2Proof Sys2Proof.Machine Sys2Proof.Laws

/-- A write's journal record changes the state of the pair and nothing else (R363, R378). -/
theorem journalWrite_only (s : State) (who : Caller) (idx sub : Nat) (v : Octets) :
    ∃ x, journalWrite s who idx sub v = { s with twin := x } := by
  unfold journalWrite
  dsimp only
  split
  · exact journal_only s _ _
  · split
    · exact journal_only s _ _
    · exact ⟨s.twin, rfl⟩

@[simp] theorem journalWrite_vals (s : State) (who : Caller) (idx sub : Nat) (v : Octets) :
    (journalWrite s who idx sub v).vals = s.vals := by
  obtain ⟨x, h⟩ := journalWrite_only s who idx sub v
  rw [h]

@[simp] theorem journalWrite_out (s : State) (who : Caller) (idx sub : Nat) (v : Octets) :
    (journalWrite s who idx sub v).out = s.out := by
  obtain ⟨x, h⟩ := journalWrite_only s who idx sub v
  rw [h]

/-- What an object holds depends on the stored values alone. -/
theorem obj_congr {s t : State} (h : t.vals = s.vals) (idx sub : Nat) : obj t idx sub = obj s idx sub := by
  rw [obj, obj, h]

/-- After a clear an object of the index is at its default, and every other holds what it held. -/
theorem obj_clearCounters (s : State) (idx j sub : Nat) (hs : sub < 256) :
    obj (clearCounters s idx) j sub = if j = idx then objDefault j sub else obj s j sub := by
  have hk : objKey j sub / 256 = j := by
    unfold objKey
    omega
  have hf := find_filter_key s.vals (fun k => k / 256 != idx) (objKey j sub)
  rw [hk] at hf
  unfold obj FMap.getD clearCounters FMap.keep
  rw [hf]
  by_cases hj : j = idx <;> simp [hj]

/-- A counter object that no count has reached reads 0 in every word. -/
theorem objField_of_obj_nil {s : State} {idx sub : Nat} (h : obj s idx sub = []) (off len : Nat) :
    objField s idx sub off len = 0 := by
  simp [objField, h, fieldOf, sliceOf, beNat]

/-- The counter objects that a command clears (R65, R90, R119, R144, R175, R200, R233, R254, R317, R401). -/
def clearedCounters : List Nat :=
  [0x2170, 0x3040, 0x2310, 0x4150, 0x4240, 0x5140, 0x6060, 0x7050, 0x9020, 0x1120]

/-- The object tables give counters no default, so an uncounted one holds nothing (R374). -/
theorem objDefault_clearedCounters : ∀ idx ∈ clearedCounters, ∀ sub ≤ 16, objDefault idx sub = [] := by
  decide +kernel

/-- A command that is the clear of a counter object sets its words to 0 and leaves every other object, the standing and
what has left the chip. -/
theorem clears_of_command {c : Caller → Instr} {cmd idx : Nat} (hi : idx ∈ clearedCounters)
    (hc : ∀ who s, exec (c who) s =
      done (command s who cmd 0 [byte 0] (fun _ => 0) (fun s => clearCounters s idx)))
    (hs : ∀ who, supplyCommand (c who) = false) (hr : ∀ who, roleCommand (c who) = false) : clears c cmd idx := by
  intro who
  have run := runsAs_of_command (hc who)
  refine ⟨run, fun s t hl hk he => ?_⟩
  have standing := otherCommandsKeepTheStanding (c who) s t he (hs who) (hr who)
  obtain ⟨runs, -⟩ := run
  rw [runs s hl hk] at he
  cases he
  have hv : (effected s who cmd 0 [byte 0] fun s => clearCounters s idx).vals = (clearCounters s idx).vals := by
    simp [effected, clearCounters]
  refine ⟨fun sub word hsub => objField_of_obj_nil ?_ _ _, fun j sub hsub hj => ?_, standing, by simp [effected]⟩
  · rw [obj_congr hv, obj_clearCounters s idx idx sub (by omega), if_pos rfl]
    exact objDefault_clearedCounters idx hi sub hsub
  · rw [obj_congr hv, obj_clearCounters s idx j sub hsub, if_neg hj]

/-- Settles O14: each of the ten is the clear of one counter object. -/
theorem counterClearsZeroTheirCounters : Obligations.CounterClearsZeroTheirCounters := by
  refine ⟨?_, ?_, ?_, ?_, ?_, ?_, ?_, ?_, ?_, ?_⟩ <;>
    exact clears_of_command (by decide) (fun _ _ => rfl) (fun _ => rfl) (fun _ => rfl)

/-- Settles O16: each of the fourteen is the `command` of its object, rule and effect. -/
theorem readoutCommandsRun : Obligations.ReadoutCommandsRun := by
  intro who v h k o
  refine ⟨?_, ?_, ?_, ?_, ?_, ?_, ?_, ?_, ?_, ?_, ?_, ?_, ?_, ?_⟩ <;> exact runsAs_of_command fun _ => rfl

end Sys2Proof.Proofs

/-! PROOFS. Spans of channels, and what an event does to a lane (R34, R37 to R71). -/

namespace Sys2Proof.Proofs

open Sys2Proof Sys2Proof.Machine Sys2Proof.Laws

/-- Every mode takes at least one bin (Table 2-2). -/
theorem spanOf_pos (mode : Nat) : 0 < spanOf mode := by
  unfold spanOf
  split <;> decide

/-- Settles O54: two spans that reach past each other's first bin share the higher of the two. -/
theorem channelsOverlapWhereSpansMeet : Obligations.ChannelsOverlapWhereSpansMeet := by
  intro a b m k
  have hm := spanOf_pos m
  have hk := spanOf_pos k
  simp only [spansMeet, Bool.and_eq_true, decide_eq_true_eq]
  constructor
  · rintro ⟨hab, hba⟩
    exact ⟨max a b, by omega⟩
  · rintro ⟨bin, hbin⟩
    omega

/- The lanes (R37 to R71). -/

/-- What a change makes of a lane depends on the lane alone. -/
theorem updLane_congr {s : State} {n : Nat} {f g : Lane → Lane} (h : f (laneOf s n) = g (laneOf s n)) :
    updLane s n f = updLane s n g := by
  rw [updLane, updLane, h]

/-- Moving the test rotation on leaves the lanes (R48). -/
@[simp] theorem laneOf_testTurn (s : State) (next due n : Nat) :
    laneOf { s with rx := { s.rx with testNext := next, testDue := due } } n = laneOf s n := rfl

/-- Settles O25: each clause is one branch of its row, and its hypotheses are the conditions on the way to it. -/
theorem lanesTakeAFrameThrough : Obligations.LanesTakeAFrameThrough := by
  refine ⟨?_, ?_, ?_, ?_, ?_, ?_, ?_, ?_, ?_, ?_, ?_, ?_, ?_, ?_⟩
  · -- CORRELATOR_DETECTION with a free lane (R37, R42)
    intro s d n hr hl hf hm hn
    simp only [exec, execCorrelatorDetection, hr, hl, hf, hm, hn, Bool.and_self, if_true, done]
  · -- LANE_DETECTION_POINT (R51)
    intro s n rssi hs
    simp [exec, execLaneDetectionPoint, done, hs]
  · -- DIVERSITY_WINDOW_CLOSE (R52)
    intro s n a b hs hn
    simp [exec, execDiversityWindowClose, done, hs, hn]
  · -- SFD_FOUND (R63)
    intro s n t x hs
    simp [exec, execSfdFound, done, hs]
  · -- SFD_TIMEOUT (R40)
    intro s n hs ht
    simp [exec, execSfdTimeout, done, hs, ht]
  · -- PHR_CHECK passed: the descriptor is that of the lane as it stood (R64, R71)
    intro s n p hs hp
    rw [exec, execPhrCheck, if_pos hs, if_pos hp]
    exact congrArg Host.Outcome.next (updLane_congr rfl)
  · -- PHR_CHECK failed (R71)
    intro s n p hs hp hb
    simp [exec, execPhrCheck, done, hs, hp, hb]
  · -- PAYLOAD_END with a bad CRC (R40)
    intro s n psdu trailer late hs
    simp [exec, execPayloadEnd, done, hs]
  · -- PAYLOAD_END with a good CRC, no link and no trailer (R40, R79)
    intro s n psdu trailer late hs hl hc
    simp [exec, execPayloadEnd, done, hs, hl, hc]
  · -- LANE_TEST_TURN of an idle lane (R48)
    intro s n h0 hd hn hi
    simp [exec, execLaneTestTurn, done, h0, hd, hn, hi]
  · -- LANE_TEST_RESULT passed (R48)
    intro s n bits hs
    simp [exec, execLaneTestResult, done, hs]
  · -- LANE_TEST_RESULT failed a second time (R48)
    intro s n mask bits hs hm hf
    simp [exec, execLaneTestResult, done, hs, hm, hf]
  · -- LANE_HOURLY_RETEST, first and second pass (R48)
    intro s n hs ht hp
    simp [exec, execLaneHourlyRetest, done, hs, ht, hp]
  · -- LANE_HOURLY_RETEST, third pass (R48)
    intro s n hs ht hp
    simp [exec, execLaneHourlyRetest, done, hs, ht, Nat.not_lt.mpr hp]

end Sys2Proof.Proofs

/-! PROOFS. The phases of a planned transmission (Table 4-1). -/

namespace Sys2Proof.Proofs

open Sys2Proof Sys2Proof.Machine Sys2Proof.Laws

/-- Settles O28: each clause is one branch of its row; PA_RAMP_UP is outside the lists of O9 and appends the frame last. -/
theorem transmissionPhasesAdvance : Obligations.TransmissionPhasesAdvance := by
  refine ⟨?_, ?_, ?_, ?_, ?_, ?_, ?_, ?_, ?_, ?_, ?_, ?_, ?_, ?_, ?_⟩
  · -- TX_RETUNE (R91)
    intro s bs p hp hd hs hk
    simp [exec, execTxRetune, done, hp, hd, hs, hk]
  · -- TX_COMMAND (R91)
    intro s bs p hp hd
    simp [exec, execTxCommand, done, hp, hd]
  · -- LOCK_DEADLINE, locked (R92)
    intro s bs m p hp hd
    simp [exec, execLockDeadline, done, hp, hd]
  · -- LOCK_DEADLINE, not locked (R93)
    intro s bs m p hp hd
    simp [exec, execLockDeadline, done, hp, hd]
  · -- XPA_EN_RISE (R98)
    intro s bs p hp hd hx ht
    simp [exec, execXpaEnRise, done, hp, hd, hx, ht]
  · -- GNT_LBT_SAMPLE, granted and free: with or without a coexistence channel (R104, R113)
    intro s bs power p hp hd hl
    simp [exec, execGntLbtSample, done, hp, hd, hl]
  · -- GNT_LBT_SAMPLE, not granted (R104)
    intro s bs ch power p hp hd hc
    simp [exec, execGntLbtSample, done, hp, hd, hc]
  · -- XPA_TXON_RISE (R98)
    intro s bs p hp hd hx
    simp [exec, execXpaTxonRise, done, hp, hd, hx]
  · -- PA_RAMP_UP (R56, R91)
    intro s bs p hp hd hsec hm
    have he : exec (.paRampUp bs) s = .next (rampUp s bs p) := by
      simp [exec, execPaRampUp, done, hp, hd, hsec, hm]
    exact ⟨_, he, rfl, otherCommandsKeepTheStanding _ s _ he rfl rfl, rfl⟩
  · -- POWER_LOOP_CORRECTION of the internal amplifier (R96)
    intro s bs mv f p hp hph ht hc hx
    simp [exec, execPowerLoopCorrection, done, hp, hph, ht, hc, hx]
  · -- FRAME_END_RAMP_DOWN (R91)
    intro s bs v p hp hph ht
    simp [exec, execFrameEndRampDown, done, hp, hph, ht]
  · -- XPA_EN_FALL: without a plan no frame follows soon (R91)
    intro s bs t hf hp ht hx
    simp [exec, execXpaEnFall, done, hp, hf, ht, hx]
  · -- REFLECTED_POWER_TRIP (R101)
    intro s bs v p hp hph hc hv hd
    simp [exec, execReflectedPowerTrip, done, hp, hph, hc, hv, hd]
  · -- SYNTH_LOSS_OF_LOCK during a frame (R93)
    intro s bs p hp hph
    simp [exec, execSynthLossOfLock, done, hp, hph]
  · -- GNT_WITHDRAWN (R105)
    intro s ch
    rfl

end Sys2Proof.Proofs

/-! PROOFS. Masks, region, schedule and nodes by command, and the events of OFDM-BL (chapters 3 to 6). -/

namespace Sys2Proof.Proofs

open Sys2Proof Sys2Proof.Machine Sys2Proof.Laws

/-- A command that every check passes has its effect (R371). -/
theorem command_runs {s : State} {who : Caller} {idx sub : Nat} {v : Octets} {rule : State → Nat} {act : State → State}
    (hl : lsfStopped s = false) (hc : commandStatus s who idx sub v rule = 0) :
    command s who idx sub v rule act = effected s who idx sub v act := by
  simp [command, hl, hc, effected]

/-- A block whose cells pass runs on the state that holds code 0 (R134). -/
theorem execSchedCellBlockWrite_passed {s : State} {who : Caller} {o : Octets} (hw : writeStatus s who 0x4116 0 o = 0)
    (hi : cellIndex s % 64 = 0) (hc : cellsWriteStatus s (cellIndex s) (blockCells o) = 0) :
    execSchedCellBlockWrite who o s =
      done (command (schedStatus s 0) who 0x4116 0 o (cellBlockCheck o) (cellBlockApply o)) := by
  simp only [execSchedCellBlockWrite, hw, hi, hc, if_true]

/-- A slotframe or hopping sequence that passes runs on the state that holds code 0 (R134). -/
theorem execScheduleTableWrite_passed {s : State} {who : Caller} {idx sub : Nat} {o : Octets}
    (ht : scheduleTable idx = true) (hw : writeStatus s who idx sub o = 0) (hc : tableStatus s idx sub o = 0) :
    execScheduleTableWrite who idx sub o s =
      done (command (schedStatus s 0) who idx sub o (tableCheck idx sub o) (tableApply idx sub o)) := by
  simp only [execScheduleTableWrite, ht, hw, hc, if_true]

/-- Settles O17: ten rows are the `command` of their object, rule and effect on the state itself, and three on the state
that their note or their schedule code leaves. -/
theorem radioAndScheduleCommandsRun : Obligations.RadioAndScheduleCommandsRun := by
  intro who band p v bs h o
  refine ⟨runsAs_of_command fun _ => rfl, runsAs_of_command fun _ => rfl, runsAs_of_command fun _ => rfl,
    runsAs_of_command fun _ => rfl, runsAs_of_command fun _ => rfl, fun s hl hc => ?_,
    runsAs_of_command fun _ => rfl, runsAs_of_command fun _ => rfl, runsAs_of_command fun _ => rfl,
    fun s hw hi hs hl hc => ?_, fun s ht hw hs hl hc => ?_,
    runsAs_of_command fun _ => rfl, runsAs_of_command fun _ => rfl, runsAs_of_command fun _ => rfl⟩
  · -- REGION_RECOMMISSION (R111)
    exact congrArg Host.Outcome.next (command_runs hl hc)
  · -- SCHED_CELL_BLOCK_WRITE (R134)
    exact (execSchedCellBlockWrite_passed hw hi hs).trans (congrArg Host.Outcome.next (command_runs hl hc))
  · -- SCHEDULE_TABLE_WRITE (R134)
    exact (execScheduleTableWrite_passed ht hw hs).trans (congrArg Host.Outcome.next (command_runs hl hc))

/-- Settles O27: each clause is one branch of its row, and its hypotheses are the conditions on the way to it. -/
theorem maskAndBitLoadingEvents : Obligations.MaskAndBitLoadingEvents := by
  refine ⟨?_, ?_, ?_, ?_, ?_, ?_, ?_, ?_, ?_, ?_⟩
  · -- MASK_CAPTURE with an excess (R75)
    intro s bs x hb hd hs hx
    rw [exec, execMaskCapture, if_pos ⟨hb, hd, hs⟩, if_pos hx]
    rfl
  · -- MASK_CAPTURE within the mask (R75)
    intro s bs x hb hd hs hx
    rw [exec, execMaskCapture, if_pos ⟨hb, hd, hs⟩, if_neg (Int.not_lt.mpr hx)]
    rfl
  · -- BL_RECOMPUTE (R83)
    intro s h band
    rfl
  · -- MAP_IE_RX of a map that passes (R87)
    intro s h band c ack m bits hn hl hk hp hr
    simp [exec, execMapIeRx, done, hn, hl, hk, hp, hr]
  · -- MAP_IE_RX of a map that does not parse (R87)
    intro s h band c ack hn hl hk hp
    simp [exec, execMapIeRx, done, hn, hl, hk, hp]
  · -- MAP_ACK_RX (R86)
    intro s h band c secured
    rfl
  · -- MAP_ACTIVATE_SLOT, acknowledged: the interval after ACTIVATE_ASN has passed, so that slot has too (R86)
    intro s h band n hn ha hm hs hk ht
    have hact : n.activate ≤ asnNow s (bandCode band) := by omega
    simp [exec, execMapActivateSlot, done, hn, ha, hm, hs, hk, ht, hact]
  · -- MAP_ACTIVATE_SLOT, not acknowledged (R86)
    intro s h band n hn ha hm hs h3 hk ht
    simp [exec, execMapActivateSlot, done, hn, ha, hm, hs, h3, hk, ht]
  · -- CAPABILITY_IE_RX (R85)
    intro s h c hl hk hn
    simp only [exec, execCapabilityIeRx, done, hl, hk, hn, decide_true, Bool.and_self, if_true]
  · -- CAPABILITY_IE_RX of the ranging capability (R405)
    intro s h c hl hk
    simp [exec, execCapabilityIeRx, done, hl, hk]

end Sys2Proof.Proofs

/-! PROOFS. Domain time persisted, and the look-ahead, the queue latch and the security deadline of a slot (R130, R137 to
R139). -/

namespace Sys2Proof.Proofs

open Sys2Proof Sys2Proof.Machine Sys2Proof.Laws

/-- Settles O51: the copy is due where there is none or it is a minute old, and only an acquired chip writes it. -/
theorem timePersistsOnceAMinute : Obligations.TimePersistsOnceAMinute := by
  refine ⟨?_, ?_, ?_⟩
  · -- due: with no copy, or with one a minute old
    intro s hm hr hold
    have ha : timeAcquired s = true := bne_iff_ne.mpr hm
    match hp : s.time.persisted with
    | none => simp [exec, execTimePersist, done, ha, hr, hp]
    | some (d, m, w) => simp [exec, execTimePersist, done, ha, hr, hp, hold d m w hp]
  · -- within the minute of the copy
    intro s d m w hp hw
    simp [exec, execTimePersist, done, hp, Nat.not_le.mpr hw]
  · -- UNACQUIRED
    intro s hm
    have ha : timeAcquired s = false := by rw [timeAcquired, hm]; rfl
    simp [exec, execTimePersist, done, ha]

/-- What the deadline makes of a planned frame: secured where its counter is free, skipped from 100 us before its start
on, and kept until then (R139). -/
theorem execSecureDeadline_planned {s : State} {bs : Nat} {p : TxPlan} (hp : (chainOf s bs).plan = some p)
    (hd : s.power.dev ≠ .follower) (hk : p.kind = .frame) (hs : p.secured = false) (hph : p.phase = .planned)
    (secured : Bool) :
    execSecureDeadline bs secured s =
      if secured && !fcAwaited s (p.peer.getD 0xFFFFFFFF) then
        done (updChain s bs (fun c => { c with plan := some { p with secured := true } }))
      else if p.startAt ≤ s.now + 100000 then
        done (dropPlan (count (addOutcome s (p.cell.getD 0) bs 7 0) 0x4150 bs 4) bs)
      else done s := by
  rw [execSecureDeadline, hp]
  dsimp only
  rw [if_pos ⟨hd, hk, hs, Or.inl hph⟩]
  cases p.peer <;> rfl

/-- Settles O31: each clause is one branch of its row, and its hypotheses are the conditions on the way to it. -/
theorem slotLookaheadAndLatch : Obligations.SlotLookaheadAndLatch := by
  refine ⟨?_, ?_, ?_, ?_, ?_⟩
  · -- LOOKAHEAD_RESOLVED before the slot ahead of its own begins (R139)
    intro s bs asn he ht
    rw [exec, execLookaheadResolved, if_neg (Bool.eq_false_iff.mp he), if_neg (Nat.not_le.mpr ht)]
    rfl
  · -- LOOKAHEAD_RESOLVED too late (R139)
    intro s bs asn he ht
    rw [exec, execLookaheadResolved, if_neg (Bool.eq_false_iff.mp he), if_pos ht]
    rfl
  · -- QUEUE_LATCH (R137)
    intro s bs hm hw hb he hq hd hp ht hs
    simp only [exec, execQueueLatch, done, hm, hw, hb, he, hq, hd, hp, ht, hs, Bool.true_or, Bool.not_false,
      Option.isNone_none, and_self, if_true]
  · -- SECURE_DEADLINE of a frame whose counter is free (R139)
    intro s bs p hp hd hk hs hph hf
    rw [exec, execSecureDeadline_planned hp hd hk hs hph, hf]
    rfl
  · -- SECURE_DEADLINE of a frame not secured in time (R139)
    intro s bs p hp hd hk hs hph ht
    rw [exec, execSecureDeadline_planned hp hd hk hs hph, Bool.false_and, if_neg Bool.false_ne_true, if_pos ht]
    rfl

end Sys2Proof.Proofs

/-! PROOFS. Acknowledgements, received frames, the life of a node and the messages of peers (chapter 6). -/

namespace Sys2Proof.Proofs

open Sys2Proof Sys2Proof.Machine Sys2Proof.Laws

/-- What an overdue Announcement makes of a known peer: one more miss, and at the third the peer is lost (R173). -/
theorem execPeerAnnouncementMiss_overdue {s : State} {k : Nat} {p : Peer} (hp : FMap.find s.link.peers k = some p)
    (hk : p.known = true) (ht : p.heardAt + (15 + 10 * p.misses) * 1000000000 ≤ s.now) :
    execPeerAnnouncementMiss k s =
      if p.misses + 1 < 3 then done (setPeer s k { p with misses := p.misses + 1 })
      else done (record (setPeer s k { p with misses := 0, known := false }) 0x3111 k p.accepted 0) := by
  rw [execPeerAnnouncementMiss, hp]
  exact if_pos ⟨hk, ht⟩

/-- Settles O32: each clause is one branch of its row, and its hypotheses are the conditions on the way to it. -/
theorem airExchangesAreAnswered : Obligations.AirExchangesAreAnswered := by
  refine ⟨?_, ?_, ?_, ?_, ?_, ?_, ?_, ?_, ?_, ?_, ?_, ?_, ?_⟩
  · -- ACK_RX (R146, R147)
    intro s bs a p hp
    rw [exec, execAckRx, hp]
    rfl
  · -- ACK_WINDOW_CLOSE (R147)
    intro s bs p hp ht
    rw [exec, execAckWindowClose, hp]
    exact if_pos ht
  · -- AIR_RX_JOB (R157)
    intro s f hd
    exact if_pos hd
  · -- ACK_DECISION_DEADLINE (R148)
    intro s bs
    rfl
  · -- JOIN_REQUEST_RX (R165)
    intro s r ha hl hc
    exact if_pos ⟨ha, hl, hc⟩
  · -- JOIN_CONFIRM_RX (R165)
    intro s eui cap ctr i n hn ha hj hh hc
    have hfree : (!n.held) = true := by rw [hh]; rfl
    rw [exec, execJoinConfirmRx, hn]
    exact if_pos ⟨ha, hj, hfree, hc, rfl⟩
  · -- JOIN_CONFIRM_TIMEOUT (R165)
    intro s h n hn hj ht
    rw [exec, execJoinConfirmTimeout, hn]
    exact if_pos ⟨hj, ht⟩
  · -- DEPARTURE_IE_RX (R165)
    intro s h ctr cause n hn ha hj hc
    rw [exec, execDepartureIeRx, hn]
    exact if_pos ⟨ha, hj, hc⟩
  · -- NODE_TIMEOUT_EXPIRY (R165)
    intro s h n hn hj ht ha
    rw [exec, execNodeTimeoutExpiry, hn]
    exact if_pos ⟨hj, ht, ha⟩
  · -- PEER_ANNOUNCEMENT_TX (R171)
    intro s ht hd hk a m hm
    rw [exec, execPeerAnnouncementTx]
    dsimp only
    rw [if_pos ⟨ht, hd, hk⟩, hm]
    rfl
  · -- PEER_MESSAGE_RX (R172)
    intro s m hd
    exact if_pos hd
  · -- PEER_ANNOUNCEMENT_MISS, the first and the second (R173)
    intro s k p hp hk ht hm
    exact (execPeerAnnouncementMiss_overdue hp hk ht).trans (if_pos (Nat.succ_lt_succ hm))
  · -- PEER_ANNOUNCEMENT_MISS, the third (R173)
    intro s k p hp hk ht hm
    exact (execPeerAnnouncementMiss_overdue hp hk ht).trans (if_neg (Nat.not_lt.mpr (Nat.succ_le_succ hm)))

end Sys2Proof.Proofs

/-! PROOFS. The queues of the wired and aerial ports, their shapers, gates and tables by command (chapters 7 and 8). -/

namespace Sys2Proof.Proofs

open Sys2Proof Sys2Proof.Machine Sys2Proof.Laws

/-- Settles O18: each of the fourteen is the `command` of its object, rule and effect; the shaper's effect goes by the
caller's cursor as it stands. -/
theorem queueAndTableCommandsRun : Obligations.QueueAndTableCommandsRun := by
  intro who v sub eth o
  refine ⟨?_, fun s hl hc => congrArg Host.Outcome.next (command_runs hl hc),
    ?_, ?_, ?_, ?_, ?_, ?_, ?_, ?_, ?_, ?_, ?_, ?_, ?_⟩ <;>
    exact runsAs_of_command fun _ => rfl

/-- The LAST word of a packet linked already leaves its POISON and whether its frame has started to decide (R182). -/
theorem execQueueAdmission_linked {s : State} {k : Nat} {p : QPacket} (hp : packetOf s k = some p)
    (hl : linked s k = true) (bad : Bool) :
    execQueueAdmission k bad s =
      let q := { p with poison := p.poison || bad, complete := true }
      if q.poison && p.started then done (endBad s (p.target % 16) k q 1)
      else if q.poison then done (removePacket (countQ s (p.target % 16) 5) k)
      else if p.started then done (endWell s (p.target % 16) k q)
      else done (updPacket s k (fun _ => q)) := by
  rw [execQueueAdmission, hp]
  exact if_pos hl

/-- Settles O33: each clause is one branch of its row, and its hypotheses are the conditions on the way to it. -/
theorem queuesAdmitAndSend : Obligations.QueuesAdmitAndSend := by
  refine ⟨?_, ?_, ?_, ?_, ?_, ?_, ?_, ?_, ?_, ?_, ?_, ?_⟩
  · -- QUEUE_ADMISSION of a packet not linked (R182)
    intro s k p bad hp hl
    rw [exec, execQueueAdmission, hp]
    exact if_neg (Bool.eq_false_iff.mp hl)
  · -- QUEUE_ADMISSION, poisoned and started: the frame ends bad (R182, R190)
    intro s k p bad hp hl hb hs
    simp [exec, execQueueAdmission_linked hp hl, done, hb, hs]
  · -- QUEUE_ADMISSION, poisoned and not started: dropped (R182)
    intro s k p bad hp hl hb hs
    simp [exec, execQueueAdmission_linked hp hl, done, hb, hs]
  · -- QUEUE_ADMISSION, good and started: the frame ends well (R182)
    intro s k p hp hl hb hs
    simp [exec, execQueueAdmission_linked hp hl, done, hb, hs]
  · -- QUEUE_ADMISSION, good and not started: complete (R182)
    intro s k p hp hl hb hs
    simp [exec, execQueueAdmission_linked hp hl, done, hb, hs]
  · -- CUT_THROUGH_ADMISSION where the buffers accept (R182)
    intro s s' k p hp hm hl hf hj
    simp [exec, execCutThroughAdmission, done, hp, hm, hl, hf, hj]
  · -- CUT_THROUGH_ADMISSION where they do not (R184)
    intro s s' k w refused p hp hm hl hf hj
    simp [exec, execCutThroughAdmission, done, hp, hm, hl, hf, hj]
  · -- WIRED_EGRESS_SELECT of a port without a transit frame (R189)
    intro s s' port w h9 h14 hd hs hr ht hk
    simp [exec, execWiredEgressSelect, done, h9, h14, hd, hs, hr, ht, hk]
  · -- WIRED_EGRESS_SELECT with one (R189, R287)
    intro s t port h11 h14 hd hs hr ht
    have h9 : 9 ≤ port := by omega
    have h10 : ¬ port ≤ 10 := by omega
    simp [exec, execWiredEgressSelect, done, h9, h10, h14, hd, hs, hr, ht]
  · -- CUT_THROUGH_UNDERRUN (R190)
    intro s port k p bad hk hp
    rw [exec, execCutThroughUnderrun, hk]
    dsimp only
    rw [hp]
    rfl
  · -- GATE_CYCLE_START of an Ethernet port (R199)
    intro s port g hg h9
    simp [exec, execGateCycleStart, done, h9, hg]
  · -- GATE_CYCLE_START of a band-sector (R199)
    intro s bs g hg hb
    simp [exec, execGateCycleStart, done, Nat.not_le.mpr hb, hg]

end Sys2Proof.Proofs

/-! PROOFS. What a running thread takes from its queues, submits and asks of the mailbox engines (chapter 13). -/

namespace Sys2Proof.Proofs

open Sys2Proof Sys2Proof.Machine Sys2Proof.Laws

/-- A read or write of a thread register acts for the thread that runs (R357). -/
theorem onThread_runs {s : State} {core tid : Nat} {t : Thread} (h : runsOn s core tid t) (f : Nat → Thread → State) :
    onThread s core f = done (f tid t) := by
  obtain ⟨hh, hr, ht⟩ := h
  simp [onThread, hh, hr, ht]

/- ENQ_SUBMIT (R177, R362). -/

/-- A block that ENQ_SUBMIT does not refuse for its range: class 2 to 7, at most 2,047 octets, inside the window. -/
def Submissible (s : State) (addr : Nat) : Prop :=
  2 ≤ fieldOf (appRead s addr 8) 0 1 ∧ fieldOf (appRead s addr 8) 0 1 ≤ 7 ∧ fieldOf (appRead s addr 8) 2 2 ≤ 2047 ∧
    inWindow addr (8 + fieldOf (appRead s addr 8) 2 2) = true

/-- The packet of a block. -/
def blockPacket (s : State) (addr : Nat) : Packet :=
  threadPacket (fieldOf (appRead s addr 8) 0 1) (appRead s (addr + 8) (fieldOf (appRead s addr 8) 2 2))

theorem not_submissible_iff (s : State) (addr : Nat) :
    ¬ Submissible s addr ↔ (fieldOf (appRead s addr 8) 0 1 < 2 ∨ 7 < fieldOf (appRead s addr 8) 0 1 ∨
      2047 < fieldOf (appRead s addr 8) 2 2 ∨ (!inWindow addr (8 + fieldOf (appRead s addr 8) 2 2)) = true) := by
  simp only [Submissible, Decidable.not_and_iff_not_or_not, Nat.not_le, Bool.not_eq_true, Bool.not_eq_true']

section
variable {s a : State} {core addr tid : Nat} {t : Thread} (hr : runsOn s core tid t)
include hr

/-- Class, length and place are one test, and one status answers all three (Table 13-6). -/
theorem execEnqSubmit_range (h : ¬ Submissible s addr) :
    execEnqSubmit core addr s = done (updThread s tid (fun x => { x with enqResult := 1 })) := by
  rw [execEnqSubmit, onThread_runs hr]
  exact congrArg done (if_pos ((not_submissible_iff s addr).mp h))

/-- A follower discards the frame (R305). -/
theorem execEnqSubmit_follower (h : Submissible s addr) (hd : s.power.dev = .follower) :
    execEnqSubmit core addr s = done (updThread s tid (fun x => { x with enqResult := 0 })) := by
  rw [execEnqSubmit, onThread_runs hr]
  dsimp only
  rw [if_neg (fun hn => (not_submissible_iff s addr).mpr hn h), if_pos hd]

/-- A frame that finds its resources is journaled (R362). -/
theorem execEnqSubmit_taken (h : Submissible s addr) (hd : s.power.dev ≠ .follower)
    (hp : submitPacket s (blockPacket s addr) = (a, false)) :
    execEnqSubmit core addr s = done (updThread (journal a 0 (.threadOut false
      (beOctets 1 (fieldOf (appRead s addr 8) 0 1) ++ appRead s (addr + 8) (fieldOf (appRead s addr 8) 2 2)))) tid
      (fun x => { x with enqResult := 0 })) := by
  unfold blockPacket at hp
  rw [execEnqSubmit, onThread_runs hr]
  dsimp only
  rw [if_neg (fun hn => (not_submissible_iff s addr).mpr hn h), if_neg hd, hp]

/-- A frame that lacks one leaves its thread waiting for its class (R184, R360). -/
theorem execEnqSubmit_refused (h : Submissible s addr) (hd : s.power.dev ≠ .follower)
    (hp : submitPacket s (blockPacket s addr) = (a, true)) :
    execEnqSubmit core addr s =
      done (updThread a tid (fun x => { x with enqResult := 2, enqWait := some (fieldOf (appRead s addr 8) 0 1) })) := by
  unfold blockPacket at hp
  rw [execEnqSubmit, onThread_runs hr]
  dsimp only
  rw [if_neg (fun hn => (not_submissible_iff s addr).mpr hn h), if_neg hd, hp]

end

/-- Settles O57: class 0 or 1 is out of range; a block in range ends discarded, taken or refused for want of a resource. -/
theorem threadsMayNotEnqueueTheTopClasses : Obligations.ThreadsMayNotEnqueueTheTopClasses := by
  refine ⟨fun s core addr tid t hr _ hc => ?_, fun s core addr tid t hr _ h2 h7 hlen hw => ?_⟩
  · have hn : ¬ Submissible s addr := fun ⟨h2, _, _, _⟩ => by omega
    exact execEnqSubmit_range hr hn
  · have h : Submissible s addr := ⟨h2, h7, hlen, hw⟩
    by_cases hd : s.power.dev = .follower
    · exact ⟨s, 0, none, .inl rfl, execEnqSubmit_follower hr h hd⟩
    · match hp : submitPacket s (blockPacket s addr) with
      | (_, false) => exact ⟨_, 0, none, .inl rfl, execEnqSubmit_taken hr h hd hp⟩
      | (_, true) => exact ⟨_, 2, some (some _), .inr rfl, execEnqSubmit_refused hr h hd hp⟩

/- APQ_TAKE (R362). -/

section
variable {s : State} {core q addr tid : Nat} {t : Thread} (hr : runsOn s core tid t) (hq : q < 64)
include hr hq

theorem execApqTake_refused (h : boundTid s q ≠ some tid ∨ inWindow addr 2080 = false) :
    execApqTake core q addr s = done (apqResult s tid q 0xFFFF) := by
  rw [execApqTake, onThread_runs hr, if_neg (Nat.not_le.mpr hq), if_pos (by simpa using h)]

variable (hb : boundTid s q = some tid) (hw : inWindow addr 2080 = true)
include hb hw

theorem execApqTake_empty (hl : FMap.getD s.threads.queues q [] = []) :
    execApqTake core q addr s = done (apqResult s tid q 0) := by
  rw [execApqTake, onThread_runs hr, if_neg (Nat.not_le.mpr hq), if_neg (by simp [hb, hw]), hl]

/-- The head frame goes out behind its header, and leaves its queue and the buffers. -/
theorem execApqTake_head {k : Nat} {l : List Nat} {p : QPacket} (hl : FMap.getD s.threads.queues q [] = k :: l)
    (hp : packetOf s k = some p) :
    execApqTake core q addr s =
      let a := appWrite (drewFree s) addr
        (appHeader p (if l.isEmpty then 0xFFFFFFFF else freeNow s % 2 ^ 32) ++ p.data)
      done (apqResult (dropUnlinked { a with threads := { a.threads with
        queues := FMap.putD a.threads.queues q l [] } } k) tid q (32 + p.data.length)) := by
  rw [execApqTake, onThread_runs hr, if_neg (Nat.not_le.mpr hq), if_neg (by simp [hb, hw]), hl]
  dsimp only
  rw [hp]

end

/- Mailboxes (R363). -/

/-- What the OD engine does with the block of a request: it reads an object under op 1 and writes one under op 2. -/
def odService (tid addr : Nat) (a : State) : Option (State × Option Nat × Option (Nat × Octets)) :=
  let b := appRead a addr 64
  if mailPlaces b = true ∧ lsfStopped a = false then
    if fieldOf b 0 1 = 1 then
      let r := mailRead a (.mailbox tid) (fieldOf b 36 2) (fieldOf b 38 1) (fieldOf b 32 4)
      some (r.1, none, some r.2)
    else if fieldOf b 0 1 = 2 then
      let r := mailWrite a (.mailbox tid) (fieldOf b 36 2) (fieldOf b 38 1) (mailInput a b)
      some (r.1, none, some r.2)
    else none
  else none

theorem execMailboxOdSubmit_runs {s : State} {core addr tid : Nat} {t : Thread} (hr : runsOn s core tid t) :
    execMailboxOdSubmit core addr s = done (mailSubmit s core tid addr 1 (odService tid addr)) := by
  rw [execMailboxOdSubmit, onThread_runs hr]
  congr 2
  funext a
  dsimp only [odService]
  by_cases hg : mailPlaces (appRead a addr 64) = true ∧ lsfStopped a = false
  · rw [if_pos hg, if_neg (by simp [hg])]
    split
    · next h => rw [if_pos h]
    · next h => rw [if_neg (by omega), if_pos h]
    · next h1 h2 => rw [if_neg h1, if_neg h2]
  · have hn : (!mailPlaces (appRead a addr 64) || lsfStopped a) = true := by
      simpa only [Decidable.not_and_iff_not_or_not, Bool.not_eq_true, Bool.not_eq_false, Bool.or_eq_true,
        Bool.not_eq_true'] using hg
    rw [if_neg hg, if_pos hn]

/-- Settles O43: each clause is one branch of its row for the thread that runs. -/
theorem queuesAndMailboxesServeThreads : Obligations.QueuesAndMailboxesServeThreads := by
  refine ⟨?_, ?_, ?_, ?_, ?_, ?_, ?_, ?_, ?_, ?_, ?_, ?_⟩
  · -- APQ_TAKE of another's queue or outside the window
    intro s core q addr tid t hr hq h
    exact execApqTake_refused hr hq h
  · -- APQ_TAKE of an empty queue
    intro s core q addr tid t hr hq hb hw hl
    exact execApqTake_empty hr hq hb hw hl
  · -- APQ_TAKE of a frame
    intro s core q addr tid k l t p hr hq hb hw hl hp
    exact execApqTake_head hr hq hb hw hl hp
  · -- ENQ_SUBMIT out of range
    intro s core addr tid t hr h
    exact execEnqSubmit_range hr ((not_submissible_iff s addr).mpr (h.imp_right fun h => h.imp_right .inl))
  · -- ENQ_SUBMIT on a follower
    intro s core addr tid t hr h2 h7 hlen hw hd
    exact execEnqSubmit_follower hr ⟨h2, h7, hlen, hw⟩ hd
  · -- ENQ_SUBMIT taken
    intro s a core addr tid t hr h2 h7 hlen hw hd cls data hp
    exact execEnqSubmit_taken hr ⟨h2, h7, hlen, hw⟩ hd hp
  · -- ENQ_SUBMIT refused
    intro s a core addr tid t hr h2 h7 hlen hw hd hp
    exact execEnqSubmit_refused hr ⟨h2, h7, hlen, hw⟩ hd hp
  · -- the SEC engine
    intro s core addr tid t hr
    exact onThread_runs hr _
  · -- the OD engine
    intro s core addr tid t hr
    exact execMailboxOdSubmit_runs hr
  · -- the EVT engine
    intro s core addr tid t hr
    exact onThread_runs hr _
  · -- MAILBOX_COMPLETE (R363)
    intro s n st v m hm hres
    simp [exec, execMailboxComplete, done, hm, hres]
  · -- WAKE_SOURCE_RAISE of source 1 (R360)
    intro s tid t ht hl hw
    have hn : t.enqWait ≠ none := Option.isSome_iff_ne_none.mp hw
    simp [exec, execWakeSourceRaise, done, ht, hl, hn]

end Sys2Proof.Proofs

/-! PROOFS. Where a lookup of the host table finds a key (R213, R214, R230). -/

namespace Sys2Proof.Proofs

open Sys2Proof Sys2Proof.Machine Sys2Proof.Laws

/-- The location holds the key (R214). -/
def HoldsKey (s : State) (key : Octets) (l : Nat) : Prop := ∃ e, entryAt s l = some e ∧ e.key = key

theorem holdsKey_iff_any (s : State) (key : Octets) (l : Nat) :
    (entryAt s l).any (fun e => e.key = key) = true ↔ HoldsKey s key l := by
  simp [HoldsKey, Option.any_eq_true]

theorem findKey_eq_find (s : State) (key : Octets) :
    findKey s key = (lookupOrder key).find? (fun l => (entryAt s l).any (fun e => e.key = key)) := by
  unfold findKey
  congr 1
  funext l
  cases entryAt s l <;> rfl

/-- The location found is the first in the order of R214 that holds the key. -/
theorem findKey_eq_some_iff (s : State) (key : Octets) (l : Nat) :
    findKey s key = some l ↔ ∃ before after, lookupOrder key = before ++ l :: after ∧ HoldsKey s key l ∧
      ∀ x ∈ before, ¬ HoldsKey s key x := by
  rw [findKey_eq_find, List.find?_eq_some_iff_append]
  simp only [Bool.not_eq_true', ← Bool.not_eq_true, holdsKey_iff_any]
  constructor
  · rintro ⟨hl, before, after, ho, hb⟩
    exact ⟨before, after, ho, hl, hb⟩
  · rintro ⟨before, after, ho, hl, hb⟩
    exact ⟨hl, before, after, ho, hb⟩

theorem findKey_isSome_iff (s : State) (key : Octets) :
    (findKey s key).isSome = true ↔ ∃ l ∈ lookupOrder key, HoldsKey s key l := by
  simp only [findKey_eq_find, List.find?_isSome, holdsKey_iff_any]

theorem bucket1_lt (key : Octets) : bucket1 key < 65536 := Nat.mod_lt _ (by decide)

theorem bucket2_lt (key : Octets) : bucket2 key < 65536 := by
  have hb : crc32 key % 65536 < 65536 := Nat.mod_lt _ (by decide)
  unfold bucket2
  dsimp only
  split
  · split <;> omega
  · exact hb

/-- A lookup examines slots of the two buckets and entries of the stash alone (R214, R230). -/
theorem lookupOrder_range {key : Octets} {l : Nat} (h : l ∈ lookupOrder key) :
    (l < 4 * 65536 ∧ (l / 4 = bucket1 key ∨ l / 4 = bucket2 key)) ∨ (2 ^ 31 ≤ l ∧ l < 2 ^ 31 + 64) := by
  have h1 := bucket1_lt key
  have h2 := bucket2_lt key
  simp only [lookupOrder, List.mem_append, List.mem_map, List.mem_range] at h
  obtain (⟨i, hi, rfl⟩ | ⟨i, hi, rfl⟩) | ⟨i, hi, rfl⟩ := h
  · omega
  · omega
  · exact .inr ⟨Nat.le_add_right _ _, Nat.add_lt_add_left hi _⟩

/-- Settles O55: a lookup is the first find along the order of R214. -/
theorem lookupTakesTheFirstMatch : Obligations.LookupTakesTheFirstMatch := by
  refine ⟨fun s key l => ?_, fun s key l e hl he hk => (findKey_isSome_iff s key).mpr ⟨l, hl, e, he, hk⟩,
    fun s key l h => ?_⟩
  · have h := findKey_eq_some_iff s key l
    simp only [HoldsKey, not_exists, not_and] at h
    exact h
  · obtain ⟨before, after, ho, -⟩ := (findKey_eq_some_iff s key l).mp h
    exact lookupOrder_range (ho ▸ List.mem_append_right before List.mem_cons_self)

end Sys2Proof.Proofs

/-! PROOFS. What packets, RPL messages, timers, the update port and the shadow check do to the forwarding state
(chapter 8). -/

namespace Sys2Proof.Proofs

open Sys2Proof Sys2Proof.Machine Sys2Proof.Laws

/-- A follower is not a chip that takes packets (R305). -/
theorem takesPackets_follower {s : State} (h : s.power.dev = .follower) : takesPackets s = false := by
  simp [takesPackets, h]

/-- The stage of the trie or the first bucket that event 0x5030 names (R227). -/
def shadowPlace (s : State) (trie : Bool) (key : Octets) : Nat :=
  if trie then ((trieLookup s key).map (fun r => stageOf r.1)).getD 0 else bucket1 key

/-- The chip as a mismatch leaves it: word 11 counted, event 0x5030 recorded, the instant kept (R227). -/
def mismatched (s : State) (trie : Bool) (key : Octets) : State :=
  let t := record (countF s 11) 0x5030 (bitNat trie) (fieldOf key 12 4) (shadowPlace s trie key)
  { t with fwd := { t.fwd with mismatchAt := some s.now, lookups := 0 } }

@[simp] theorem mismatched_power (s : State) (trie : Bool) (key : Octets) :
    (mismatched s trie key).power = s.power := by
  simp [mismatched, countF]

@[simp] theorem mismatched_out (s : State) (trie : Bool) (key : Octets) : (mismatched s trie key).out = s.out := by
  simp [mismatched, countF]

@[simp] theorem mismatched_fwd (s : State) (trie : Bool) (key : Octets) :
    (mismatched s trie key).fwd = { s.fwd with mismatchAt := some s.now, lookups := 0 } := by
  simp [mismatched, countF]

section
variable {s : State} {trie : Bool} {key : Octets} {r : Option Nat} (hs : objN s 0x6050 0 ≠ 0)
  (hr : shadowResult s trie key ≠ r)
include hs hr

/-- A first mismatch is counted and recorded (R227). -/
theorem execShadowCheck_first (hm : s.fwd.mismatchAt = none) :
    execShadowCheck trie key r s = done (mismatched s trie key) := by
  simp [execShadowCheck, hs, hr, hm, mismatched, shadowPlace, countF]

/-- A second mismatch within 60 s is fatal to the role besides (R227). -/
theorem execShadowCheck_second {m : Nat} (hm : s.fwd.mismatchAt = some m) (hn : s.now ≤ m + 60000000000) :
    execShadowCheck trie key r s = done (fatalToRole (mismatched s trie key)) := by
  simp [execShadowCheck, hs, hr, hm, hn, mismatched, shadowPlace, countF]

end

/-- Settles O34: each clause is one branch of its row, and its hypotheses are the conditions on the way to it. -/
theorem forwardingAndTablesAdvance : Obligations.ForwardingAndTablesAdvance := by
  refine ⟨?_, ?_, ?_, ?_, ?_, ?_, ?_, ?_, ?_, ?_, ?_, ?_, ?_, ?_, ?_, ?_, ?_⟩
  · -- FORWARD_PACKET from an Ethernet port (R201)
    intro s p n ht hi
    simp [exec, execForwardPacket, done, ht, hi]
  · -- FORWARD_PACKET from the air (R201)
    intro s p n ht hi
    simp [exec, execForwardPacket, done, ht, hi]
  · -- FORWARD_PACKET of a shadowing follower (R305)
    intro s p n hd hs hi
    simp [exec, execForwardPacket, done, takesPackets_follower hd, hs, hi]
  · -- REASSEMBLY_TIMEOUT (R207)
    intro s source tag size c hc ht
    simp [exec, execReassemblyTimeout, done, hc, ht]
  · -- LEARN_INSERT of a new key (R215)
    intro s r rest hq hk
    have hk' : findKey { s with fwd := { s.fwd with learnQ := rest } } r.key = none := hk
    simp [exec, execLearnInsert, done, hq, hk']
  · -- DAO_RX with a parent (R210)
    intro s target parent sender a b t ha hja hb hjb ht
    simp [exec, execDaoRx, done, ha, hja, hb, hjb, ht]
  · -- DAO_RX without a path (R210)
    intro s target parent sender a t ha hja ht
    simp [exec, execDaoRx, done, ha, hja, ht]
  · -- DIS_RX (R209)
    intro s source h
    simp [exec, execDisRx, done, h]
  · -- DIO_TRICKLE_TIMER after enough consistent DIOs (R209)
    intro s h hd hk hq
    simp [exec, execDioTrickleTimer, done, h, hd, hk, hq]
  · -- SWEEP_VISIT within the pass (R221)
    intro s b hb hlt hr hs
    have hlt' : b < 65536 := by omega
    have hne : b ≠ 65535 := by omega
    simp [exec, execSweepVisit, done, hb, hlt', hne, hr, hs]
  · -- SWEEP_VISIT of the last bucket (R221)
    intro s hb hr hs
    simp [exec, execSweepVisit, done, hb, hr, hs]
  · -- UPDATE_PORT_HIT_CYCLE (R222)
    exact fun s b => rfl
  · -- UPDATE_PORT_STRUCTURAL_CYCLE (R222)
    intro s t rest hp hs
    simp [exec, execUpdatePortStructuralCycle, done, Nat.not_lt.mpr hp, hs]
  · -- SHADOW_CHECK, a first mismatch (R227)
    intro s trie key r hs hr hm
    exact ⟨_, execShadowCheck_first hs hr hm, by simp⟩
  · -- SHADOW_CHECK, a second within 60 s (R227)
    intro s trie key r m hs hr hm hn hd
    have hf := fatalToRole_eq (s := mismatched s trie key) (by simpa using hd) 3 true
    refine ⟨_, (execShadowCheck_second hs hr hm hn).trans (congrArg Host.Outcome.next hf), ?_⟩
    simp [resetIslands_power]
  · -- NEIGHBOR_DISCOVERY_RX of a new neighbour (R217)
    intro s address mac port hp hl hd hk
    simp [exec, execNeighborDiscoveryRx, done, hp, hl, hd, hk]
  · -- NEIGHBOR_DISCOVERY_RX of a known one (R217)
    intro s address mac port hp hl hd hk
    simp [exec, execNeighborDiscoveryRx, done, hp, hl, hd, hk]

end Sys2Proof.Proofs

/-! PROOFS. The cipher engines, the keys and the pair by command, and the jobs and self-tests of the engines (chapters 9
to 11). -/

namespace Sys2Proof.Proofs

open Sys2Proof Sys2Proof.Machine Sys2Proof.Laws

/-- Settles O19: each of the seven is the `command` of its object, rule and effect. -/
theorem keyAndPairCommandsRun : Obligations.KeyAndPairCommandsRun := fun _ _ _ =>
  ⟨runsAs_of_command fun _ => rfl, runsAs_of_command fun _ => rfl, runsAs_of_command fun _ => rfl,
   runsAs_of_command fun _ => rfl, runsAs_of_command fun _ => rfl, runsAs_of_command fun _ => rfl,
   runsAs_of_command fun _ => rfl⟩

/-- A count raises a word of an object and leaves the engines (R254). -/
@[simp] theorem engineOf_countC (s : State) (e word k : Nat) : engineOf (countC s e word) k = engineOf s k := rfl

/-- A job taken uses up the job number that its start leaves as the next (R240). -/
theorem startJob_nextJob (s : State) (e : Nat) (r : CipherRequest) :
    (startJob s e r).cipher.nextJob = (jobStart s e r).1.cipher.nextJob + 1 := by
  simp only [startJob]
  split <;> rfl

/-- An engine under test: its ROM vectors decide first, then its TRNG jobs (R248). -/
theorem execCeSelftestDone_testing {s : State} {e : Nat} (he : e < 2) (hm : (engineOf s e).mode = 1)
    (romPass trngAgree : Bool) (op size : Nat) :
    execCeSelftestDone e romPass trngAgree op size s =
      if !romPass then
        if 1 ≤ (engineOf s e).fails then done (withdrawEngine (countC s e 12) e op size)
        else done (updEngine (countC s e 12) e (fun g => { g with fails := g.fails + 1 }))
      else if !trngAgree then done (crossDisagrees s e op)
      else done (updEngine (countC s e 11) e (fun g => { g with mode := 0, fails := 0 })) :=
  if_pos ⟨he, hm⟩

/-- A withdrawn engine whose retest is due gets its next one an hour on; the third pass in a row restores it (R248). -/
theorem execCeHourlyRetest_due {s : State} {e : Nat} (he : e < 2) (hm : (engineOf s e).mode = 2)
    (ht : (engineOf s e).retestAt ≤ s.now) (pass : Bool) :
    execCeHourlyRetest e pass s =
      let a := updEngine s e (fun g => { g with retestAt := s.now + 3600000000000 })
      if !pass then done (updEngine (countC a e 12) e (fun g => { g with passes := 0 }))
      else if 3 ≤ (engineOf (countC a e 11) e).passes + 1 then
        done (record (engineCause (updEngine (countC a e 11) e (fun g => { g with mode := 0, passes := 0, retestAt := 0 })))
          0x6001 e 0 0)
      else done (updEngine (countC a e 11) e (fun g => { g with passes := g.passes + 1 })) :=
  if_pos ⟨he, hm, ht⟩

/-- Settles O35: each clause is one branch of its row, and its hypotheses are the conditions on the way to it. -/
theorem cipherJobsAndEngineTests : Obligations.CipherJobsAndEngineTests := by
  refine ⟨?_, ?_, ?_, ?_, ?_, ?_, ?_, ?_, ?_, ?_⟩
  · -- CIPHER_JOB_START (R238, R240)
    intro s e job he hm hr
    exact ⟨if_pos ⟨he, hm, hr⟩, startJob_nextJob s e job⟩
  · -- CIPHER_JOB_COMPLETE (R241)
    intro s e n j hj hje
    rw [exec, execCipherJobComplete, hj]
    exact if_pos hje
  · -- CE_SELFTEST_TURN (R248)
    intro s hr ht
    exact if_pos ⟨hr, ht⟩
  · -- CE_SELFTEST_DONE, passed (R248)
    intro s e op size he hm
    exact execCeSelftestDone_testing he hm true true op size
  · -- CE_SELFTEST_DONE, a first failure of the ROM vectors (R248)
    intro s e op size agree he hm hf
    have h1 : ¬ 1 ≤ (engineOf s e).fails := by omega
    exact (execCeSelftestDone_testing he hm false agree op size).trans (if_neg h1)
  · -- CE_SELFTEST_DONE, the second (R248)
    intro s e op size agree he hm hf
    exact (execCeSelftestDone_testing he hm false agree op size).trans (if_pos hf)
  · -- CE_SELFTEST_DONE, the TRNG jobs disagree (R248)
    intro s e op size he hm
    exact execCeSelftestDone_testing he hm true false op size
  · -- CE_HOURLY_RETEST, failed (R248)
    intro s e he hm ht
    exact execCeHourlyRetest_due he hm ht false
  · -- CE_HOURLY_RETEST, passed: fewer than two passes before it, or the third in a row (R248)
    intro s e he hm ht a
    refine (execCeHourlyRetest_due he hm ht true).trans ?_
    by_cases hp : (engineOf a e).passes < 2
    · have h3 : ¬ 3 ≤ (engineOf a e).passes + 1 := by omega
      rw [if_pos hp]
      exact if_neg h3
    · have h3 : 3 ≤ (engineOf a e).passes + 1 := by omega
      rw [if_neg hp]
      exact if_pos h3
  · -- LONE_ENGINE_SLICE (R249)
    intro s e he hm ho
    exact ⟨if_pos ⟨he, hm, ho⟩, if_pos ⟨he, hm, ho⟩⟩

end Sys2Proof.Proofs

/-! PROOFS. Key references, MACsec frames, pending key updates, hedgehog samples and the end of a zeroize (chapters 9 and
10). -/

namespace Sys2Proof.Proofs

open Sys2Proof Sys2Proof.Machine Sys2Proof.Laws

/-- What bars a received frame of an association: a number behind the replay window or past the number space, or a strict
port that it reaches unencrypted (R251). -/
def pnBarred (s : State) (port pn : Nat) (ec : Bool) (a : MacsecSa) : Prop :=
  pn < (pnOf s port 0 a).next ∨ 2 ^ 32 ≤ pn ∨ (!ec && macsecStrict s port) = true

section
variable {s : State} {port : Nat} (hp : port < 2) (hm : macsecOn s port = true) (hr : lsfRuns s.power.dev = true)
  (an pn : Nat) (ec : Bool) (frame : Sealed)
include hp hm hr

/-- Without an association that receives its AN a frame is discarded (R251). -/
theorem execMacsecFrameRx_unknown (ha : rxSa s port an = none) :
    execMacsecFrameRx port an pn ec frame s = done (macsecDiscard s) := by
  rw [execMacsecFrameRx, if_pos ⟨hp, hm, hr⟩, ha]

/-- A frame behind the replay window, past the number space or unencrypted on a strict port is discarded, before any key
is loaded for it (R251). -/
theorem execMacsecFrameRx_barred {a : MacsecSa} (ha : rxSa s port an = some a) (hb : pnBarred s port pn ec a) :
    execMacsecFrameRx port an pn ec frame s = done (macsecDiscard s) := by
  rw [execMacsecFrameRx, if_pos ⟨hp, hm, hr⟩, ha]
  exact if_pos hb

/-- A frame that its number and its encryption do not bar is checked by its ICV once its key is loaded (R251). -/
theorem execMacsecFrameRx_keyed {t : State} {a : MacsecSa} {key : Octets} (ha : rxSa s port an = some a)
    (hb : ¬ pnBarred s port pn ec a) (hk : macsecKey s port a 4 1 = (t, some key)) :
    execMacsecFrameRx port an pn ec frame s =
      if macsecVerifies key (macsecSci t port) pn ec frame then
        done (macsecAccept t port pn a (pnOf s port 0 a) key ec frame)
      else done (macsecFails t port frame) := by
  rw [execMacsecFrameRx, if_pos ⟨hp, hm, hr⟩, ha]
  refine (if_neg hb).trans ?_
  rw [hk]

end

/-- The chip after an overwrite of the secure partition read back as zero, begun at `t` (R276). -/
def overwritten (s : State) (t cause : Nat) : State :=
  let gen := min 32 (s.keys.provGen + 1)
  record { s with keys := { s.keys with partition := [], provGen := gen, zeroizeFlag := false, overwrite := none } }
    0x6301 gen ((s.now - t) / 1000) cause

theorem execZeroizeOverwriteDone_overwrites {s : State} {t cause : Nat} (h : s.keys.overwrite = some (t, cause)) :
    execZeroizeOverwriteDone s = done (overwritten s t cause) := by
  rw [execZeroizeOverwriteDone, h]
  rfl

/-- Settles O36: each clause is one branch of its row, and its hypotheses are the conditions on the way to it. -/
theorem keysMacsecAndTamper : Obligations.KeysMacsecAndTamper := by
  refine ⟨?_, ?_, ?_, ?_, ?_, ?_, ?_, ?_, ?_, ?_⟩
  · -- KEY_RESOLVE of a reference that gets an entry (R263)
    intro s a reference e hr hk
    rw [exec, execKeyResolve, if_pos hr, hk]
    rfl
  · -- KEY_RESOLVE of one that gets none (R263)
    intro s a reference hr hk
    rw [exec, execKeyResolve, if_pos hr, hk]
    rfl
  · -- MACSEC_FRAME_TX (R251, R252)
    intro s port frame hp hm hr
    exact if_pos ⟨hp, hm, hr⟩
  · -- MACSEC_FRAME_RX of an unknown association (R251)
    intro s port an pn ec frame hp hm hr ha
    exact execMacsecFrameRx_unknown hp hm hr an pn ec frame ha
  · -- MACSEC_FRAME_RX behind the window, past the number space or unencrypted (R251)
    intro s port an pn ec frame a hp hm hr ha hbad
    exact execMacsecFrameRx_barred hp hm hr an pn ec frame ha hbad
  · -- MACSEC_FRAME_RX of any other: its ICV decides (R251)
    intro s t port an pn ec frame a key hp hm hr ha hlow hhigh hstrict hk
    have hgood : ¬ pnBarred s port pn ec a := by
      simp only [pnBarred, hstrict, not_or]
      exact ⟨Nat.not_lt.mpr hlow, Nat.not_le.mpr hhigh, Bool.false_ne_true⟩
    rw [exec, execMacsecFrameRx_keyed hp hm hr an pn ec frame ha hgood hk]
    exact (apply_ite Host.Outcome.next _ _ _).symm
  · -- KEY_UPDATE_COMMIT (R267, R270)
    intro s slot p hp hv hw
    rw [exec, execKeyUpdateCommit, hp]
    exact if_pos ⟨hv, hw⟩
  · -- KEY_UPDATE_PARTNER_TIMEOUT (R270)
    intro s slot p hp hw hpa hab ht
    rw [exec, execKeyUpdatePartnerTimeout, hp]
    exact if_pos ⟨hw, hpa, hab, ht⟩
  · -- HEDGEHOG_SAMPLE: the alarm is raised where a source newly comes to it (R275, R278)
    intro s x ha
    rw [exec, execHedgehogSample, if_pos ha]
    simp [done, hedgehogSample]
  · -- ZEROIZE_OVERWRITE_DONE (R276)
    intro s t cause ho
    refine ⟨_, execZeroizeOverwriteDone_overwrites ho, ?_⟩
    simp [overwritten, Memory.read, Memory.blank, FMap.getD, FMap.find]

end Sys2Proof.Proofs

/-! PROOFS. The branches of a start: the first hedgehog sample, the check of the banks and the end of LOAD (chapters 1, 10
and 12). -/

namespace Sys2Proof.Proofs

open Sys2Proof Sys2Proof.Machine Sys2Proof.Laws

/- The first sample (R278). -/

/-- The chip once OWL has sampled, before it acts on what it found (R278, Table 12-1). -/
def bootSampled (s : State) (x : TamperSample) : State :=
  { countSample s x with
    keys := { (countSample s x).keys with atAlarm := alarmMask (countSample s x) }
    image := { (countSample s x).image with sampled := true, recSample := !(countSample s x).power.recRx } }

theorem bootSample_eq (s : State) (x : TamperSample) :
    bootSample s x =
      if alarmMask (countSample s x) ≠ 0 then tamperAlarm (bootSampled s x) (alarmMask (countSample s x))
      else if s.keys.zeroizeFlag ∨ zeroizePending s then zeroizeRows (changeState (bootSampled s x) .zeroized 0x1B) 2
      else if s.power.lifecycle = .retired then changeState (bootSampled s x) .zeroized s.power.startCause
      else kmBootStage (bootSampled s x) := rfl

@[simp] theorem bootSampled_frame (s : State) (x : TamperSample) : frame (bootSampled s x) = frame s := by
  simp [bootSampled]

/-- A tamper alarm in BOOT takes the chip into ZEROIZED (R276). -/
theorem tamperAlarm_frame_boot {s : State} (hd : s.power.dev = .boot) (sources : Nat) :
    frame (tamperAlarm s sources) =
      { frame s with dev := .zeroized, bypassOn := true, claimOut := false, txGate := false } := by
  simp [tamperAlarm, hd]

/-- Apart from the bypass, the claim and the gate, the frame of a chip in ZEROIZED is the one it came with. -/
theorem zeroized_of_frame {s t : State} {b c g : Bool}
    (h : frame t = { frame s with dev := .zeroized, bypassOn := b, claimOut := c, txGate := g }) :
    t.power.dev = .zeroized ∧ t.power.lifecycle = s.power.lifecycle ∧ t.pending = s.pending :=
  ⟨congrArg Frame.dev h, congrArg Frame.lifecycle h, congrArg Frame.pending h⟩

/-- An alarm, a latched flag or ZEROIZE_PENDING, and RETIRED each lead from the first sample into ZEROIZED (R278, R22). -/
theorem bootSample_zeroizes {s : State} {x : TamperSample} (hd : s.power.dev = .boot)
    (h : alarmMask (countSample s x) ≠ 0 ∨ s.keys.zeroizeFlag = true ∨ zeroizePending s = true ∨
      s.power.lifecycle = .retired) :
    (bootSample s x).power.dev = .zeroized ∧ (bootSample s x).power.lifecycle = s.power.lifecycle ∧
      (bootSample s x).pending = s.pending := by
  rw [bootSample_eq]
  split
  · refine zeroized_of_frame (b := true) (c := false) (g := false) ?_
    rw [tamperAlarm_frame_boot (s := bootSampled s x) hd, bootSampled_frame]
  next ha =>
    split
    · refine zeroized_of_frame (b := true) (c := false) (g := false) ?_
      rw [zeroizeRows_frame, changeState_frame, bootSampled_frame]
    next hz =>
      have hl : s.power.lifecycle = .retired := by
        rw [not_or] at hz
        simpa [ha, hz] using h
      rw [if_pos hl]
      refine zeroized_of_frame (b := s.power.bypassOn) (c := s.power.claimOut) (g := s.power.txGate) ?_
      rw [changeState_frame, bootSampled_frame]
      rfl

/-- With nothing found the first sample goes on to KM's ROM stage (R278). -/
theorem bootSample_clear {s : State} {x : TamperSample} (ha : alarmMask (countSample s x) = 0)
    (hz : s.keys.zeroizeFlag = false) (hp : zeroizePending s = false) (hl : s.power.lifecycle ≠ .retired) :
    bootSample s x = kmBootStage (bootSampled s x) := by
  simp [bootSample_eq, ha, hz, hp, hl]

/-- The check of a slot leaves the KEK and what the image verifier holds (R258). -/
theorem checkSlot_keeps_kek_image (s : State) (slot : Nat) :
    (checkSlot s slot).keys.kek = s.keys.kek ∧ (checkSlot s slot).image = s.image := by
  simp only [checkSlot]
  split <;> simp

theorem checkSlots_keep_kek_image (l : List Nat) (s : State) :
    (l.foldl checkSlot s).keys.kek = s.keys.kek ∧ (l.foldl checkSlot s).image = s.image := by
  induction l generalizing s with
  | nil => exact ⟨rfl, rfl⟩
  | cons slot l ih =>
    obtain ⟨hk, hi⟩ := checkSlot_keeps_kek_image s slot
    obtain ⟨hks, his⟩ := ih (checkSlot s slot)
    exact ⟨hks.trans hk, his.trans hi⟩

@[simp] theorem kmBootStage_kek (s : State) :
    (kmBootStage s).keys.kek = some (Config.kekOf Config.deviceKey (seedNow s)) :=
  (checkSlots_keep_kek_image _ _).1

@[simp] theorem kmBootStage_image (s : State) : (kmBootStage s).image = s.image :=
  (checkSlots_keep_kek_image _ _).2

theorem kmBootStage_sameStanding (s : State) (x : TamperSample) : SameStanding s (kmBootStage (bootSampled s x)) :=
  airOnly_sameStanding (AirOnly.of_eq ((kmBootStage_frame _).trans (bootSampled_frame s x)))

theorem execBootHedgehogSample_first {s : State} (hd : s.power.dev = .boot) (hr : s.power.rails = true)
    (hs : s.image.sampled = false) (x : TamperSample) : execBootHedgehogSample x s = done (bootSample s x) := by
  simp [execBootHedgehogSample, hd, hr, hs]

/- The check of the banks (R320, R335). -/

/-- Entering RECOVERY keeps the bypass, and opens a recovery session with its cause (R337). -/
theorem enterRecovery_opens (s : State) (cause : Nat) :
    (enterRecovery s cause).power.dev = .recovery ∧
      (enterRecovery s cause).image.recovery = some { cause := cause, frameAt := s.now } ∧
      (enterRecovery s cause).power.bypassOn = s.power.bypassOn := by
  have hf := enterRecovery_frame s cause
  have hn : (changeState s .recovery s.power.startCause).now = s.now := congrArg Frame.now (changeState_frame _ _ _)
  refine ⟨congrArg Frame.dev hf, ?_, congrArg Frame.bypassOn hf⟩
  simp only [enterRecovery, hn]

section
variable {s : State} (hd : s.power.dev = .boot) (hr : s.power.rails = true) (hs : s.image.sampled = true)
include hd hr hs

theorem execBankVerifyDone_sampled :
    execBankVerifyDone s =
      if s.image.spiRequest then done (enterRecovery s 3)
      else if s.image.recSample ∧ !s.power.recRx then done (enterRecovery s 2)
      else done (bankChecked s) :=
  if_pos ⟨hd, hr, hs⟩

/-- Without a recovery request the bank that was checked decides (R320). -/
theorem execBankVerifyDone_unrequested (hq : s.image.spiRequest = false)
    (hx : s.image.recSample = false ∨ s.power.recRx = true) : execBankVerifyDone s = done (bankChecked s) := by
  have hn : ¬ (s.image.recSample = true ∧ (!s.power.recRx) = true) := by
    rcases hx with h | h <;> simp [h]
  rw [execBankVerifyDone_sampled hd hr hs, hq, if_neg Bool.false_ne_true, if_neg hn]

end

@[simp] theorem bankFails_now (s : State) (k reason : Nat) : (bankFails s k reason).now = s.now :=
  congrArg Frame.now (bankFails_frame s k reason)

/-- RUN_BANK, checked first outside a trial: it is released, or fails with the other bank still to check or failed. -/
theorem bankChecked_runBank {s : State} (ht : s.image.trial = false)
    (hf : s.image.bootFailed.has s.image.runBank = false) :
    bankChecked s =
      if bankResult s s.image.runBank = 0 then releaseCc0 s s.image.runBank
      else
        let u := bankFails s s.image.runBank (bankResult s s.image.runBank)
        if s.image.rolledBack || s.image.bootFailed.has (otherBank s.image.runBank) then enterRecovery u 1 else u := by
  simp [bankChecked, ht, hf]

/- The end of LOAD (R22, R318). -/

/-- LOAD ends in MAINTENANCE where a reason stands, and the claim logic decides otherwise: a chip with a partner contends
where it is, another becomes ACTIVE with its claim and its gate (Tables 1-11 and 1-18). -/
theorem leaveLoad_frame (u : State) :
    frame (leaveLoad u) = { frame u with
      dev := if (maintenanceReason u).isSome then .maintenance else if hasPartner u then u.power.dev else .active
      claimOut := u.power.claimOut || (maintenanceReason u).isNone && !hasPartner u
      txGate := u.power.txGate || (maintenanceReason u).isNone && !hasPartner u } := by
  cases hm : maintenanceReason u with
  | some c =>
    simp only [leaveLoad, hm, changeState_frame]
    simp [frame]
  | none =>
    cases hp : hasPartner u with
    | true =>
      simp only [leaveLoad, hm, runClaim, hp, if_true, startContend_frame]
      simp [frame]
    | false =>
      simp only [leaveLoad, hm, runClaim, hp, Bool.false_eq_true, if_false, becomeActive_frame]
      simp

theorem execLoadEnd_released {s : State} (hd : s.power.dev = .load) (hc : s.twin.claim = .released) (bad : List Nat) :
    execLoadEnd bad s =
      if segmentsLoad s then done (leaveLoad (startEvents (finishLoad (configureLoad s bad)))) else done (fatalToRole s) := by
  cases hg : segmentsLoad s <;> simp [execLoadEnd, hd, hc, hg]

/-- Settles O13: each clause is one branch of its row, and what it leaves of the frame says where the chip then stands. -/
theorem startTakesItsBranch : Obligations.StartTakesItsBranch := by
  refine ⟨?_, ?_, ?_, ?_, ?_, ?_, ?_, ?_⟩
  · -- BOOT_HEDGEHOG_SAMPLE into ZEROIZED (R278, R22)
    intro s x hd hr hs h
    exact ⟨_, execBootHedgehogSample_first hd hr hs x, bootSample_zeroizes hd h⟩
  · -- BOOT_HEDGEHOG_SAMPLE with nothing found (R278)
    intro s x hd hr hs ha hz hp hl
    refine ⟨_, (execBootHedgehogSample_first hd hr hs x).trans (congrArg done (bootSample_clear ha hz hp hl)),
      kmBootStage_sameStanding s x, ?_⟩
    simp [bootSampled, countSample]
  · -- BANK_VERIFY_DONE on the SPI request (R337)
    intro s hd hr hs hq
    exact ⟨_, (execBankVerifyDone_sampled hd hr hs).trans (if_pos hq), enterRecovery_opens s 3⟩
  · -- BANK_VERIFY_DONE with REC_RX low at both samples (R337)
    intro s hd hr hs hq hx hl
    refine ⟨_, (execBankVerifyDone_sampled hd hr hs).trans ?_, enterRecovery_opens s 2⟩
    simp [done, hq, hx, hl]
  · -- BANK_VERIFY_DONE of a RUN_BANK that verifies (R318, R320)
    intro s hd hr hs hq hx ht hf hb
    have hk := (bankChecked_runBank ht hf).trans (if_pos hb)
    have hl := releaseCc0_frame s s.image.runBank
    exact ⟨_, (execBankVerifyDone_unrequested hd hr hs hq hx).trans (congrArg done hk), congrArg Frame.dev hl,
      congrArg Frame.claimOut hl, congrArg Frame.lifecycle hl⟩
  · -- BANK_VERIFY_DONE with neither bank left (R320, R337)
    intro s hd hr hs hq hx ht hf hb ho
    have hk := (bankChecked_runBank ht hf).trans (if_neg hb)
    simp only [ho, Bool.or_true, if_true] at hk
    obtain ⟨hdev, hrec, -⟩ := enterRecovery_opens (bankFails s s.image.runBank (bankResult s s.image.runBank)) 1
    exact ⟨_, (execBankVerifyDone_unrequested hd hr hs hq hx).trans (congrArg done hk), hdev,
      by rw [hrec, bankFails_now]⟩
  · -- LOAD_END where a segment fails its digest (R22, R312)
    intro s bad hd hc hg
    have hf : execLoadEnd bad s = done (resetIslands s 3 true) := by
      rw [execLoadEnd_released hd hc, hg, if_neg Bool.false_ne_true, fatalToRole_eq (by simp [hd, lsfRuns])]
    refine ⟨_, hf, ?_⟩
    simp [resetIslands_power, hd, causeFrom]
  · -- LOAD_END with every segment good (R22, R326)
    intro s bad hd hc hg u
    have hu : frame u = frame s := by simp [u]
    have hdev : u.power.dev = .load := (congrArg Frame.dev hu).trans hd
    have hclaim : u.power.claimOut = s.power.claimOut := congrArg Frame.claimOut hu
    have hgate : u.power.txGate = s.power.txGate := congrArg Frame.txGate hu
    have hl := leaveLoad_frame u
    rw [hdev, hclaim, hgate] at hl
    exact ⟨_, (execLoadEnd_released hd hc bad).trans (if_pos hg), congrArg Frame.dev hl, congrArg Frame.claimOut hl,
      congrArg Frame.txGate hl⟩

end Sys2Proof.Proofs

/-! PROOFS. The claim logic, the role swap and the interlock of a pair (chapter 11). -/

namespace Sys2Proof.Proofs

open Sys2Proof Sys2Proof.Machine Sys2Proof.Laws

/-- A contending chip whose backoff has run follows the claim it sees, and takes the role where it sees none (R302). -/
theorem execClaimBackoffExpire_due {s : State} {t : Nat} (hc : s.twin.claim = .contend)
    (hb : s.twin.backoffDue = some t) (ht : t ≤ s.now) (hr : lsfRuns s.power.dev = true) :
    execClaimBackoffExpire s =
      if s.power.claimIn then done (becomeFollower s)
      else if s.power.dev = .follower then done (takeoverUnready s)
      else done (becomeActive s 0x14) := by
  rw [execClaimBackoffExpire, hb]
  exact if_pos ⟨hc, decide_eq_true ht, hr⟩

/-- The chip once the partner's claim stands at its input (R301). -/
def claimSeen (s : State) : State := { s with power := { s.power with claimIn := true } }

/-- The chip once the partner's claim has gone from its input: its gate follows its own claim (R301). -/
def claimGone (s : State) : State := { s with power := { s.power with claimIn := false, txGate := s.power.claimOut } }

@[simp] theorem claimSeen_frame (s : State) : frame (claimSeen s) = frame s := rfl

section
variable {s : State} (hp : hasPartner s = true)
include hp

/-- A running chip of a pair answers the partner's claim by where its own claim stands (R302). -/
theorem execPartnerClaimSeen_running (hr : lsfRuns s.power.dev = true) :
    execPartnerClaimSeen s =
      match s.twin.claim with
      | .contend => done (becomeFollower (claimSeen s))
      | .claimed => done (startContend (releaseClaim (claimSeen s)))
      | .released => done (updTwin (claimSeen s) (fun t => { t with claimAsn := none })) :=
  if_pos ⟨hp, hr⟩

/-- A chip whose claim is released keeps all but the input and, where it runs, the slot it meant to claim at (R302). -/
theorem execPartnerClaimSeen_released (hc : s.twin.claim = .released) :
    execPartnerClaimSeen s =
      done { claimSeen s with twin := if lsfRuns s.power.dev then { s.twin with claimAsn := none } else s.twin } := by
  cases hr : lsfRuns s.power.dev with
  | true =>
    rw [execPartnerClaimSeen_running hp hr, hc]
    rfl
  | false => exact if_neg fun h => Bool.false_ne_true (hr.symm.trans h.2)

/-- A contending or claimed chip that sees the partner's claim ends without its own; only the contending one changes its
role (R302). -/
theorem execPartnerClaimSeen_withdraws (hr : lsfRuns s.power.dev = true)
    (hc : s.twin.claim = .contend ∨ s.twin.claim = .claimed) :
    ∃ t, execPartnerClaimSeen s = done t ∧ frame t = { frame s with
      dev := if s.twin.claim = .contend then .follower else s.power.dev, claimOut := false, txGate := false } := by
  rw [execPartnerClaimSeen_running hp hr]
  rcases hc with hc | hc <;> rw [hc]
  · exact ⟨_, rfl, by rw [becomeFollower_frame, claimSeen_frame]; rfl⟩
  · exact ⟨_, rfl, by rw [startContend_frame, releaseClaim_frame, claimSeen_frame]; rfl⟩

/-- A follower that loses the partner's claim records its lag, and claims at the next slot or contends (R302). -/
theorem execPartnerClaimWithdrawn_follower (hd : s.power.dev = .follower) (hc : s.twin.claim = .released) :
    execPartnerClaimWithdrawn s =
      let b := record (claimGone s) 0x7001 (lagSlots (claimGone s)) (bitNat (ownReady (claimGone s))) 0
      if ownReady (claimGone s) then done (updTwin b (fun t => { t with claimAsn := some (refAsn b + 1) }))
      else done (startContend b) :=
  if_pos ⟨hp, hd, hc⟩

end

/-- To contend leaves the interlock fault, the supply record, the objects and the log. -/
theorem startContend_keeps (s : State) :
    (startContend s).twin.interlock = s.twin.interlock ∧ (startContend s).power = s.power ∧
      (startContend s).vals = s.vals ∧ (startContend s).out = s.out := by
  rw [startContend]
  split <;> exact ⟨rfl, rfl, rfl, rfl⟩

/-- The interlock fault ends 10 s after the last disagreement, and the chip may contend again (R303). -/
theorem execInterlockFaultClear_agreed {s : State} (hi : s.twin.interlock = true) (hd : s.twin.disagree = 0)
    (ht : s.twin.agreeSince + 10000000000 ≤ s.now) :
    ∃ t, execInterlockFaultClear s = done t ∧ t.twin.interlock = false ∧ t.power = s.power ∧ t.vals = s.vals ∧
      t.out = s.out := by
  rw [execInterlockFaultClear, if_pos ⟨hi, hd, ht⟩]
  dsimp only
  split
  · exact ⟨_, rfl, startContend_keeps _⟩
  · exact ⟨_, rfl, rfl, rfl, rfl, rfl⟩

/-- A swap slot that has come ends the search or the role (R310). -/
theorem execSwapSlotStart_come {s : State} {m : Nat} (hm : s.twin.swapAsn = some m) (hd : s.power.dev = .active)
    (ht : m ≤ refAsn s) :
    execSwapSlotStart s =
      if m = refAsn s ∧ s.twin.swapReady then done (stepDown s) else done (updTwin s (fun t => { t with swapAsn := none })) := by
  rw [execSwapSlotStart, hm]
  exact if_pos ⟨hd, ht⟩

/-- Settles O38: each clause is one branch of its row, and its hypotheses are the conditions on the way to it. -/
theorem claimsDecideTheRoles : Obligations.ClaimsDecideTheRoles := by
  refine ⟨?_, ?_, ?_, ?_, ?_, ?_, ?_, ?_⟩
  · -- CLAIM_BACKOFF_EXPIRE (R302)
    intro s t hc hb ht hr
    rw [exec, execClaimBackoffExpire_due hc hb ht hr, apply_ite Host.Outcome.next, apply_ite Host.Outcome.next]
    rfl
  · -- PARTNER_CLAIM_SEEN of a contending or claimed chip (R302)
    intro s hp hr hc
    obtain ⟨t, ht, hf⟩ := execPartnerClaimSeen_withdraws hp hr hc
    exact ⟨t, ht, congrArg Frame.claimOut hf, congrArg Frame.txGate hf, congrArg Frame.dev hf⟩
  · -- PARTNER_CLAIM_SEEN of a released chip (R302)
    intro s hp hc
    exact execPartnerClaimSeen_released hp hc
  · -- PARTNER_CLAIM_WITHDRAWN (R301, R302)
    intro s hp hd hc
    rw [exec, execPartnerClaimWithdrawn_follower hp hd hc, apply_ite Host.Outcome.next]
    rfl
  · -- INTERLOCK_FAULT_CLEAR (R303)
    intro s hi hd ht
    exact execInterlockFaultClear_agreed hi hd ht
  · -- TWIN_SWAP_PERIOD_EXPIRY (R310)
    intro s hr hp ht
    exact if_pos ⟨hr, hp, ht⟩
  · -- SWAP_SLOT_START (R310)
    intro s m hm hd ht
    rw [exec, execSwapSlotStart_come hm hd ht, apply_ite Host.Outcome.next]
    rfl
  · -- SWAP_SEARCH_TIMEOUT (R310)
    intro s t hs hd hn ht ho
    rw [exec, execSwapSearchTimeout, hs]
    exact if_pos ⟨hd, hn, ht, ho⟩

end Sys2Proof.Proofs

/-! PROOFS. The sett's ports, frames and censuses, and the delays and marks of its links (chapter 11). -/

namespace Sys2Proof.Proofs

open Sys2Proof Sys2Proof.Machine Sys2Proof.Laws

/-- A port that was up goes down with its transit and its waiting request, a count and event 0x7010 (R282). -/
theorem portDown_up {s : State} {p : Nat} (h : (settPort s p).state = .up) :
    portDown s p = record (countS (updPort s p (fun x =>
      { x with state := .down, downs := x.downs + 1, transit := [], request := none })) p 9) 0x7010 p 0 0 :=
  if_pos h

/-- A census goes out where none has, or 10 ms after the last (R289). -/
theorem execCensusTx_due {s : State} (hf : settForwards s = true)
    (ht : ∀ t, s.sett.censusAt = some t → t + 10000000 ≤ s.now) :
    execCensusTx s =
      let a := elect (refreshRing s)
      let b := settOriginate a [1, 2, 4] 2 false 0 0 true 7 0xFFFFFFFF (censusOctets (ownCensus a))
      done { b with sett := { b.sett with censusNo := (b.sett.censusNo + 1) % 2 ^ 32, censusAt := some b.now } } := by
  rw [execCensusTx]
  cases hc : s.sett.censusAt with
  | none => exact if_pos ⟨hf, rfl⟩
  | some t => exact if_pos ⟨hf, decide_eq_true (ht t hc)⟩

/-- A census that arrives from the ring or the spur is the chip's own, a stranger's under its index, or a member's (R290). -/
theorem execCensusRx_forwarding {s : State} {p : Nat} (hf : settForwards s = true) (hp : p = 1 ∨ p = 2 ∨ p = 4)
    (hops : Nat) (c : Census) :
    execCensusRx p hops c s =
      if c.chipIndex = chipIndex s then
        if c.deviceEui = Config.deviceEui then done (censusOwn s p)
        else done (record s 0x7014 c.chipIndex (fieldOf Config.deviceEui 4 4) (fieldOf c.deviceEui 4 4))
      else done (censusOther s p hops c) :=
  if_pos ⟨hf, hp⟩

/-- The own census on a ring port closes the ring (R291). -/
theorem censusOwn_ring {p : Nat} (hp : p = 1 ∨ p = 2) (s : State) :
    censusOwn s p = setRing { s with sett := { s.sett with returnedAt := some s.now } } true :=
  if_pos hp

/-- A census overdue of a member is a miss, and the third loses the member (R290). -/
theorem execCensusMiss_overdue {s : State} {chip : Nat} {m : Member} (hm : FMap.find s.sett.members chip = some m)
    (ht : m.heardAt + 15000000 + 10000000 * m.misses ≤ s.now) :
    execCensusMiss chip s =
      if m.misses + 1 < 3 then done (setMember s { m with misses := m.misses + 1 })
      else done (refreshRing (loseMember s chip m)) := by
  rw [execCensusMiss, hm]
  exact if_pos ht

section
variable {s : State} {p : Nat} (h1 : 1 ≤ p) (h4 : p ≤ 4) (hr : lsfRuns s.power.dev = true) (hc : portCarries s p = true)
include h1 h4 hr hc

/-- What a carrying port does with a frame by its type: types from 7 are counted, those of the ring are taken and passed
on off TWIN (R284, R287). -/
theorem execSettFrameRx_carried (f : SettFrame) :
    execSettFrameRx p f s =
      if 7 ≤ f.typ then done (countS s p 5)
      else if f.typ ≤ 2 ∧ p ≠ 3 then done (settPass (settTake s p f) p f)
      else done s :=
  if_pos ⟨h1, h4, hr, hc⟩

/-- A request goes out stamped where none waits for its response (R293). -/
theorem execLinkDelayRequest_idle (hq : ∀ t, (settPort s p).request = some t → t + 16000000000 ≤ stamp s) :
    execLinkDelayRequest p s =
      done (sendLink (updPort s p (fun x => { x with request := some (stamp s) })) p (.request (stamp s) 0)) := by
  rw [execLinkDelayRequest]
  cases hw : (settPort s p).request with
  | none => exact if_pos ⟨h1, h4, hr, hc, rfl⟩
  | some t =>
    have hn : (!decide (stamp s < t + 16000000000)) = true := by simpa using hq t hw
    exact if_pos ⟨h1, h4, hr, hc, hn⟩

/-- A delay exchange without a declaration: a request is answered, a response gives its delay (R293). -/
theorem execLinkFrameRx_plain (m : LinkMessage) :
    execLinkFrameRx p m none s =
      match m with
      | .request t1 t2 => done (sendLink s p (.response t1 t2 (stamp s) 0))
      | .response t1 t2 t3 t4 => done (noteDelay s p t1 t2 t3 t4) :=
  (if_pos ⟨h1, h4, hr, hc⟩).trans (by cases m <;> rfl)

end

/-- The chip with the mark that arrived on a port noted there (R294). -/
def markNoted (s : State) (p hops master n : Nat) : State :=
  updPort s p (fun x => { x with mark := some (hops, master, n, s.now) })

/-- A mark on TWIN steers a follower of a pair, and is only noted otherwise (R308). -/
theorem execMarkRx_twin {s : State} (hr : lsfRuns s.power.dev = true) (hc : portCarries s 3 = true)
    (hops master n at' : Nat) :
    execMarkRx 3 hops master n at' s =
      done (if s.power.dev = .follower ∧ hasPartner s then
          startSlew (markNoted s 3 hops master n) (markImplied s 3 n at' - domainTime (markNoted s 3 hops master n))
        else markNoted s 3 hops master n) :=
  if_pos ⟨by decide, by decide, hr, hc⟩

/-- A mark off TWIN reaches the time source of type SETT where its sender follows the same master (R294). -/
theorem execMarkRx_source {s : State} {p hops master n i : Nat} (h1 : 1 ≤ p) (h4 : p ≤ 4) (h3 : p ≠ 3)
    (hr : lsfRuns s.power.dev = true) (hc : portCarries s p = true)
    (hi : settEntry (markNoted s p hops master n) = some i) (at' : Nat) :
    execMarkRx p hops master n at' s =
      done (if s.sett.master = some master ∧ hops < 0xFF then
          takeMark (markNoted s p hops master n) i p hops n (markImplied s p n at')
        else markNoted s p hops master n) := by
  refine (if_pos ⟨h1, h4, hr, hc⟩).trans ((if_neg h3).trans ?_)
  rw [markNoted] at hi
  rw [hi]
  rfl

/-- Settles O37: each clause is one branch of its row, and its hypotheses are the conditions on the way to it. -/
theorem settPortsCensusAndMarks : Obligations.SettPortsCensusAndMarks := by
  refine ⟨?_, ?_, ?_, ?_, ?_, ?_, ?_, ?_, ?_, ?_, ?_, ?_, ?_, ?_, ?_, ?_, ?_⟩
  · -- SETT_PORT_UP (R282)
    intro s p h1 h4 hr he hd
    exact if_pos ⟨h1, h4, hr, he, hd⟩
  · -- SETT_PORT_DOWN (R282)
    intro s p h1 h4 hu
    exact (if_pos ⟨h1, h4⟩).trans (congrArg done (portDown_up hu))
  · -- SETT_ABORT_RX (R283)
    intro s p h1 h4 hc
    exact if_pos ⟨h1, h4, hc⟩
  · -- SETT_FRAME_RX of a frame of the ring (R287)
    intro s p f h1 h4 h3 hr hc hf
    have h7 : ¬ 7 ≤ f.typ := by omega
    exact (execSettFrameRx_carried h1 h4 hr hc f).trans ((if_neg h7).trans (if_pos ⟨hf, h3⟩))
  · -- SETT_FRAME_RX of a type that has no use (R284)
    intro s p f h1 h4 hr hc hf
    exact (execSettFrameRx_carried h1 h4 hr hc f).trans (if_pos hf)
  · -- CENSUS_TX (R289)
    intro s hf ht
    exact execCensusTx_due hf ht
  · -- CENSUS_RX of the chip's own (R291)
    intro s p hops c hf hp hi he
    have hp' : p = 1 ∨ p = 2 ∨ p = 4 := hp.imp_right Or.inl
    exact (execCensusRx_forwarding hf hp' hops c).trans
      ((if_pos hi).trans ((if_pos he).trans (congrArg done (censusOwn_ring hp s))))
  · -- CENSUS_RX of a stranger under the chip's index (R290)
    intro s p hops c hf hp hi he
    exact (execCensusRx_forwarding hf hp hops c).trans ((if_pos hi).trans (if_neg he))
  · -- CENSUS_RX of another chip (R290)
    intro s p hops c hf hp hi
    exact (execCensusRx_forwarding hf hp hops c).trans (if_neg hi)
  · -- CENSUS_MISS (R290)
    intro s chip m hm ht
    rw [exec, execCensusMiss_overdue hm ht, apply_ite Host.Outcome.next]
    exact ite_congr (propext Nat.succ_lt_succ_iff) (fun _ => rfl) (fun _ => rfl)
  · -- LINK_DELAY_REQUEST (R293)
    intro s p h1 h4 hr hc hq
    exact execLinkDelayRequest_idle h1 h4 hr hc hq
  · -- LINK_FRAME_RX of a request (R293)
    intro s p t1 t2 h1 h4 hr hc
    exact execLinkFrameRx_plain h1 h4 hr hc (.request t1 t2)
  · -- LINK_FRAME_RX of a response (R293)
    intro s p t1 t2 t3 t4 h1 h4 hr hc
    exact execLinkFrameRx_plain h1 h4 hr hc (.response t1 t2 t3 t4)
  · -- LINK_FRAME_RX of a request with the partner's declaration (R293, R299)
    intro s d t1 t2 hr hc hp
    have hd : (if 3 = 3 ∧ hasPartner s = true then noteDeclaration s d else s) = noteDeclaration s d := if_pos ⟨rfl, hp⟩
    refine (if_pos ⟨by decide, by decide, hr, hc⟩).trans ?_
    dsimp only
    rw [hd]
    rfl
  · -- MARK_TX (R294)
    intro s ht hf hn
    exact if_pos ⟨ht, hf, hn⟩
  · -- MARK_RX on TWIN (R308)
    intro s hops master n at' hr hc hd hp
    exact (execMarkRx_twin hr hc hops master n at').trans (congrArg done (if_pos ⟨hd, hp⟩))
  · -- MARK_RX elsewhere (R294)
    intro s p hops master n at' i h1 h4 h3 hr hc hi hm hh
    exact (execMarkRx_source h1 h4 h3 hr hc hi at').trans (congrArg done (if_pos ⟨hm, hh⟩))

end Sys2Proof.Proofs

/-! PROOFS. The journal, digests and snapshots of a pair, and the restarts, scrubs and loopbacks of its chips (chapter
11). -/

namespace Sys2Proof.Proofs

open Sys2Proof Sys2Proof.Machine Sys2Proof.Laws

/-- The twin's record once the partner is absent (R306). -/
def partnerGone (s : State) : State := updTwin s (fun t => { t with absent := true, misses := 0, ready := false })

section
variable {s : State} (hp : hasPartner s = true)
include hp

/-- A millisecond without the partner is a miss, and the third makes it absent (R306). -/
theorem execPartnerMiss_overdue (ha : s.twin.absent = false) (hd : s.power.dev = .active ∨ s.power.dev = .follower)
    (ht : s.twin.heardAt + 1000000 * (s.twin.misses + 1) ≤ s.now) :
    execPartnerMiss s =
      if s.twin.misses + 1 < 3 then done (updTwin (checkLag s) (fun t => { t with misses := t.misses + 1 }))
      else if s.power.dev = .active then
        done (releaseAnswers (record (setCause (updTwin (partnerGone s) (fun t => { t with
          kept := [], sendFrom := t.nextJseq, lagging := false, fromS0 := false, snapshot := none })) 6 true)
          0x7004 0 0 0) none)
      else done (updTwin (partnerGone s) (fun t => { t with stopped := true })) :=
  if_pos ⟨hp, (Bool.not_eq_true' _).mpr ha, hd, ht⟩

/-- What a chip of a pair sends when its turn comes, by its role (R306). -/
theorem execJournalFrameSend_paired :
    execJournalFrameSend s =
      match s.power.dev with
      | .active => done (if journalDue s then checkLag (sendJournal s) else s)
      | .follower => done (if s.twin.sentAt + 1000000 ≤ s.now then sendJack s else s)
      | _ => done s :=
  (if_pos hp).trans (by cases s.power.dev <;> rfl)

section
variable (hc : portCarries s 3 = true)
include hc

/-- A JOURNAL frame is a sign of the partner; a matched follower applies its records (R303, R306). -/
theorem execJournalFrameRx_carried (hd : s.power.dev = .active ∨ s.power.dev = .follower) (claim : Bool)
    (rs : List JournalRecord) :
    execJournalFrameRx claim rs s =
      let a := checkInterlock (partnerHeard s) claim
      if a.power.dev = .follower ∧ !a.twin.mismatch then done (sendJack (noticeSilence (rs.foldl takeRecord a) rs))
      else done a :=
  if_pos ⟨hp, hc, hd⟩

/-- A JACK is a sign of the partner; a matched ACTIVE chip takes the acknowledgement (R303, R306). -/
theorem execJackRx_carried (hd : s.power.dev = .active ∨ s.power.dev = .follower) (j : Jack) :
    execJackRx j s =
      let a := checkInterlock (partnerHeard s) j.claim
      if a.power.dev = .active ∧ !a.twin.mismatch then done (checkLag (noteJack (resendGap a j) j)) else done a :=
  if_pos ⟨hp, hc, hd⟩

end

end

/-- A follower with a digest to compare goes on where it agrees, and asks for a snapshot where it does not (R308, R311). -/
theorem execDigestPassEnd_follower {s : State} {k : Nat} {agrees : Bool} (hj : journals s = false)
    (hd : s.power.dev = .follower) (hk : s.twin.digestDue = some (k, agrees)) :
    execDigestPassEnd s =
      if agrees then
        done (updTwin s (fun t => { t with digestDue := none, agreed := true, pass := max t.pass (k + 1) }))
      else done (resync (record (updTwin s (fun t => { t with digestDue := none, agreed := false })) 0x7006 k 0 0)) := by
  rw [execDigestPassEnd, if_neg (Bool.eq_false_iff.mp hj), hd, hk]
  cases agrees <;> rfl

section
variable {s : State} {bs : Nat} (hb : allBandSectors.contains bs = true) (hr : lsfRuns s.power.dev = true)
  (hh : debugHalts s bs = false)
include hb hr hh

/-- A watchdog's first expiry in 60 s asks for a restart of its sequencer (R313). -/
theorem execSequencerWatchdogExpiry_first (ht : ∀ t, FMap.find s.twin.watchdogAt bs = some t → t + 60000000000 ≤ s.now) :
    execSequencerWatchdogExpiry bs s =
      done (requestRestart (updTwin s (fun t => { t with watchdogAt := FMap.put t.watchdogAt bs s.now })) bs 2) := by
  rw [execSequencerWatchdogExpiry, if_pos ⟨hb, hr, (Bool.not_eq_true' _).mpr hh⟩]
  cases hw : FMap.find s.twin.watchdogAt bs with
  | none => rfl
  | some t => exact if_neg fun h => Nat.not_lt.mpr (ht t hw) (of_decide_eq_true h)

/-- A second one within 60 s is fatal to the role (R313). -/
theorem execSequencerWatchdogExpiry_second {t : Nat} (hw : FMap.find s.twin.watchdogAt bs = some t)
    (ht : s.now < t + 60000000000) : execSequencerWatchdogExpiry bs s = done (fatalToRole s) := by
  rw [execSequencerWatchdogExpiry, if_pos ⟨hb, hr, (Bool.not_eq_true' _).mpr hh⟩, hw]
  exact if_pos (decide_eq_true ht)

end

/-- A loopback test that is due notes its instant and the sector's result (R312). -/
theorem execRfLoopbackTest_due {s : State} {bs : Nat} (hb : allBandSectors.contains bs = true)
    (hd : s.power.dev = .active ∨ s.power.dev = .follower)
    (ht : ∀ t, FMap.find s.twin.loopAt bs = some t → t + 3600000000000 ≤ s.now) (pass : Bool) :
    execRfLoopbackTest bs pass s =
      let a := updTwin s (fun t => { t with loopAt := FMap.put t.loopAt bs s.now })
      if pass then done (updTwin a (fun t => { t with
        loopFails := FMap.del t.loopFails bs, loopback := BitVec.ofNat 9 (withBit t.loopback.toNat (chainBit bs)) }))
      else done (loopbackFailed a bs) := by
  rw [execRfLoopbackTest]
  cases hl : FMap.find s.twin.loopAt bs with
  | none => exact if_pos ⟨hb, hd, rfl⟩
  | some t => exact if_pos ⟨hb, hd, decide_eq_true (ht t hl)⟩

/-- Settles O39: each clause is one branch of its row, and its hypotheses are the conditions on the way to it. -/
theorem journalDigestsAndRestarts : Obligations.JournalDigestsAndRestarts := by
  refine ⟨?_, ?_, ?_, ?_, ?_, ?_, ?_, ?_, ?_, ?_, ?_, ?_, ?_, ?_, ?_, ?_, ?_, ?_⟩
  · -- PARTNER_MISS, the first and the second (R306)
    intro s hp ha hd ht hm
    exact (execPartnerMiss_overdue hp ha hd ht).trans (if_pos (Nat.succ_lt_succ hm))
  · -- PARTNER_MISS, the third of a follower (R306)
    intro s hp ha hd ht hm
    have h3 : ¬ s.twin.misses + 1 < 3 := by omega
    have hna : s.power.dev ≠ .active := by rw [hd]; decide
    exact (execPartnerMiss_overdue hp ha (.inr hd) ht).trans ((if_neg h3).trans (if_neg hna))
  · -- PARTNER_MISS, the third of an ACTIVE chip (R306)
    intro s hp ha hd ht hm
    have h3 : ¬ s.twin.misses + 1 < 3 := by omega
    exact (execPartnerMiss_overdue hp ha (.inl hd) ht).trans ((if_neg h3).trans (if_pos hd))
  · -- JOURNAL_FRAME_SEND of an ACTIVE chip (R306)
    intro s hp hd hj
    rw [exec, execJournalFrameSend_paired hp, hd]
    exact congrArg done (if_pos hj)
  · -- JOURNAL_FRAME_SEND of a follower (R306)
    intro s hp hd ht
    rw [exec, execJournalFrameSend_paired hp, hd]
    exact congrArg done (if_pos ht)
  · -- JOURNAL_FRAME_RX (R306)
    intro s claim rs hp hc hd a hf hm
    exact (execJournalFrameRx_carried hp hc (.inr hd) claim rs).trans (if_pos ⟨hf, (Bool.not_eq_true' _).mpr hm⟩)
  · -- JACK_RX (R306)
    intro s j hp hc hd a hf hm
    exact (execJackRx_carried hp hc (.inl hd) j).trans (if_pos ⟨hf, (Bool.not_eq_true' _).mpr hm⟩)
  · -- DIGEST_PASS_END of a chip that journals (R308)
    intro s hj
    exact if_pos hj
  · -- DIGEST_PASS_END of a follower that agrees (R308)
    intro s k hj hd hk
    exact execDigestPassEnd_follower hj hd hk
  · -- DIGEST_PASS_END of a follower that does not (R308, R311)
    intro s k hj hd hk
    exact execDigestPassEnd_follower hj hd hk
  · -- SNAPSHOT_REQUEST (R311)
    intro s hp hd hm hc
    exact if_pos ⟨hp, hd, (Bool.not_eq_true' _).mpr hm, hc⟩
  · -- SNAPSHOT_FRAME_RX (R311)
    intro s n region offset data last hp hd hm hw hc
    refine (if_pos ⟨hp, hd, (Bool.not_eq_true' _).mpr hm, hw, hc⟩).trans (congrArg done (ite_congr ?_ (fun _ => rfl) (fun _ => rfl)))
    rw [Bool.and_eq_true, decide_eq_true_iff]
  · -- SEQUENCER_WATCHDOG_EXPIRY, the first in 60 s (R313)
    intro s bs hb hr hh ht
    exact execSequencerWatchdogExpiry_first hb hr hh ht
  · -- SEQUENCER_WATCHDOG_EXPIRY, the second (R313)
    intro s bs t hb hr hh hw ht
    exact execSequencerWatchdogExpiry_second hb hr hh hw ht
  · -- SEQUENCER_RESTART_BOUNDARY (R313)
    intro s bs r hr hh
    rw [exec, execSequencerRestartBoundary, hr]
    exact if_neg (Bool.eq_false_iff.mp hh)
  · -- SEQUENCER_RESUME (R313)
    intro s bs r hr hh ht
    rw [exec, execSequencerResume, hr]
    exact if_pos ⟨hh, ht⟩
  · -- DRAM_SCRUB_PASS (R314)
    intro s n es hr ht
    exact if_pos ⟨hr, ht⟩
  · -- RF_LOOPBACK_TEST (R312)
    intro s bs pass hb hd ht
    exact (execRfLoopbackTest_due hb hd ht pass).trans (apply_ite done _ _ _).symm

end Sys2Proof.Proofs

/-! PROOFS. Updates, banks, configurations, sessions and commits by command, and the events of builds, bank trials, commits
and RECOVERY (chapter 12). -/

namespace Sys2Proof.Proofs

open Sys2Proof Sys2Proof.Machine Sys2Proof.Laws

/-- A COMMIT of status OK begins (R375). -/
theorem commitRequest_ok {s : State} {who : Caller} (h : commitStatus s who = 0) (seq : Nat) :
    commitRequest s who seq = commitApply s who seq := by
  simp only [commitRequest, h]

/-- Any other COMMIT is answered with the status that refuses it (R375). -/
theorem commitRequest_refused {s : State} {who : Caller} (h : commitStatus s who ≠ 0) (seq : Nat) :
    commitRequest s who seq =
      respond (setStatus s who (commitStatus s who)) who 8 seq (commitStatus s who) 0xFF [] := by
  rw [commitRequest]
  split
  · contradiction
  · rfl

/-- Settles O20: nine are the `command` of their object, rule and effect, UPDATE_DATA_WRITE is one whose rule and effect go
by the offset that stands, and COMMIT goes by its status. -/
theorem imageAndConfigCommandsRun : Obligations.ImageAndConfigCommandsRun := by
  intro who v o
  refine ⟨fun s hl hc => ?_, runsAs_of_command fun _ => rfl, runsAs_of_command fun _ => rfl,
    runsAs_of_command fun _ => rfl, runsAs_of_command fun _ => rfl, runsAs_of_command fun _ => rfl,
    runsAs_of_command fun _ => rfl, runsAs_of_command fun _ => rfl, runsAs_of_command fun _ => rfl,
    runsAs_of_command fun _ => rfl, fun s hc => ?_, fun s hc => ?_⟩
  · -- UPDATE_DATA_WRITE (R332)
    exact congrArg Host.Outcome.next (command_runs hl hc)
  · -- COMMIT, accepted (R375)
    exact congrArg Host.Outcome.next (commitRequest_ok hc v)
  · -- COMMIT, refused (R375)
    exact congrArg Host.Outcome.next (commitRequest_refused hc v)

/-- A commit under way on a running chip past LOAD ends (R325). -/
theorem execCommitComplete_running {s : State} {j : CommitJob} (hj : s.image.commit = some j)
    (hr : lsfRuns s.power.dev = true) (hd : s.power.dev ≠ .load) (hl : lsfStopped s = false) :
    execCommitComplete s = done (commitEnds s j) := by
  simp [execCommitComplete, hj, hr, hd, hl]

/-- A row of the recovery download in RECOVERY is a frame taken from the UART (R338). -/
theorem recoveryRow_taken {s : State} (hd : s.power.dev = .recovery) (cmd seq : Nat) (p : Octets) :
    recoveryRow s cmd seq p = done (recoveryTake s false cmd (seq % 256) p) := if_pos hd

/-- Outside RECOVERY such a row changes nothing. -/
theorem recoveryRow_elsewhere {s : State} (hd : s.power.dev ≠ .recovery) (cmd seq : Nat) (p : Octets) :
    recoveryRow s cmd seq p = done s := if_neg hd

/-- The response of a recovery is put out on SPI and is then gone (R337). -/
theorem execSpiRecoveryRead_pending {s : State} {r : Recovery} (hr : s.image.recovery = some r)
    (hd : s.power.dev = .recovery) :
    execSpiRecoveryRead s = done { s with
      image := { s.image with recovery := some { r with response := [] } }
      out := .spi r.response :: s.out } := by
  rw [execSpiRecoveryRead, hr]
  refine (if_pos hd).trans ?_
  rw [updRecovery, hr]
  rfl

/-- Settles O40: each clause is one branch of its row, and its hypotheses are the conditions on the way to it. -/
theorem imagesBanksAndCommits : Obligations.ImagesBanksAndCommits := by
  refine ⟨?_, ?_, ?_, ?_, ?_, ?_, ?_, ?_, ?_, ?_, ?_⟩
  · -- UE0_BLOCK_BUILT (R333)
    intro s j hj hu hs hb
    rw [exec, execUe0BlockBuilt, hj]
    exact if_pos ⟨hu, hs, hb⟩
  · -- UPDATE_FINAL_VERIFY (R333)
    intro s j hj hu hs
    rw [exec, execUpdateFinalVerify, hj]
    exact if_pos ⟨hu, hs⟩
  · -- UPDATE_RESUME (R334)
    intro s j hj hu hs
    rw [exec, execUpdateResume, hj]
    exact if_pos ⟨hu, hs⟩
  · -- BANK_TRIAL_TIME_EXPIRY (R335)
    intro s t ht hb hd hn
    rw [exec, execBankTrialTimeExpiry, ht]
    exact if_pos ⟨hb, hd, hn⟩
  · -- COMMIT_COMPLETE (R325)
    intro s j hj hr hd hl
    exact execCommitComplete_running hj hr hd hl
  · -- the RECOVERY rows in RECOVERY (R338)
    intro s seq rate bank offset data hd
    exact ⟨recoveryRow_taken hd 1 seq [], recoveryRow_taken hd 2 seq _, recoveryRow_taken hd 3 seq _,
      recoveryRow_taken hd 4 seq _, recoveryRow_taken hd 5 seq [], recoveryRow_taken hd 6 seq []⟩
  · -- the RECOVERY rows outside it (R338)
    intro s seq rate bank offset data hd
    exact ⟨recoveryRow_elsewhere hd 1 seq [], recoveryRow_elsewhere hd 2 seq _, recoveryRow_elsewhere hd 3 seq _,
      recoveryRow_elsewhere hd 4 seq _, recoveryRow_elsewhere hd 5 seq [], recoveryRow_elsewhere hd 6 seq []⟩
  · -- RECOVERY_IDLE_TIMEOUT (R337)
    intro s r hr hd hc hb ht
    rw [exec, execRecoveryIdleTimeout, hr]
    exact if_pos ⟨hd, hc, hb, ht⟩
  · -- SPI_RECOVERY_WRITE (R337, R339)
    intro s frame p cmd seq hd hf
    rw [exec, execSpiRecoveryWrite, if_pos hd, hf]
    rfl
  · -- SPI_RECOVERY_READ (R337)
    intro s r hr hd
    exact execSpiRecoveryRead_pending hr hd
  · -- SPI_RECOVERY_REQUEST (R337)
    intro s hd hr
    exact if_pos ⟨hd, hr, rfl⟩

end Sys2Proof.Proofs

/-! PROOFS. Staging slots and campaigns by command, and the events of encoding, Reports and the campaign instants (chapter
12). -/

namespace Sys2Proof.Proofs

open Sys2Proof Sys2Proof.Machine Sys2Proof.Laws

/-- Settles O21: nine are the `command` of their object, rule and effect, and STAGE_DATA_WRITE is one whose rule and effect
go by the offset that stands. -/
theorem campaignCommandsRun : Obligations.CampaignCommandsRun := by
  intro who k o
  refine ⟨fun s hl hc => congrArg Host.Outcome.next (command_runs hl hc), ?_, ?_, ?_, ?_, ?_, ?_, ?_, ?_, ?_⟩ <;>
    exact runsAs_of_command fun _ => rfl

/-- A Report of a joined TARGET node, of five octets, updates the node's bits (R346). -/
theorem execCampaignReportRx_target {s : State} {h k : Nat} {n : Node} {content : Octets} (hn : nodeOf s h = some n)
    (hj : n.state = .joined) (ha : handlesAir s = true) (hl : content.length = 5) (ho : fieldOf content 0 1 = 0x31)
    (hk : campaignById s (fieldOf content 1 1) = some k) (ht : (campaignAt s k).target.contains (localIndex h) = true) :
    execCampaignReportRx h content s = done (takeReport s k (localIndex h) (fieldOf content 2 1)) := by
  rw [execCampaignReportRx, hn, hk]
  exact if_pos ⟨ha, hj, hl, ho, ht⟩

/-- Settles O41: each clause is one branch of its row, and its hypotheses are the conditions on the way to it. -/
theorem campaignsMove : Obligations.CampaignsMove := by
  refine ⟨?_, ?_, ?_, ?_, ?_, ?_, ?_⟩
  · -- STAGE_ENCODE_DONE (R341)
    intro s k hs
    exact if_pos hs
  · -- CAMPAIGN_FRAME_GENERATE (R343)
    intro s bs k ha hr hb hq
    exact if_pos ⟨ha, hr, hb, hq⟩
  · -- CAMPAIGN_REPORT_RX (R346)
    intro s h k n content hn hj ha hl ho hk ht
    exact execCampaignReportRx_target hn hj ha hl ho hk ht
  · -- CAMPAIGN_PASS_END (R348)
    intro s f ha ht
    exact if_pos ⟨ha, ht⟩
  · -- CAMPAIGN_END_ASN_REACHED (R347)
    intro s k hr he ht hn
    exact if_pos ⟨hr, he, ht, hn⟩
  · -- CAMPAIGN_ACTIVATE_ASN_REACHED (R347)
    intro s k hd hp ht hn
    exact if_pos ⟨hd, hp, ht, hn⟩
  · -- CAMPAIGN_ACTIVATING_TIMEOUT (R347)
    intro s k hs ht hn
    exact if_pos ⟨hs, ht, hn⟩

end Sys2Proof.Proofs

/-! PROOFS. One step: the queue of waiting commands and the block's count (00_scope.md, log entries 1 and 2). -/

namespace Sys2Proof.Proofs

/- As in the tests: what stands above is checked before the proofs that follow, which keeps the memory of the compile
small. -/
set_option Elab.async false

open Sys2Proof Sys2Proof.Machine Sys2Proof.Laws

/-- Settles O1: a step looks at the front of the queue alone. -/
theorem stepRunsTheFrontCommand : Obligations.StepRunsTheFrontCommand := by
  intro c rest s hq
  rw [step, hq]

/-- Settles O2: the step of an empty queue. -/
theorem emptyQueueIdles : Obligations.EmptyQueueIdles := by
  intro s hq
  rw [step, hq]

/-- Settles O8: supply commands, the commands of the role list and all others keep the queue and the count of the frame. -/
theorem commandsLeaveQueueAndClock : Obligations.CommandsLeaveQueueAndClock := by
  intro c s t h
  rcases exec_next_cases h with ⟨-, hk⟩ | ⟨-, hk, -⟩ | ⟨ha, -⟩
  · exact ⟨hk.pending, hk.now⟩
  · exact ⟨hk.pending, hk.now⟩
  · exact ⟨(airOnly_sameStanding ha).pending, (airOnly_sameStanding ha).now⟩

end Sys2Proof.Proofs

/-! PROOFS. Threads by command, and what a running thread asks of the scheduler (chapter 13). -/

namespace Sys2Proof.Proofs

open Sys2Proof Sys2Proof.Machine Sys2Proof.Laws

/-- Settles O22: each of the six is the `command` of its object, rule and effect. -/
theorem threadCommandsRun : Obligations.ThreadCommandsRun := by
  intro who tid a v
  refine ⟨?_, ?_, ?_, ?_, ?_, ?_⟩ <;> exact runsAs_of_command fun _ => rfl

section
variable {s : State} {core tid : Nat} {t : Thread} (hr : runsOn s core tid t)
include hr

/-- CREATE by a thread makes one of its own kind from a block inside the window (R354). -/
theorem execThreadCreate_runs {addr : Nat} (hc : core ≠ 0) (hw : inWindow addr 32 = true) :
    execThreadCreate core addr s =
      done (updThread (createThread s t.lsf (appRead s addr 32)).1 tid (fun x =>
        { x with createResult := (createThread s t.lsf (appRead s addr 32)).2.getD 0xFF })) := by
  refine ((if_neg hc).trans (onThread_runs hr _)).trans (congrArg done ?_)
  rw [if_pos hw]

/-- BLOCK returns the pending bits of its mask, and blocks the thread where there are none (R354). -/
theorem execThreadBlock_runs {mask : Nat} (hm : mask < 2 ^ 16) :
    execThreadBlock core mask s =
      done (if t.pending &&& mask = 0
        then yieldCore s core 0 tid (fun a => updThread a tid (fun x => { x with state := .blocked, waitMask := mask }))
        else updThread s tid (fun x =>
          { x with pending := x.pending ^^^ (t.pending &&& mask), result := t.pending &&& mask })) := by
  rw [execThreadBlock, Nat.mod_eq_of_lt hm]
  exact (onThread_runs hr _).trans (congrArg done (ite_not ..))

/-- A write of PRIO within the range of the thread's kind changes its priority (R352, R357). -/
theorem execThreadPrioWrite_runs (prio : Nat) :
    execThreadPrioWrite core prio s =
      done (if (t.lsf = true ∧ prio ≤ 7) ∨ (t.lsf = false ∧ 8 ≤ prio ∧ prio ≤ 31) then setPriority s tid prio
        else s) := by
  refine (onThread_runs hr _).trans (congrArg done ?_)
  simp only [Bool.not_eq_true']

/-- A rival of the thread's own priority rotates it once its slice has run out (R357). -/
theorem execSliceExpire_rotates (h0 : t.slice ≠ 0) (ht : t.runSince + t.slice * 100000 ≤ s.now)
    (hv : (readyList s t.prio).any (eligible s core) = true) :
    execSliceExpire core s = done (yieldCore s core 3 tid (fun a => readyTail a tid)) :=
  (onThread_runs hr _).trans (congrArg done (if_pos ⟨h0, ht, hv⟩))

/-- An application thread's exception takes it off its core, FAULTED (R364). -/
theorem execThreadException_faults (hl : t.lsf = false) (mcause pc : Nat) :
    execThreadException core mcause pc s =
      done (yieldCore (recordFrom (ptraceRec s 1 core tid pc mcause) 0x0050 (Config.eventSeverity 0x0050 % 8) 31 tid
        tid mcause (pc % 2 ^ 32)) core 6 tid (fun a => updThread a tid (fun x => { x with state := .faulted }))) :=
  (onThread_runs hr _).trans (congrArg done (if_neg (Bool.eq_false_iff.mp hl)))

end

/-- A TIMER that is armed and reached is cleared and raises source 3 (R360). -/
theorem execThreadTimerExpiry_reached {s : State} {tid : Nat} {t : Thread} (ht : threadOf s tid = some t)
    (h0 : t.timer ≠ 0) (hn : t.timer ≤ domainTime s) :
    execThreadTimerExpiry tid s = done (raiseSource (updThread s tid (fun x => { x with timer := 0 })) tid 3) := by
  rw [execThreadTimerExpiry, ht]
  exact if_pos ⟨h0, hn⟩

/-- Of the sources below 7 only that of ENQ_SUBMIT asks for more than an application thread (R360). -/
theorem execWakeSourceRaise_raises {s : State} {tid source : Nat} {t : Thread} (ht : threadOf s tid = some t)
    (hl : t.lsf = false) (h7 : source < 7) (h1 : source ≠ 1) :
    execWakeSourceRaise tid source s = done (raiseSource s tid source) := by
  have hn : ¬ (t.lsf = true ∨ 7 ≤ source ∨ (source = 1 ∧ t.enqWait.isNone = true)) := by
    rintro (h | h | ⟨h, -⟩)
    · exact Bool.eq_false_iff.mp hl h
    · exact Nat.not_le.mpr h7 h
    · exact h1 h
  rw [execWakeSourceRaise, ht]
  refine (if_neg hn).trans ?_
  rw [if_neg h1]

/-- Settles O42: each clause is one branch of its row, for the thread that runs or the thread it names. -/
theorem threadsUseTheScheduler : Obligations.ThreadsUseTheScheduler := by
  refine ⟨?_, ?_, ?_, ?_, ?_, ?_, ?_, ?_, ?_, ?_, ?_, ?_, ?_, ?_, ?_, ?_, ?_⟩
  · -- THREAD_CREATE by a thread (R354)
    intro s core addr tid t hc hr hw
    exact execThreadCreate_runs hr hc hw
  · -- THREAD_CREATE by CC0 (R354)
    intro s addr hd
    exact congrArg done (if_pos hd)
  · -- THREAD_EXIT (R354)
    intro s core tid t hr
    exact onThread_runs hr _
  · -- THREAD_YIELD (R357)
    intro s core tid t hr
    exact onThread_runs hr _
  · -- THREAD_BLOCK (R354)
    intro s core mask tid t hr hm
    exact execThreadBlock_runs hr hm
  · -- FLAGS_SET (R360)
    intro s core value tid t hr hv
    exact (onThread_runs hr _).trans (congrArg done (if_pos hv))
  · -- FLAGS_TAKE (R360)
    intro s core tid t hr
    exact onThread_runs hr _
  · -- TIMER_SET (R360)
    intro s core time tid t hr
    exact onThread_runs hr _
  · -- THREAD_TIMER_EXPIRY (R360)
    intro s tid t ht h0 hn
    exact execThreadTimerExpiry_reached ht h0 hn
  · -- THREAD_PRIO_WRITE (R357)
    intro s core prio tid t hr
    exact execThreadPrioWrite_runs hr prio
  · -- DTIME_READ of a chip that does not follow (R359)
    intro s core tid t hr hs
    exact (onThread_runs hr _).trans (congrArg done (if_neg (Bool.eq_false_iff.mp hs)))
  · -- DTIME_READ of a follower (R359)
    intro s core tid t hr hs
    exact (onThread_runs hr _).trans (congrArg done (if_pos hs))
  · -- RANDOM_READ (R359)
    intro s core tid t hr
    exact onThread_runs hr _
  · -- WAKE_SOURCE_RAISE (R360)
    intro s tid source t ht hl h7 h1
    exact execWakeSourceRaise_raises ht hl h7 h1
  · -- SLICE_EXPIRE (R357)
    intro s core tid t hr h0 ht hv
    exact execSliceExpire_rotates hr h0 ht hv
  · -- THREAD_EXCEPTION (R364)
    intro s core mcause pc tid t hr hl
    exact execThreadException_faults hr hl mcause pc
  · -- STAT_WINDOW_END (R369)
    intro s ho ht
    exact if_pos ⟨ho, ht⟩

end Sys2Proof.Proofs

/-! PROOFS. SOP frames and the operations on objects: what the OD service answers to READ, WRITE, EXECUTE, segments and
subscriptions (chapter 14). -/

namespace Sys2Proof.Proofs

open Sys2Proof Sys2Proof.Machine Sys2Proof.Laws

/-- The OD service takes requests only while CC0 runs (R394, Table 15-12). -/
theorem takesSop_running {s : State} (h : takesSop s = true) : lsfStopped s = false := by
  simp only [takesSop, Bool.and_eq_true, Bool.not_eq_true'] at h
  exact h.2

section
variable {s : State} {who : Caller} {op seq : Nat} {f : State → State} (ht : takesSop s = true)
include ht

/-- A chip that serves SOP runs the operation (R394). -/
theorem served_runs (hv : servesSop s = true) : served s who op seq f = f s :=
  (if_pos ht).trans (if_pos hv)

/-- A chip that takes requests without serving them answers STATE (R394). -/
theorem served_refused (hv : servesSop s = false) : served s who op seq f = respond s who op seq stState 0xFF [] :=
  (if_pos ht).trans (if_neg (Bool.eq_false_iff.mp hv))

end

/-- The guard of the vendor range lets every other request through (Table 14-3). -/
theorem vendorGuard_passes {s : State} {who : Caller} {l : List Nat} (h : vendorNamed s who l = false)
    (o : Host.Outcome State Fault Refusal) : (if vendorNamed s who l then .refused .vendorRange else o) = o :=
  if_neg (Bool.eq_false_iff.mp h)

/- SOP_FRAME_CHECK (R380). -/

/-- The state once the oldest frame has been taken from the frames received. -/
def frameTaken (s : State) (rest : List (Endpoint × Octets)) : State := { s with sop := { s.sop with inbox := rest } }

@[simp] theorem takesSop_frameTaken (s : State) (rest : List (Endpoint × Octets)) :
    takesSop (frameTaken s rest) = takesSop s := rfl

section
variable {s : State} {e : Endpoint} {f : Octets} {rest : List (Endpoint × Octets)} (hi : s.sop.inbox = (e, f) :: rest)
  (ht : takesSop s = true)
include hi ht

/-- A frame that a check stops leaves what the check says (R380). -/
theorem execSopFrameCheck_stopped {t : State} (hf : frameStop (frameTaken s rest) e f = some t) :
    execSopFrameCheck s = done t := by
  have hn : ¬ (!takesSop (frameTaken s rest)) = true := by simp [ht]
  rw [execSopFrameCheck, hi]
  refine (if_neg (Bool.eq_false_iff.mp (takesSop_running ht))).trans ((if_neg hn).trans ?_)
  split
  · next h => exact congrArg done (Option.some.inj (h.symm.trans hf))
  · next h => exact absurd (h.symm.trans hf) nofun

/-- A frame that passes every check runs its operation, unless it names the vendor range with the rights to it (R380). -/
theorem execSopFrameCheck_accepted (hf : frameStop (frameTaken s rest) e f = none) :
    execSopFrameCheck s =
      if vendorNamed (frameTaken s rest) (frameCaller e (frSid f)) (namedBy (frOp f) (frBody f)) then .refused .vendorRange
      else done (runOp (acceptFrame (frameTaken s rest) e f) e (frSid f) (frOp f) (frSeq f) (frBody f) (frTail f)) := by
  have hn : ¬ (!takesSop (frameTaken s rest)) = true := by simp [ht]
  rw [execSopFrameCheck, hi]
  refine (if_neg (Bool.eq_false_iff.mp (takesSop_running ht))).trans ((if_neg hn).trans ?_)
  split
  · next h => exact absurd (h.symm.trans hf) nofun
  · rfl

end

/- READ and WRITE (R384). -/

/-- READ answers the first item that fails with its status and position. -/
theorem opRead_refused {s : State} {who : Caller} {items : List (Nat × Nat)} {i st : Nat}
    (h : firstBad (fun (x : Nat × Nat) => readStatus s who x.1 x.2) 0 items = some (i, st)) (seq : Nat) :
    opRead s who seq items = respond (drewFree s) who 1 seq st i [] := by
  rw [opRead, readAnswer, h]

/-- READ answers every value where they fit the frame (log entry 74). -/
theorem opRead_answers {s : State} {who : Caller} {items : List (Nat × Nat)}
    (h : firstBad (fun (x : Nat × Nat) => readStatus s who x.1 x.2) 0 items = none) (seq : Nat) :
    opRead s who seq items =
      if (readItems s who items).length + 2 ≤ bodyRoom s who then respond (drewFree s) who 1 seq 0 0xFF (readItems s who items)
      else respond (drewFree s) who 1 seq stResource 0xFF [] := by
  rw [opRead, readAnswer, h]
  dsimp only
  split <;> rfl

/-- WRITE answers the first item that fails, and leaves what the checks note. -/
theorem opWrite_refused {s : State} {who : Caller} {items : List (Nat × Nat × Octets)} {i st : Nat}
    (h : writeRefused s who items = some (i, st)) (seq : Nat) :
    opWrite s who seq items = respond (setStatus (noteItems s who items) who st) who 2 seq st i [] := by
  rw [opWrite, writeItems, h]

/-- WRITE applies a list in which no item fails, whole. -/
theorem opWrite_applies {s : State} {who : Caller} {items : List (Nat × Nat × Octets)}
    (h : writeRefused s who items = none) (seq : Nat) :
    opWrite s who seq items =
      answerEnded s (setStatus (applyItems (noteItems s who items) who items) who 0) s.twin.nextJseq who 2 seq 0 0xFF [] := by
  rw [opWrite, writeItems, h]

/- Segmented transfers (R386). -/

section
variable {s : State} {who : Caller} {t : Transfer} (ht : (viewsOf s who).transfer = some t)
include ht

/-- SEG_READ answers octets of the value latched, from an offset within it. -/
theorem opSegRead_answers (hw : t.write = false) {offset : Nat} (ho : offset ≤ t.total) (seq most : Nat) :
    opSegRead s who seq offset most =
      respond (setTransfer s who (some { t with segAt := s.now })) who 4 seq 0 0xFF
        (beOctets 4 offset ++ sliceOf t.data offset (min most (bodyRoom s who - 6))) := by
  have hn : ¬ (t.write || decide (t.total < offset)) = true := by simp [hw, ho]
  rw [opSegRead, ht]
  exact if_neg hn

/-- SEG_WRITE of contiguous data within TOTAL is neither another kind's nor out of order. -/
theorem opSegWrite_contiguous (hw : t.write = true) {data : Octets} (hl : t.data.length + data.length ≤ t.total)
    (seq : Nat) :
    opSegWrite s who seq t.data.length data =
      if t.data.length + data.length = t.total then
        let u := writeAt (setTransfer s who none) who t.index t.sub (t.data ++ data) t.operand
        answerEnded s u s.twin.nextJseq who 6 seq (viewsOf u who).status (if (viewsOf u who).status = 0 then 0xFF else 0) []
      else respond (setTransfer s who (some { t with data := t.data ++ data, segAt := s.now })) who 6 seq 0 0xFF [] := by
  have hk : ¬ (!t.write) = true := by simp [hw]
  have hn : ¬ (t.data.length != t.data.length || decide (t.total < t.data.length + data.length)) = true := by simp [hl]
  rw [opSegWrite, ht]
  exact (if_neg hk).trans (if_neg hn)

/-- 30 s without a segment end a transfer (R386). -/
theorem execSegTransferIdleTimeout_idle (hi : t.segAt + 30000000000 ≤ s.now) :
    execSegTransferIdleTimeout who s = done (setTransfer s who none) := by
  rw [execSegTransferIdleTimeout, ht]
  exact if_pos hi

end

/- EXECUTE (R385). -/

/-- An EXECUTE whose last write is a command waits while the command is busy and answers with its reads where it is not. -/
theorem opExecute_runs {s t : State} {who : Caller} {i sub : Nat} {v : Octets} {ws : List (Nat × Nat × Octets)}
    (he : (viewsOf s who).execute = none) (hl : ws.getLast? = some (i, sub, v)) (hc : isCmd i sub = true)
    (hw : writeItems s who ws = (t, none)) (seq : Nat) (reads : List (Nat × Nat)) :
    opExecute s who seq ws reads =
      if commandBusy t i sub = true then setExecute t who (some
        { seq := seq, index := i, sub := sub, reads := reads, base := ws.length, startedAt := s.now })
      else answerEnded s (drewFree t) s.twin.nextJseq who 7 seq (readAnswer t who ws.length reads).1
        (readAnswer t who ws.length reads).2.1 (readAnswer t who ws.length reads).2.2 := by
  have hn : ¬ (viewsOf s who).execute.isSome = true := by simp [he]
  have hk : ¬ (!isCmd i sub) = true := by simp [hc]
  rw [opExecute, if_neg hn, hl]
  dsimp only
  rw [if_neg hk, hw]

section
variable {s : State} {who : Caller} {w : ExecuteWait} (he : (viewsOf s who).execute = some w) (ht : takesSop s = true)
include he ht

/-- A command that has ended answers the EXECUTE that waits for it. -/
theorem execExecuteCompletion_ended (hb : commandBusy s w.index w.sub = false) :
    execExecuteCompletion who s = done (executeEnds s who w) := by
  rw [execExecuteCompletion, he]
  exact if_pos (by simp [ht, hb])

/-- One that is busy after 1 s is answered TIMEOUT. -/
theorem execExecuteTimeout_overdue (hb : commandBusy s w.index w.sub = true) (hn : w.startedAt + 1000000000 ≤ s.now) :
    execExecuteTimeout who s =
      done (respondFrom (setExecute s who none) (receiptStart s) who 7 w.seq stTimeout 0xFF []) := by
  rw [execExecuteTimeout, he]
  exact if_pos (by simp [ht, hb, hn])

end

/- Subscriptions (R387). -/

/-- UNSUBSCRIBE frees the subscription it names, or with 0xFF all. -/
theorem opUnsubscribe_frees {s : State} {who : Caller} {k : Nat} (h : k = 0xFF ∨ (viewsOf s who).subs.has k = true)
    (seq : Nat) :
    opUnsubscribe s who seq k =
      respond (setViews s who { viewsOf s who with
        subs := if k = 0xFF then [] else FMap.del (viewsOf s who).subs k }) who 10 seq 0 0xFF [] := by
  rw [opUnsubscribe]
  by_cases hk : k = 0xFF
  · rw [if_pos hk, if_pos hk]
  · rw [if_neg hk, if_neg hk, if_pos (h.resolve_left hk)]

/-- A subscription whose INTERVAL has ended is sampled. -/
theorem execNotifyInterval_due {s : State} {who : Caller} {k : Nat} {x : Subscription}
    (hx : FMap.find (viewsOf s who).subs k = some x) (ht : takesSop s = true) (hd : x.due ≤ s.now) :
    execNotifyInterval who k s = done (sampleSub s who k x) := by
  rw [execNotifyInterval, hx]
  exact if_pos (by simp [ht, hd])

/-- Settles O44: each clause is one branch of its operation, behind the vendor range and the states of R394. -/
theorem sopOperationsAnswer : Obligations.SopOperationsAnswer := by
  refine ⟨?_, ?_, ?_, ?_, ?_, ?_, ?_, ?_, ?_, ?_, ?_, ?_, ?_, ?_, ?_, ?_⟩
  · -- SOP_FRAME_CHECK (R380)
    intro s e f rest hi ht a
    exact ⟨fun t hf => execSopFrameCheck_stopped hi ht hf,
      fun hf hv => (execSopFrameCheck_accepted hi ht hf).trans (vendorGuard_passes hv _)⟩
  · -- READ (R384)
    intro s who seq items ht hv
    have run : exec (.sopRead who seq items) s = done (opRead s who seq items) :=
      (vendorGuard_passes hv _).trans (if_pos ht)
    exact ⟨fun i st h => run.trans (congrArg done (opRead_refused h seq)),
      fun h => run.trans (congrArg done (opRead_answers h seq))⟩
  · -- WRITE (R384)
    intro s who seq items ht hs hv
    have run : exec (.sopWrite who seq items) s = done (opWrite s who seq items) :=
      (vendorGuard_passes hv _).trans (congrArg done (served_runs ht hs))
    exact ⟨fun i st h => run.trans (congrArg done (opWrite_refused h seq)),
      fun h => run.trans (congrArg done (opWrite_applies h seq))⟩
  · -- SEG_READ_START (R386)
    intro s who seq i sub ht hs hv hr
    exact (vendorGuard_passes hv _).trans (congrArg done ((served_runs ht hs).trans (if_pos hr)))
  · -- SEG_READ (R386)
    intro s who seq offset most t ht hs hx hw ho
    exact congrArg done ((served_runs ht hs).trans (opSegRead_answers hx hw ho seq most))
  · -- SEG_WRITE_START (R386)
    intro s who seq i sub total ht hs hv hw
    exact (vendorGuard_passes hv _).trans (congrArg done ((served_runs ht hs).trans (if_pos hw)))
  · -- SEG_WRITE before the last octet (R386)
    intro s who seq data t ht hs hx hw hl
    exact congrArg done ((served_runs ht hs).trans
      ((opSegWrite_contiguous hx hw (Nat.le_of_lt hl) seq).trans (if_neg (Nat.ne_of_lt hl))))
  · -- SEG_WRITE of the last octet (R386)
    intro s who seq data t ht hs hx hw hl
    exact congrArg done ((served_runs ht hs).trans
      ((opSegWrite_contiguous hx hw (Nat.le_of_eq hl) seq).trans (if_pos hl)))
  · -- SEG_TRANSFER_IDLE_TIMEOUT (R386)
    intro s who t hx hi
    exact execSegTransferIdleTimeout_idle hx hi
  · -- EXECUTE (R385)
    intro s t who seq i sub v ws reads ht hs hv he hl hc hw
    exact (vendorGuard_passes hv _).trans (congrArg done ((served_runs ht hs).trans
      (opExecute_runs he hl hc hw seq reads)))
  · -- EXECUTE_COMPLETION (R385)
    intro s who w he ht hb
    exact execExecuteCompletion_ended he ht hb
  · -- EXECUTE_TIMEOUT (R385)
    intro s who w he ht hb hn
    exact execExecuteTimeout_overdue he ht hb hn
  · -- SUBSCRIBE (R387)
    intro s who seq i sub mode interval ht hs hv hc
    exact (vendorGuard_passes hv _).trans (congrArg done ((served_runs ht hs).trans (if_pos (congrArg Prod.fst hc))))
  · -- UNSUBSCRIBE (R387)
    intro s who seq k ht hs h
    exact congrArg done ((served_runs ht hs).trans (opUnsubscribe_frees h seq))
  · -- NOTIFY_INTERVAL (R387)
    intro s who k x hx ht hd
    exact execNotifyInterval_due hx ht hd
  · -- the states that serve no such operation (R394)
    intro s who seq i k ht hs
    exact ⟨congrArg done (served_refused ht hs), congrArg done (served_refused ht hs), congrArg done (served_refused ht hs)⟩

/- The vendor range (Table 14-3). -/

/-- A Vendor session names the range with the rights to it. -/
theorem vendorTouch_of_role {s : State} {who : Caller} {i : Nat} (hr : callerRole s who = some 3) (hl : 0xF000 ≤ i)
    (hu : i ≤ 0xFFFF) : vendorTouch s who i = true := by
  simp [vendorTouch, hr, hl, hu]

/-- A list of indices with one of the range in it. -/
theorem vendorNamed_of_mem {s : State} {who : Caller} {l : List Nat} {i : Nat} (hr : callerRole s who = some 3) (hm : i ∈ l)
    (hl : 0xF000 ≤ i) (hu : i ≤ 0xFFFF) : vendorNamed s who l = true :=
  List.any_eq_true.mpr ⟨i, hm, vendorTouch_of_role hr hl hu⟩

/-- Settles O47: each of the eight asks first whether a Vendor session names the range. -/
theorem vendorRangeRefuses : Obligations.VendorRangeRefuses := by
  refine ⟨?_, ?_⟩
  · intro s who i sub v hr hl hu
    have one : vendorNamed s who [i] = true := vendorNamed_of_mem hr (List.mem_singleton.mpr rfl) hl hu
    refine ⟨if_pos (vendorTouch_of_role hr hl hu), fun seq total mode interval => ⟨if_pos one, if_pos one, if_pos one⟩,
      fun seq items hm => ?_, fun seq items reads hm => ?_⟩
    · exact if_pos (vendorNamed_of_mem hr (List.mem_map_of_mem hm) hl hu)
    · have named : i ∈ items.map (·.1) := List.mem_map_of_mem hm
      exact ⟨if_pos (vendorNamed_of_mem hr named hl hu),
        if_pos (vendorNamed_of_mem hr (List.mem_append_left _ named) hl hu)⟩
  · intro s e f rest i hi ht hf hr hs hm hl hu
    have role : callerRole (frameTaken s rest) (frameCaller e (frSid f)) = some 3 := by
      rw [frameCaller, if_neg hs]
      exact (callerRole_inbox s rest _).trans hr
    exact (execSopFrameCheck_accepted hi ht hf).trans (if_pos (vendorNamed_of_mem role hm hl hu))

end Sys2Proof.Proofs

/-! PROOFS. Sessions: OPEN and its methods, AUTH, CLOSE and the limits of a session, and the write of a data object
(chapter 14). -/

namespace Sys2Proof.Proofs

open Sys2Proof Sys2Proof.Machine Sys2Proof.Laws

/- What a response to an endpoint leaves. -/

/-- Frames on a CAN bus change nothing but what has left the chip. -/
@[simp] theorem canOut_sop (s : State) (bus host prio : Nat) (f : Octets) : (canOut s bus host prio f).sop = s.sop := by
  rw [canOut]
  split
  · rfl
  · exact List.foldlRecOn _ _ (motive := fun (t : State) => t.sop = s.sop) rfl (fun _ h _ _ => h)

@[simp] theorem msi_sop (s : State) (v : Nat) : (msi s v).sop = s.sop := by
  rw [msi]
  split <;> rfl

@[simp] theorem mbPut_sessions (s : State) (f : Octets) : (mbPut s f).sop.sessions = s.sop.sessions := by
  rw [mbPut]
  split
  · rfl
  · dsimp only
    split
    · rw [msi_sop]
    · rfl

/-- A frame leaves the chip without touching a session (R395 to R399). -/
@[simp] theorem sopOut_sessions (s : State) (e : Endpoint) (f : Octets) : (sopOut s e f).sop.sessions = s.sop.sessions := by
  rw [sopOut]
  dsimp only
  split
  · rw [canOut_sop]
  · split
    · exact mbPut_sessions s f
    · split <;> rfl

@[simp] theorem answerFrame_sessions (s : State) (n : Nat) (e : Endpoint) (f : Octets) :
    (answerFrame s n e f).sop.sessions = s.sop.sessions := by
  rw [answerFrame]
  split
  · rfl
  · exact sopOut_sessions s e f

/-- A response under SID 0 is stored in no session (R381). -/
theorem respond_endpoint_sessions (s : State) (e : Endpoint) (op seq status item : Nat) (rest : Octets) :
    (respond s (.endpoint e) op seq status item rest).sop.sessions = s.sop.sessions := by
  rw [respond, respondFrom, callerEnd]
  dsimp only
  rw [answerFrame_sessions, if_pos rfl]
  split <;> rfl

/- OPEN (R391, R392). -/

/-- An OPEN that passes its checks and finds a SID puts a half-open session there. -/
theorem opOpen_opens {s : State} {e : Endpoint} {role method sid : Nat} (h : openStatus s e.transport role method = 0)
    (hf : FMap.lowestFree s.sop.sessions 1 8 = some sid) (seq : Nat) (nonce : Octets) :
    opOpen s e seq role method nonce =
      let x : Session := { endpoint := e, role := role, method := method, half := true, activeAt := s.now, hostNonce := nonce
                           chipNonce := trngNow s 16, key := [], slot := if method = 0 then roleSlot s role else 0
                           lastSeq := none, response := none, views := {} }
      let a := drewTrng { s with sop := { s.sop with sessions := FMap.put s.sop.sessions sid x } }
      respond a (.endpoint e) 16 seq 0 0xFF
        ([byte sid, byte 0] ++ trngNow s 16 ++ beOctets 2 (min 65535 (objN a 0x1110 0))) := by
  rw [opOpen, h, hf]
  rfl

/-- An OPEN that fails a check is answered with the status of the first that fails. -/
theorem opOpen_refused {s : State} {e : Endpoint} {role method : Nat} (h : openStatus s e.transport role method ≠ 0)
    (seq : Nat) (nonce : Octets) :
    opOpen s e seq role method nonce =
      respond s (.endpoint e) 16 seq (openStatus s e.transport role method) 0xFF [] := by
  rw [opOpen]
  split
  · exact absurd (by assumption) h
  · exact absurd (by assumption) h
  · rfl

/-- METHOD 1 on UDP is OP, before role and nonce count (R392). -/
theorem openStatus_udp (s : State) {t : Nat} (h2 : 2 ≤ t) (h4 : t ≤ 4) (role : Nat) : openStatus s t role 1 = stOp := by
  simp [openStatus, require, firstOf, h2, h4, stOp]

section
variable {e : Endpoint} (h2 : 2 ≤ e.transport) (h4 : e.transport ≤ 4)
include h2 h4

theorem opOpen_udp (s : State) (seq role : Nat) (nonce : Octets) :
    opOpen s e seq role 1 nonce = respond s (.endpoint e) 16 seq stOp 0xFF [] := by
  have hs := openStatus_udp s h2 h4 role
  have hn : openStatus s e.transport role 1 ≠ 0 := by
    rw [hs]
    decide
  rw [opOpen_refused hn, hs]

/-- METHOD 1 on UDP leaves the sessions in every state: it is answered OP, answered STATE, or not taken. -/
theorem execSopOpen_udp_sessions {s t : State} {seq role : Nat} {nonce : Octets}
    (h : execSopOpen e seq role 1 nonce s = .next t) : t.sop.sessions = s.sop.sessions := by
  cases h
  rw [served, opOpen_udp h2 h4]
  split
  · split <;> exact respond_endpoint_sessions ..
  · rfl

end

/-- Settles O46: on UDP `openStatus` answers OP for METHOD 1, and a response under SID 0 leaves the sessions. -/
theorem methodOneStaysOffUdp : Obligations.MethodOneStaysOffUdp := by
  refine ⟨?_, ?_⟩
  · intro s e seq role nonce ht hs h2 h4
    exact ⟨congrArg done ((served_runs ht hs).trans (opOpen_udp h2 h4 s seq role nonce)),
      respond_endpoint_sessions ..⟩
  · intro s t e seq role nonce h6 h hlt
    have off : ¬ (2 ≤ e.transport ∧ e.transport ≤ 4) := fun ⟨h2, h4⟩ =>
      Nat.ne_of_lt hlt (congrArg List.length (execSopOpen_udp_sessions h2 h4 h)).symm
    omega

/- AUTH, CLOSE and the limits of a session (R391, R393). -/

section
variable {s : State} {sid : Nat} {x : Session} (hx : FMap.find s.sop.sessions sid = some x)
include hx

section
variable (hh : x.half = true)
include hh

/-- The proof opens the session under its key (R391). -/
theorem opAuth_proved {seq : Nat} {sig tag k : Octets} (hp : authProof s sid seq x sig tag = some k) :
    opAuth s sid seq sig tag =
      let a := if x.method = 0 then cacheRoom s else s
      let b := { a with sop := { a.sop with failures := FMap.del a.sop.failures x.endpoint.transport } }
      let c := updSession b sid (fun y =>
        { y with half := false, key := k, activeAt := b.now, lastSeq := some seq, response := none })
      respond (record c 0xA000 sid x.role x.endpoint.transport) (.session sid) 17 seq 0 0xFF [] := by
  have hn : ¬ (!x.half) = true := by simp [hh]
  rw [opAuth, hx]
  dsimp only
  rw [if_neg hn, hp]

/-- Without it the failure is counted and the session ends (R393). -/
theorem opAuth_failed {seq : Nat} {sig tag : Octets} (hp : authProof s sid seq x sig tag = none) :
    opAuth s sid seq sig tag =
      endSession (noteFailure (respond s (.session sid) 17 seq stAuth 0xFF []) x.endpoint.transport x.role) 8 sid := by
  have hn : ¬ (!x.half) = true := by simp [hh]
  rw [opAuth, hx]
  dsimp only
  rw [if_neg hn, hp]

/-- A session half-open for 10 s ends (R391). -/
theorem execHalfOpenTimeout_overdue (ht : x.activeAt + 10000000000 ≤ s.now) (hl : lsfStopped s = false) :
    execHalfOpenTimeout sid s = done (endSession s 7 sid) := by
  rw [execHalfOpenTimeout, hx]
  exact if_pos (by simp [hh, ht, hl])

end

section
variable (ho : x.half = false)
include ho

/-- CLOSE answers and ends an open session (R393). -/
theorem opClose_open (seq : Nat) :
    opClose s sid seq = endSession (respond s (.session sid) 18 seq 0 0xFF []) 1 sid := by
  rw [opClose, hx]
  exact if_neg (Bool.eq_false_iff.mp ho)

/-- An open session without a request for SESSION_IDLE ends (R393). -/
theorem execSessionIdleTimeout_overdue (ht : x.activeAt + objN s 0x1110 0 * 1000000000 ≤ s.now)
    (hl : lsfStopped s = false) : execSessionIdleTimeout sid s = done (endSession s 2 sid) := by
  rw [execSessionIdleTimeout, hx]
  exact if_pos (by simp [ho, ht, hl])

end

end

/-- A lockout whose time is over ends (R393). -/
theorem execAuthLockoutExpire_over {s : State} {n t : Nat} (hf : FMap.find s.sop.lockout n = some t) (ht : t ≤ s.now) :
    execAuthLockoutExpire n s = done { s with sop := { s.sop with lockout := FMap.del s.sop.lockout n } } := by
  rw [execAuthLockoutExpire, hf]
  exact if_pos ht

/-- Settles O45: each clause is one branch of its row, and its hypotheses are the conditions on the way to it. -/
theorem sessionsOpenAndEnd : Obligations.SessionsOpenAndEnd := by
  refine ⟨?_, ?_, ?_, ?_, ?_, ?_, ?_, ?_⟩
  · -- OPEN (R391)
    intro s e seq role method sid nonce ht hs ho hf
    exact congrArg done ((served_runs ht hs).trans (opOpen_opens ho hf seq nonce))
  · -- AUTH with the proof (R391)
    intro s sid seq sig tag k x ht hs hx hh hp
    exact congrArg done ((served_runs ht hs).trans (opAuth_proved hx hh hp))
  · -- AUTH without it (R393)
    intro s sid seq sig tag x ht hs hx hh hp
    exact congrArg done ((served_runs ht hs).trans (opAuth_failed hx hh hp))
  · -- CLOSE (R393)
    intro s sid seq x ht hs hx ho
    exact congrArg done ((served_runs ht hs).trans (opClose_open hx ho seq))
  · -- HALF_OPEN_TIMEOUT (R391)
    intro s sid x hx hh ht hl
    exact execHalfOpenTimeout_overdue hx hh ht hl
  · -- SESSION_IDLE_TIMEOUT (R393)
    intro s sid x hx ho ht hl
    exact execSessionIdleTimeout_overdue hx ho ht hl
  · -- AUTH_LOCKOUT_EXPIRE (R393)
    intro s n t hf ht
    exact execAuthLockoutExpire_over hf ht
  · -- OBJECT_WRITE (R373)
    intro s who i sub v hv hl
    exact (if_neg (Bool.eq_false_iff.mp hv)).trans (if_neg (Bool.eq_false_iff.mp hl))

end Sys2Proof.Proofs

/-! PROOFS. The ways in and out of SOP frames: CAN FD, UDP, the mailbox MB0 and SPI (chapters 14 and 16). -/

namespace Sys2Proof.Proofs

open Sys2Proof Sys2Proof.Machine Sys2Proof.Laws

/-- A chip whose transports take SOP frames is not stopped by the test of it. -/
theorem not_sopUp_of {s : State} (h : sopUp s = true) : ¬ (!sopUp s) = true := by
  simp [h]

/- CAN FD (R396, R443). -/

section
variable {s : State} {bus : Nat} (hu : sopUp s = true) (hb : bus ≤ 1) (hh : s.sop.canHeld.contains bus = false)
include hu hb hh

/-- A fragment from a host to this chip counts only against SOP_TRANSPORTS (R396). -/
theorem execCanFrameRx_addressed {id : Nat} {data : Octets} (h25 : bitOf id 25 = false)
    (hn : bitsOf id 24 18 = fieldOf (FMap.getD s.sop.canCfg bus []) 0 1) (h0 : bitsOf id 17 11 ≠ 0) (hd : data ≠ []) :
    execCanFrameRx bus id data s =
      if transportOn s bus = true then done (canTake s bus (bitsOf id 17 11) (bitsOf id 28 26) data)
      else done (discardFrame s bus) := by
  have hg : ¬ (!sopUp s || decide (1 < bus)) = true := by simp [hu, hb]
  have alive : canAlive s bus = s := if_neg (Bool.eq_false_iff.mp hh)
  have ours : ¬ (bitOf id 25 || bitsOf id 24 18 != fieldOf (FMap.getD s.sop.canCfg bus []) 0 1 ||
      decide (bitsOf id 17 11 = 0) || data.isEmpty) = true := by
    simp [h25, hn, h0, hd]
  rw [execCanFrameRx, if_neg hg, alive]
  refine (if_neg ours).trans ?_
  cases transportOn s bus <;> rfl

/-- A transmitter dominant for 4 ms is held off (R443). -/
theorem execCanDominantTimeout_holds :
    execCanDominantTimeout bus s = done { s with sop := { s.sop with canHeld := bus :: s.sop.canHeld } } :=
  if_neg (by simpa [hu, hb] using hh)

end

/-- An assembly without a fragment for 10 ms is discarded (R396). -/
theorem execCanAssemblyTimeout_idle {s : State} {bus host : Nat} {a : CanAssembly}
    (ha : FMap.find s.sop.can (128 * bus + host) = some a) (ht : a.lastAt + 10000000 ≤ s.now) :
    execCanAssemblyTimeout bus host s = done (discardFrame (setAssembly s (128 * bus + host) none) bus) := by
  rw [execCanAssemblyTimeout, ha]
  exact if_pos ht

/-- A datagram to SOP's port and an own address is judged by the rules of UDP_CFG and of size alone (R397). -/
theorem execUdpSopDatagramRx_own {s : State} {dest : Octets} (hu : sopUp s = true)
    (ha : (sopAddresses s).contains dest = true) (ingress port : Nat) (src payload : Octets) (frag : Bool) :
    execUdpSopDatagramRx ingress src port dest (objField s 0x1102 0 0 2) frag payload s =
      let e : Endpoint := { transport := udpTransport ingress, address := src, port := port }
      if udpAllowed s ingress frag payload then
        done (receiveFrame { s with sop := { s.sop with
          udpLocal := (e, dest, objField s 0x1102 0 0 2) :: s.sop.udpLocal.filter (fun p => p.1 ≠ e) } } e payload)
      else done (discardFrame s (udpTransport ingress)) :=
  if_neg (by simpa [hu] using ha)

/-- H2C_LEN of a length the buffer has submits its frame (R398). -/
theorem execMb0H2cLenWrite_submits {s : State} {n : Nat} (hu : sopUp s = true) (h1 : 1 ≤ n) (hn : n ≤ 8192)
    (ht : transportOn s 5 = true) (buf : Octets) :
    execMb0H2cLenWrite n buf s = done (msi (receiveFrame s mb0Endpoint ((padTo n buf).take n)) 2) := by
  have hg : ¬ (!sopUp s || decide (n = 0) || decide (8192 < n)) = true := by
    simp [hu, hn, Nat.ne_of_gt h1]
  have hk : ¬ (!transportOn s 5) = true := by simp [ht]
  exact (if_neg hg).trans (if_neg hk)

/- SPI (R399). -/

section
variable {s : State} (hu : sopUp s = true)
include hu

/-- WRITE_FRAME on an enabled SPI submits a frame, unless the request buffer is full. -/
theorem execSpiWriteFrame_enabled (ht : transportOn s 6 = true) (f : Octets) :
    execSpiWriteFrame f s =
      done (if spiFull s = true then { s with sop := { s.sop with overrun := true } }
        else receiveFrame s spiEndpoint f) := by
  have hk : ¬ (!transportOn s 6) = true := by simp [ht]
  exact (if_neg (not_sopUp_of hu)).trans ((if_neg hk).trans (apply_ite done _ _ _).symm)

theorem execSpiReadFrame_waiting {f : Octets} {rest : List Octets} (ho : s.sop.spiOut = f :: rest) :
    execSpiReadFrame s = done (emit { s with sop := { s.sop with spiOut := rest } } (.spi (beOctets 2 f.length ++ f))) := by
  rw [execSpiReadFrame, if_neg (not_sopUp_of hu), ho]

theorem execSpiReadFrame_empty (ho : s.sop.spiOut = []) : execSpiReadFrame s = done (emit s (.spi (zeros 2))) := by
  rw [execSpiReadFrame, if_neg (not_sopUp_of hu), ho]

end

/-- Settles O48: each clause is one branch of its row, and its hypotheses are the conditions on the way to it. -/
theorem transportsCarryFrames : Obligations.TransportsCarryFrames := by
  refine ⟨?_, ?_, ?_, ?_, ?_, ?_, ?_, ?_, ?_, ?_, ?_, ?_, ?_⟩
  · -- CAN_FRAME_RX on an enabled bus (R396)
    intro s bus id data hu hb hh h25 hn h0 hd ht
    exact (execCanFrameRx_addressed hu hb hh h25 hn h0 hd).trans (if_pos ht)
  · -- CAN_FRAME_RX on a disabled bus (R396)
    intro s bus id data hu hb hh h25 hn h0 hd ht
    exact (execCanFrameRx_addressed hu hb hh h25 hn h0 hd).trans (if_neg (Bool.eq_false_iff.mp ht))
  · -- CAN_ASSEMBLY_TIMEOUT (R396)
    intro s bus host a ha ht
    exact execCanAssemblyTimeout_idle ha ht
  · -- CAN_DOMINANT_TIMEOUT (R443)
    intro s bus hu hb hh
    exact execCanDominantTimeout_holds hu hb hh
  · -- UDP_SOP_DATAGRAM_RX, allowed (R397)
    intro s ingress port src dest payload frag hu ha hk
    exact (execUdpSopDatagramRx_own hu ha ingress port src payload frag).trans (if_pos hk)
  · -- UDP_SOP_DATAGRAM_RX, not allowed (R397)
    intro s ingress port src dest payload frag hu ha hk
    exact (execUdpSopDatagramRx_own hu ha ingress port src payload frag).trans (if_neg (Bool.eq_false_iff.mp hk))
  · -- MB0_H2C_LEN_WRITE (R398)
    intro s n buf hu h1 hn ht
    exact execMb0H2cLenWrite_submits hu h1 hn ht buf
  · -- MB0_C2H_ACK_WRITE (R398)
    intro s
    rfl
  · -- MB0_NTF_TAIL_WRITE (R398)
    intro s tail ht
    exact congrArg done (if_pos ht)
  · -- SPI_WRITE_FRAME (R399)
    intro s f hu ht
    exact execSpiWriteFrame_enabled hu ht f
  · -- SPI_READ_FRAME with a frame waiting (R399)
    intro s f rest hu ho
    exact execSpiReadFrame_waiting hu ho
  · -- SPI_READ_FRAME with none (R399)
    intro s hu ho
    exact execSpiReadFrame_empty hu ho
  · -- SPI_STATUS (R399)
    intro s hu
    exact if_neg (not_sopUp_of hu)

end Sys2Proof.Proofs

/-! PROOFS. The survey, the noise history, ranging, and the samples of supplies, temperatures and analog inputs (chapter
15). -/

namespace Sys2Proof.Proofs

open Sys2Proof Sys2Proof.Machine Sys2Proof.Laws

/- Ranging (R406 to R408). -/

/-- A running exchange reads back as an update leaves it. -/
theorem find_updRange {s : State} {h : Nat} {r : RangeRun} (hr : FMap.find s.measure.ranges h = some r)
    (f : RangeRun → RangeRun) : FMap.find (updRange s h f).measure.ranges h = some (f r) := by
  rw [updRange, FMap.update, hr]
  exact (find_put ..).trans (if_pos rfl)

/-- A ranging cell that is not skipped sends the Poll, and keeps the chip's tones where the cell counts (R406). -/
theorem execRangingCell_polls {s : State} {cell : Nat} {r x : RangeRun} {n : Node}
    (hr : FMap.find s.measure.ranges (cellAt s cell).peer = some r) (hn : nodeOf s (cellAt s cell).peer = some n)
    (hm : mayTransmit s = true) (hi : rangesIn s (cellAt s cell).peer n (cellAt s cell) = true)
    (hs : serviceState s (cellAt s cell).bandSector = 0) (hk : r.cellsPassed < 2 * r.k)
    (hx : FMap.find (sendPoll s cell (cellAt s cell).peer (cellAt s cell) r).measure.ranges (cellAt s cell).peer = some x)
    (tones : List ToneMeasure) :
    execRangingCell (cellAt s cell).bandSector cell false tones s =
      let a := sendPoll s cell (cellAt s cell).peer (cellAt s cell) r
      done (if x.cellsPassed = r.cellsPassed then a else updRange a (cellAt s cell).peer (fun y => { y with
        chipTones := FMap.put y.chipTones r.cellsPassed (tones.map (fun z => (z.freq, z.phase, z.snr))) })) := by
  have hg : ¬ (!mayTransmit s || !rangesIn s (cellAt s cell).peer n (cellAt s cell) ||
      decide ((cellAt s cell).bandSector ≠ (cellAt s cell).bandSector) || false ||
      decide (serviceState s (cellAt s cell).bandSector ≠ 0) || decide (2 * r.k ≤ r.cellsPassed)) = true := by
    simp [hm, hi, hs, hk]
  rw [execRangingCell, hr, hn]
  refine (if_neg hg).trans ?_
  dsimp only
  rw [hx]
  exact (apply_ite done _ _ _).symm

/-- What a Report for a cell leaves of its exchange (R407). -/
def reported (s : State) (content : Octets) (r y : RangeRun) : RangeRun :=
  { y with
    reports := y.reports + 1, chipTones := FMap.del y.chipTones (fieldOf content 2 1)
    tones := if fieldOf content 3 1 = 0 then FMap.put y.tones (fieldOf content 2 1)
        (reportTones (objField s 0xA300 0 2 1) content (FMap.getD r.chipTones (fieldOf content 2 1) []))
      else y.tones }

/-- A Report of a cell of the exchange is combined, and the K-th finishes it (R407, R408). -/
theorem execRangeReportRx_combines {s : State} {h : Nat} {content : Octets} {r : RangeRun}
    (hr : FMap.find s.measure.ranges h = some r) (hl : content.length = 28) (ho : fieldOf content 0 1 = 0x11)
    (hi : fieldOf content 1 1 = r.rangeId) (hc : r.chipTones.has (fieldOf content 2 1) = true) :
    execRangeReportRx h content s =
      done (if r.k ≤ r.reports + 1 then finishRange (updRange s h (reported s content r)) h (reported s content r r)
        else updRange s h (reported s content r)) := by
  have hg : ¬ (content.length ≠ 28 ∨ fieldOf content 0 1 ≠ 0x11 ∨ fieldOf content 1 1 ≠ r.rangeId ∨
      (!r.chipTones.has (fieldOf content 2 1)) = true) := by
    simp [hl, ho, hi, hc]
  rw [execRangeReportRx, hr]
  refine (if_neg hg).trans ?_
  dsimp only
  rw [find_updRange hr]
  rfl

/- Supplies and analog inputs (R411, R412). -/

/-- A supply's excursion is noted, and recorded where it is new. -/
theorem excursion_only (s : State) (i mv : Nat) (out : Bool) :
    ∃ l x, excursion s i mv out = { s with measure := { s.measure with excursion := l }, recorder := x } := by
  unfold excursion
  dsimp only
  split
  · obtain ⟨x, h⟩ := record_only { s with measure := { s.measure with
      excursion := listSet s.measure.excursion i out } } 0x9030 i mv 0
    exact ⟨_, x, h⟩
  · exact ⟨_, s.recorder, rfl⟩

/-- SUPPLY_SAMPLE keeps the five values and touches nothing else but the excursions and their records. -/
theorem execSupplySample_measures {s : State} (hm : measures s = true) (vin vbat vio core power : Nat) :
    ∃ l x, execSupplySample vin vbat vio core power s = done { s with
      measure := { s.measure with
        supply := [vin % 65536, vbat % 65536, vio % 65536, core % 65536, power % 2 ^ 32], excursion := l }
      recorder := x } := by
  rw [execSupplySample, if_pos hm]
  dsimp only
  obtain ⟨l, x, h⟩ := excursion_only { s with measure := { s.measure with
    supply := [vin % 65536, vbat % 65536, vio % 65536, core % 65536, power % 2 ^ 32] } } 0 vin
    (decide (vin < 9000) || decide (16000 < vin))
  rw [h]
  obtain ⟨l', x', h'⟩ := excursion_only { s with
    measure := { s.measure with
      supply := [vin % 65536, vbat % 65536, vio % 65536, core % 65536, power % 2 ^ 32], excursion := l }
    recorder := x } 1 vbat (vbat != 0 && (decide (vbat < 2500) || decide (3600 < vbat)))
  exact ⟨l', x', congrArg done h'⟩

/-- An enabled input is due at its first sample, and then once a period of AIN_RATE has passed (R412). -/
def ainDue (s : State) (ch : Nat) : Bool :=
  match (FMap.getD s.measure.ain (ch + 1) {}).sampledAt with
  | some t => decide (t + 1000000000 / max 1 (ainCfg s ch 1 2) ≤ s.now)
  | none => true

theorem ainDue_of {s : State} {ch : Nat} (h : ∀ t, (FMap.getD s.measure.ain (ch + 1) {}).sampledAt = some t →
    t + 1000000000 / max 1 (ainCfg s ch 1 2) ≤ s.now) : ainDue s ch = true := by
  rw [ainDue]
  split
  · exact decide_eq_true (h _ (by assumption))
  · rfl

/-- Settles O49: each clause is one branch of its row, and its hypotheses are the conditions on the way to it. -/
theorem measurementsAndRanging : Obligations.MeasurementsAndRanging := by
  refine ⟨?_, ?_, ?_, ?_, ?_, ?_, ?_⟩
  · -- SURVEY_PERIOD_END (R403)
    intro s bins hm ht
    exact if_pos ⟨hm, ht⟩
  · -- NF_HISTORY_HOURLY (R404)
    intro s hd hh
    exact if_pos ⟨hd, hh⟩
  · -- RANGING_CELL (R406)
    intro s bs cell tones r x n hr hn hm hi hb hs hk a hx
    subst hb
    exact execRangingCell_polls hr hn hm hi hs hk hx tones
  · -- RANGE_REPORT_RX (R407, R408)
    intro s h content r hr hl ho hi hc
    exact execRangeReportRx_combines hr hl ho hi hc
  · -- SUPPLY_SAMPLE (R411)
    intro s vin vbat vio core power hm
    obtain ⟨l, x, h⟩ := execSupplySample_measures hm vin vbat vio core power
    exact ⟨_, h, otherCommandsKeepTheStanding (.supplySample vin vbat vio core power) s _ h rfl rfl, rfl, rfl, rfl, rfl⟩
  · -- TEMPERATURE_SAMPLE (R411)
    intro s temps hm hl
    exact if_pos ⟨hm, hl⟩
  · -- AIN_SAMPLE (R412)
    intro s ch codes h8 hm hb hl hc hd
    exact if_pos ⟨h8, hm, hb, hl, hc, ainDue_of hd⟩

end Sys2Proof.Proofs

/-! PROOFS. The transactions of the debug transport (chapter 15). -/

namespace Sys2Proof.Proofs

open Sys2Proof Sys2Proof.Machine Sys2Proof.Laws

/- Frames (R422). -/

section
variable {s : State} {f : Nat} (hs : debugServed s = true) (hy : bitsOf f 63 60 = 10)
include hs hy

theorem debugFrame_synced : ¬ (!debugServed s || bitsOf f 63 60 != 10) = true := by
  simp [hs, hy]

/-- A bad CRC is ERROR for every row. -/
theorem transaction_badCrc (hg : frameGood f = false) (mine : Bool) (act : State → State) :
    transaction s f mine act = debugAnswer s 2 0 :=
  (if_neg (debugFrame_synced hs hy)).trans (if_pos (by simp [hg]))

/-- A good frame of the row has the row's effect. -/
theorem transaction_runs (hg : frameGood f = true) {mine : Bool} (hm : mine = true) (act : State → State) :
    transaction s f mine act = act s :=
  (if_neg (debugFrame_synced hs hy)).trans ((if_neg (by simp [hg])).trans (if_pos hm))

end

/- The module selected (R422, R423). -/

section
variable {s : State} (auth : State → State) (dm : Nat → State → State)

theorem onModule_none (h : s.dbg.selected = none) : onModule s auth dm = debugAnswer s 2 0 := by
  rw [onModule, h]

/-- A debug module is LOCKED at level 0. -/
theorem onModule_debug {m : Nat} (h : s.dbg.selected = some m) (hm : m ≠ 15) :
    onModule s auth dm = if debugLevel s = 0 then debugAnswer s 3 0 else dm m s := by
  rw [onModule, h]
  exact if_neg hm

theorem onModule_auth (h : s.dbg.selected = some 15) (hl : s.power.lifecycle ≠ .retired) : onModule s auth dm = auth s := by
  rw [onModule, h]
  exact (if_pos rfl).trans (if_neg hl)

end

/-- A frame reaches a register of the authentication module only where that module is selected. -/
theorem authFrame_eq_false {s : State} {addr f : Nat} (h : s.dbg.selected ≠ some 15 ∨ frameAddr f ≠ addr) :
    authFrame s addr f = false := by
  rw [authFrame, Bool.and_eq_false_iff]
  exact h.imp decide_eq_false decide_eq_false

theorem authFrame_eq_true {s : State} {addr f : Nat} (h : s.dbg.selected = some 15) (ha : frameAddr f = addr) :
    authFrame s addr f = true := by
  rw [authFrame, Bool.and_eq_true]
  exact ⟨decide_eq_true h, decide_eq_true ha⟩

section
variable {s : State} {f : Nat} (hs : debugServed s = true) (hy : bitsOf f 63 60 = 10) (hg : frameGood f = true)
include hs hy hg

/-- A read that is not the draw of a challenge reads the module selected. -/
theorem execDebugRead_runs (ho : frameOp f = 0) (ha : s.dbg.selected ≠ some 15 ∨ frameAddr f ≠ 1) :
    execDebugRead f s = done (onModule s (fun s => authRead s (frameAddr f)) (fun m s => moduleRead s m (frameAddr f))) :=
  congrArg done (transaction_runs hs hy hg (by simp [ho, authFrame_eq_false ha]) _)

/-- A write that is neither the submission nor LOCK writes the module selected. -/
theorem execDebugWrite_runs (ho : frameOp f = 1) (ha : s.dbg.selected ≠ some 15 ∨ frameAddr f ≠ 12)
    (hb : s.dbg.selected ≠ some 15 ∨ frameAddr f ≠ 15) :
    execDebugWrite f s = done (onModule s (fun s => authWrite s (frameAddr f) (frameData f))
      (fun m s => moduleWrite s m (frameAddr f) (frameData f))) :=
  congrArg done (transaction_runs hs hy hg (by simp [ho, authFrame_eq_false ha, authFrame_eq_false hb]) _)

/-- A frame of one of the authentication module's own rows has that row's effect on it (R423, R424). -/
theorem transaction_auth {op addr : Nat} (hsel : s.dbg.selected = some 15) (hl : s.power.lifecycle ≠ .retired)
    (ho : frameOp f = op) (ha : frameAddr f = addr) (auth : State → State) (dm : Nat → State → State) :
    transaction s f (decide (frameOp f = op) && authFrame s addr f) (fun s => onModule s auth dm) = auth s :=
  (transaction_runs hs hy hg (by simp [ho, authFrame_eq_true hsel ha]) _).trans (onModule_auth auth dm hsel hl)

end

/-- The minutes of an unlock run out (R424). -/
theorem execDebugUnlockExpiry_over {s : State} {t : Nat} (he : s.dbg.expires = some t) (ht : t ≤ s.now) :
    execDebugUnlockExpiry s = done (lockDebug s 1) := by
  rw [execDebugUnlockExpiry, he]
  exact if_pos ht

/-- Settles O50: a transaction by its SYNC, CRC and row, then the module selected. -/
theorem debugTransportAnswers : Obligations.DebugTransportAnswers := by
  refine ⟨?_, ?_, ?_, ?_, ?_, ?_⟩
  · -- a bad CRC (R422)
    intro s f hs hy hg
    have bad := fun mine act => congrArg done (transaction_badCrc hs hy hg mine act)
    exact ⟨bad _ _, bad _ _, bad _ _, bad _ _, bad _ _, bad _ _, bad _ _⟩
  · -- DEBUG_SELECT, DEBUG_IDLE, and accesses with no module selected (R422)
    intro s f hs hy hg
    refine ⟨fun ho hm => ?_, fun ho => ?_, fun ho hn => ?_, fun ho hn => ?_⟩
    · exact congrArg done ((transaction_runs hs hy hg (decide_eq_true ho) _).trans (if_pos hm))
    · exact congrArg done (transaction_runs hs hy hg (decide_eq_true ho) _)
    · have ha : s.dbg.selected ≠ some 15 := by simp [hn]
      exact (execDebugRead_runs hs hy hg ho (.inl ha)).trans (congrArg done (onModule_none _ _ hn))
    · have ha : s.dbg.selected ≠ some 15 := by simp [hn]
      exact (execDebugWrite_runs hs hy hg ho (.inl ha) (.inl ha)).trans (congrArg done (onModule_none _ _ hn))
  · -- the debug modules (R423, R425)
    intro s f m hs hy hg hm hsel
    have h15 : m ≠ 15 := by omega
    have ha : s.dbg.selected ≠ some 15 := by simp [hsel, h15]
    exact ⟨fun ho => (execDebugRead_runs hs hy hg ho (.inl ha)).trans (congrArg done (onModule_debug _ _ hsel h15)),
      fun ho => (execDebugWrite_runs hs hy hg ho (.inl ha) (.inl ha)).trans
        (congrArg done (onModule_debug _ _ hsel h15))⟩
  · -- the authentication module (R423, R424)
    intro s f hs hy hg hsel hl
    refine ⟨fun ho ha => ?_, fun ho ha hb => ?_, fun ho ha => ?_, fun ho ha => ?_, fun ho ha => ?_⟩
    · exact (execDebugRead_runs hs hy hg ho (.inr ha)).trans (congrArg done (onModule_auth _ _ hsel hl))
    · exact (execDebugWrite_runs hs hy hg ho (.inr ha) (.inr hb)).trans (congrArg done (onModule_auth _ _ hsel hl))
    · exact congrArg done (transaction_auth hs hy hg hsel hl ho ha _ _)
    · exact congrArg done (transaction_auth hs hy hg hsel hl ho ha _ _)
    · exact congrArg done (transaction_auth hs hy hg hsel hl ho ha _ _)
  · -- DEBUG_TRANSPORT_RESET (R422)
    intro s
    rfl
  · -- DEBUG_UNLOCK_EXPIRY (R424)
    intro s t he ht
    exact execDebugUnlockExpiry_over he ht

end Sys2Proof.Proofs
